-- ==== Sys2Proof/Word.lean ====
section
/-!
DEFINITION. Word.lean: the word types of the KWF-320 (R2, R100, R122) and the plain sparse table the state is built from.
-/

namespace Sys2Proof

/-- One byte of memory. -/
abbrev Byte := BitVec 8

/-- An instruction word or an F32 element. -/
abbrev W32 := BitVec 32

/-- A scalar register (R100). -/
abbrev W64 := BitVec 64

/-- A predicate register: one bit for each of the 128 lanes (R100). -/
abbrev Pred := BitVec 128

/-- A vector register or a row of 512 bytes (R122, R157). Byte `k` is bits `8k+7 .. 8k`. -/
abbrev Vec := BitVec 4096

/-- A sparse table: keys strictly rising; a key that is not listed holds the table's default. -/
abbrev Tab (α : Type) := List (Nat × α)

end Sys2Proof
end

