-- ==== Sys2Proof/Syntax.lean ====
section
/-!
DEFINITION. Syntax.lean: the one type of steps of the KWF-320: the 174 instructions of the opcode maps, NOP,
(R61 to R64), every operand at the width of its field (R55 to R58), and the 74 events of the opcode table,
each with what the world outside the acting unit supplies to it.
-/

namespace Sys2Proof

/-- What returns to a core or an engine that asked for a row or a word (R221, R161): the row and whether it
arrived poisoned. Of a remote atomic, `rel` says which release of this device its value stands for (R219): 0 none, else how many
this device had made to the word up to that one; of an ADMIT the first record's below 2^16, the second's above. -/
structure Reply where
  data     : Vec
  poisoned : Bool
  rel      : Nat := 0
  deriving DecidableEq, Repr, Inhabited

/-- The live operations on one 64-bit word of memory (R232, R231, R202). -/
inductive AtomKind where
  | ld | st | add | min | max | minn | maxn | and | or | xchg | cas | bara
  deriving DecidableEq, Repr, Inhabited

/-- What a remote packet asks of the receiver (R221, R201, R331, R172), or answers it: a status (0, or one of R203), whether the row or
word is poisoned, the row or word, and whether it is a row. -/
inductive PacketKind where
  | loadRow
  | storeRow (data : Vec)
  | storeWord (data : W64)
  | atomic (k : AtomKind) (sc : Bool) (x y : W64)
  | admission (sc : Bool) (va2 : Nat)
  | engineRow (tag : Nat) (data : Vec)
  | engineAdd (k : AtomKind) (x : W64)
  | prefetch
  | answer (status : Nat) (poisoned : Bool) (data : Vec) (row : Bool)
  | resync
  | ended
  deriving DecidableEq, Repr, Inhabited

/-- A remote packet as the receiver meets it (R320): sender device and context, the partner context named, the
sending core and channel of the flow, the routing class (R59 codes), the routing version stamped at injection, the
address and the request; whether it may allocate in the home slice's L2 (R172); the links it has crossed, and of class SPR the
intermediate device it has still to reach (R224, R321). -/
structure Packet where
  dev  : Nat
  ctx  : Nat
  dst  : Nat
  core : Nat
  chan : Nat
  rc   : Nat
  ver  : Nat
  va   : Nat
  kind : PacketKind
  alloc : Bool := false
  links : Nat := 0
  via  : Option Nat := none
  deriving DecidableEq, Repr, Inhabited

/-- A flit of a fabric link (R353). -/
structure Flit where
  seq     : Nat
  ty      : Nat
  ack     : Nat
  nak     : Bool
  payload : Nat
  crc     : Nat
  fec     : Nat
  deriving DecidableEq, Repr, Inhabited

/-- The AtomicOps that BAR2 completes (R338, R341). -/
inductive HostOp where
  | fetchAdd | swap | cas
  deriving DecidableEq, Repr

/-- A map image read from another device (R286): status 0 when the target answered, the header, the entries, and the address of the
first row that arrived poisoned (R161). -/
structure RemoteImage where
  status  : Nat
  header  : BitVec 128
  entries : List (BitVec 128)
  poison  : Option Nat := none
  deriving DecidableEq, Repr

/-- A map entry record of an object file (R94). -/
structure MapRec where
  map    : Nat
  place  : Nat
  entry  : Nat
  access : Nat
  region : Nat
  key    : Nat
  tag    : Nat
  cow    : Bool
  watch  : Bool
  deriving DecidableEq, Repr

/-- A buffer record of an object file (R95). -/
structure BufRec where
  tag       : Nat
  published : Bool
  front     : Nat
  back      : Nat
  size      : Nat
  deriving DecidableEq, Repr

/-- A residency record of an object file (R95). -/
structure ResRec where
  core    : Nat
  fmt     : Nat
  preload : Bool
  pin     : Bool
  k       : Nat
  granules : Nat
  src     : Nat
  handle  : Nat
  deriving DecidableEq, Repr

/-- A safe-point record of an object file (R95, R88): the bundle, the live banks, the live acc row ranges. -/
structure SafePt where
  bundle : Nat
  banks  : Nat
  rows   : List (Nat × Nat)
  deriving DecidableEq, Repr

/-- A linked image as the loader holds it after reading the file (R90 to R97), and the tenant it is loaded for: the index of
its entry word, its words, its regions by index (base and size), and the records of its tables. -/
structure Image where
  tenant   : Nat
  entry    : Nat
  code     : List W32
  stream   : List W32
  regions  : List (Nat × Nat)
  maps     : List MapRec
  data     : List (Nat × List Byte)
  buffers  : List BufRec
  resman   : List ResRec
  safept   : List SafePt
  profile  : List (Nat × Nat)
  deriving DecidableEq, Repr

/-- What bring-up found (R358): the firmware check and the image checked, the memory training and the part that failed it (0 to 7 the HBM4E
stacks, 8 to 23 the LPDDR-6 packages, 24 the CXL port), the lanes of each of the 16 links that did not calibrate, bit 16 the spare; and what
the host has set before link training: the policy registers of the links (R352), and the role of the auxiliary links 14 and 15 (R19): 0
spare, n + 1 bonded to link n. -/
structure BootOutcome where
  firmware : Bool
  memory   : Bool
  lanes    : List Nat := []
  image    : Nat := 0
  part     : Nat := 0
  policy   : List Nat := []
  aux      : List Nat := []
  deriving DecidableEq, Repr

/-- Every instruction and every event of the opcode table, one constructor a row. -/
inductive Instr where
  -- scalar slots (R61, R65)
  | nop  -- R67
  | add (g : BitVec 5) (n : BitVec 1) (d a b : BitVec 6) (w : BitVec 1)  -- R105
  | sub (g : BitVec 5) (n : BitVec 1) (d a b : BitVec 6) (w : BitVec 1)  -- R105
  | and (g : BitVec 5) (n : BitVec 1) (d a b : BitVec 6) (w : BitVec 1)  -- R105
  | or (g : BitVec 5) (n : BitVec 1) (d a b : BitVec 6) (w : BitVec 1)  -- R105
  | xor (g : BitVec 5) (n : BitVec 1) (d a b : BitVec 6) (w : BitVec 1)  -- R105
  | andn (g : BitVec 5) (n : BitVec 1) (d a b : BitVec 6) (w : BitVec 1)  -- R105
  | shl (g : BitVec 5) (n : BitVec 1) (d a b : BitVec 6) (w : BitVec 1)  -- R105
  | shr (g : BitVec 5) (n : BitVec 1) (d a b : BitVec 6) (w : BitVec 1)  -- R105
  | sra (g : BitVec 5) (n : BitVec 1) (d a b : BitVec 6) (w : BitVec 1)  -- R105
  | mul (g : BitVec 5) (n : BitVec 1) (d a b : BitVec 6) (w : BitVec 1)  -- R105
  | mulh (g : BitVec 5) (n : BitVec 1) (d a b : BitVec 6) (w : BitVec 1)  -- R105
  | mulhn (g : BitVec 5) (n : BitVec 1) (d a b : BitVec 6) (w : BitVec 1)  -- R105
  | div (g : BitVec 5) (n : BitVec 1) (d a b : BitVec 6) (w : BitVec 1)  -- R107
  | divn (g : BitVec 5) (n : BitVec 1) (d a b : BitVec 6) (w : BitVec 1)  -- R107
  | rem (g : BitVec 5) (n : BitVec 1) (d a b : BitVec 6) (w : BitVec 1)  -- R107
  | remn (g : BitVec 5) (n : BitVec 1) (d a b : BitVec 6) (w : BitVec 1)  -- R107
  | min (g : BitVec 5) (n : BitVec 1) (d a b : BitVec 6) (w : BitVec 1)  -- R105
  | max (g : BitVec 5) (n : BitVec 1) (d a b : BitVec 6) (w : BitVec 1)  -- R105
  | minn (g : BitVec 5) (n : BitVec 1) (d a b : BitVec 6) (w : BitVec 1)  -- R105
  | maxn (g : BitVec 5) (n : BitVec 1) (d a b : BitVec 6) (w : BitVec 1)  -- R105
  | sel (g : BitVec 5) (n : BitVec 1) (d a b : BitVec 6) (w : BitVec 1)  -- R105
  | clz (g : BitVec 5) (n : BitVec 1) (d a : BitVec 6) (w : BitVec 1)  -- R105
  | popc (g : BitVec 5) (n : BitVec 1) (d a : BitVec 6) (w : BitVec 1)  -- R105
  | bfx (g : BitVec 5) (n : BitVec 1) (d a b : BitVec 6) (w : BitVec 1)  -- R106
  | addi (d a : BitVec 6) (i : BitVec 13)  -- R108
  | andi (d a : BitVec 6) (i : BitVec 13)  -- R108
  | ori (d a : BitVec 6) (i : BitVec 13)  -- R108
  | xori (d a : BitVec 6) (i : BitVec 13)  -- R108
  | shli (d a : BitVec 6) (i : BitVec 13)  -- R108
  | shri (d a : BitVec 6) (i : BitVec 13)  -- R108
  | srai (d a : BitVec 6) (i : BitVec 13)  -- R108
  | muli (d a : BitVec 6) (i : BitVec 13)  -- R108
  | liu (d : BitVec 6) (i : BitVec 19)  -- R109
  | lih (d : BitVec 6) (i : BitVec 19)  -- R109
  | cmpeq (g : BitVec 5) (n : BitVec 1) (p : BitVec 5) (a b : BitVec 6)  -- R110
  | cmpne (g : BitVec 5) (n : BitVec 1) (p : BitVec 5) (a b : BitVec 6)  -- R110
  | cmplt (g : BitVec 5) (n : BitVec 1) (p : BitVec 5) (a b : BitVec 6)  -- R110
  | cmple (g : BitVec 5) (n : BitVec 1) (p : BitVec 5) (a b : BitVec 6)  -- R110
  | cmpltn (g : BitVec 5) (n : BitVec 1) (p : BitVec 5) (a b : BitVec 6)  -- R110
  | cmplen (g : BitVec 5) (n : BitVec 1) (p : BitVec 5) (a b : BitVec 6)  -- R110
  | cmpbit (g : BitVec 5) (n : BitVec 1) (p : BitVec 5) (a b : BitVec 6)  -- R110
  | plog (p x y : BitVec 5) (t : BitVec 4)  -- R112
  | pfrom (g : BitVec 5) (n : BitVec 1) (p : BitVec 5) (a b : BitVec 6)  -- R111
  | pto (g : BitVec 5) (n : BitVec 1) (d a : BitVec 6) (w : BitVec 1)  -- R111
  | br (g : BitVec 5) (n : BitVec 1) (o : BitVec 19)  -- R113
  | call (g : BitVec 5) (n : BitVec 1) (o : BitVec 19)  -- R113
  | jmp (g : BitVec 5) (n : BitVec 1) (a : BitVec 6)  -- R113
  | loop (a : BitVec 6)  -- R116
  | loopi (i : BitVec 19)  -- R116
  | loops (a : BitVec 6) (i : BitVec 13)  -- R116
  | lidx (d : BitVec 6) (i : BitVec 13)  -- R120
  | lbrk (g : BitVec 5) (n : BitVec 1)  -- R119
  | halt  -- R115
  | trap (i : BitVec 19)  -- R155
  | tret (i : BitVec 19)  -- R155
  | krd (d : BitVec 6) (k : BitVec 13)  -- R151
  | kwr (a : BitVec 6) (k : BitVec 13)  -- R151
  | shw (e h : BitVec 2) (f : BitVec 3) (a : BitVec 6)  -- R146
  | shrd (e h : BitVec 2) (f : BitVec 3) (a : BitVec 6)  -- R146
  | exrd (d : BitVec 6) (i : BitVec 13)  -- R150
  | exclr (i : BitVec 13)  -- R150
  | cnrd (d : BitVec 6) (k : BitVec 13)  -- R330
  | cnclr (k : BitVec 13)  -- R330
  | pbeg (i : BitVec 13)  -- R276
  | pbega (i : BitVec 13)  -- R276
  | padv  -- R279
  | pqry (d : BitVec 6)  -- R285
  | pub (a : BitVec 6) (i : BitVec 13)  -- R313
  | pubd (a : BitVec 6)  -- R315
  | pubg (a : BitVec 6)  -- R314
  | waym (a : BitVec 6)  -- R319
  | keyset (a b : BitVec 6)  -- R323
  | keykill (a : BitVec 6)  -- R323
  | mapld (a : BitVec 6) (i : BitVec 13)  -- R286
  | launch (a b : BitVec 6)  -- R248
  | taskw (d a : BitVec 6) (i : BitVec 13)  -- R248
  | grun (d a : BitVec 6) (i : BitVec 13)  -- R257
  | gwait (d a : BitVec 6) (i : BitVec 13)  -- R257
  | patch (a b : BitVec 6)  -- R256
  | mbxw (d a : BitVec 6) (i : BitVec 13)  -- R258
  -- V slot (R62, R66)
  | vadd (g : BitVec 5) (d a b : BitVec 6) (f : BitVec 3)  -- R127
  | vsub (g : BitVec 5) (d a b : BitVec 6) (f : BitVec 3)  -- R127
  | vmul (g : BitVec 5) (d a b : BitVec 6) (f : BitVec 3)  -- R127
  | vfma (g : BitVec 5) (d a b : BitVec 6) (f : BitVec 3)  -- R127
  | vfms (g : BitVec 5) (d a b : BitVec 6) (f : BitVec 3)  -- R127
  | vmin (g : BitVec 5) (d a b : BitVec 6) (f : BitVec 3)  -- R128
  | vmax (g : BitVec 5) (d a b : BitVec 6) (f : BitVec 3)  -- R128
  | vabs (g : BitVec 5) (d a : BitVec 6) (f : BitVec 3)  -- R129
  | vneg (g : BitVec 5) (d a : BitVec 6) (f : BitVec 3)  -- R129
  | vrcp (g : BitVec 5) (d a : BitVec 6) (f : BitVec 3)  -- R131
  | vrsq (g : BitVec 5) (d a : BitVec 6) (f : BitVec 3)  -- R131
  | vexp2 (g : BitVec 5) (d a : BitVec 6) (f : BitVec 3)  -- R131
  | vlog2 (g : BitVec 5) (d a : BitVec 6) (f : BitVec 3)  -- R131
  | vand (g : BitVec 5) (d a b : BitVec 6) (f : BitVec 3)  -- R132
  | vor (g : BitVec 5) (d a b : BitVec 6) (f : BitVec 3)  -- R132
  | vxor (g : BitVec 5) (d a b : BitVec 6) (f : BitVec 3)  -- R132
  | vshl (g : BitVec 5) (d a b : BitVec 6) (f : BitVec 3)  -- R133
  | vshr (g : BitVec 5) (d a b : BitVec 6) (f : BitVec 3)  -- R133
  | vsra (g : BitVec 5) (d a b : BitVec 6) (f : BitVec 3)  -- R133
  | vadds (g : BitVec 5) (d a b : BitVec 6) (f : BitVec 3)  -- R130
  | vsubs (g : BitVec 5) (d a b : BitVec 6) (f : BitVec 3)  -- R130
  | vmov (g : BitVec 5) (d a : BitVec 6) (f : BitVec 3)  -- R132
  | vsel (g : BitVec 5) (d a b : BitVec 6) (f : BitVec 3)  -- R132
  | vperm (g : BitVec 5) (d a b : BitVec 6) (f : BitVec 3)  -- R134
  | vrsum (g : BitVec 5) (d a : BitVec 6) (f : BitVec 3)  -- R136
  | vrmax (g : BitVec 5) (d a : BitVec 6) (f : BitVec 3)  -- R136
  | vrmin (g : BitVec 5) (d a : BitVec 6) (f : BitVec 3)  -- R136
  | vminn (g : BitVec 5) (d a b : BitVec 6) (f : BitVec 3)  -- R128
  | vmaxn (g : BitVec 5) (d a b : BitVec 6) (f : BitVec 3)  -- R128
  | vceq (g p : BitVec 5) (a b : BitVec 6) (f : BitVec 3)  -- R137
  | vcne (g p : BitVec 5) (a b : BitVec 6) (f : BitVec 3)  -- R137
  | vclt (g p : BitVec 5) (a b : BitVec 6) (f : BitVec 3)  -- R137
  | vcle (g p : BitVec 5) (a b : BitVec 6) (f : BitVec 3)  -- R137
  | vcltn (g p : BitVec 5) (a b : BitVec 6) (f : BitVec 3)  -- R137
  | vclen (g p : BitVec 5) (a b : BitVec 6) (f : BitVec 3)  -- R137
  | vcvt (g : BitVec 5) (d a : BitVec 6) (s t : BitVec 3) (r : BitVec 2) (u : BitVec 1)  -- R138
  | vpack (g : BitVec 5) (d a : BitVec 6) (s t : BitVec 3) (r : BitVec 2) (u : BitVec 1)  -- R139
  | vunpkl (g : BitVec 5) (d a : BitVec 6) (s t : BitVec 3) (r : BitVec 2) (u : BitVec 1)  -- R139
  | vunpkh (g : BitVec 5) (d a : BitVec 6) (s t : BitVec 3) (r : BitVec 2) (u : BitVec 1)  -- R139
  | vrotm (g : BitVec 5) (d a b : BitVec 6) (f : BitVec 3)  -- R135
  | vacr (g : BitVec 5) (d a : BitVec 6) (s t : BitVec 3) (r : BitVec 2) (u : BitVec 1)  -- R192
  | vacw (g : BitVec 5) (d a : BitVec 6) (s t : BitVec 3) (r : BitVec 2) (u : BitVec 1)  -- R193
  | vacc (g : BitVec 5) (d a : BitVec 6) (s t : BitVec 3) (r : BitVec 2) (u : BitVec 1)  -- R193
  | vacz (g : BitVec 5) (d a : BitVec 6) (s t : BitVec 3)  -- R193
  -- M slot (R63, R66)
  | ldv (g : BitVec 5) (v a : BitVec 6) (i : BitVec 7) (e : BitVec 2)  -- R168
  | stv (g : BitVec 5) (v a : BitVec 6) (i : BitVec 7) (e : BitVec 2)  -- R168
  | lds (g : BitVec 5) (v a : BitVec 6) (i : BitVec 7)  -- R168
  | sts (g : BitVec 5) (v a : BitVec 6) (i : BitVec 7)  -- R168
  | spl (g : BitVec 5) (d : BitVec 6) (o : BitVec 15)  -- R162
  | fil (g : BitVec 5) (d : BitVec 6) (o : BitVec 15)  -- R162
  | spls (g : BitVec 5) (d : BitVec 6) (o : BitVec 15)  -- R162
  | fils (g : BitVec 5) (d : BitVec 6) (o : BitVec 15)  -- R162
  | bacq (g : BitVec 5) (a : BitVec 6)  -- R165
  | brel (g : BitVec 5) (a : BitVec 6)  -- R165
  | ldg (g : BitVec 5) (v a : BitVec 6) (i : BitVec 5) (r c : BitVec 2)  -- R173
  | stg (g : BitVec 5) (v a : BitVec 6) (i : BitVec 5) (r c : BitVec 2)  -- R173
  | prfg (g : BitVec 5) (a : BitVec 6) (i : BitVec 5) (r c : BitVec 2)  -- R173
  | ldgs (g : BitVec 5) (v a : BitVec 6) (i : BitVec 5) (r c : BitVec 2)  -- R173
  | stgs (g : BitVec 5) (v a : BitVec 6) (i : BitVec 5) (r c : BitVec 2)  -- R173
  | probe (g p : BitVec 5) (a b : BitVec 6) (m : BitVec 4)  -- R287
  | pstw (g : BitVec 5) (v a : BitVec 6) (i : BitVec 7)  -- R213
  | scld (g : BitVec 5) (a : BitVec 6) (i : BitVec 7)  -- R259
  | ald (g : BitVec 5) (d a : BitVec 6) (o : BitVec 3)  -- R232
  | ast (g : BitVec 5) (a b : BitVec 6) (o : BitVec 3)  -- R232
  | aadd (g : BitVec 5) (d a b : BitVec 6) (o : BitVec 3)  -- R232
  | amin (g : BitVec 5) (d a b : BitVec 6) (o : BitVec 3)  -- R232
  | amax (g : BitVec 5) (d a b : BitVec 6) (o : BitVec 3)  -- R232
  | aminn (g : BitVec 5) (d a b : BitVec 6) (o : BitVec 3)  -- R232
  | amaxn (g : BitVec 5) (d a b : BitVec 6) (o : BitVec 3)  -- R232
  | aand (g : BitVec 5) (d a b : BitVec 6) (o : BitVec 3)  -- R232
  | aor (g : BitVec 5) (d a b : BitVec 6) (o : BitVec 3)  -- R232
  | axchg (g : BitVec 5) (d a b : BitVec 6) (o : BitVec 3)  -- R232
  | acas (g : BitVec 5) (d a b : BitVec 6) (o : BitVec 3)  -- R232
  | bara (g : BitVec 5) (a b : BitVec 6) (o : BitVec 3)  -- R235
  | barw (g : BitVec 5) (a b : BitVec 6) (o : BitVec 3)  -- R236
  | fence (s c : BitVec 3) (k : BitVec 4)  -- R237
  | admitEntry (g : BitVec 5) (d a b : BitVec 6) (o : BitVec 3)  -- R334
  -- X slot (R64, R66)
  | lmma (h : BitVec 2) (s : BitVec 1) (g : BitVec 5) (a b i : BitVec 6)  -- R183
  | lmmaz (h : BitVec 2) (s : BitVec 1) (g : BitVec 5) (a b i : BitVec 6)  -- R183
  | lmmar (h : BitVec 2) (s : BitVec 1) (g : BitVec 5) (a b i : BitVec 6)  -- R188
  | ccpy (h : BitVec 2) (s : BitVec 1) (g : BitVec 5) (a b i : BitVec 6)  -- R205
  | cgth (h : BitVec 2) (s : BitVec 1) (g : BitVec 5) (a b i : BitVec 6)  -- R207
  | csct (h : BitVec 2) (s : BitVec 1) (g : BitVec 5) (a b i : BitVec 6)  -- R207
  | ctopk (h : BitVec 2) (s : BitVec 1) (g : BitVec 5) (a b i : BitVec 6)  -- R208
  | cdrn (g : BitVec 5) (i : BitVec 6)  -- R209
  | optu (s : BitVec 1) (g : BitVec 5) (a b i : BitVec 6)  -- R211
  | pushix (g : BitVec 5) (a : BitVec 6)  -- R261
  | shsw (h : BitVec 2) (g : BitVec 5) (i : BitVec 6)  -- R147
  | ralloc (g : BitVec 5) (a b : BitVec 6)  -- R302
  | rload (h : BitVec 2) (s : BitVec 1) (g : BitVec 5) (a b i : BitVec 6)  -- R303
  | rpin (h : BitVec 2) (s : BitVec 1) (g : BitVec 5) (a : BitVec 6)  -- R305
  | runpin (h : BitVec 2) (s : BitVec 1) (g : BitVec 5) (a : BitVec 6)  -- R305
  | rrev (h : BitVec 2) (s : BitVec 1) (g : BitVec 5) (a : BitVec 6)  -- R305
  | rqry (g : BitVec 5) (a b : BitVec 6)  -- R306
  -- events of the table, without an encoding
  | bundleFetch (p : Nat)  -- R73
  | preciseTrap (p : Nat)  -- R154
  | resultLand (p i : Nat)  -- R70
  | scoreboardArrive (p i : Nat) (r : Reply)  -- R72
  | loomRowLand (p : Nat)  -- R186
  | loopEnd (p : Nat)  -- R117
  | waitCyclesExpire (p : Nat)  -- R50
  | safePointYield (p : Nat)  -- R121
  | remoteRefusalReturn (p i st : Nat)  -- R221
  | remotePacketReceive (k : Packet)  -- R320
  | resyncMarker (dev c lc ch : Nat)  -- R331
  | scldAppend (p : Nat)  -- R259
  | engineRowLand (p u j row : Nat) (r : Reply) (st : Nat)  -- R201
  | engineComplete (p u j st : Nat)  -- R202
  | lmmarRow (p row : Nat) (r : Reply) (st : Nat)  -- R188
  | pstwLand (p i : Nat)  -- R213
  | rloadComplete (p slot : Nat) (bad : Bool) (st : Nat)  -- R304
  | rrevDrain (p slot : Nat)  -- R305
  | pubdComplete (p i : Nat)  -- R315
  | mapldComplete (c i : Nat) (img : RemoteImage)  -- R286
  | reeveChunkCopy (c item chunk : Nat)  -- R277
  | phaseCommit (c : Nat)  -- R279
  | pageDemote (tier die : Nat)  -- R288
  | pagePromote (c page : Nat)  -- R288
  | pageRequest (c item slot pool : Nat)  -- R292
  | pageAnswer (slot : Nat)  -- R292
  | faultRecordWrite  -- R263
  | taskDispatch (c : Nat)  -- R251
  | gateOpen (c i : Nat)  -- R250
  | taskEnd (c i : Nat)  -- R252
  | bankStall (p : Nat)  -- R253
  | streamThreadHalted (c : Nat)  -- R245
  | saveCommand (c : Nat)  -- R346
  | saveRecordWrite (c : Nat)  -- R345
  | yieldOverdue (c : Nat)  -- R346
  | restoreCommand (c : Nat)  -- R348
  | endCommand (c : Nat)  -- R349
  | contextLoad (c tenant : Nat) (file : List Byte)  -- R97
  | mgmtDescribeCxl  -- R343
  | mgmtLoadFirmware  -- R343
  | mgmtReadTelemetry  -- R343
  | mgmtTenantTeardown  -- R343
  | mgmtSetMgmtWindow  -- R343
  | mgmtBindSharedBase  -- R343
  | mgmtUnknownCommand  -- R343
  | hostRegisterWrite (fn off size val : Nat)  -- R342
  | tableStatusClear  -- R342
  | hostCounterClear (off : Nat)  -- R339
  | rotaSwitchRequest  -- R317
  | rotaSwitch  -- R317
  | routingSelect  -- R321
  | routingValidate  -- R342
  | routingRetire  -- R321
  | hostBar2Load (fn off size : Nat)  -- R341
  | hostBar2Write (fn off size val : Nat)  -- R341
  | hostAtomicop (fn off : Nat) (op : HostOp) (size x y : Nat)  -- R341
  | atsInvalidate (page : Nat)  -- R351
  | flitTransmit (l payload : Nat)  -- R353
  | flitReceive (l : Nat) (f : Flit)  -- R353
  | laneFailure (l lane : Nat)  -- R354
  | linkRetrainDone (l width : Nat)  -- R354
  | linkCalibration (l : Nat) (lanes : Nat)  -- R356
  | supplyOutOfRange (rail mv : Nat)  -- R355
  | coolantOutOfRange (sensor v : Nat)  -- R355
  | scrub (row : Nat) (bad : Bool)  -- R356
  | memoryRefresh  -- R356
  | telemetrySample (sensor v : Nat)  -- R356
  | cxlError (src row : Nat) (poison : Bool)  -- R355
  | powerOnReset (b : BootOutcome)  -- R358
  | loomAccept (p : Nat)  -- R186
  | acknowledgementReturn (p i : Nat)  -- R223
  | hostReleaseStop  -- R355
  | hostLinkRetrain (l : Nat)  -- R354
  | contextUnload (c : Nat)  -- R349
  deriving DecidableEq, Repr, Inhabited

/-- Whose turn a step of the device is: a compute core issues a bundle, a stream thread runs a word, a cycle passes,
a fetch of a core misses its instruction cache (R73), the host reads a function's BAR0 (R339), sizes a function's BAR2 (R338), enables
the first VFs (R358), exchanges the tenants that two VFs are bound to (R17) or sends a message by DOE (R357), an access of the host or a Reeve meets a memory error (R355), or an event of the table takes place. -/
inductive Turn where
  | core (p : Nat)
  | thread (c : Nat)
  | tick
  | miss (p : Nat)
  | hostRead (fn off size : Nat)
  | sizeBar (fn k : Nat)
  | enableVfs (n : Nat)
  | bindVfs (fn gn : Nat)
  | doe (request : Nat)
  | memoryError (c va : Nat)
  | event (e : Instr)
  deriving DecidableEq, Repr, Inhabited

end Sys2Proof
end

