-- ==== Sys2Proof/Machine/Limits.lean ====
section
/-!
DEFINITION. Machine/Limits.lean: the limits of used fields (R60, R59 and the rule of each instruction) and the
format codes each instruction admits (R126, R138, R191), as the detail code of R153 that a word fails with.
-/

namespace Sys2Proof

/-- The four classes of issue slots (R61 to R64). -/
inductive SlotClass where
  | scalar | vec | mem | eng
  deriving DecidableEq, Repr

/-- The element size in bytes of a format code 0 to 7 (R123). -/
def fmtBytes (f : Nat) : Nat :=
  if f = 0 ∨ f = 4 then 4 else if f = 1 ∨ f = 2 ∨ f = 5 then 2 else 1

/-- Detail 4 of R153 unless the used field is within its limits. -/
def limit (ok : Bool) : Option Nat := if ok then none else some 4

/-- Detail 5 of R153 unless the format code is admitted. -/
def admitFmt (ok : Bool) : Option Nat := if ok then none else some 5

/-- VADD and its family (R126): every format but AF8. -/
def fmtArith (f : BitVec 3) : Option Nat := admitFmt (f.toNat != 3)

/-- VABS and VNEG (R126). -/
def fmtSign (f : BitVec 3) : Option Nat := admitFmt (f.toNat != 3 && f.toNat != 7)

/-- VRCP, VRSQ, VEXP2, VLOG2 (R126). -/
def fmtFloat (f : BitVec 3) : Option Nat := admitFmt (f.toNat < 3)

/-- The integer instructions (R126). -/
def fmtInt (f : BitVec 3) : Option Nat := admitFmt (3 < f.toNat)

/-- VPERM (R126). -/
def fmtPerm (f : BitVec 3) : Option Nat := admitFmt (f.toNat != 3 && f.toNat < 6)

/-- The routing class of format MG (R59). -/
def limitRc (r : BitVec 2) : Option Nat := limit (r.toNat != 3)

/-- A spill offset (R57). -/
def limitOff (o : BitVec 15) : Option Nat := limit (o.toNat < 8192)

/-- The detail code of R153 that a decoded instruction fails R60 with: 3 a reserved bit, 4 a used field out of
limits, 5 a format code not admitted; none when every used field is within its limits. -/
def Instr.detail : Instr → Option Nat
  | .shli _ _ i | .shri _ _ i | .srai _ _ i => limit (i.toNat < 64)                     -- R108
  | .pto _ _ _ a _ => limit (a.toNat < 32)                                             -- R111
  | .loops _ i => limit (i.toNat < 16)                                                 -- R116
  | .lidx _ i => limit (i.toNat < 6)                                                   -- R120
  | .tret i => limit (i.toNat < 2)                                                     -- R155
  | .shw e _ _ _ | .shrd e _ _ _ => limit (e.toNat != 3)                               -- R146
  | .exrd _ i => limit (i.toNat < 5)                                                   -- R150
  | .exclr i => limit (i.toNat < 6)                                                    -- R150
  | .pbeg i | .pbega i => limit (i.toNat < 16)                                         -- R276
  | .mapld _ i => limit (i.toNat < 16)                                                 -- R286
  | .taskw _ _ i | .grun _ _ i | .gwait _ _ i => limit (i.toNat == 0)                   -- R247
  | .mbxw _ _ i => limit (i.toNat < 2)                                                 -- R247
  | .vadd _ _ _ _ f | .vsub _ _ _ _ f | .vmul _ _ _ _ f | .vfma _ _ _ _ f | .vfms _ _ _ _ f
  | .vmin _ _ _ _ f | .vmax _ _ _ _ f => fmtArith f
  | .vrsum _ _ _ f | .vrmax _ _ _ f | .vrmin _ _ _ f => fmtArith f
  | .vabs _ _ _ f | .vneg _ _ _ f => fmtSign f
  | .vrcp _ _ _ f | .vrsq _ _ _ f | .vexp2 _ _ _ f | .vlog2 _ _ _ f => fmtFloat f
  | .vminn _ _ _ _ f | .vmaxn _ _ _ _ f | .vadds _ _ _ _ f | .vsubs _ _ _ _ f
  | .vshl _ _ _ _ f | .vshr _ _ _ _ f | .vsra _ _ _ _ f => fmtInt f
  | .vcltn _ _ _ _ f | .vclen _ _ _ _ f => fmtInt f
  | .vperm _ _ _ _ f => fmtPerm f
  | .vcvt _ _ _ s t _ _ => admitFmt (fmtBytes s.toNat == fmtBytes t.toNat)                 -- R138
  | .vpack _ _ _ s t _ _ =>
      admitFmt (fmtBytes s.toNat == 2 * fmtBytes t.toNat || fmtBytes s.toNat == 4 * fmtBytes t.toNat)
  | .vunpkl _ _ _ s t _ _ | .vunpkh _ _ _ s t _ _ => admitFmt (fmtBytes t.toNat == 2 * fmtBytes s.toNat)
  | .vacr _ _ _ s _ _ _ => admitFmt (s.toNat == 0)                                        -- R191
  | .vacw _ _ _ _ t _ _ | .vacc _ _ _ _ t _ _ => admitFmt (t.toNat == 0)
  | .vacz _ _ _ s t => admitFmt (s.toNat == 0 && t.toNat == 0)
  | .ldv _ _ _ _ e => limit (e.toNat < 3)                                              -- R59
  | .stv _ _ _ _ e => limit (e.toNat < 2)
  | .spl _ _ o | .fil _ _ o | .spls _ _ o | .fils _ _ o => limitOff o
  | .ldg _ _ _ _ r _ | .stg _ _ _ _ r _ | .ldgs _ _ _ _ r _ | .stgs _ _ _ _ r _ => limitRc r
  | .prfg _ _ _ r _ => limitRc r
  | .probe _ _ _ _ m =>                                                                -- R287
      if 8 ≤ m.toNat then some 3 else limit (m.toNat % 4 != 0)
  | .ald _ _ _ o => limit (o.toNat < 4 || o.toNat == 6)                                -- R232
  | .ast _ _ _ o => limit (o.toNat < 3 || o.toNat == 4 || o.toNat == 6)
  | .aadd _ _ _ _ o | .amin _ _ _ _ o | .amax _ _ _ _ o | .aminn _ _ _ _ o | .amaxn _ _ _ _ o
  | .aand _ _ _ _ o | .aor _ _ _ _ o | .axchg _ _ _ _ o | .acas _ _ _ _ o | .admitEntry _ _ _ _ o =>
      limit (o.toNat < 7)
  | .bara _ _ _ o => limit (o.toNat != 3 && o.toNat != 7)
  | .barw _ _ _ o => limit (o.toNat == 0 || o.toNat == 3)
  | .fence s _ _ => limit (s.toNat < 4)                                                -- R237
  | .lmma _ _ _ _ _ i | .lmmaz _ _ _ _ _ i => limit (i.toNat < 2 || i.toNat == 63)      -- R183
  | .lmmar _ _ _ _ _ i => limit (i.toNat == 0)                                         -- R188
  | .ccpy _ _ _ a _ i => limit (i.toNat < 8 && (a.toNat == 0 || 4 ≤ i.toNat))            -- R205
  | .cgth _ _ _ _ _ i | .csct _ _ _ _ _ i => limit (i.toNat < 4)                       -- R206
  | .ctopk _ _ _ _ _ i => limit (i.toNat / 4 % 2 == 0)                                 -- R208
  | .cdrn _ i => limit (i.toNat < 4)                                                   -- R209
  | .optu _ _ _ _ i => limit (i.toNat == 0 || i.toNat == 63)                           -- R212
  | .shsw _ _ i => limit (i.toNat < 3)                                                 -- R147
  | .rload _ _ _ _ _ i => limit (i.toNat < 2)                                          -- R303
  | _ => none

/-- The stream-only instructions (R67, R68). -/
def Instr.streamOnly : Instr → Bool
  | .launch _ _ | .taskw _ _ _ | .grun _ _ _ | .gwait _ _ _ | .patch _ _ | .mbxw _ _ _ => true
  | _ => false

end Sys2Proof
end

