-- ==== Sys2Proof/Machine/Float.lean ====
section
/-!
DEFINITION. Machine/Float.lean: the number formats, rounding, conversions and the exact arithmetic behind every
floating and integer element operation (R22 to R43, R47).
-/

namespace Sys2Proof.Machine

/-- The four exception flags (R47): bit 0 invalid, 1 divide-by-zero, 2 overflow, 3 underflow. -/
abbrev Flags := BitVec 4

def flagInvalid : Flags := 1
def flagDivZero : Flags := 2
def flagOverflow : Flags := 4
def flagUnderflow : Flags := 8

/-- A floating value as the formats encode it (R23 to R25): a finite value is `± m * 2 ^ e`. -/
inductive Fp where
  | nan (signalling : Bool)
  | inf (neg : Bool)
  | fin (neg : Bool) (m : Nat) (e : Int)
  deriving DecidableEq, Repr

/-- The width of the fraction of a floating format (R22 codes 0 to 3). -/
def fracBits (f : Nat) : Nat := if f = 0 then 23 else if f = 1 then 7 else if f = 2 then 10 else 3

/-- The width of the exponent of a floating format. -/
def expBits (f : Nat) : Nat := if f = 0 then 8 else if f = 1 then 8 else if f = 2 then 5 else 4

/-- The exponent bias (R23). -/
def expBias (f : Nat) : Int := if f = 0 then 127 else if f = 1 then 127 else if f = 2 then 15 else 8

/-- The format code names a floating format (R22). -/
def isFloat (f : Nat) : Bool := f < 4

/-- The element width in bits of a format code 0 to 7. -/
def fmtBits (f : Nat) : Nat := 8 * fmtBytes f

/-- The canonical NaN of a format (R23, R24). -/
def canonNan (f : Nat) : Nat := if f = 0 then 0x7FC00000 else if f = 1 then 0x7FC0 else if f = 2 then 0x7E00 else 0x7F

/-- The largest finite code of a format, sign zero (R23). -/
def maxFiniteCode (f : Nat) : Nat := if f = 0 then 0x7F7FFFFF else if f = 1 then 0x7F7F else if f = 2 then 0x7BFF else 0x7E

/-- The code of +infinity (F32, BF16, F16). -/
def infCode (f : Nat) : Nat := if f = 0 then 0x7F800000 else if f = 1 then 0x7F80 else 0x7C00

/-- A code with its sign bit set as `neg` says. -/
def withSign (f : Nat) (neg : Bool) (c : Nat) : Nat := if neg then c + 2 ^ (fmtBits f - 1) else c

/-- The value of a code of a floating format (R23, R24, R25). -/
def fpOf (f c : Nat) : Fp :=
  let w := fracBits f
  let neg := c / 2 ^ (fmtBits f - 1) % 2 == 1
  let e := c / 2 ^ w % 2 ^ expBits f
  let m := c % 2 ^ w
  let top := 2 ^ expBits f - 1
  if f = 3 then
    if e = top ∧ m = 7 then .nan false
    else if e = 0 then .fin neg m (1 - expBias f - w) else .fin neg (2 ^ w + m) (e - expBias f - w)
  else if e = top then
    if m = 0 then .inf neg else .nan (m / 2 ^ (w - 1) == 0)
  else if e = 0 then .fin neg m (1 - expBias f - w)
  else .fin neg (2 ^ w + m) (e - expBias f - w)

/-- Round `m * 2 ^ e` to a multiple of `2 ^ q` under a rounding mode (R34): the multiple, and whether it is inexact. -/
def roundAt (rm : Nat) (neg : Bool) (m : Nat) (e q : Int) : Nat × Bool :=
  if q ≤ e then (m * 2 ^ (e - q).toNat, false)
  else
    let s := (q - e).toNat
    let k := m / 2 ^ s
    let r := m % 2 ^ s
    let half := 2 ^ (s - 1)
    let up :=
      if rm = 0 then decide (half < r) || (r == half && k % 2 == 1)
      else if rm = 1 then false
      else if rm = 2 then !neg && r != 0
      else neg && r != 0
    (if up then k + 1 else k, r != 0)

/-- The number of bits of a natural number. -/
def bitLen (m : Nat) : Nat := if m = 0 then 0 else Nat.log2 m + 1

/-- `k * 2 ^ q` exceeds the largest finite value of the format (R35, R36). -/
def exceedsMax (f k : Nat) (q : Int) : Bool :=
  match fpOf f (maxFiniteCode f) with
  | .fin _ m e =>
    let lo := min q e
    decide (m * 2 ^ (e - lo).toNat < k * 2 ^ (q - lo).toNat)
  | _ => false

/-- The overflowing result of a format under a mode (R35, R36). -/
def overflowCode (f rm : Nat) (sat neg : Bool) : Nat :=
  if f = 3 then if sat then withSign f neg (maxFiniteCode f) else canonNan f
  else if sat then withSign f neg (maxFiniteCode f)
  else
    let toInf := rm = 0 ∨ (rm = 2 ∧ neg = false) ∨ (rm = 3 ∧ neg = true)
    if toInf then withSign f neg (infCode f) else withSign f neg (maxFiniteCode f)

/-- A finite non-zero value rounded once to a format (R35 to R37): the code and the flags. -/
def roundFinite (f rm : Nat) (sat neg : Bool) (m : Nat) (e : Int) : Nat × Flags :=
  let w := fracBits f
  let emin : Int := 1 - expBias f
  let q0 : Int := (bitLen m : Int) - 1 + e - w
  let r0 := roundAt rm neg m e q0
  if exceedsMax f r0.1 q0 then (overflowCode f rm sat neg, flagOverflow)
  else
    let q := max q0 (emin - w)
    let r := roundAt rm neg m e q
    let tiny : Bool :=                                     -- R37: r0 * 2^q0 < 2^emin
      if emin ≤ q0 then false else decide (r0.1 < 2 ^ (emin - q0).toNat)
    let (k, q) := if r.1 = 2 ^ (w + 1) then (2 ^ w, q + 1) else (r.1, q)
    let code := if k < 2 ^ w then k else (q + w + expBias f).toNat * 2 ^ w + (k - 2 ^ w)
    (withSign f neg code, if tiny && r.2 then flagUnderflow else 0)

/-- An exact value rounded once to a floating format (R35 to R38). -/
def fpRound (f rm : Nat) (sat : Bool) : Fp → Nat × Flags
  | .nan s => (canonNan f, if s then flagInvalid else 0)
  | .inf neg =>
    if f = 3 then (if sat then withSign f neg (maxFiniteCode f) else canonNan f, flagInvalid)
    else (if sat then withSign f neg (maxFiniteCode f) else withSign f neg (infCode f), 0)
  | .fin neg m e => if m = 0 then (withSign f neg 0, 0) else roundFinite f rm sat neg m e

/-- The flag of a signalling NaN consumed as an operand (R25). -/
def sigFlag : Fp → Flags
  | .nan true => flagInvalid
  | _ => 0

/-- The negation of a value; a NaN stays. -/
def fpNeg : Fp → Fp
  | .nan s => .nan s
  | .inf n => .inf (!n)
  | .fin n m e => .fin (!n) m e

/-- The exact product (R26, R41). -/
def fpMul : Fp → Fp → Fp × Flags
  | .nan s, y => (.nan false, sigFlag (.nan s) ||| sigFlag y)
  | x, .nan s => (.nan false, sigFlag x ||| sigFlag (.nan s))
  | .inf a, .inf b => (.inf (a != b), 0)
  | .inf a, .fin b m _ => if m = 0 then (.nan false, flagInvalid) else (.inf (a != b), 0)
  | .fin a m _, .inf b => if m = 0 then (.nan false, flagInvalid) else (.inf (a != b), 0)
  | .fin a m e, .fin b k g => (.fin (a != b) (m * k) (e + g), 0)

/-- The magnitude with its sign. -/
def signed (neg : Bool) (m : Nat) : Int := if neg then -(m : Int) else m

/-- The exact sum; a sum of zeros and an exact cancellation take the sign of R26 under the mode. -/
def fpAdd (rm : Nat) : Fp → Fp → Fp × Flags
  | .nan s, y => (.nan false, sigFlag (.nan s) ||| sigFlag y)
  | x, .nan s => (.nan false, sigFlag x ||| sigFlag (.nan s))
  | .inf a, .inf b => if a = b then (.inf a, 0) else (.nan false, flagInvalid)
  | .inf a, .fin _ _ _ => (.inf a, 0)
  | .fin _ _ _, .inf b => (.inf b, 0)
  | .fin a m e, .fin b k g =>
    let lo := min e g
    let t := signed a (m * 2 ^ (e - lo).toNat) + signed b (k * 2 ^ (g - lo).toNat)
    if t = 0 then
      (.fin (if m = 0 ∧ k = 0 ∧ a = b then a else rm == 3) 0 lo, 0)
    else (.fin (decide (t < 0)) t.natAbs lo, 0)

/-- The square root by bits: the largest root of `n` bits whose square is at most `x`. -/
def isqrtFrom : Nat → Nat → Nat → Nat
  | 0, _, r => r
  | n + 1, x, r => isqrtFrom n x (if (r + 2 ^ n) * (r + 2 ^ n) ≤ x then r + 2 ^ n else r)

/-- The integer square root of a number. -/
def isqrt (x : Nat) : Nat := isqrtFrom (bitLen x / 2 + 1) x 0

/-- A quotient or root known to more bits than any format holds, with a last bit that says the rest is not zero. -/
def stickyFin (neg : Bool) (n : Nat) (e : Int) (rest : Bool) : Fp :=
  .fin neg (2 * n + (if rest then 1 else 0)) (e - 1)

/-- The quotient `x / y` of R212: a zero divisor raises divide-by-zero unless the dividend is zero or NaN, an infinite
dividend included. -/
def fpDiv : Fp → Fp → Fp × Flags
  | .nan s, y => (.nan false, sigFlag (.nan s) ||| sigFlag y)
  | x, .nan s => (.nan false, sigFlag x ||| sigFlag (.nan s))
  | .inf _, .inf _ => (.nan false, flagInvalid)
  | .inf a, .fin b k _ => (.inf (a != b), if k = 0 then flagDivZero else 0)
  | .fin a _ _, .inf b => (.fin (a != b) 0 0, 0)
  | .fin a m e, .fin b k g =>
    if k = 0 then
      if m = 0 then (.nan false, flagInvalid) else (.inf (a != b), flagDivZero)
    else
      let n := m * 2 ^ (bitLen k + 64)
      (stickyFin (a != b) (n / k) (e - g - (bitLen k + 64)) (n % k != 0), 0)

/-- The square root (R212): of a negative value NaN with invalid; of −0, −0. -/
def fpSqrt : Fp → Fp × Flags
  | .nan s => (.nan false, sigFlag (.nan s))
  | .inf neg => if neg then (.nan false, flagInvalid) else (.inf false, 0)
  | .fin neg m e =>
    if m = 0 then (.fin neg 0 e, 0)
    else if neg then (.nan false, flagInvalid)
    else
      let odd := e % 2 != 0
      let m' := (if odd then 2 * m else m) * 2 ^ 128
      let e' := (if odd then e - 1 else e) - 128
      let r := isqrt m'
      (stickyFin false r (e' / 2) (r * r != m'), 0)

/-- 1 / x (R42). -/
def fpRcp : Fp → Fp × Flags
  | .nan s => (.nan false, sigFlag (.nan s))
  | .inf neg => (.fin neg 0 0, 0)
  | .fin neg m e => if m = 0 then (.inf neg, flagDivZero) else fpDiv (.fin false 1 0) (.fin neg m e)

/-- 1 / √x (R42). -/
def fpRsq : Fp → Fp × Flags
  | .nan s => (.nan false, sigFlag (.nan s))
  | .inf neg => if neg then (.nan false, flagInvalid) else (.fin false 0 0, 0)
  | .fin neg m e =>
    if m = 0 then (.inf neg, flagDivZero)
    else if neg then (.nan false, flagInvalid)
    else
      let odd := e % 2 != 0
      let m' := if odd then 2 * m else m
      let e' := if odd then e - 1 else e
      let k := bitLen m' + 64
      let r := isqrt (2 ^ (2 * k) / m')
      (stickyFin false r (-(k : Int) - e' / 2) (r * r * m' != 2 ^ (2 * k)), 0)

/-- The product of the roots `2 ^ (2 ^ -i)` selected by the bits of a fraction, in fixed point of 320 bits: `bs` are
the bits of the fraction from the highest, `root` the root for the bit before them. -/
def exp2Bits : List Bool → Nat → Nat → Nat
  | [], _, acc => acc
  | b :: bs, root, acc =>
    let r := isqrt (root * 2 ^ 320)
    exp2Bits bs r (if b then acc * r / 2 ^ 320 else acc)

/-- The bits of a number from bit `n - 1` down. -/
def bitsDown (x : Nat) : Nat → List Bool
  | 0 => []
  | n + 1 => (x / 2 ^ n % 2 == 1) :: bitsDown x n

/-- 2 ^ x of a finite value, to more bits than any format holds (R42). -/
def exp2Fin (neg : Bool) (m : Nat) (e : Int) : Fp :=
  if m = 0 then .fin false 1 0
  else if (bitLen m : Int) + e < -100 then                 -- |x| below 2^-100: the value is next to 1
    if neg then stickyFin false (2 ^ 90 - 1) (-90) true else stickyFin false (2 ^ 90) (-90) true
  else if 20 < (bitLen m : Int) + e then                   -- |x| of 2^19 or more
    if neg then .fin false 1 (-600000) else .fin false 1 600000
  else
    let x : Int := signed neg m * 2 ^ (e + 200).toNat      -- x scaled by 2^200
    let n := x / 2 ^ 200
    let f := (x % 2 ^ 200).toNat
    if f = 0 then .fin false 1 n
    else stickyFin false (exp2Bits (bitsDown f 200) (2 ^ 321) (2 ^ 320)) (n - 320) true

/-- VEXP2 (R42). -/
def fpExp2 : Fp → Fp × Flags
  | .nan s => (.nan false, sigFlag (.nan s))
  | .inf neg => if neg then (.fin false 0 0, 0) else (.inf false, 0)
  | .fin neg m e => (exp2Fin neg m e, 0)

/-- The binary digits of log2 of a number in [1, 2), given in fixed point of 400 bits: squaring gives one digit a
step. -/
def log2Digits : Nat → Nat → Nat → Nat
  | 0, _, acc => acc
  | k + 1, t, acc =>
    let u := t * t / 2 ^ 400
    if 2 ^ 401 ≤ u then log2Digits k (u / 2) (2 * acc + 1) else log2Digits k u (2 * acc)

/-- log2 of a positive finite value (R42). -/
def log2Fin (m : Nat) (e : Int) : Fp :=
  let l := Nat.log2 m
  let k : Int := e + l
  if m = 2 ^ l then .fin (decide (k < 0)) k.natAbs 0
  else
    let t := if l ≤ 400 then m * 2 ^ (400 - l) else m / 2 ^ (l - 400)
    let d := log2Digits 160 t 0
    let v : Int := k * 2 ^ 160 + d
    if v < 0 then stickyFin true (v.natAbs - 1) (-160) true else stickyFin false v.natAbs (-160) true

/-- VLOG2 (R42). -/
def fpLog2 : Fp → Fp × Flags
  | .nan s => (.nan false, sigFlag (.nan s))
  | .inf neg => if neg then (.nan false, flagInvalid) else (.inf false, 0)
  | .fin neg m e =>
    if m = 0 then (.inf true, flagDivZero)
    else if neg then (.nan false, flagInvalid)
    else (log2Fin m e, 0)

/-- The value orders of two values that are not NaN: −1, 0 or 1; the zeros are equal. -/
def fpCmp : Fp → Fp → Int
  | .inf a, .inf b => if a = b then 0 else if a then -1 else 1
  | .inf a, _ => if a then -1 else 1
  | _, .inf b => if b then 1 else -1
  | .fin a m e, .fin b k g =>
    let lo := min e g
    let x := signed a (m * 2 ^ (e - lo).toNat)
    let y := signed b (k * 2 ^ (g - lo).toNat)
    if x < y then -1 else if x = y then 0 else 1
  | _, _ => 0

/-- A value is a NaN. -/
def isNan : Fp → Bool
  | .nan _ => true
  | _ => false

/-- The least value of an integer format (R27). -/
def intMin (f : Nat) : Int := if f = 7 then 0 else -(2 ^ (fmtBits f - 1) : Nat)

/-- The greatest value of an integer format (R27). -/
def intMax (f : Nat) : Int := if f = 7 then 255 else (2 ^ (fmtBits f - 1) : Nat) - 1

/-- The integer of a code, signed but for N8 (R27). -/
def intOf (f c : Nat) : Int :=
  if f ≠ 7 ∧ 2 ^ (fmtBits f - 1) ≤ c then (c : Int) - (2 ^ fmtBits f : Nat) else c

/-- The code of an integer modulo 2^width (R27). -/
def intCode (f : Nat) (x : Int) : Nat := (x % (2 ^ fmtBits f : Nat)).toNat

/-- An integer clamped to the range of a format. -/
def intClamp (f : Nat) (x : Int) : Int := if x < intMin f then intMin f else if intMax f < x then intMax f else x

/-- A finite value rounded to an integer under a mode (R39). -/
def fpToInt (rm : Nat) (neg : Bool) (m : Nat) (e : Int) : Int := signed neg (roundAt rm neg m e 0).1

/-- One element converted between formats 0 to 7 under a mode and sat (R38 to R40), other than VCVT of a format to
itself. -/
def convert (sf df rm : Nat) (sat : Bool) (c : Nat) : Nat × Flags :=
  if isFloat sf then
    let x := fpOf sf c
    if isFloat df then
      fpRound df rm sat x
    else
      match x with
      | .nan _ => (0, flagInvalid)
      | .inf neg => (intCode df (if neg then intMin df else intMax df), flagInvalid)
      | .fin neg m e =>
        let i := fpToInt rm neg m e
        if intMin df ≤ i ∧ i ≤ intMax df then (intCode df i, 0) else (intCode df (intClamp df i), flagInvalid)
  else
    let i := intOf sf c
    if isFloat df then
      fpRound df rm sat (.fin (decide (i < 0)) i.natAbs 0)
    else if intMin df ≤ i ∧ i ≤ intMax df then (intCode df i, 0)
    else (if sat then intCode df (intClamp df i) else intCode df i, 0)

/-- One element moved by VCVT (R138): a format to itself keeps finite values and integers, makes a NaN canonical and,
with sat, clamps an infinity; every other pair converts. AF8 has no infinity. -/
def convertSame (sf df rm : Nat) (sat : Bool) (c : Nat) : Nat × Flags :=
  if sf = df then
    if isFloat sf then
      match fpOf sf c with
      | .nan s => (canonNan sf, if s then flagInvalid else 0)
      | .inf neg => if sat then (withSign sf neg (maxFiniteCode sf), 0) else (c, 0)
      | .fin _ _ _ => (c, 0)
    else (c, 0)
  else convert sf df rm sat c

/-- VADD, VSUB, VMUL, VFMA, VFMS on one element (R127): `k` 0 a + b, 1 a − b, 2 a × b, 3 a × b + d, 4 a × b − d. -/
def arithOp (k f a b d : Nat) : Nat × Flags :=
  if isFloat f then
    let x := fpOf f a
    let y := fpOf f b
    let z := fpOf f d
    let r : Fp × Flags :=
      if k = 0 then fpAdd 0 x y
      else if k = 1 then fpAdd 0 x (fpNeg y)
      else if k = 2 then fpMul x y
      else
        let p := fpMul x y
        let q := fpAdd 0 p.1 (if k = 3 then z else fpNeg z)
        (q.1, p.2 ||| q.2)
    let o := fpRound f 0 false r.1
    (o.1, r.2 ||| o.2)
  else
    let x := intOf f a
    let y := intOf f b
    let z := intOf f d
    (intCode f (if k = 0 then x + y else if k = 1 then x - y else if k = 2 then x * y
      else if k = 3 then x * y + z else x * y - z), 0)

/-- VMIN, VMAX, VMINN, VMAXN on one element (R128): the smaller or larger; a's element when they compare equal. -/
def minMaxOp (isMax uns : Bool) (f a b : Nat) : Nat × Flags :=
  if isFloat f then
    let x := fpOf f a
    let y := fpOf f b
    if isNan x || isNan y then (canonNan f, sigFlag x ||| sigFlag y)
    else
      let c := fpCmp x y
      (if c = 0 then a else if isMax then (if c < 0 then b else a) else (if c < 0 then a else b), 0)
  else
    let x : Int := if uns then a else intOf f a
    let y : Int := if uns then b else intOf f b
    (if x = y then a else if isMax then (if x < y then b else a) else (if x < y then a else b), 0)

/-- VABS and VNEG on one element (R129). -/
def signOp (isNeg : Bool) (f a : Nat) : Nat × Flags :=
  if isFloat f then
    match fpOf f a with
    | .nan s => (canonNan f, if s then flagInvalid else 0)
    | _ =>
      let top := 2 ^ (fmtBits f - 1)
      (if isNeg then (if top ≤ a then a - top else a + top) else a % top, 0)
  else
    let x := intOf f a
    (intCode f (if isNeg then -x else if x < 0 then -x else x), 0)

/-- VADDS and VSUBS on one element (R130). -/
def satOp (isSub : Bool) (f a b : Nat) : Nat × Flags :=
  let x := intOf f a
  let y := intOf f b
  (intCode f (intClamp f (if isSub then x - y else x + y)), 0)

/-- VRCP, VRSQ, VEXP2, VLOG2 on one element (R131): `k` 0 to 3. -/
def specialOp (k f a : Nat) : Nat × Flags :=
  let x := fpOf f a
  let r := if k = 0 then fpRcp x else if k = 1 then fpRsq x else if k = 2 then fpExp2 x else fpLog2 x
  let o := fpRound f 0 false r.1
  (o.1, r.2 ||| o.2)

/-- VSHL, VSHR, VSRA on one element (R133): `k` 0 to 2. -/
def shiftOp (k f a b : Nat) : Nat × Flags :=
  let w := fmtBits f
  let n := b % w
  (if k = 0 then a * 2 ^ n % 2 ^ w
   else if k = 1 then a / 2 ^ n
   else
     let x : Int := if 2 ^ (w - 1) ≤ a then (a : Int) - (2 ^ w : Nat) else a
     (x / (2 ^ n : Nat) % (2 ^ w : Nat)).toNat, 0)

/-- The relations of the compares on one element (R137): `k` 0 EQ, 1 NE, 2 LT, 3 LE, 4 LTN, 5 LEN. -/
def relOp (k f a b : Nat) : Bool × Flags :=
  if isFloat f then
    let x := fpOf f a
    let y := fpOf f b
    let fl := sigFlag x ||| sigFlag y
    if isNan x || isNan y then (k == 1, fl)
    else
      let c := fpCmp x y
      (if k = 0 then c == 0 else if k = 1 then c != 0 else if k = 2 then decide (c < 0) else decide (c ≤ 0), fl)
  else
    let x : Int := if 4 ≤ k then a else intOf f a
    let y : Int := if 4 ≤ k then b else intOf f b
    (if k = 0 then x == y else if k = 1 then x != y
     else if k = 2 ∨ k = 4 then decide (x < y) else decide (x ≤ y), 0)

/-- A node of a reduction tree (R43): `k` 0 sum, 1 maximum, 2 minimum. -/
def reduceNode (k f a b : Nat) : Nat × Flags :=
  if k = 0 then arithOp 0 f a b 0 else minMaxOp (k == 1) false f a b

/-- The neutral value of a reduction for an element that takes no part (R136). -/
def reduceNeutral (k f : Nat) : Nat :=
  if isFloat f then
    if k = 0 then withSign f true 0 else if k = 1 then withSign f true (infCode f) else infCode f
  else if k = 0 then 0 else if k = 1 then intCode f (intMin f) else intCode f (intMax f)

/-- One level of a reduction tree: neighbours combined. -/
def reduceLevel (k f : Nat) : List Nat → List Nat × Flags
  | a :: b :: r =>
    let n := reduceNode k f a b
    let t := reduceLevel k f r
    (n.1 :: t.1, n.2 ||| t.2)
  | r => (r, 0)

/-- The reduction tree (R43) of at most `levels` levels. -/
def reduceTree (k f : Nat) : Nat → List Nat → Nat × Flags
  | 0, r => (r.headD 0, 0)
  | n + 1, r =>
    let l := reduceLevel k f r
    let t := reduceTree k f n l.1
    (t.1, l.2 ||| t.2)

end Sys2Proof.Machine
end

