-- ==== Sys2Proof/Config.lean ====
section
/-!
DEFINITION. Config.lean: what the manual fixes per part or leaves open, as constants without a body. Nothing can be
proved about the value of one. Log entries 4 to 8 name them.
-/

namespace Sys2Proof

/-- An undefined value (R3, R71): the value of the register or row with code `what`, drawn at count `n`. -/
opaque Config.undef (n what : Nat) : Vec

/-- A byte of a region that an UNDEF entry action made undefined (R272): the byte at a key, drawn at a stamp. -/
opaque Config.freeByte (stamp key : Nat) : Byte

/-- A choice that the manual leaves to the device, drawn at count `n` for the purpose `what`. -/
opaque Config.pick (n what : Nat) : Nat

/-- Which agent or event acts when the agenda names none (log 5). -/
opaque Config.nextTurn (n : Nat) : Turn

/-- The physical cluster of a die that fuses disable (R20). -/
opaque Config.disabledCluster (die : Nat) : Fin 21

/-- The home slice of a 4 KiB page of backing in physical page number `spot` of its die, counted from the one it has when nothing asks
for another (R170, R318): the die of the hash, and the slice of a die. -/
opaque Config.homeSlice (page spot : Nat) : Fin 4 × Fin 768

/-- The L2 set of a line of backing (R170). -/
opaque Config.lineSet (line : Nat) : Fin 512

/-- The die whose memory holds a page of backing when it is placed on a tier (R170, R288). -/
opaque Config.pageDie (page tier : Nat) : Fin 4

/-- A fresh key of the device's random source (R323). -/
opaque Config.randomKey (n : Nat) : BitVec 256

/-- A sealed page or record (R291, R345): key, nonce and authenticated data, plain contents. -/
opaque Config.seal (key : BitVec 256) (nonce : Nat) (aad : Nat) (plain : Nat) : Nat

/-- The outcome of authenticating a sealed image (R291). -/
opaque Config.unseal (key : BitVec 256) (nonce : Nat) (aad : Nat) (image : Nat) : Option Nat

/-- The CRC-32 of a flit (R353) over its header fields and payload. -/
opaque Config.crc32 (seq ty ack payload : Nat) : Nat

/-- The forward error correction symbols of a flit (R353). -/
opaque Config.fecOf (seq ty ack payload crc : Nat) : Nat

/-- The flit as forward error correction leaves it (R353). -/
opaque Config.fecCorrect (f : Flit) : Flit

/-- The packet that the payloads of the data flits of a link since the last packet make up, when the last of them completes it
(R353): its destination device, and the packet as the sender stamped it. -/
opaque Config.packetOf (payloads : List Nat) : Option (Nat × Packet)

/-- The payload of flit `n` of a packet (R353). -/
opaque Config.payloadOf (k : Packet) (n : Nat) : Nat

/-- The order in which links 0 to 6 run to the other devices of the row, and links 7 to 13 to those of the column (R19), as the number of
an order of seven: which link runs to which is not given. -/
opaque Config.rowOrder : Nat
opaque Config.columnOrder : Nat

/-- The greatest skew between the paths of a flow, in cycles (R224). -/
opaque Config.flowSkew : Nat

/-- The outcome code of the digest and signature checks of a firmware image (R343 request 2): its length, its bytes. -/
opaque Config.firmwareCode (len image : Nat) : BitVec 32

/-- The counter that an offset of the counter readout shows (R339): kind 0 none, 1 buffer bytes, 2 buffer stall cycles, 3
slice conflicts, 4 flits, 5 replays, 6 failovers, 7 retrains, 8 discarded answers, 9 the occupancy gauge of a slice (R332); then its
context, slice or link, then its tag or tenant. -/
opaque Config.counterAt (off : Nat) : Nat × Nat × Nat

/-- The policy register that an offset of the policy block holds (R339): 0 none, 1 + l the policy of link l, 32 + k the
policy of event kind k. -/
opaque Config.policyAt (off : Nat) : Nat

/-- What a non-zero event policy lets the device do (R355): 0 report only, 1 stop issue, 2 power off. -/
opaque Config.eventAction (policy : Byte) : Fin 3

/-- What an offset of the identity block shows (R358, R339): kind 0 nothing, 1 a byte of the step reached, 2 of the outcome, 3 of the
number of the part that failed; then which byte of it. -/
opaque Config.identityAt (off : Nat) : Nat × Nat

/-- The boot ROM of the module (R357). -/
opaque Config.bootRom : Nat

/-- The identity key, created at manufacture (R357): only reports are signed with it. -/
opaque Config.identityKey : Nat

/-- The answer of the device to a message by DOE (R357, R338), the session it leaves, and the key of the link IDE stream where the
message has set one: of the identity key, the measurements, the session and the message, by the SPDM protocol. -/
opaque Config.spdmAnswer (key : Nat) (measurements : List Nat) (session request : Nat) : Nat × Nat × Option (BitVec 256)

/-- The device's own position in its domain (R19): 8 × row + column. -/
opaque Config.ownDevice : Fin 64

/-- The devices that the domain holds (R19, R161). -/
opaque Config.inDomain (dev : Nat) : Bool

end Sys2Proof
end

