-- ==== Sys2Proof/Machine/Table.lean ====
section
/-!
DEFINITION. Machine/Table.lean: the operations of the sparse tables that hold registers, rows and entries by number.
-/

namespace Sys2Proof.Machine

/-- The value at a key, or the default of the table. -/
def Tab.get {α : Type} (d : α) : Tab α → Nat → α
  | [], _ => d
  | (j, v) :: r, k => if j = k then v else Tab.get d r k

/-- The value listed at a key. -/
def Tab.find {α : Type} : Tab α → Nat → Option α
  | [], _ => none
  | (j, v) :: r, k => if j = k then some v else Tab.find r k

/-- The table with a key listed at a value; keys stay rising. -/
def Tab.set {α : Type} : Tab α → Nat → α → Tab α
  | [], k, v => [(k, v)]
  | (j, u) :: r, k, v =>
    if k < j then (k, v) :: (j, u) :: r
    else if k = j then (k, v) :: r
    else (j, u) :: Tab.set r k v

/-- The table with a key no longer listed. -/
def Tab.erase {α : Type} (t : Tab α) (k : Nat) : Tab α := t.filter (fun c => c.1 != k)

/-- The table with a key at a value that is listed only when it differs from the default. -/
def Tab.put {α : Type} [DecidableEq α] (d : α) (t : Tab α) (k : Nat) (v : α) : Tab α :=
  if v = d then Tab.erase t k else Tab.set t k v

/-- The table with the value at a key changed. -/
def Tab.upd {α : Type} (d : α) (t : Tab α) (k : Nat) (f : α → α) : Tab α := Tab.set t k (f (Tab.get d t k))

/-- The table without the keys from `lo` up to and not including `hi`. -/
def Tab.eraseRange {α : Type} (t : Tab α) (lo hi : Nat) : Tab α :=
  t.filter (fun c => decide (c.1 < lo) || decide (hi ≤ c.1))

/-- Every listed value changed. -/
def Tab.mapVal {α : Type} (t : Tab α) (f : α → α) : Tab α := t.map (fun c => (c.1, f c.2))

/-- The table keeps the keys rising: its canonical form. -/
abbrev Tab.sorted {α : Type} (t : Tab α) : Prop := List.Pairwise (fun a b : Nat × α => a.1 < b.1) t

/-- Change the element of a list at an index; beyond the end nothing changes. -/
def listUpd {α : Type} : List α → Nat → (α → α) → List α
  | [], _, _ => []
  | x :: r, 0, f => f x :: r
  | x :: r, k + 1, f => x :: listUpd r k f

/-- Remove the element of a list at an index. -/
def listDrop {α : Type} : List α → Nat → List α
  | [], _ => []
  | _ :: r, 0 => r
  | x :: r, k + 1 => x :: listDrop r k

end Sys2Proof.Machine
end

