-- ==== Sys2Proof/Machine/Memory.lean ====
section
/-!
DEFINITION. Machine/Memory.lean: byte memory in one canonical form. A byte that nothing has written reads zero (R97:
every byte of a region's backing that no DATA section covers is zero at load), or, inside a range that an UNDEF entry
action made undefined, a free value (R272).
-/

namespace Sys2Proof.Machine

/-- A range of keys whose contents an UNDEF entry action made undefined, with the count it was drawn at. -/
structure UndefRange where
  lo    : Nat
  hi    : Nat
  stamp : Nat
  deriving DecidableEq, Repr

/-- Memory: the bytes that differ from what an unlisted key reads as, by rising key, and the undefined ranges. -/
structure Memory where
  cells : List Host.Cell
  undef : List UndefRange
  deriving DecidableEq, Repr

/-- Memory in which nothing is listed. -/
def Memory.empty : Memory := { cells := [], undef := [] }

/-- What the first undefined range that holds the key reads as there; zero when none holds it. -/
def undefByte : List UndefRange → Nat → Byte
  | [], _ => 0
  | r :: rs, k => if r.lo ≤ k ∧ k < r.hi then Config.freeByte r.stamp k else undefByte rs k

/-- What an unlisted key reads as. -/
def Memory.dflt (m : Memory) (k : Nat) : Byte := undefByte m.undef k

/-- The byte at a key. -/
def Memory.byte (m : Memory) (k : Nat) : Byte :=
  match Tab.find m.cells k with
  | some b => b
  | none => m.dflt k

/-- The memory with one byte written; the canonical form is kept. -/
def Memory.setByte (m : Memory) (k : Nat) (b : Byte) : Memory :=
  { m with cells := if b = m.dflt k then Tab.erase m.cells k else Tab.set m.cells k b }

/-- The memory with a range of keys back at what an unlisted key reads as, and no undefined range equal to it. -/
def Memory.clear (m : Memory) (lo hi : Nat) : Memory :=
  { cells := Tab.eraseRange m.cells lo hi
    undef := m.undef.filter (fun r => !(decide (lo ≤ r.lo) && decide (r.hi ≤ hi))) }

/-- The memory with a range of keys made undefined at a stamp. -/
def Memory.makeUndef (m : Memory) (lo hi stamp : Nat) : Memory :=
  { cells := Tab.eraseRange m.cells lo hi, undef := { lo := lo, hi := hi, stamp := stamp } :: m.undef }

/-- The canonical form: keys strictly rising, no entry equal to what an unlisted key reads as. -/
abbrev Memory.wf (m : Memory) : Prop :=
  Tab.sorted m.cells ∧ ∀ c ∈ m.cells, c.2 ≠ m.dflt c.1

/-- The little-endian value of `n` bytes from a key (R2). -/
def Memory.read (m : Memory) (k : Nat) : Nat → Nat
  | 0 => 0
  | n + 1 => (m.byte k).toNat + 256 * Memory.read m (k + 1) n

/-- The memory with `n` bytes of a value written from a key (R2). -/
def Memory.write (m : Memory) (k : Nat) : Nat → Nat → Memory
  | 0, _ => m
  | n + 1, v => Memory.write (m.setByte k (BitVec.ofNat 8 v)) (k + 1) n (v / 256)

end Sys2Proof.Machine
end

