-- ==== Sys2Proof/Machine/State.lean ====
section
/-!
DEFINITION. Machine/State.lean: everything the manual gives the KWF-320 to hold (INVENTORY.md, State), as plain data,
and the state right after module reset. Each structure names the rule that inventories it.
-/

namespace Sys2Proof.Machine

/-- Who executes an instruction: a compute core by physical number `84 × die + 4 × cluster + core` (R344), or the
stream thread of a context (R243). -/
inductive Agent where
  | core (p : Nat)
  | thread (c : Nat)
  deriving DecidableEq, Repr

/-- A loop-stack entry (R104); an entry of the list is valid. -/
structure LoopEntry where
  start : W32
  count : W32
  index : BitVec 33
  ep    : BitVec 4
  stg   : Bool
  deriving DecidableEq, Repr

/-- The loop stack, innermost first, and the rotating bases (R100). -/
structure Sequencer where
  loops : List LoopEntry
  vrb   : BitVec 5
  prb   : BitVec 4
  deriving DecidableEq, Repr

/-- A sticky exception record with its hidden issue stamp (R148). -/
structure Sticky where
  flags : BitVec 4
  count : BitVec 24
  addr  : W32
  stamp : Nat
  deriving DecidableEq, Repr

/-- The trap record (R152). -/
structure TrapRegs where
  cause  : W64
  bundle : W64
  mask   : W64
  addr   : W64
  info   : W64
  deriving DecidableEq, Repr

/-- A copy of a shape register: its eight fields (R143). -/
structure Shape where
  base : W64
  ext  : W64
  st1  : W64
  st2  : W64
  fmt  : W64
  tag  : W64
  rc   : W64
  bar  : W64
  deriving DecidableEq, Repr

/-- A physical destination of a result: s-, p- or v-register, accumulator row, or nothing. -/
inductive Dest where
  | none
  | s (k : Nat)
  | p (k : Nat)
  | v (k : Nat)
  | acc (row : Nat)
  deriving DecidableEq, Repr

/-- A bounded result on its way (R70, R71): its value, the cycle of issue, the cycle it lands at the latest, the
flags it carries with slot and bundle, whether another overlapping write has already landed, and whether the row it
writes is left undefined (R194). -/
structure Flight where
  dest   : Dest
  val    : Vec
  issue  : Nat
  due    : Nat
  flags  : BitVec 4
  slot   : Nat
  bundle : W32
  late   : Bool
  free   : Bool
  deriving DecidableEq, Repr

/-- The kinds of access whose completion a core waits to learn of (R72, R223), with the PUB and PUBG that wait for earlier
accesses of their core (R313), and the remote row that a KEYSET reads (R323). -/
inductive AccKind where
  | ldg
  | ldgs
  | store
  | word (k : AtomKind)
  | admission
  | pub
  | pubg
  | ralloc
  | rqry
  | keyset
  deriving DecidableEq, Repr

/-- An access of the M or X slot that is outstanding (R72, R223): destination, address, operands, order and class
(R59), for a load the core's own stores at issue to the side of a published buffer that its address names then, by the key of that side, and
to the other side (R216, R312), whether a remote one has been injected, and the issuing bundle. -/
structure Access where
  kind   : AccKind
  dest   : Dest
  addr   : W64
  addr2  : W64
  x      : W64
  y      : W64
  oc     : Nat
  rc     : Nat
  remote : Bool
  mask   : BitVec 512
  own    : Vec
  key    : Nat := 0
  mask2  : BitVec 512 := 0
  own2   : Vec := 0
  sent   : Bool
  issue  : Nat
  slot   : Nat
  bundle : W32
  deriving DecidableEq, Repr

/-- A weight tile in the weight store (R30 to R33): format, rows, contents as a little-endian number. -/
structure Tile where
  fmt   : Nat
  k     : Nat
  bytes : Nat
  deriving DecidableEq, Repr

/-- An LMMA or LMMAZ whose rows are landing (R185, R186): the captured record, window and scales, how many scales it has still to take of
outstanding SCLDs (R259), and the activation rows as they stood at issue. -/
structure LoomJob where
  issue  : Nat
  bundle : W32
  ctx    : Nat
  lcore  : Nat
  slotIx : Nat
  base   : Nat
  rows   : Nat
  done   : Nat
  kofs   : Nat
  len    : Nat
  fmt    : Nat
  first  : Bool
  tile   : Tile
  sq     : Bool
  scales : List (BitVec 16)
  owed   : Nat := 0
  abase  : W64
  stride : W64
  acts   : List Vec
  flags  : BitVec 4
  clash  : List Nat
  deriving DecidableEq, Repr

/-- An LMMAR in flight (R188); `own` while KLPRG reports it. -/
structure LmmarJob where
  issue  : Nat
  bundle : W32
  ctx    : Nat
  base   : W64
  stride : W64
  rows   : Nat
  kofs   : Nat
  len    : Nat
  fmt    : Nat
  tile   : Tile
  tag    : Nat
  off    : Nat
  rc     : Nat
  bar    : W64
  landed : List Nat
  flags  : BitVec 4
  own    : Bool := true
  deriving DecidableEq, Repr

/-- The four Carter instructions (R205 to R208). -/
inductive CopyKind where
  | ccpy | cgth | csct | ctopk
  deriving DecidableEq, Repr

/-- An accepted copy of a Carter channel (R262): the captured records, and what has become of its rows: `done` has landed or
been refused, `refused` only the latter; the rows a CTOPK has landed, as it landed them (R208); how many of the adds of R202 to a remote
barrier have gone: 0 none, 1 those of steps 2 and 3, 2 that of step 4. -/
structure Copy where
  kind    : CopyKind
  issue   : Nat
  bundle  : W32
  ctx     : Nat
  src     : Shape
  dst     : Shape
  rc      : Nat
  tag     : Nat
  bar     : W64
  masked  : Bool
  maskAt  : W64
  mask    : Option Nat
  maskGot : List Vec
  off     : W64
  rows    : Nat
  base    : W32
  best    : Nat
  order   : Nat
  idx     : List W32
  read    : Tab Vec
  done    : List Nat
  landed  : Nat
  status  : Nat
  flags   : BitVec 4
  free    : List Nat
  refused : List Nat
  put     : Tab Vec
  told    : Nat := 0
  deriving DecidableEq, Repr

/-- The OPTU in flight (R212); `told` as in a copy. -/
structure OptuJob where
  issue  : Nat
  bundle : W32
  ctx    : Nat
  w      : Shape
  g      : Shape
  m      : Shape
  v      : Shape
  n      : Nat
  lr     : W32
  b1     : W32
  b2     : W32
  eps    : W32
  wd     : W32
  done   : List Nat
  landed : Nat
  status : Nat
  flags  : BitVec 4
  told   : Nat := 0
  deriving DecidableEq, Repr

/-- A PSTW pair not yet landed (R213). -/
structure PstwJob where
  ctx   : Nat
  pa    : W64
  ta    : W64
  x     : Vec
  issue : Nat
  deriving DecidableEq, Repr

/-- A residency load in flight (R304). -/
structure RloadJob where
  ctx     : Nat
  lcore   : Nat
  slotIx  : Nat
  fmt     : Nat
  k       : Nat
  src     : Nat
  bytes   : Nat
  bar     : W64
  stale   : Bool
  revoked : Bool
  failed  : Bool
  issue   : Nat
  deriving DecidableEq, Repr

/-- A PUBD copy in flight (R315). -/
structure PubdJob where
  ctx   : Nat
  tag   : Nat
  n     : Nat
  issue : Nat
  deriving DecidableEq, Repr

/-- An SCLD whose scales have not joined the queue (R259). -/
structure ScldJob where
  scales : List (BitVec 16)
  owner  : Nat
  row    : Nat
  gran   : Nat
  issue  : Nat
  deriving DecidableEq, Repr

/-- The state of a scratchpad bank (R164). -/
inductive BankState where
  | free | owned | releasing
  deriving DecidableEq, Repr

/-- A scratchpad bank: its state, the task that owns it, and the context that last held it, plus one (R157, R164). -/
structure Bank where
  state : BankState
  task  : Nat
  held  : Nat
  deriving DecidableEq, Repr

/-- Granules of the weight store that one slot holds (R296), and whether it is a revoked slot that drains (R305). -/
structure Granules where
  ctx    : Nat
  lcore  : Nat
  slotIx : Nat
  count  : Nat
  drain  : Bool
  deriving DecidableEq, Repr

/-- What a core does: nothing; runs a task; has executed HALT and waits for its results (R101); has yielded (R121);
is stopped with its context (R3). -/
inductive RunState where
  | idle | running | halted | yielded | stopped
  deriving DecidableEq, Repr

/-- A trap that waits for the drain of R154, or the fatal context error it becomes. -/
structure TrapReq where
  cause  : Nat
  mask   : Nat
  slot   : Nat
  detail : Nat
  addr   : W64
  arg    : W32
  bundle : W32
  deriving DecidableEq, Repr

/-- A compute core (R100, R141, R157, R178, R196, R241). Registers are physical. `scaleOp`: the bundle that commits uses the scale queue
(R260). -/
structure Core where
  ctx       : Option Nat
  lcore     : Nat
  run       : RunState
  task      : Nat
  s         : Tab W64
  p         : Tab Pred
  v         : Tab Vec
  pc        : Int
  seq       : Sequencer
  steward   : Bool
  trap      : TrapRegs
  stewSeq   : Sequencer
  active    : Tab Shape
  shadow    : Tab Shape
  sticky    : Tab Sticky
  klprg     : W64
  spill     : Tab Vec
  spad      : Tab Vec
  fullEmpty : Tab W32
  banks     : Tab Bank
  acc       : Tab Vec
  accCtx    : Option Nat
  flights   : List Flight
  board     : List Access
  loom      : List LoomJob
  loomFree  : Nat
  lmmar     : List LmmarJob
  chans     : Tab (List Copy)
  addrQ     : List W32
  scaleQ    : List (BitVec 16)
  scaleOp   : Bool
  sclds     : List ScldJob
  optu      : Option OptuJob
  pstw      : List PstwJob
  rloads    : List RloadJob
  pubds     : List PubdJob
  granules  : List Granules
  left      : List Nat
  l1        : Tab Bool
  icache    : List Nat
  seen      : Tab Nat
  ownPubs   : Tab Nat
  nextIssue : Nat
  lastWord  : Int
  miss      : Bool
  lePend    : Bool
  trapPend  : Option TrapReq
  atPadv    : Bool
  padvDone  : Bool
  padvRetry : Bool
  padvFail  : Option (Nat × W64 × Nat)
  yieldReq  : Bool
  atSafe    : Bool
  stallSeen : Bool
  deriving DecidableEq, Repr

/-- A page of a region in motion (R277): the tier, die and physical page it goes to, whether the tier is still the device's to choose
(`wide`) and whether a page there is allocated, whether contents are copied or made new at the commit, whether its lines go to pinned ways, whether it is
re-encrypted, its key slot in the target map, its chunks that stand at the new place (`got`), that are done, and that are marked, the
answer slot it waits for plus one. -/
structure WorkItem where
  region : Nat
  page   : Nat
  tier   : Nat
  die    : Nat
  spot   : Nat := 0
  wide   : Bool
  alloc  : Bool
  copy   : Bool
  fresh  : Bool := false
  pin    : Bool
  resealed : Bool
  key    : Nat
  got    : BitVec 16 := 0
  done   : BitVec 16
  marks  : BitVec 16
  wait   : Nat
  deriving DecidableEq, Repr

/-- The transition state (R285) and the Reeves' work (R277). -/
structure Transition where
  pend     : Bool
  fail     : Bool
  ready    : Bool
  mfail    : Bool
  tgt      : BitVec 4
  failAddr : W64
  failWhy  : Nat
  work     : List WorkItem
  deriving DecidableEq, Repr

/-- Where a 64 KiB page of backing lies (R267): tier 0 HBM4E, 1 LPDDR-6, 2 CXL, 3 host memory, 4 storage; the die;
which physical page the Reeve has chosen for it (R318); how often it was written out; the key slot and key epoch it is sealed
under (R291). -/
structure Place where
  tier   : Nat
  die    : Nat
  spot   : Nat := 0
  writes : Nat
  key    : Nat
  epoch  : Nat
  deriving DecidableEq, Repr

/-- A MAPLD in flight (R286); of an image on another device, whether its header has come and the rows after it are asked for. -/
structure MapldJob where
  core  : Nat
  map   : Nat
  addr  : W64
  issue : Nat
  bundle : W32
  asked : Bool := false
  deriving DecidableEq, Repr

/-- Bytes staged in a row by one writer (R214): writer 0 a remote flow, `1 + n` the logical core `n`; in order of
staging. The key, and the virtual address `back` of it, are the backing the address named at issue (R312). -/
structure Stage where
  key    : Nat
  va     : Nat
  back   : Nat
  writer : Nat
  flow   : Nat
  mask   : BitVec 512
  data   : Vec
  deriving DecidableEq, Repr

/-- A residency table entry (R299). -/
structure Resid where
  state  : Nat
  pin    : Bool
  held   : Bool
  gen    : BitVec 12
  rgen   : BitVec 12
  fmt    : Nat
  k      : Nat
  charge : Nat
  status : Nat
  src    : Nat
  loaded : Bool
  deriving DecidableEq, Repr

/-- A task queue entry (R248, R252) with whether its gate has opened (R250), the publications that the
flip released, and the graph block it runs, if any. -/
structure QEntry where
  record   : Nat
  args     : W64
  prio     : Nat
  clusters : BitVec 128
  gate     : W64
  entry    : W32
  enq      : Int
  opened   : Bool
  acq      : Tab Nat
  graph    : Option (Nat × Nat)
  deriving DecidableEq, Repr

/-- A running task (R252). -/
structure Task where
  id       : Nat
  record   : Nat
  clusters : BitVec 128
  graph    : Option (Nat × Nat)
  deriving DecidableEq, Repr

/-- The state of a stream thread (R241, R245): registers, PC, the value a wait has fixed, the word that an MBXW waits for (R258: its
register, the address, whether it takes the word), whether it has halted and where, the first cycle of its next word. -/
structure Thread where
  s      : Tab W64
  p      : Tab Pred
  pc     : Int
  last   : Int
  fixed  : Option W64
  watch  : Option (BitVec 6 × W64 × Bool) := none
  halted : Bool
  haltAt : Nat
  nextAt : Nat
  deriving DecidableEq, Repr

/-- What a save record keeps of one core (R347), loop entries in the layout of R104. -/
structure SavedCore where
  lcore    : Nat
  inTask   : Bool
  halted   : Bool
  task     : Nat
  pc       : Int
  loops    : List (BitVec 128)
  vrb      : BitVec 5
  prb      : BitVec 4
  s        : Tab W64
  p        : Tab Pred
  v        : Tab Vec
  spill    : Tab Vec
  active   : Tab Shape
  shadow   : Tab Shape
  sticky   : Tab Sticky
  trap     : TrapRegs
  klprg    : W64
  owned    : BitVec 16
  live     : BitVec 16
  rows     : Tab Vec
  fe       : Tab W32
  ranges   : List (Nat × Nat)
  acc      : Tab Vec
  chf      : Tab W64
  ctrs     : Tab Nat
  deriving DecidableEq, Repr

/-- What a save record keeps of the context (R347); of a queue entry `enq` is its age (R252). -/
structure SavedCtx where
  phase  : BitVec 4
  tr     : Transition
  ctr    : Tab Nat
  queue  : List QEntry
  tasks  : List Task
  thr    : Thread
  staged : List Stage
  deriving DecidableEq, Repr

/-- A save record (R345, R347): where it was written and its length, the key slot and epoch that seal it, its bytes as one number,
and the contents they seal: of the cores, the residency lists of the logical cores in the layout of R299 (R310), of the context. -/
structure SaveRecord where
  area  : Nat
  size  : Nat
  key   : Nat
  epoch : Nat
  image : Nat
  cores : List SavedCore
  lists : List (Nat × Tab (BitVec 128))
  rest  : SavedCtx
  deriving DecidableEq, Repr

/-- A loaded, running, saved or ended context (R16, R249, R267, R296, R340); `refused` lists the ORD flows of its channels
whose refusal state their targets have set (R221, R331), `relFar` the publications that each release of its cores to a word of
another device carried (R219), `swapsAt` the swaps of each buffer at the last commit (R219), `rising` the pages of newly bound shared
bases that the Reeves have still to bring to the place its map asks for (R274), each with the answer slot it waits for plus one. -/
structure Ctx where
  state     : Nat
  cmd       : Nat
  key       : Nat
  result    : Nat
  area      : Nat
  size      : Nat
  timeout   : Nat
  limit     : Nat
  tenant    : Nat
  split     : Nat
  aging     : Nat
  thread    : Nat
  placement : Tab (BitVec 16)
  code      : List W32
  stream    : List W32
  regions   : Tab (BitVec 128)
  phase     : BitVec 4
  mapCount  : Nat
  maps      : Tab (Tab (BitVec 128))
  ranks     : Tab (BitVec 16)
  tr        : Transition
  pages     : Tab Place
  priv      : List Nat
  shared    : Tab (Nat × Nat)
  rising    : List (Nat × Nat)
  mapld     : List MapldJob
  staged    : List Stage
  live      : Tab (List W64)
  rel       : Tab (Tab Nat)
  relFar    : Tab (List (Tab Nat))
  buffers   : Tab (BitVec 256)
  swaps     : Tab Nat
  swapsAt   : Tab Nat
  binding   : Tab (BitVec 16)
  vectors   : Tab W32
  res       : Tab Resid
  tiles     : Tab Tile
  queue     : List QEntry
  tasks     : List Task
  nextTask  : Nat
  thr       : Thread
  haltRec   : Bool
  started   : Bool
  ctr       : Tab Nat
  coreCtr   : Tab Nat
  chf       : Tab W64
  refused   : List Nat
  bufBytes  : Tab Nat
  bufStall  : Tab Nat
  safept    : List SafePt
  saveAt    : Nat
  short     : Bool
  overdue   : Bool
  record    : Option SaveRecord
  deriving DecidableEq, Repr

/-- A key slot (R322), with the count of keys it has held. -/
structure KeySlot where
  state  : Nat
  tenant : Nat
  key    : BitVec 256
  epoch  : Nat
  deriving DecidableEq, Repr

/-- An L2 line (R170, R332): the line of backing, the tenant it counts to, whether it is pinned, its last use. -/
structure Line where
  line   : Nat
  tenant : Nat
  pinned : Bool
  use    : Nat
  deriving DecidableEq, Repr

/-- The control block of a ring in host memory (R263). -/
structure QueueCtl where
  base     : Nat
  m        : Nat
  armed    : Bool
  vector   : Nat
  producer : W32
  consumer : W32
  deriving DecidableEq, Repr

/-- A fault record (R265). -/
structure FaultRec where
  kind  : Nat
  cause : Nat
  ctx   : Nat
  tenant : Nat
  core  : Nat
  phys  : Nat
  addr  : W64
  info  : W64
  at_   : W64
  time  : Nat
  deriving DecidableEq, Repr

/-- An outstanding page request (R264, R292); whether its transition is superseded, failed or saved, so that its answer is
discarded (R280). -/
structure PageReq where
  slot   : Nat
  gen    : W32
  ctx    : Nat
  kind   : Nat
  page   : Nat
  pool   : Nat
  dead   : Bool := false
  deriving DecidableEq, Repr

/-- A BAR2 window select (R342). -/
structure Bar2 where
  ctx   : Nat
  valid : Bool
  base  : Nat
  deriving DecidableEq, Repr

/-- A packet whose flits go out on a link (R353): the device's own or one it passes on, its destination, how many of its flits have
gone. -/
structure Sending where
  own  : Bool
  dest : Nat
  pkt  : Packet
  n    : Nat
  deriving DecidableEq, Repr

/-- A fabric link (R337, R353, R354): width, the lanes that fail, whether the spare carries one, whether it is paused,
the sequence numbers, whether a nak is owed, whether it trains after having been down, the replay buffer, its counters
(R327); the packet it is sending, the payloads of the packet it is receiving. -/
structure Link where
  width     : Nat
  lanes     : BitVec 17
  spare     : Bool
  spareOk   : Bool
  paused    : Bool
  waitHost  : Bool
  sendSeq   : BitVec 12
  recvSeq   : BitVec 12
  nakSent   : Bool
  nakDue    : Bool
  recover   : Bool
  replay    : List Flit
  resend    : List Flit
  sending   : Option Sending
  got       : List Nat
  flits     : Nat
  replays   : Nat
  failovers : Nat
  retrains  : Nat
  deriving DecidableEq, Repr

/-- What the device answers to a host access or configuration request: whom (64 + a function), the status (0; 1 Unsupported Request; 2
Configuration Request Retry Status), the bytes, whether they are poisoned. -/
structure Answer where
  dest     : Nat
  status   : Nat
  data     : Vec
  poisoned : Bool
  deriving DecidableEq, Repr

/-- A packet of the device that has left it and is not acknowledged (R225): its flow and class, and the routing version stamped on it. -/
structure Sent where
  dev  : Nat
  ctx  : Nat
  core : Nat
  chan : Nat
  rc   : Nat
  ver  : Nat
  deriving DecidableEq, Repr

/-- An AtomicOp of the host that waits for its page to be promoted (R341, R351): the function, the context and address, the operation. -/
structure HostAtom where
  fn   : Nat
  ctx  : Nat
  va   : Nat
  op   : HostOp
  size : Nat
  x    : Nat
  y    : Nat
  deriving DecidableEq, Repr

/-- The management mailbox's control words (R343). -/
structure Mailbox where
  command : Nat
  tag     : Nat
  status  : Nat
  rtag    : Nat
  vector  : Nat
  deriving DecidableEq, Repr

/-- The whole device. The last six fields are the model's own (INVENTORY.md): the count free values are drawn with,
the agenda, the agent and slot and bundle header that exec reads, and the operand the broadcast port carries. -/
structure State where
  cores     : Tab Core
  ctxs      : Tab Ctx
  mem       : Memory
  hostMem   : Memory
  mgmtMem   : Memory
  mboxMem   : Memory
  tenants   : Tab (BitVec 128)
  quotas    : Tab (BitVec 16)
  owner     : Tab (BitVec 16)
  rota      : Tab Byte
  rotaBank  : Nat
  rotaPend  : Bool
  rotaAt    : Nat
  rotaDone  : Bool
  routes    : Tab W32
  rstate    : Tab Nat
  rflight   : Tab Nat
  rsel      : Nat
  keys      : Tab KeySlot
  marks     : Tab W32
  cycle     : Nat
  tickets   : Nat
  l2        : Tab Line
  l2fill    : Tab Nat
  conflicts : Tab Nat
  flowsOff  : List Nat
  faultQ    : QueueCtl
  pageQ     : QueueCtl
  held      : List FaultRec
  lost      : Nat
  poolBase  : Nat
  poolSize  : Nat
  poolArmed : Bool
  ansBase   : Nat
  ansCount  : Nat
  ansArmed  : Bool
  reqs      : List PageReq
  reqGens   : Tab W32
  reqCtx    : Tab Nat
  answers   : List Nat
  demoting  : List Nat
  passed    : List (Nat × Nat)
  discarded : Nat
  winStatus : W64
  ctxSel    : Nat
  bar2      : Tab Bar2
  barSize   : Tab Nat
  vfs       : Nat
  vfTenant  : Tab Nat
  firmware  : Nat
  spdm      : Nat
  ide       : BitVec 256
  mbox      : Mailbox
  mwinBase  : Nat
  mwinSize  : Nat
  cxl       : List Nat
  yieldDef  : Nat
  links     : Tab Link
  linkPol   : Tab Byte
  eventPol  : Tab Byte
  stopped   : Bool
  powered   : Bool
  bootStep  : Nat
  bootOut   : Nat
  bootPart  : Nat
  msix      : List Nat
  out       : List Packet
  unacked   : List Sent
  transit   : List (Nat × Packet)
  paths     : Tab (Nat × Nat × Nat)
  aux       : Tab Nat
  waiting   : List Packet
  hostOps   : List HostAtom
  replies   : List Answer
  poison    : List Nat
  ats       : List Nat
  telemetry : Tab Nat
  loadFail  : Option (Nat × Nat)
  freeCtr   : Nat
  agenda    : List Turn
  cur       : Agent
  slot      : Nat
  header    : W32
  deriving DecidableEq, Repr

/-- Why the model stops. -/
inductive Fault where
  /-- The host's event policy powered the module off (R355): nothing runs while the module is unpowered (R13), until
  POWER_ON_RESET. Raised by step and by every meaning but that of POWER_ON_RESET. Safe: the module does nothing more. -/
  | unpowered
  deriving DecidableEq, Repr

/-- Why the model has no meaning to give. -/
inductive Refusal where
  /-- An instruction whose meaning is not in the model yet, by its mnemonic in the opcode table. Raised by an arm of
  exec only. Safe: nothing is claimed of it. -/
  | notModelled (mnemonic : String)
  deriving DecidableEq, Repr

/-- A shape register copy with every field zero (R141). -/
def Shape.zero : Shape := { base := 0, ext := 0, st1 := 0, st2 := 0, fmt := 0, tag := 0, rc := 0, bar := 0 }

/-- A sticky record that holds no exception (R141). -/
def Sticky.zero : Sticky := { flags := 0, count := 0, addr := 0, stamp := 0 }

/-- An empty loop stack with both bases zero (R100). -/
def Sequencer.zero : Sequencer := { loops := [], vrb := 0, prb := 0 }

/-- A trap record of zeros (R141). -/
def TrapRegs.zero : TrapRegs := { cause := 0, bundle := 0, mask := 0, addr := 0, info := 0 }

/-- A FREE bank that nothing has held (R157). -/
def Bank.zero : Bank := { state := .free, task := 0, held := 0 }

/-- A residency slot at reset: FREE, not held, generation 1 (R296). -/
def Resid.zero : Resid :=
  { state := 0, pin := false, held := false, gen := 1, rgen := 0, fmt := 0, k := 0, charge := 0, status := 0,
    src := 0, loaded := false }

/-- A core that belongs to no context, at module reset. -/
def Core.zero : Core :=
  { ctx := none, lcore := 0, run := .idle, task := 0, s := [], p := [], v := [], pc := 0, seq := Sequencer.zero,
    steward := false, trap := TrapRegs.zero, stewSeq := Sequencer.zero, active := [], shadow := [], sticky := [],
    klprg := 0, spill := [], spad := [], fullEmpty := [], banks := [], acc := [], accCtx := none, flights := [],
    board := [], loom := [], loomFree := 0, lmmar := [], chans := [], addrQ := [], scaleQ := [], scaleOp := false, sclds := [],
    optu := none, pstw := [], rloads := [], pubds := [], granules := [], left := [], l1 := [], icache := [], seen := [], ownPubs := [],
    nextIssue := 0, lastWord := 0, miss := false, lePend := false, trapPend := none, atPadv := false,
    padvDone := false, padvRetry := false, padvFail := none, yieldReq := false, atSafe := false, stallSeen := false }

/-- The transition state with no target pending (R267). -/
def Transition.zero : Transition :=
  { pend := false, fail := false, ready := false, mfail := false, tgt := 0, failAddr := 0, failWhy := 0, work := [] }

/-- A stream thread with every register zero (R241). -/
def Thread.zero : Thread :=
  { s := [], p := [], pc := 0, last := 0, fixed := none, halted := false, haltAt := 0, nextAt := 0 }

/-- A context number with no context loaded (R340 state 0). -/
def Ctx.zero : Ctx :=
  { state := 0, cmd := 0, key := 0, result := 0, area := 0, size := 0, timeout := 0, limit := 0, tenant := 0,
    split := 0, aging := 0, thread := 0, placement := [], code := [], stream := [], regions := [], phase := 0,
    mapCount := 1, maps := [], ranks := [], tr := Transition.zero, pages := [], priv := [], shared := [], rising := [],
    mapld := [], staged := [], live := [], rel := [], relFar := [], buffers := [], swaps := [], swapsAt := [], binding := [], vectors := [], res := [],
    tiles := [], queue := [], tasks := [], nextTask := 1, thr := Thread.zero, haltRec := false, started := false,
    ctr := [], coreCtr := [], chf := [], refused := [], bufBytes := [], bufStall := [], safept := [], saveAt := 0, short := false, overdue := false,
    record := none }

/-- An EMPTY key slot (R322). -/
def KeySlot.zero : KeySlot := { state := 0, tenant := 0, key := 0, epoch := 0 }

/-- A ring that the host has not armed (R263). -/
def QueueCtl.zero : QueueCtl := { base := 0, m := 0, armed := false, vector := 0, producer := 0, consumer := 0 }

/-- A window select that shows nothing (R342). -/
def Bar2.zero : Bar2 := { ctx := 0, valid := false, base := 0 }

/-- A fabric link after training at full width (R337, R358 step 4; log 3). -/
def Link.zero : Link :=
  { width := 16, lanes := 0, spare := false, spareOk := true, paused := false, waitHost := false, sendSeq := 0,
    recvSeq := 0, nakSent := false, nakDue := false, recover := false, replay := [], resend := [], sending := none, got := [], flits := 0, replays := 0, failovers := 0,
    retrains := 0 }

/-- The device right after module reset (R358 step 1), brought up and with no context loaded (log 3). -/
def State.reset : State :=
  { cores := [], ctxs := [], mem := Memory.empty, hostMem := Memory.empty, mgmtMem := Memory.empty,
    mboxMem := Memory.empty, tenants := [], quotas := [], owner := [], rota := [], rotaBank := 0, rotaPend := false, rotaAt := 0,
    rotaDone := false, routes := [], rstate := [], rflight := [], rsel := 0, keys := [], marks := [], cycle := 0,
    tickets := 0, l2 := [], l2fill := [], conflicts := [], flowsOff := [], faultQ := QueueCtl.zero,
    pageQ := QueueCtl.zero, held := [], lost := 0, poolBase := 0, poolSize := 0, poolArmed := false, ansBase := 0,
    ansCount := 0, ansArmed := false, reqs := [], reqGens := [], reqCtx := [], answers := [], demoting := [], passed := [], discarded := 0, winStatus := 0,
    ctxSel := 0, bar2 := [], barSize := [], vfs := 0, vfTenant := [], firmware := 0, spdm := 0, ide := 0, mbox := { command := 0, tag := 0, status := 1, rtag := 0, vector := 0 }, mwinBase := 0,
    mwinSize := 0, cxl := [], yieldDef := 0, links := [], linkPol := [], eventPol := [], stopped := false,
    powered := true, bootStep := 5, bootOut := 0, bootPart := 0, msix := [], out := [], unacked := [], transit := [], paths := [], aux := [], waiting := [], hostOps := [], replies := [], poison := [], ats := [],
    telemetry := [], loadFail := none, freeCtr := 0, agenda := [], cur := .core 0, slot := 0, header := 0 }

end Sys2Proof.Machine
end

