-- ==== Sys2Proof/Machine/Lanes.lean ====
section
/-!
DEFINITION. Machine/Lanes.lean: the views of a vector register (R123), elements and lanes, and the Loom's arithmetic on
one row (R28 to R33, R44 to R46, R181, R185).
-/

namespace Sys2Proof.Machine

/-- Element `j` of `z` bits of a register or row (R123). -/
def elem (v : Vec) (z j : Nat) : Nat := v.toNat / 2 ^ (z * j) % 2 ^ z

/-- The little-endian number of `n` elements of `z` bits, and every flag an element raises. -/
def gather (z : Nat) (f : Nat → Nat × Flags) : Nat → Nat × Flags
  | 0 => (0, 0)
  | n + 1 =>
    let r := gather z f n
    let x := f n
    (r.1 + x.1 % 2 ^ z * 2 ^ (z * n), r.2 ||| x.2)

/-- The number of elements of a view (R123). -/
def viewLen (f : Nat) : Nat := 4096 / fmtBits f

/-- The lane of element `j` of a view (R123). -/
def laneOf (f j : Nat) : Nat := j * fmtBytes f / 4

/-- Lane `i` of a predicate (R100). -/
def laneBit (p : Pred) (i : Nat) : Bool := p.getLsbD i

/-- A register built element by element: an element of a guarded-on lane from `op`, any other from the old register
(R125). -/
def mapLanes (f : Nat) (g : Pred) (old : Vec) (op : Nat → Nat × Flags) : Vec × Flags :=
  let r := gather (fmtBits f) (fun j => if laneBit g (laneOf f j) then op j else (elem old (fmtBits f) j, 0)) (viewLen f)
  (BitVec.ofNat 4096 r.1, r.2)

/-- The value every element of a view takes from the broadcast port (R54). -/
def portElem (f : Nat) (x : W64) : Nat := x.toNat % 2 ^ fmtBits f

/-- All the lanes of a predicate set, or none (R110). -/
def predAll (b : Bool) : Pred := if b then BitVec.allOnes 128 else 0

/-- A predicate built lane by lane. -/
def predOf (f : Nat → Bool) : Pred :=
  BitVec.ofNat 128 (gather 1 (fun i => (if f i then 1 else 0, 0)) 128).1

/-- Byte `i` of a tile. -/
def Tile.byte (t : Tile) (i : Nat) : Nat := t.bytes / 2 ^ (8 * i) % 256

/-- The rate of an activation and weight pair (R181): 0 when the pair is not one of R44. -/
def pairRate (a w : Nat) : Nat :=
  if (a = 1 ∨ a = 2) ∧ (w = 1 ∨ w = 2) then 1
  else if a = 3 ∧ (w = 3 ∨ w = 9) then 2
  else if a = 1 ∧ w = 8 then 2
  else if a = 3 ∧ w = 8 then 4
  else 0

/-- The stored size of a tile in bytes (R30, R32, R33). -/
def tileBytes (fmt k : Nat) : Nat :=
  if fmt = 8 then k / 128 * 8464
  else if fmt = 9 then k / 128 * 12560
  else k * 128 * fmtBytes fmt

/-- The magnitudes of Q4G times 256 (R28). -/
def q4gMag (m : Nat) : Nat :=
  if m = 0 then 0 else if m = 1 then 23 else if m = 2 then 47 else if m = 3 then 73 else if m = 4 then 102
  else if m = 5 then 135 else if m = 6 then 176 else 256

/-- The weight value of row `k`, column `n` of a tile: the element of a plain tile, the code value of a quantised one
(R28, R29, R31 to R33). -/
def Tile.weight (t : Tile) (k n : Nat) : Fp :=
  if t.fmt = 8 then
    let q := k / 64 * 128 + n
    let e := k % 64
    let b := t.byte (8464 * (q / 256) + 32 * (q % 256) + e / 2)
    let c := if e % 2 = 0 then b % 16 else b / 16
    .fin (c / 8 == 1 && c % 8 != 0) (q4gMag (c % 8)) (-8)
  else if t.fmt = 9 then
    let q := k / 64 * 128 + n
    let e := k % 64
    let c := t.bytes / 2 ^ (8 * (12560 * (q / 256) + 48 * (q % 256)) + 6 * e) % 64
    if 32 ≤ c then .fin true (64 - c) (-5) else .fin false c (-5)
  else
    fpOf t.fmt (t.bytes / 2 ^ (fmtBits t.fmt * (128 * k + n)) % 2 ^ fmtBits t.fmt)

/-- The block scale of row `k`, column `n` of a quantised tile (R30): c_b × 2^−8 × S; 1 for plain tiles. -/
def Tile.scale (t : Tile) (k n : Nat) : Fp × Flags :=
  if t.fmt = 8 ∨ t.fmt = 9 then
    let q := k / 64 * 128 + n
    let size := if t.fmt = 8 then 8464 else 12560
    let codes := if t.fmt = 8 then 8192 else 12288
    let cb := t.byte (size * (q / 256) + codes + q % 256)
    let s := fpOf 0 (t.bytes / 2 ^ (8 * (size * (q / 256) + codes + 256)) % 2 ^ 32)
    fpMul (.fin false cb (-8)) s
  else (.fin false 1 0, 0)

/-- The exact sum of a chunk's products (R45): `n` products from `e0`. -/
def chunkSum (t : Tile) (fa kofs : Nat) (arow : Vec) (col e0 : Nat) : Nat → Fp × Flags
  | 0 => (.fin true 0 0, 0)
  | n + 1 =>
    let r := chunkSum t fa kofs arow col e0 n
    let p := fpMul (fpOf fa (elem arow (fmtBits fa) (e0 + n))) (t.weight (kofs + e0 + n) col)
    let x := fpAdd 0 r.1 p.1
    (x.1, r.2 ||| p.2 ||| x.2)

/-- Some product of the first `n` of a chunk is the infinity of a sign (R46). -/
def chunkInf (t : Tile) (fa kofs : Nat) (arow : Vec) (col e0 : Nat) (neg : Bool) : Nat → Bool
  | 0 => false
  | n + 1 =>
    chunkInf t fa kofs arow col e0 neg n
      || (fpMul (fpOf fa (elem arow (fmtBits fa) (e0 + n))) (t.weight (kofs + e0 + n) col)).1 == .inf neg

/-- The sum of a chunk with its flags: +∞ and −∞ among the products raise invalid wherever they stand, a NaN before them
included (R45, R46). -/
def chunkTotal (t : Tile) (fa kofs : Nat) (arow : Vec) (col e0 n : Nat) : Fp × Flags :=
  let r := chunkSum t fa kofs arow col e0 n
  if isNan r.1 && chunkInf t fa kofs arow col e0 false n && chunkInf t fa kofs arow col e0 true n
  then (r.1, r.2 ||| flagInvalid) else r

/-- The value `u` of chunk `j` (R45, R185): its one rounding to F32. -/
def chunkValue (t : Tile) (fa kofs len : Nat) (arow : Vec) (scales : Option (List (BitVec 16))) (c m col j : Nat) :
    Nat × Flags :=
  let s := chunkTotal t fa kofs arow col (64 * j) (min 64 (len - 64 * j))
  let f := t.scale (kofs + 64 * j) col
  let g :=
    match scales with
    | none => f
    | some l =>
      let a := fpMul f.1 (fpOf 1 (l.getD (m * c + j) 0).toNat)
      (a.1, f.2 ||| a.2)
  let x := fpMul s.1 g.1
  let o := fpRound 0 0 false x.1
  (o.1, s.2 ||| g.2 ||| x.2 ||| o.2)

/-- The chunks of one output element accumulated in order (R45): the first overwrites when `first`. -/
def chunkAcc (u : Nat → Nat × Flags) (first : Bool) (acc : Nat) : Nat → Nat × Flags
  | 0 => (acc, 0)
  | j + 1 =>
    let r := chunkAcc u first acc j
    let x := u j
    if first ∧ j = 0 then (x.1, x.2)
    else
      let a := fpAdd 0 (fpOf 0 r.1) (fpOf 0 x.1)
      let o := fpRound 0 0 false a.1
      (o.1, r.2 ||| x.2 ||| a.2 ||| o.2)

/-- The chunks of a window of `len` rows (R185). -/
def chunks (len : Nat) : Nat := (len + 63) / 64

/-- One accumulator row after an activation row has streamed (R185). -/
def loomRow (t : Tile) (fa kofs len : Nat) (arow acc : Vec) (scales : Option (List (BitVec 16))) (m : Nat)
    (first : Bool) : Vec × Flags :=
  let c := chunks len
  let r := gather 32 (fun n =>
    chunkAcc (fun j => chunkValue t fa kofs len arow scales c m n j) first (elem acc 32 n) c) 128
  (BitVec.ofNat 4096 r.1, r.2)

end Sys2Proof.Machine
end

