-- ==== Sys2Proof/Machine/Flags.lean ====
section
/-!
DEFINITION. Machine/Flags.lean: the exception flags of instructions and the sticky records they land in (R47, R48, R107,
R148).
-/

namespace Sys2Proof.Machine

/-! ### Sticky records (R48, R148) -/

/-- A sticky record after the flags of one instruction have landed (R48). -/
def Sticky.add (k : Sticky) (fl : Flags) (bundle : W32) (issue : Nat) : Sticky :=
  if fl = 0 then k
  else
    let older := k.count = 0 ∨ issue < k.stamp
    { flags := k.flags ||| fl
      count := if k.count = BitVec.allOnes 24 then k.count else k.count + 1
      addr := if older then bundle else k.addr
      stamp := if older then issue else k.stamp }

/-- A core after the flags of an instruction of a slot have landed. -/
def landFlags (c : Core) (slot : Nat) (fl : Flags) (bundle : W32) (issue : Nat) : Core :=
  { c with sticky := Tab.upd Sticky.zero c.sticky slot (fun k => k.add fl bundle issue) }

/-- The value of a sticky record as EXRD returns it (R148). -/
def Sticky.word (k : Sticky) : W64 :=
  k.addr.setWidth 64 <<< 32 ||| k.count.setWidth 64 <<< 8 ||| k.flags.setWidth 64

/-- The flag of an integer division (R107): divide-by-zero when the divisor is zero. -/
def divFlag (y : Nat) : Flags := if y = 0 then flagDivZero else 0

end Sys2Proof.Machine
end

