-- ==== Sys2Proof/Machine/Ops.lean ====
section
/-!
DEFINITION. Machine/Ops.lean: the named operations over the state: cores and contexts, registers, results in flight and
their landing (R70 to R72), sticky records (R48), fault records (R263, R265), a fatal context error (R3), and the one
operation by which a core takes an exception (R154), with the return from it (R155).
-/

namespace Sys2Proof.Machine

/-! ### Cores, contexts, agents -/

/-- Core `p` by physical number. -/
def State.core (s : State) (p : Nat) : Core := Tab.get Core.zero s.cores p

/-- The state with core `p` replaced. -/
def State.setCore (s : State) (p : Nat) (c : Core) : State := { s with cores := Tab.set s.cores p c }

/-- The state with core `p` changed. -/
def State.onCore (s : State) (p : Nat) (f : Core → Core) : State := s.setCore p (f (s.core p))

/-- Context `c`. -/
def State.ctx (s : State) (c : Nat) : Ctx := Tab.get Ctx.zero s.ctxs c

/-- The state with context `c` replaced. -/
def State.setCtx (s : State) (c : Nat) (x : Ctx) : State := { s with ctxs := Tab.set s.ctxs c x }

/-- The state with context `c` changed. -/
def State.onCtx (s : State) (c : Nat) (f : Ctx → Ctx) : State := s.setCtx c (f (s.ctx c))

/-- The context that a core runs; 0 when it runs none. -/
def State.ctxOf (s : State) (p : Nat) : Nat := (s.core p).ctx.getD 0

/-- The die of a physical core (R344). -/
def dieOf (p : Nat) : Nat := p / 84

/-- The physical number of a context's logical core under its placement (R20, R249); none when it has no place. -/
def physOf (x : Ctx) (lcore : Nat) : Option Nat :=
  let e := Tab.get (0 : BitVec 16) x.placement (lcore / 4)
  if e.getLsbD 15 then some (84 * (lcore / 4 / 20) + 4 * (e.toNat % 32) + lcore % 4) else none

/-- The physical cores of the logical cores of a context, of those numbered below 320. -/
def coresOf (s : State) (c : Nat) : List Nat :=
  (s.cores.filter (fun k => k.2.ctx = some c)).map Prod.fst

/-- The field `lo .. lo + len - 1` of a double word as a number. -/
def fld (x : W64) (lo len : Nat) : Nat := x.toNat / 2 ^ lo % 2 ^ len

/-- The field of an entry of any width. -/
def bfld {n : Nat} (x : BitVec n) (lo len : Nat) : Nat := x.toNat / 2 ^ lo % 2 ^ len

/-- A signed field of `n` bits as an integer. -/
def sx {n : Nat} (x : BitVec n) : Int := x.toInt

/-! ### Register names (R103) and reads (R71) -/

/-- The physical number of a vector register name under the rotating base (R103). -/
def physV (c : Core) (n : BitVec 6) : Nat :=
  if n.toNat < 32 then n.toNat else 32 + (n.toNat - 32 + c.seq.vrb.toNat) % 32

/-- The physical number of a predicate register name under the rotating base (R103). -/
def physP (c : Core) (n : BitVec 5) : Nat :=
  if n.toNat < 16 then n.toNat else 16 + (n.toNat - 16 + c.seq.prb.toNat) % 16

/-- The destination a scalar register name stands for; s0 discards (R100). -/
def destS (n : BitVec 6) : Dest := if n = 0 then .none else .s n.toNat

/-- The destination a predicate register name stands for; p0 discards (R100). -/
def destP (c : Core) (n : BitVec 5) : Dest := if n = 0 then .none else .p (physP c n)

/-- The destination a vector register name stands for. -/
def destV (c : Core) (n : BitVec 6) : Dest := .v (physV c n)

/-- A code of a destination, to draw free values by. -/
def Dest.code : Dest → Nat
  | .none => 0
  | .s k => 4 * k + 1
  | .p k => 4 * k + 2
  | .v k => 4 * k + 3
  | .acc r => 4 * r + 4

/-- A bounded write to the destination is still pending (R71). -/
def pending (c : Core) (d : Dest) : Bool := c.flights.any (fun f => decide (f.dest = d))

/-- A scoreboarded write to the destination has not arrived (R72). -/
def awaited (c : Core) (d : Dest) : Bool := d != .none && c.board.any (fun a => decide (a.dest = d))

/-- The landed value of an s-register (R100). -/
def Core.sreg (c : Core) (k : Nat) : W64 := if k = 0 then 0 else Tab.get 0 c.s k

/-- The landed value of a p-register (R100). -/
def Core.preg (c : Core) (k : Nat) : Pred := if k = 0 then BitVec.allOnes 128 else Tab.get 0 c.p k

/-- The landed value of a v-register (R122). -/
def Core.vreg (c : Core) (k : Nat) : Vec := Tab.get 0 c.v k

/-- Read an s-register of core `p`: s0 is zero (R100); another is undefined while a bounded write to it is pending (R71). -/
def readS (s : State) (p : Nat) (n : BitVec 6) : W64 :=
  if n = 0 then 0
  else if pending (s.core p) (.s n.toNat) then (Config.undef s.freeCtr (Dest.s n.toNat).code).setWidth 64
  else (s.core p).sreg n.toNat

/-- Read a p-register of core `p` (R71, R103); p0 is all ones (R100). -/
def readP (s : State) (p : Nat) (n : BitVec 5) : Pred :=
  let k := physP (s.core p) n
  if n = 0 then BitVec.allOnes 128
  else if pending (s.core p) (.p k) then (Config.undef s.freeCtr (Dest.p k).code).setWidth 128
  else (s.core p).preg k

/-- Read a v-register of core `p` (R71, R103). -/
def readV (s : State) (p : Nat) (n : BitVec 6) : Vec :=
  let k := physV (s.core p) n
  if pending (s.core p) (.v k) then Config.undef s.freeCtr (Dest.v k).code else (s.core p).vreg k

/-- An acc row is still to be written by a Loom instruction in flight (R186, R194). -/
def loomPending (c : Core) (row : Nat) : Bool :=
  c.loom.any (fun j => decide (j.base + j.done ≤ row) && decide (row < j.base + j.rows))

/-- The landed value of an acc row (R178). -/
def Core.accRow (c : Core) (row : Nat) : Vec := Tab.get 0 c.acc row

/-- Read an acc row of core `p` from the V slot or the Carter (R194). -/
def readAcc (s : State) (p row : Nat) : Vec :=
  let c := s.core p
  if pending c (.acc row) || loomPending c row then Config.undef s.freeCtr (Dest.acc row).code else c.accRow row

/-- Read an s-register of an agent; a stream thread's registers are never pending (R243). -/
def readAS (s : State) (a : Agent) (n : BitVec 6) : W64 :=
  match a with
  | .core p => readS s p n
  | .thread c => if n = 0 then 0 else Tab.get 0 (s.ctx c).thr.s n.toNat

/-- Read a p-register of an agent; a stream thread's predicates do not rotate (R243). -/
def readAP (s : State) (a : Agent) (n : BitVec 5) : Pred :=
  match a with
  | .core p => readP s p n
  | .thread c => if n = 0 then BitVec.allOnes 128 else Tab.get 0 (s.ctx c).thr.p n.toNat

/-! ### Results in flight -/

/-- A register file after a value is written; s0 and p0 have no destination (R100). -/
def writeDest (c : Core) (d : Dest) (x : Vec) : Core :=
  match d with
  | .none => c
  | .s k => { c with s := Tab.put 0 c.s k (x.setWidth 64) }
  | .p k => { c with p := Tab.put 0 c.p k (x.setWidth 128) }
  | .v k => { c with v := Tab.put 0 c.v k x }
  | .acc r => { c with acc := Tab.put 0 c.acc r x }

/-- A flight lands in core `p` (R70): the value goes to the destination it named at issue and its flags to the record of
its slot. After an overlapping write has landed, which of the two remains is a free choice (R71); a row of R194 is left
undefined. Other flights to the same destination are late from then on. -/
def landFlight (n : Nat) (c : Core) (f : Flight) : Core :=
  let keep := f.late && Config.pick n f.dest.code % 2 == 1
  let x := if f.free then Config.undef n f.dest.code else f.val
  let c := if keep then c else writeDest c f.dest x
  let c := landFlags c f.slot f.flags f.bundle f.issue
  { c with flights := c.flights.map (fun g => if f.dest != .none && g.dest = f.dest then { g with late := true } else g) }

/-- Every flight of the core that `due` selects lands, in order of issue; `fuel` bounds the number. -/
def landWhere (n : Nat) (due : Flight → Bool) : Nat → Core → Core
  | 0, c => c
  | k + 1, c =>
    match c.flights.find? due with
    | none => c
    | some f =>
      landWhere n due k (landFlight n { c with flights := c.flights.erase f } f)

/-- One row of the core's oldest Loom instruction lands (R185, R186). The activation row is the one of issue, or, while
the reading interval of R186 lasts, the one in `now` when it is given. -/
def landLoomRow (n : Nat) (now : Option Vec) (c : Core) : Core :=
  match c.loom with
  | [] => c
  | j :: rest =>
    let row := j.base + j.done
    let a := match now with
      | some x => x
      | none => j.acts.getD j.done 0
    let r := loomRow j.tile j.fmt j.kofs j.len a (c.accRow row) (if j.sq then some j.scales else none) j.done j.first
    let x := if j.clash.contains row then Config.undef n (Dest.acc row).code else r.1
    let fl := j.flags ||| r.2
    let c := { c with acc := Tab.put 0 c.acc row x }
    if j.done + 1 = j.rows then
      landFlags { c with loom := rest } 4 fl j.bundle j.issue
    else { c with loom := { j with done := j.done + 1, flags := fl } :: rest }

/-- Loom rows land while the bound of the next one is reached by `t` (R179); `fuel` bounds the number. -/
def landLoomDue (n t : Nat) : Nat → Core → Core
  | 0, c => c
  | k + 1, c =>
    match c.loom with
    | [] => c
    | j :: _ => if j.issue + j.done + 201 ≤ t then landLoomDue n t k (landLoomRow n none c) else c

/-- Every Loom row lands. -/
def landLoomAll (n : Nat) : Nat → Core → Core
  | 0, c => c
  | k + 1, c =>
    match c.loom with
    | [] => c
    | _ :: _ => landLoomAll n k (landLoomRow n none c)

/-- The Loom rows still to land. -/
def loomLeft (c : Core) : Nat := (c.loom.map (fun j => j.rows - j.done)).sum

/-- Scales that leave an SCLD go to the Loom instructions that have still to take some, in issue order, and else to the queue's tail
(R259). -/
def giveScales : List LoomJob → List (BitVec 16) → List LoomJob × List (BitVec 16)
  | [], l => ([], l)
  | j :: r, l =>
    let t := giveScales r (l.drop j.owed)
    ({ j with scales := j.scales ++ l.take j.owed, owed := j.owed - l.length } :: t.1, t.2)

/-- The scales of an SCLD join the queue of a core. -/
def joinScales (l : List (BitVec 16)) (c : Core) : Core :=
  let g := giveScales c.loom l
  { c with loom := g.1, scaleQ := c.scaleQ ++ g.2 }

/-- The scales of the SCLDs whose bound is reached join the queue, in SCLD issue order (R259); `fuel` bounds the number. -/
def landScales (t : Nat) : Nat → Core → Core
  | 0, c => c
  | k + 1, c =>
    match c.sclds with
    | [] => c
    | j :: r => if j.issue + 8 ≤ t then landScales t k (joinScales j.scales { c with sclds := r }) else c

/-- Every outstanding SCLD's scales join the queue. -/
def landScldAll (c : Core) : Core :=
  { c.sclds.foldl (fun k (j : ScldJob) => joinScales j.scales k) c with sclds := [] }

/-- Every result of the core whose bound is reached by cycle `t` has landed (R70); scales first, which Loom rows may wait for. -/
def landDue (n t : Nat) (c : Core) : Core :=
  let c := landScales t c.sclds.length (landWhere n (fun f => decide (f.due ≤ t)) c.flights.length c)
  landLoomDue n t (loomLeft c) c

/-- Every bounded result, scale and Loom row of the core lands (R154 steps 2 to 4, R121). -/
def landAll (n : Nat) (c : Core) : Core :=
  let c := landScldAll (landWhere n (fun _ => true) c.flights.length c)
  landLoomAll n (loomLeft c) c

/-- Two accesses to one acc row overlap with a V-slot write: its value is left undefined (R194). -/
def clashAcc (c : Core) (rows : Nat → Bool) : Core :=
  { c with flights := c.flights.map (fun f => match f.dest with
      | .acc r => if rows r then { f with free := true } else f
      | _ => f) }

/-- A write to accumulator rows is issued while a CTOPK that names one of them has not completed: the records of that
row are left undefined (R208). A CTOPK keeps its first accumulator row in `off` and its row count in `dst`. -/
def markTopk (rows : Nat → Bool) (c : Core) : Core :=
  { c with chans := Tab.mapVal c.chans (fun (l : List Copy) => l.map (fun (j : Copy) =>
      if j.kind = .ctopk
      then { j with free := j.free ++ (List.range (fld j.dst.ext 32 32)).filter (fun m => rows (j.off.toNat + m)) }
      else j)) }

/-- A flight is added to the core (R70); a write to an acc row meets R194 against what is pending there. -/
def addFlight (c : Core) (f : Flight) : Core :=
  match f.dest with
  | .acc r =>
    let hit := pending c f.dest || loomPending c r
    let c := markTopk (fun k => k == r) (clashAcc c (fun k => k == r))
    let c := { c with loom := c.loom.map (fun (j : LoomJob) =>
      if j.base + j.done ≤ r ∧ r < j.base + j.rows then { j with clash := r :: j.clash } else j) }
    { c with flights := c.flights ++ [{ f with free := f.free || hit }] }
  | _ => { c with flights := c.flights ++ [f] }

/-- An instruction's result on its way, or, in a stream thread, in place (R243). -/
def emit (a : Agent) (slot : Nat) (d : Dest) (x : Vec) (lat : Nat) (fl : Flags) (s : State) : State :=
  match a with
  | .core p =>
    s.onCore p (fun c =>
      if d = .none ∧ fl = 0 then c
      else
        addFlight c { dest := d, val := x, issue := s.cycle, due := s.cycle + lat, flags := fl, slot := slot,
                      bundle := BitVec.ofInt 32 c.pc, late := false, free := false })
  | .thread c =>
    s.onCtx c (fun y => { y with thr :=
      match d with
      | .s k => { y.thr with s := Tab.put 0 y.thr.s k (x.setWidth 64) }
      | .p k => { y.thr with p := Tab.put 0 y.thr.p k (x.setWidth 128) }
      | _ => y.thr })

/-! ### Fault records (R263, R265) -/

/-- The 64 bytes of a fault record (R265), with the count of records lost before it. -/
def FaultRec.word (r : FaultRec) (lost : Nat) : Nat :=
  r.kind + r.cause * 2 ^ 16 + r.ctx * 2 ^ 32 + r.tenant * 2 ^ 40 + r.core * 2 ^ 48 + r.phys * 2 ^ 64
    + lost % 2 ^ 32 * 2 ^ 96 + r.addr.toNat * 2 ^ 128 + r.info.toNat * 2 ^ 192 + r.at_.toNat * 2 ^ 256
    + r.time % 2 ^ 64 * 2 ^ 320

/-- The ring may take a record: armed and not full (R263). -/
def QueueCtl.open (q : QueueCtl) : Bool := q.armed && (q.producer - q.consumer).toNat < 2 ^ q.m

/-- A record of `n` bytes goes into a ring: written whole, then the producer advances, then the vector is raised
(R263). -/
def ringWrite (q : QueueCtl) (mem : Memory) (n v : Nat) : QueueCtl × Memory :=
  ({ q with producer := q.producer + 1 }, mem.write (q.base + q.producer.toNat % 2 ^ q.m * n) n v)

/-- A fault record is written to its ring, or kept in the holding area, or, beyond 256, counted (R263). -/
def postFault (r : FaultRec) (s : State) : State :=
  if s.faultQ.open && s.held.isEmpty then
    let w := ringWrite s.faultQ s.hostMem 64 (r.word s.lost)
    { s with faultQ := w.1, hostMem := w.2, lost := 0, msix := s.msix ++ [s.faultQ.vector] }
  else if s.held.length < 256 then { s with held := s.held ++ [r] }
  else { s with lost := s.lost + 1 }

/-- The physical place of a core as a fault record names it (R265): die, physical cluster, core in cluster. -/
def physWord (p : Nat) : Nat := dieOf p * 512 + p % 84 / 4 * 16 + p % 4

/-- A fault record about a context, with no core. -/
def ctxRecord (s : State) (kind cause c : Nat) (info : W64) : FaultRec :=
  { kind := kind, cause := cause, ctx := c, tenant := (s.ctx c).tenant, core := 0xFFFF, phys := 0, addr := 0,
    info := info, at_ := 0, time := s.cycle }

/-- A fault record about the device. -/
def devRecord (s : State) (kind cause : Nat) (addr info : W64) : FaultRec :=
  { kind := kind, cause := cause, ctx := 0xFF, tenant := 0xFF, core := 0xFFFF, phys := 0, addr := addr, info := info,
    at_ := 0, time := s.cycle }

/-! ### Counters (R327 to R329) -/

/-- A counter raised, stopping at the maximum of its width (R327). -/
def stopAdd (w x n : Nat) : Nat := min (x + n) (2 ^ w - 1)

/-- A context counter raised by `n` (R328, R329): k 0820h and 0823h wrap, the others stop. -/
def countCtx (c k n : Nat) (s : State) : State :=
  s.onCtx c (fun x => { x with ctr := Tab.upd 0 x.ctr k (fun v =>
    if k = 0x820 ∨ k = 0x823 then (v + n) % 2 ^ 32 else stopAdd 32 v n) })

/-- A residency counter of a context and logical core raised (R328): k 0840h to 0844h, stopping. -/
def countCore (c lcore k n : Nat) (s : State) : State :=
  s.onCtx c (fun x => { x with coreCtr := Tab.upd 0 x.coreCtr (lcore * 16 + k % 16) (fun v => stopAdd 32 v n) })

/-! ### A fatal context error (R3, R210, R293) -/

/-- The engine work of context `c` on a core is abandoned (R210), whichever context the core runs now. -/
def dropWork (c : Nat) (k : Core) : Core :=
  { k with
    chans := Tab.mapVal k.chans (fun (l : List Copy) => l.filter (fun j => j.ctx != c))
    optu := k.optu.filter (fun j => j.ctx != c)
    pstw := k.pstw.filter (fun j => j.ctx != c)
    lmmar := k.lmmar.filter (fun j => j.ctx != c)
    rloads := k.rloads.filter (fun j => j.ctx != c)
    pubds := k.pubds.filter (fun j => j.ctx != c) }

/-- A core of a context that stops: it issues nothing further. -/
def stopCore (k : Core) : Core := { k with run := .stopped, atPadv := false, trapPend := none }

/-- Every core abandons the engine work of context `c`, and stops when it runs it. -/
def stopIfOf (c : Nat) (x : Core) : Core := if x.ctx = some c then stopCore (dropWork c x) else dropWork c x

/-- A context stopped by a fatal context error: state 6, the transition cancelled, MAPLDs abandoned. -/
def stopCtx (x : Ctx) : Ctx :=
  { x with state := 6, tr := { x.tr with pend := false, ready := false, work := [] }, mapld := [], rising := [] }

/-- The page requests of an ended context are outstanding no longer (R292, R349). -/
def dropReqs (c : Nat) (l : List PageReq) : List PageReq := l.filter (fun r => r.ctx != c)

/-- The page requests of a context that stops: their answers are discarded when they come (R293, R292). -/
def deadReqs (c : Nat) (l : List PageReq) : List PageReq := l.map (fun r => if r.ctx = c then { r with dead := true } else r)

/-- The page requests of a transition of a context that is superseded, failed or saved: their answers are discarded when they come
(R280, R292); until then their slots and pool pages are taken. DEDUCED (log 82). -/
def dropMoves (c : Nat) (l : List PageReq) : List PageReq :=
  l.map (fun r => if r.ctx = c ∧ r.kind = 1 then { r with dead := true } else r)

/-- A fatal context error of context `c` (R3): every core of it stops, one kind 1 record is written, and the host alone
ends the context. A context already stopped or ended does not stop again. -/
def fatal (c : Nat) (r : FaultRec) (s : State) : State :=
  if (s.ctx c).state = 5 ∨ (s.ctx c).state = 6 ∨ (s.ctx c).state = 0 then s
  else
    let s := postFault r s
    let s := s.onCtx c stopCtx
    { s with cores := Tab.mapVal s.cores (stopIfOf c), reqs := deadReqs c s.reqs }

/-- The kind 1 record of a core's bundle (R265). -/
def coreRecord (s : State) (p cause : Nat) (addr info : W64) (at_ : W64) : FaultRec :=
  { kind := 1, cause := cause, ctx := s.ctxOf p, tenant := (s.ctx (s.ctxOf p)).tenant, core := (s.core p).lcore,
    phys := physWord p, addr := addr, info := info, at_ := at_, time := s.cycle }

/-- A fatal context error found by a core at the bundle it holds. -/
def fatalCore (p cause : Nat) (addr info : W64) (s : State) : State :=
  fatal (s.ctxOf p) (coreRecord s p cause addr info (BitVec.ofInt 64 (s.core p).pc)) s

/-- A fatal context error found by a stream thread at the word index `at_` (R244, R243, R359). -/
def fatalThread (c cause : Nat) (addr info at_ : W64) (s : State) : State :=
  fatal c { kind := 1, cause := cause, ctx := c, tenant := (s.ctx c).tenant, core := 0xFFFF, phys := 0, addr := addr,
            info := info, at_ := at_, time := s.cycle } s

/-! ### Precise traps (R154) and the return (R155) -/

/-- TINFO (R153): the argument, the slot that failed first, the detail code. -/
def trapInfo (arg : W32) (slot detail : Nat) : W64 :=
  arg.setWidth 64 <<< 32 ||| BitVec.ofNat 64 (slot % 256) <<< 24 ||| BitVec.ofNat 64 (detail % 2 ^ 16)

/-- The vector of a cause in a context's trap vector table (R324): FFFF_FFFFh where the host wrote nothing. -/
def vectorOf (x : Ctx) (cause : Nat) : W32 := Tab.get (BitVec.allOnes 32) x.vectors cause

/-- Steps 5 to 8 of R154, after the drain: in steward mode the trap is a fatal context error of cause 3; otherwise the
trap record is written, the steward flag set, the sequencer state copied, and the PC takes the vector. -/
def takeTrap (p : Nat) (q : TrapReq) (s : State) : State :=
  if (s.core p).steward then fatalCore p 3 0 0 s
  else
    let x := s.ctx (s.ctxOf p)
    let s := s.onCore p (fun c => { c with
      trap := { cause := BitVec.ofNat 64 q.cause, bundle := q.bundle.setWidth 64, mask := BitVec.ofNat 64 q.mask,
                addr := q.addr, info := trapInfo q.arg q.slot q.detail }
      steward := true
      stewSeq := c.seq
      pc := ((vectorOf x q.cause).toNat : Int)
      trapPend := none
      atPadv := false
      padvFail := none
      nextIssue := s.cycle + 1 })
    if 4 ≤ q.cause ∧ q.cause ≤ 8 then countCore (s.ctxOf p) (s.core p).lcore 0x842 1 s else s

/-- A precise trap (R154): the bounded results, Loom rows and scales of earlier bundles land; while an access is
outstanding (R223) the core issues nothing and the trap waits for PRECISE_TRAP; else it is taken. -/
def raise (p : Nat) (q : TrapReq) (s : State) : State :=
  let s := s.onCore p (landAll s.freeCtr)
  if (s.core p).board.isEmpty then takeTrap p q s
  else s.onCore p (fun c => { c with trapPend := some q })

/-! ### Loops (R117) -/

/-- Loop end of the innermost loop (R117): a taken back-edge rotates, writes p16 of a LOOPS loop under its name after
the rotation, and goes to the start; a loop exit pops. Answers the core, the next PC and the write of p16. DESIGN CHOICE
(log 60): with no loop on the stack, as after a TRET past a bundle with le, control falls through. -/
def loopEndOf (seq : Sequencer) (pc : Int) : Sequencer × Int × Option Bool :=
  match seq.loops with
  | [] => (seq, pc + 1, none)
  | e :: r =>
    if e.index.toNat + 1 < max (e.count.toNat + e.ep.toNat) 1 then
      let i := e.index + 1
      ({ loops := { e with index := i } :: r, vrb := seq.vrb - 1, prb := seq.prb - 1 }, (e.start.toNat : Int),
        if e.stg then some (decide (i.toNat < e.count.toNat)) else none)
    else ({ seq with loops := r }, pc + 1, none)

/-- The core after its pending loop end is resolved (R117); `slot` and bound as a write of the le bundle. -/
def resolveLe (t : Nat) (c : Core) : Core :=
  let r := loopEndOf c.seq c.pc
  let c' := { c with seq := r.1, pc := r.2.1, lePend := false }
  match r.2.2 with
  | none => c'
  | some b =>
    addFlight c' { dest := .p (physP c' 16), val := (predAll b).setWidth 4096, issue := t, due := t + 1, flags := 0,
                   slot := 0, bundle := BitVec.ofInt 32 c.pc, late := false, free := false }

end Sys2Proof.Machine
end

