-- ==== Sys2Proof/Machine/Access.lean ====
section
/-!
DEFINITION. Machine/Access.lean: addresses (R159, R160), regions and map entries (R269 to R274), the checks of R161, the
backing an address names (R312, R274), committed, own and live values of rows and words (R216 to R219), staged stores,
staleness (R307), L2 lines (R171, R332) and scratchpad rows (R163 to R167).
-/

namespace Sys2Proof.Machine

/-! ### Address forms (R159) -/

/-- The address is of the scratchpad form. -/
def isSpad (a : W64) : Bool := a.getLsbD 63

/-- The address names a partner's memory. -/
def isRemote (a : W64) : Bool := !isSpad a && a.getLsbD 48

/-- The device a system address names: 8 × row + column. -/
def devOf (a : W64) : Nat := fld a 49 6

/-- The virtual address of a global or system address. -/
def vaOf (a : W64) : Nat := fld a 0 48

/-- The first byte of the row that holds an address (R160). -/
def rowVa (a : W64) : Nat := vaOf a / 512 * 512

/-- The 8-byte word of its row that an address names (R160). -/
def wordIx (a : W64) : Nat := fld a 3 6

/-- The effective address of a row access (R160): the base and a signed displacement in rows. -/
def effAddr {n : Nat} (base : W64) (i : BitVec n) : W64 := base + BitVec.ofInt 64 (i.toInt * 512)

/-- A global address with its reserved bits zero; with remote = 0 the device field zero too (R159, R161). -/
def formOk (a : W64) : Bool :=
  !isSpad a && fld a 55 8 == 0 && (isRemote a || fld a 49 6 == 0)

/-! ### Regions and maps (R269, R270) -/

def regValid (e : BitVec 128) : Bool := e.getLsbD 0
def regShared (e : BitVec 128) : Bool := e.getLsbD 1
def regCode (e : BitVec 128) : Bool := e.getLsbD 2
def regBase (e : BitVec 128) : Nat := bfld e 16 32 * 65536
def regSize (e : BitVec 128) : Nat := (bfld e 88 24 + 1) * 65536

/-- A region table entry (R269) from its parts. -/
def regEntry (base size : Nat) (code shared : Bool) : BitVec 128 :=
  BitVec.ofNat 128 (1 + (if shared then 2 else 0) + (if code then 4 else 0) + base / 65536 % 2 ^ 32 * 2 ^ 16
    + (size / 65536 - 1) % 2 ^ 24 * 2 ^ 88)

/-- The region that holds a virtual address, in a list of table entries. -/
def findRegion (va : Nat) : Tab (BitVec 128) → Option (Nat × BitVec 128)
  | [] => none
  | (i, e) :: r =>
    if regValid e ∧ regBase e ≤ va ∧ va < regBase e + regSize e then some (i, e) else findRegion va r

/-- The region of a context that holds a virtual address (R269). -/
def regionAt (x : Ctx) (va : Nat) : Option (Nat × BitVec 128) := findRegion va x.regions

/-- The entry of a region in a map; a region named in no entry is ABSENT (R270). -/
def mapEntry (x : Ctx) (m r : Nat) : BitVec 128 := Tab.get 0 (Tab.get [] x.maps m) r

def mePlace (e : BitVec 128) : Nat := bfld e 66 2
def meEntry (e : BitVec 128) : Nat := bfld e 68 2
def meAccess (e : BitVec 128) : Nat := bfld e 70 2
def meCow (e : BitVec 128) : Bool := e.getLsbD 72
def meWatch (e : BitVec 128) : Bool := e.getLsbD 73
def meKey (e : BitVec 128) : Nat := bfld e 84 12
def meTag (e : BitVec 128) : Nat := bfld e 96 12

/-- A map entry (R270) from the record of an object file (R94). -/
def mapEntryOf (r : MapRec) : BitVec 128 :=
  BitVec.ofNat 128 (r.region % 1024 + r.place % 4 * 2 ^ 66 + r.entry % 4 * 2 ^ 68 + r.access % 4 * 2 ^ 70
    + (if r.cow then 2 ^ 72 else 0) + (if r.watch then 2 ^ 73 else 0) + r.key % 4096 * 2 ^ 84 + r.tag % 4096 * 2 ^ 96)

/-- What an access wants of a region: to read, to store (staged), or to act or land live. -/
inductive Want where
  | load | store | live
  deriving DecidableEq, Repr

/-- Why the current map does not let an access through (R161, R203, R273, R274): 1 ABSENT or no region; 2 refused. -/
def mapRefuses (x : Ctx) (va : Nat) (w : Want) : Option Nat :=
  match regionAt x va with
  | none => some 1
  | some (r, e) =>
    if regCode e then (if w = .load then none else some 2)
    else
      let m := mapEntry x x.phase.toNat r
      if mePlace m = 0 then some 1
      else if meAccess m = 0 then some 2
      else if w = .load then none
      else if meAccess m ≠ 2 then some 2
      else if regShared e then
        if meCow m ∧ w = .store then none else some 2
      else none

/-- A region that the current map lets be written through pages of its own alone holds the address (R274). -/
def cowAt (x : Ctx) (va : Nat) : Bool :=
  match regionAt x va with
  | none => false
  | some (r, e) =>
    let m := mapEntry x x.phase.toNat r
    regShared e && !regCode e && meCow m && meAccess m == 2 && mePlace m != 0

/-- A remote address names a device of the domain with a partner bound (R161, R320). -/
def partnerOk (x : Ctx) (a : W64) : Bool :=
  devOf a != Config.ownDevice.val && Config.inDomain (devOf a) && (Tab.get 0 x.binding (devOf a)).getLsbD 15

/-- The checks of R161 for a global access of a context. -/
def globalOk (s : State) (c : Nat) (a : W64) (w : Want) : Bool :=
  formOk a && (if isRemote a then partnerOk (s.ctx c) a else (mapRefuses (s.ctx c) (vaOf a) w).isNone)

/-! ### Buffers (R311, R312) -/

def bufRows (b : BitVec 256) : Nat := bfld b 224 32
def bufAlt (b : BitVec 256) : Nat := bfld b 176 48
def bufHome (b : BitVec 256) : Nat := bfld b 32 48
def bufSwapped (b : BitVec 256) : Bool := b.getLsbD 2
def bufPublished (b : BitVec 256) : Bool := b.getLsbD 1
def bufValid (b : BitVec 256) : Bool := b.getLsbD 0

/-- A buffer table entry (R311) from the record of an object file (R95). -/
def bufEntryOf (r : BufRec) : BitVec 256 :=
  BitVec.ofNat 256 (1 + (if r.published then 2 else 0) + r.front % 2 ^ 48 * 2 ^ 32 + r.back % 2 ^ 48 * 2 ^ 176
    + r.size / 512 % 2 ^ 32 * 2 ^ 224)

/-- The tag names a valid published buffer of the context. -/
def published (x : Ctx) (tag : Nat) : Bool :=
  let b := Tab.get 0 x.buffers tag
  decide (tag < 4096) && bufValid b && bufPublished b

/-- The virtual address lies in the front range of a buffer (R311). -/
def inHome (b : BitVec 256) (va : Nat) : Bool :=
  decide (bufHome b ≤ va) && decide (va < bufHome b + 512 * bufRows b)

/-- The virtual address lies in the alt range of a buffer. -/
def inAlt (b : BitVec 256) (va : Nat) : Bool :=
  decide (bufAlt b ≤ va) && decide (va < bufAlt b + 512 * bufRows b)

/-- The published buffer that holds a virtual address in either range. DESIGN CHOICE (log 57): where sides of several buffers
hold it, the lowest tag decides. -/
def bufferAt (va : Nat) : Tab (BitVec 256) → Option (Nat × BitVec 256)
  | [] => none
  | (t, b) :: r =>
    if bufValid b ∧ bufPublished b ∧ (inHome b va ∨ inAlt b va) then some (t, b) else bufferAt va r

/-- The address on the other side of a buffer. -/
def otherSide (b : BitVec 256) (va : Nat) : Nat :=
  if inHome b va then bufAlt b + (va - bufHome b) else bufHome b + (va - bufAlt b)

/-- The address of the back row of a buffer that a front row stands for, as the swapped bit stands (R201, R312). -/
def backIn (b : BitVec 256) (va : Nat) : Nat := if bufSwapped b then va else bufAlt b + (va - bufHome b)

/-- The published buffer whose front range holds a virtual address; the lowest tag where several do (log 57). -/
def frontAt (va : Nat) : Tab (BitVec 256) → Option (BitVec 256)
  | [] => none
  | (_, b) :: r => if bufValid b ∧ bufPublished b ∧ inHome b va then some b else frontAt va r

/-- The virtual address of the back row that a row of some front stands for (R213). -/
def backOf (x : Ctx) (va : Nat) : Nat :=
  match frontAt va x.buffers with
  | some b => backIn b va
  | none => va

/-- The virtual address of the back row that a front row of the buffer `tag` stands for (R201). -/
def backTag (x : Ctx) (tag va : Nat) : Nat := backIn (Tab.get 0 x.buffers tag) va

/-- The backing address that a virtual address of a context reads and writes: with `flip` of a published buffer the
side it does not name now (R219), else the side of swapped (R312). -/
def sideVa (x : Ctx) (flip : Bool) (va : Nat) : Nat :=
  match bufferAt va x.buffers with
  | none => va
  | some (_, b) => if bufSwapped b != flip then otherSide b va else va

/-- The memory key of a context's own page of a shared region (R274): beside its regions' own backing, so that the base stays. -/
def privKey (c va : Nat) : Nat := (256 + c) * 2 ^ 48 + va

/-- The context whose backing a memory key names, and the number its page is placed under: own pages from 2^32 up. -/
def keyCtx (key : Nat) : Nat := key / 2 ^ 48 % 256
def keyPage (key : Nat) : Nat := key % 2 ^ 48 / 65536 + (if 256 ≤ key / 2 ^ 48 then 2 ^ 32 else 0)

/-- The memory key of a backing address: the context's own, or the shared base its region is bound to, but for pages
made its own (R274). -/
def backKey (s : State) (c va : Nat) : Nat :=
  let x := s.ctx c
  match regionAt x va with
  | none => c * 2 ^ 48 + va
  | some (r, e) =>
    if x.priv.contains (va / 65536) then privKey c va
    else
      match Tab.find x.shared r with
      | none => c * 2 ^ 48 + va
      | some (d, base) => d * 2 ^ 48 + base + (va - regBase e)

/-- The memory key that a virtual address of a context names (R312). -/
def keyOf (s : State) (c va : Nat) : Nat := backKey s c (sideVa (s.ctx c) false va)

/-- The words of a list as bytes from an offset. -/
def wordByte (l : List W32) (off : Nat) : Byte :=
  ((l.getD (off / 4) 0) >>> (8 * (off % 4))).setWidth 8

/-- The size of the code section and the offset of the stream section in the code region (R98). -/
def streamOff (x : Ctx) : Nat := (4 * x.code.length + 4095) / 4096 * 4096

/-- A byte of the code region (R98). -/
def codeByte (x : Ctx) (off : Nat) : Byte :=
  if off < 4 * x.code.length then wordByte x.code off
  else if streamOff x ≤ off then wordByte x.stream (off - streamOff x)
  else 0

/-- The code base (R98). -/
def codeBase : Nat := 0x10000000

/-- The committed byte at a virtual address of a context, live atomics and published fronts included (R221). -/
def memByte (s : State) (c va : Nat) : Byte :=
  match regionAt (s.ctx c) va with
  | some (_, e) => if regCode e then codeByte (s.ctx c) (va - codeBase) else s.mem.byte (keyOf s c va)
  | none => s.mem.byte (keyOf s c va)

/-- The committed bytes from a virtual address as a number. -/
def memRead (s : State) (c va n : Nat) : Nat := (gather 8 (fun k => ((memByte s c (va + k)).toNat, 0)) n).1

/-- The committed row at a virtual address (R221). -/
def memRow (s : State) (c va : Nat) : Vec := BitVec.ofNat 4096 (memRead s c va 512)

/-- The committed word at a virtual address. -/
def memWord (s : State) (c va : Nat) : W64 := BitVec.ofNat 64 (memRead s c (va / 8 * 8) 8)

/-- A page that nothing has moved lies in HBM4E. -/
def Place.zero : Place := { tier := 0, die := 0, writes := 0, key := 0, epoch := 0 }

/-- The context and page that a page of a context's region is backed by: a shared base's, but for the context's own
pages (R274). -/
def pageHome (s : State) (c page : Nat) : Nat × Nat :=
  let k := backKey s c (page * 65536)
  (keyCtx k, keyPage k)

/-- Where a page of a context lies (R267). -/
def placeOf (s : State) (c page : Nat) : Place :=
  let h := pageHome s c page
  Tab.get Place.zero (s.ctx h.1).pages h.2

/-- The first memory key of the page placed under a number of a context. -/
def homeKey (h : Nat × Nat) : Nat := if 2 ^ 32 ≤ h.2 then privKey h.1 ((h.2 - 2 ^ 32) * 65536) else h.1 * 2 ^ 48 + h.2 * 65536

/-- A page placed, by the context and the number it is placed under. When it moves, what L2 holds of it, but for
pinned lines, is of its old place. -/
def setHome (h : Nat × Nat) (f : Place → Place) (s : State) : State :=
  let old := Tab.get Place.zero (s.ctx h.1).pages h.2
  let new := f old
  let s := s.onCtx h.1 (fun x => { x with pages := Tab.set x.pages h.2 new })
  if old.tier = new.tier ∧ old.die = new.die then s
  else { s with l2 := s.l2.filter (fun (k : Nat × Line) => k.2.pinned || k.2.line / 512 != homeKey h / 65536) }

/-- A page of a context placed. -/
def setPlace (c page : Nat) (f : Place → Place) (s : State) : State := setHome (pageHome s c page) f s

/-- Where the page of a memory key lies. -/
def placeAt (s : State) (key : Nat) : Place := Tab.get Place.zero (s.ctx (keyCtx key)).pages (keyPage key)

/-- A page off the package whose key slot is no longer LIVE under the key that sealed it fails authentication (R291,
R323). -/
def sealBroken (s : State) (l : Place) : Bool :=
  let k := Tab.get KeySlot.zero s.keys l.key
  decide (2 ≤ l.tier) && !(k.state == 1 && k.epoch == l.epoch)

/-- The row arrives poisoned (R161, R291, R355). -/
def poisoned (s : State) (c va : Nat) : Bool :=
  s.poison.contains (keyOf s c va / 512) || sealBroken s (placeAt s (keyOf s c va))

/-! ### Staged stores (R214, R216, R217) -/

/-- The bytes of `new` where the mask says, of `old` elsewhere. -/
def blend (mask : BitVec 512) (old new : Vec) : Vec :=
  BitVec.ofNat 4096 (gather 8 (fun k => (if mask.getLsbD k then elem new 8 k else elem old 8 k, 0)) 512).1

/-- What a writer has staged in the row at a key, later stores over earlier ones. -/
def ownStaged (w key : Nat) : List Stage → BitVec 512 × Vec
  | [] => (0, 0)
  | g :: r =>
    let t := ownStaged w key r
    if g.writer = w ∧ g.key = key then (g.mask ||| t.1, blend t.1 g.data t.2) else t

/-- A store joins the staged bytes of the phase. -/
def stage (c : Nat) (g : Stage) (s : State) : State := s.onCtx c (fun x => { x with staged := x.staged ++ [g] })

/-- The mask of the 8 bytes of a word of a row. -/
def wordMask (w : Nat) : BitVec 512 := (0xFF : BitVec 512) <<< (8 * w)

/-- Word `w` of a row. -/
def rowWord (r : Vec) (w : Nat) : W64 := BitVec.ofNat 64 (elem r 64 w)

/-- A row with word `w` replaced. -/
def setRowWord (r : Vec) (w : Nat) (x : W64) : Vec :=
  (r &&& ~~~((BitVec.allOnes 64).setWidth 4096 <<< (64 * w))) ||| (x.setWidth 4096 <<< (64 * w))

/-! ### Plain loads (R216, R218, R219) -/

/-- The swaps of a buffer that core `p` has not yet acquired (R219). -/
def unseen (s : State) (p c tag : Nat) : Bool :=
  decide (Tab.get 0 (s.core p).seen tag < Tab.get 0 (s.ctx c).swaps tag)

/-- The side of a published buffer a plain load of core `p` reads: while a swap is not acquired, a free choice of the
old front or the new, for the row whole (R219). -/
def loadSide (s : State) (p c va : Nat) : Bool :=
  match bufferAt va (s.ctx c).buffers with
  | none => false
  | some (t, _) => unseen s p c t && Config.pick s.freeCtr (2 * (va / 512) + 1) % 2 == 1

/-- The word at a key of a plain load: one of the values it has held since the snapshot when atomics changed it in this
phase (R218). -/
def liveChoice (s : State) (c key : Nat) (now : Nat) : Nat :=
  match Tab.find (s.ctx c).live (key / 8) with
  | none => now
  | some l =>
    let k := Config.pick s.freeCtr (2 * key) % (l.length + 1)
    (l.getD k (BitVec.ofNat 64 now)).toNat

/-- The memory key that a plain load of core `p` reads at a virtual address: of the side it takes (R219, R312). -/
def loadKey (s : State) (p c va : Nat) : Nat := backKey s c (sideVa (s.ctx c) (loadSide s p c va) va)

/-- The row a plain load of core `p` finds before its own stores: snapshot or live values (R216, R218), old or new front
(R219). -/
def plainRow (s : State) (p c va : Nat) : Vec :=
  match regionAt (s.ctx c) va with
  | none => 0
  | some (_, e) =>
    if regCode e then memRow s c va
    else
      let key := loadKey s p c va
      BitVec.ofNat 4096 (gather 64 (fun w => (liveChoice s c (key + 8 * w) (s.mem.read (key + 8 * w) 8), 0)) 64).1

/-- The logical core of context `c` that the physical core `p` serves: of the context it runs, else by placement. -/
def lcoreAt (s : State) (p c : Nat) : Nat :=
  if (s.core p).ctx = some c then (s.core p).lcore
  else ((List.range 320).find? (fun l => physOf (s.ctx c) l == some p)).getD 0

/-- The row that an LDG of core `p` returns at this moment (R216): over the phase's value, the stores that its core has staged to the
side it reads (R312). -/
def loadRow (s : State) (p c va : Nat) : Vec :=
  let o := ownStaged (lcoreAt s p c + 1) (loadKey s p c va) (s.ctx c).staged
  blend o.1 (plainRow s p c va) o.2

/-! ### Live writes -/

/-- The Reeves have copied the chunk of a piece of work that holds an address; where nothing is copied there is nothing to mark. -/
def WorkItem.copied (w : WorkItem) (va : Nat) : Bool :=
  w.copy && w.page == va / 65536 && (w.got &&& (1 <<< (va % 65536 / 4096))) != 0

/-- A live write marks the chunk of a region in motion that has been copied (R278). -/
def markChunk (va : Nat) (x : Ctx) : Ctx :=
  let bit : BitVec 16 := 1 <<< (va % 65536 / 4096)
  { x with
    tr := { x.tr with
      ready := x.tr.ready && !(x.tr.work.any (fun w => w.copied va))
      work := x.tr.work.map (fun w =>
        if w.copied va then { w with got := w.got &&& ~~~bit, done := w.done &&& ~~~bit, marks := w.marks ||| bit } else w) } }

/-- The word takes its place among the values held since the snapshot (R218). -/
def noteLive (key : Nat) (old : W64) (x : Ctx) : Ctx :=
  { x with live := Tab.upd [] x.live (key / 8) (fun l => l ++ [old]) }

/-- A 64-bit word of a context is changed live at its home slice (R218). -/
def liveWrite (c va : Nat) (v : W64) (s : State) : State :=
  let k := keyOf s c (va / 8 * 8)
  let old := BitVec.ofNat 64 (s.mem.read k 8)
  let s := { s with mem := s.mem.write k 8 v.toNat }
  s.onCtx c (fun x => markChunk (sideVa x false va) (noteLive k old x))

/-- An access to a page on the host tier goes through its ATS translation, fetched when it is not held (R351). -/
def touchKey (key : Nat) (s : State) : State :=
  if (placeAt s key).tier = 3 then { s with ats := key / 65536 :: s.ats.filter (fun k => k != key / 65536) } else s

/-- An access to an address of a context that may lie on the host tier. -/
def touchHost (c va : Nat) (s : State) : State := touchKey (keyOf s c va) s

/-- A row of backing is written whole, unstaged (R201). -/
def writeBacking (c va : Nat) (r : Vec) (s : State) : State :=
  let s := touchKey (backKey s c va) { s with mem := s.mem.write (backKey s c va) 512 r.toNat }
  s.onCtx c (markChunk va)

/-! ### Staleness (R307) -/

/-- The watch flag of the region at a virtual address in a map. -/
def watched (x : Ctx) (m va : Nat) : Bool :=
  match regionAt x va with
  | none => false
  | some (r, _) => meWatch (mapEntry x m r)

/-- A residency's source range overlaps the row at `va`. -/
def overlaps (e : Resid) (va : Nat) : Bool :=
  decide (e.src < va + 512) && decide (va < e.src + tileBytes e.fmt e.k)

/-- The residency is RESIDENT or PINNED. -/
def Resid.usable (e : Resid) : Bool := e.state == 2 || e.state == 3

/-- The residencies that `sel` names become STALE when one of the rows changes, each counted in CNRSTL (R307, R328). -/
def staleTable (sel : Nat → Bool) (hit : Resid → Bool) (x : Ctx) : Ctx :=
  { x with
    res := x.res.map (fun k =>
      if sel (k.1 / 1024) && k.2.usable && hit k.2 then (k.1, { k.2 with state := 4 }) else k)
    coreCtr := x.res.foldl (fun t k =>
      if sel (k.1 / 1024) && k.2.usable && hit k.2
      then Tab.upd 0 t (k.1 / 1024 * 16 + 1) (fun v => stopAdd 32 v 1) else t) x.coreCtr }

/-- The loads of residencies in flight that a changed row meets are noted (R304). -/
def staleLoads (c : Nat) (sel : Nat → Bool) (va : Nat) (k : Core) : Core :=
  { k with rloads := k.rloads.map (fun (j : RloadJob) =>
      if j.ctx = c && sel j.lcore && decide (j.src < va + 512) && decide (va < j.src + j.bytes)
      then { j with stale := true } else j) }

/-- A change of the row at `va` becomes visible to the residencies of the logical cores `sel` (R307), watched in map `m`
or in the current one. -/
def staleRow (c m : Nat) (sel : Nat → Bool) (va : Nat) (s : State) : State :=
  let x := s.ctx c
  if watched x x.phase.toNat va || watched x m va then
    let s := s.onCtx c (staleTable sel (fun e => overlaps e va))
    { s with cores := Tab.mapVal s.cores (staleLoads c sel va) }
  else s

/-! ### L2 lines and buffer bytes (R171, R172, R332, R328) -/

def tenantMask (t : BitVec 128) : Nat := bfld t 32 16
def tenantPinned (t : BitVec 128) : Nat := bfld t 16 16
def tenantAllowed (t : BitVec 128) : Nat := bfld t 0 16
def tenantKbase (t : BitVec 128) : Nat := bfld t 84 12
def tenantKcount (t : BitVec 128) : Nat := bfld t 96 13

/-- The home slice of a memory key (R170), `768 × die + slice`: on the die whose memory holds its page in HBM4E or LPDDR-6, else
on the die that the hash gives. -/
def sliceIn (l : Place) (key : Nat) : Nat :=
  let h := Config.homeSlice (key / 4096) l.spot
  (if l.tier < 2 then l.die % 4 else h.1.val) * 768 + h.2.val

/-- The home slice of a memory key where its page lies. -/
def sliceOf (s : State) (key : Nat) : Nat := sliceIn (placeAt s key) key

/-- The number of the L2 set of a line of a page at a place: the slice of the line's page and the set of the line (R170). -/
def setIn (l : Place) (line : Nat) : Nat := sliceIn l (line * 128) * 512 + (Config.lineSet line).val

/-- The number of the L2 set of a line where its page lies. -/
def setOf (s : State) (line : Nat) : Nat := setIn (placeAt s (line * 128)) line

/-- The ways of a set that a mask selects. -/
def waysIn (mask : Nat) : List Nat := (List.range 16).filter (fun w => mask / 2 ^ w % 2 == 1)

/-- The way that a fill takes (R332): an empty one of its ways, else the least recently used that is not pinned. -/
def victimWay (l2 : Tab Line) (set mask : Nat) : Option Nat :=
  let ways := (waysIn mask).filter (fun w => !((Tab.find l2 (set * 16 + w)).elim false Line.pinned))
  match ways.find? (fun w => (Tab.find l2 (set * 16 + w)).isNone) with
  | some w => some w
  | none => ways.foldl (fun b w =>
      match b with
      | none => some w
      | some v =>
        if (Tab.find l2 (set * 16 + w)).elim 0 Line.use < (Tab.find l2 (set * 16 + v)).elim 0 Line.use
        then some w else some v) none

/-- A line is used by a tenant: a hit moves its recency; a miss allocates when asked, within mask AND allowed (R318),
counted in CNL2FIL. -/
def useLine (tenant : Nat) (alloc : Bool) (line : Nat) (s : State) : State :=
  let set := setOf s line
  if s.l2.any (fun (k : Nat × Line) => k.2.line == line) then
    { s with l2 := s.l2.map (fun (k : Nat × Line) => if k.2.line = line then (k.1, { k.2 with use := s.freeCtr + 1 }) else k) }
  else
    let t := Tab.get 0 s.tenants tenant
    if alloc then
      match victimWay s.l2 set (tenantMask t &&& tenantAllowed t) with
      | none => s
      | some w =>
        { s with
          l2 := Tab.set s.l2 (set * 16 + w) { line := line, tenant := tenant, pinned := false, use := s.freeCtr + 1 }
          l2fill := Tab.upd 0 s.l2fill tenant (fun v => (v + 1) % 2 ^ 48) }
    else s

/-- The four lines of a row are used (R170). -/
def useRow (tenant : Nat) (alloc : Bool) (key : Nat) (s : State) : State :=
  let l := key / 128
  useLine tenant alloc (l + 3) (useLine tenant alloc (l + 2) (useLine tenant alloc (l + 1) (useLine tenant alloc l s)))

/-- The occupancy gauge of a slice for a tenant (R327, R332): its lines that count to the tenant, 0 to 8,192. -/
def sliceOccupancy (s : State) (slice tenant : Nat) : Nat :=
  (s.l2.filter (fun k => k.1 / 8192 == slice && k.2.tenant == tenant)).length

/-- CNL2OCC of a tenant (R332): the lines of all slices that count to it. -/
def l2Occupancy (s : State) (tenant : Nat) : Nat := (s.l2.filter (fun k => k.2.tenant == tenant)).length

/-- Bytes moved by a core access are counted to the default tag of the region (R275, R328). -/
def countBytes (c va n : Nat) (s : State) : State :=
  match regionAt (s.ctx c) va with
  | none => s
  | some (r, _) =>
    let t := meTag (mapEntry (s.ctx c) (s.ctx c).phase.toNat r)
    s.onCtx c (fun x => { x with bufBytes := Tab.upd 0 x.bufBytes t (fun v => (v + n) % 2 ^ 48) })

/-- Bytes moved by an engine row are counted to its record's tag (R328). -/
def countTag (c tag n : Nat) (s : State) : State :=
  s.onCtx c (fun x => { x with bufBytes := Tab.upd 0 x.bufBytes tag (fun v => (v + n) % 2 ^ 48) })

/-- The rows that the L1 of a core holds under a split (R163): 512 for each bank from S to 15. -/
def l1Rows (split : Nat) : Nat := 512 * (16 - split)

/-- A row enters the L1 of a core; when its banks are full, which row makes room is a free choice (R169 gives no rule; log 65). -/
def fillL1 (n split row : Nat) (dirty : Bool) (k : Core) : Core :=
  let l := if k.l1.length < l1Rows split then k.l1 else listDrop k.l1 (Config.pick n 11 % l1Rows split)
  { k with l1 := if l1Rows split = 0 then [] else Tab.set l row dirty }

/-- A global row is used by core `p` under a hint (R169, R172): NORM and NA look in L1 first; NORM allocates there; NORM
and BY allocate in L2. `dirty` marks a store. Remote rows are never held (R169). -/
def cacheRow (p c : Nat) (a : W64) (ca : Nat) (dirty : Bool) (s : State) : State :=
  if isRemote a then s
  else
    let key := keyOf s c (rowVa a)
    match Tab.find (s.core p).l1 (key / 512) with
    | some d => s.onCore p (fun k => { k with l1 := Tab.set k.l1 (key / 512) (d || dirty) })
    | none =>
      let s := useRow (s.ctx c).tenant (ca == 0 || ca == 2) key s
      if ca = 0 then s.onCore p (fillL1 s.freeCtr (s.ctx c).split (key / 512) dirty) else s

/-- The bundles that an instruction cache of 256 KiB holds (R9). -/
def cacheBundles : Nat := 262144 / 24

/-- A fetched bundle is held in the instruction cache of a core (R9); which one makes room is a free choice (log 65). -/
def holdBundle (n : Nat) (k : Core) : Core :=
  let b := k.pc.toNat
  if b ∈ k.icache then k
  else
    let l := if k.icache.length < cacheBundles then k.icache else listDrop k.icache (Config.pick n 9 % cacheBundles)
    { k with icache := b :: l }

/-! ### Scratchpad (R163 to R167) -/

/-- The logical core a scratchpad address names (R159). -/
def spadCore (a : W64) : Nat := fld a 22 9

/-- The row a scratchpad address names. -/
def spadRow (a : W64) : Nat := fld a 9 13

/-- The physical core whose bank a scratchpad address of core `p`'s cluster names. -/
def spadPhys (p : Nat) (a : W64) : Nat := p / 4 * 4 + spadCore a % 4

/-- The checks of R161 for a scratchpad access of core `p` running context `c`. -/
def spadOk (s : State) (p c : Nat) (a : W64) : Bool :=
  let b := Tab.get Bank.zero (s.core (spadPhys p a)).banks (spadRow a / 512)
  isSpad a && fld a 31 32 == 0 && spadCore a / 4 == (s.core p).lcore / 4
    && decide (spadRow a < 512 * (s.ctx c).split) && b.state == .owned && b.held == c + 1

/-- The scratchpad row an address names. -/
def spadGet (s : State) (p : Nat) (a : W64) : Vec := Tab.get 0 (s.core (spadPhys p a)).spad (spadRow a)

/-- The full-empty bits of the row an address names (R167). -/
def spadFe (s : State) (p : Nat) (a : W64) : W32 := Tab.get 0 (s.core (spadPhys p a)).fullEmpty (spadRow a)

/-- A scratchpad row is written, with its full-empty bits as `fe` gives them, in one access (R160, R167). -/
def spadPut (p : Nat) (a : W64) (r : Vec) (fe : Option W32) (s : State) : State :=
  s.onCore (spadPhys p a) (fun c => { c with
    spad := Tab.put 0 c.spad (spadRow a) r
    fullEmpty := match fe with
      | none => c.fullEmpty
      | some b => Tab.put 0 c.fullEmpty (spadRow a) b })

/-! ### Records of a CTOPK (R208) -/

/-- The records of the free rows of a destination row are undefined values (R208). -/
def freeRecords (n : Nat) (j : Copy) (e : Nat) (v : Vec) : Vec :=
  BitVec.ofNat 4096 (gather 512 (fun t =>
    (if j.free.contains (8 * e + t) then elem (Config.undef n (4 * (8 * e + t) + 8)) 512 t else elem v 512 t, 0)) 8).1

/-- The landed rows of a CTOPK after accumulator rows that it names have been written. -/
def spoiled (n : Nat) (rows : Nat → Bool) (j : Copy) : Tab Vec :=
  j.put.map (fun k =>
    (k.1, if (List.range 8).any (fun t => rows (j.off.toNat + 8 * k.1 + t)) then freeRecords n j k.1 k.2 else k.2))

/-- A landed row of a CTOPK takes its new contents where it still stands in the scratchpad as it landed; its full-empty bits
stay. -/
def spoilRow (p : Nat) (j : Copy) (s : State) (k : (Nat × Vec) × (Nat × Vec)) : State :=
  let a := j.dst.base + BitVec.ofNat 64 k.1.1 * j.dst.st1
  s.onCore (spadPhys p a) (fun c =>
    if Tab.get 0 c.spad (spadRow a) = k.1.2 then { c with spad := Tab.put 0 c.spad (spadRow a) k.2.2 } else c)

/-- A write to accumulator rows issues while CTOPKs that name them run: the records they have landed of those rows are
undefined from then on (R208). `markTopk` has marked the rows. -/
def spoilTopk (p : Nat) (rows : Nat → Bool) (s : State) : State :=
  let l := ((s.core p).chans.map Prod.snd).flatten
  let t := l.foldl (fun t (j : Copy) => (j.put.zip (spoiled s.freeCtr rows j)).foldl (spoilRow p j) t) s
  t.onCore p (fun c => { c with chans := Tab.mapVal c.chans (fun (l : List Copy) =>
    l.map (fun (j : Copy) => { j with put := spoiled s.freeCtr rows j })) })

/-! ### Remote packets (R320) -/

/-- The intermediate device of a packet of class SPR (R224, R321): a free choice among the valid destinations of the version that
it is stamped with, other than the device itself; none of the other classes. -/
def viaOf (s : State) (rc : Nat) : Option Nat :=
  let l := (List.range 64).filter (fun d =>
    d != Config.ownDevice.val && (Tab.get (0 : W32) s.routes (64 * (s.rsel % 2) + d)).getLsbD 4)
  if rc = 2 then l[Config.pick s.freeCtr 13 % l.length]? else none

/-- A packet for core `p` of context `c` goes to the fabric for the partner that the address names, in the flow of the logical core
that works there for the context (R214); it is stamped when it is injected (R225). `alloc`: it may allocate in the home slice's L2
(R172). -/
def sendHinted (p c ch rc : Nat) (a : W64) (alloc : Bool) (k : PacketKind) (s : State) : State :=
  let b := Tab.get 0 (s.ctx c).binding (devOf a)
  { s with
    out := s.out ++ [{ dev := devOf a, ctx := c, dst := b.toNat % 64, core := lcoreAt s p c, chan := ch, rc := rc,
                       ver := 0, va := vaOf a, kind := k, alloc := alloc }] }

/-- A packet without an allocation hint. -/
def sendPacket (p c ch rc : Nat) (a : W64) (k : PacketKind) (s : State) : State := sendHinted p c ch rc a false k s

/-- A packet of a channel of a logical core still waits to leave the device, or has not left it whole. -/
def flowOut (s : State) (c lcore ch : Nat) : Bool :=
  let mine (k : Packet) : Bool := k.ctx == c && k.core == lcore && k.chan == ch
  s.out.any mine || s.links.any (fun (q : Nat × Link) => q.2.sending.any (fun j => j.own && mine j.pkt))

/-- A packet of a channel of a logical core has not been accepted or refused at its target, as far as the device knows (R223). -/
def flowOpen (s : State) (c lcore ch : Nat) : Bool :=
  flowOut s c lcore ch || s.unacked.any (fun u => u.ctx == c && u.core == lcore && u.chan == ch)

/-- The sender of a packet of this kind learns whether its target has accepted it (R221, R225). -/
def isAnswered : PacketKind → Bool
  | .answer _ _ _ _ => false
  | .resync => false
  | .ended => false
  | _ => true

/-- Device `dev` answers a packet with a status, to the flow it came from; a load also with its row, an atomic with its word. Channel
`8 + ch` carries the answers to channel `ch`, in the class of the packet, and `va` holds the device that answers (log 39). -/
def answerAs (dev : Nat) (k : Packet) (status : Nat) (data : Vec) (bad row : Bool) (s : State) : State :=
  if isAnswered k.kind then
    { s with out := s.out ++ [{ dev := k.dev, ctx := k.dst, dst := k.ctx, core := k.core, chan := 8 + k.chan, rc := k.rc, ver := 0,
                                va := dev, kind := .answer status bad data row }] }
  else s

/-- The device answers a packet with a status and a word (R221). -/
def reply (k : Packet) (status : Nat) (data : Vec) (bad : Bool) (s : State) : State :=
  answerAs Config.ownDevice.val k status data bad false s

end Sys2Proof.Machine
end

