-- ==== Sys2Proof/Machine/Issue.lean ====
section
/-!
DEFINITION. Machine/Issue.lean: how a bundle or a stream word passes from decode to commit (R51 to R54, R72 to R75, R118,
R243 to R245). What an instruction does is a `Meaning`; `issueCore` takes the meanings of the slots of one bundle through
the steps of R74, and `issueOne` is the bundle with one instruction.
-/

namespace Sys2Proof.Machine

/-! ### The bundle header (R50) -/

def headSp (h : W32) : Bool := h.getLsbD 31
def headLe (h : W32) : Bool := h.getLsbD 30
def headBe (h : W32) : Bool := h.getLsbD 29
def headBs (h : W32) : BitVec 6 := BitVec.ofNat 6 (h.toNat / 2 ^ 23)
def headWc (h : W32) : Nat := h.toNat / 2 ^ 20 % 8
def headRes (h : W32) : Nat := h.toNat % 2 ^ 20

/-! ### Meanings -/

/-- What an instruction sees of its issue: the agent, its slot (R52), the value of the broadcast port (R54), the scales
that an SCLD of its own bundle pushes (R259). -/
structure Env where
  agent : Agent
  slot  : Nat
  port  : W64
  pushed : Nat
  deriving DecidableEq, Repr

/-- A failed issue-time check (R74 step 5): a precise trap with its cause, detail, address and argument (R153), or a
fatal context error with the cause, address and info of its record (R265). -/
inductive Fail where
  | trap (cause detail : Nat) (addr : W64) (arg : W32)
  | fatal (cause : Nat) (addr info : W64)
  deriving DecidableEq, Repr

/-- Where control goes after the bundle (R113, R118): to the next bundle unless its le says otherwise; to a target,
whatever its le; to the loop end of the bundle with that index (TRET, R155), or back to that bundle for
a retry (R284); nowhere (HALT). -/
inductive Next where
  | fall
  | jump (target : Int)
  | retry (target : Int)
  | loopEnd (bundle : Int)
  | halt
  deriving DecidableEq, Repr

/-- What an instruction does, as functions of the state before the bundle. -/
structure Meaning where
  /-- The guard lets the instruction act (R53). -/
  acts   : State → Agent → Bool := fun _ _ => true
  /-- A field selects the broadcast port (R54). -/
  port   : Bool := false
  /-- The registers it names as destinations, physical (R52, R103). -/
  dests  : Core → List Dest := fun _ => []
  /-- The registers it reads, physical (R72). -/
  srcs   : Core → List Dest := fun _ => []
  /-- It is a control transfer of R52. -/
  xfer   : Bool := false
  /-- The shadow field that SHW names (R52). -/
  shw    : Option Nat := none
  /-- Stream code admits it (R244). -/
  thread : Bool := false
  /-- The decode checks that need the core's state (R74 step 2): a detail code of R153. -/
  decode : State → Nat → Option Nat := fun _ _ => none
  /-- No freeze condition of R73 but the scoreboard holds it. -/
  ready  : State → Env → Bool := fun _ _ => true
  /-- What it leaves behind while it waits: the arrival of PADV, the value a stream wait has fixed (R245). -/
  hold   : State → Env → State → State := fun _ _ s => s
  /-- The issue-time check that fails, first of its list (R74 step 5). -/
  check  : State → Env → Option Fail := fun _ _ => none
  /-- The scales it pushes (R259). -/
  pushes : Nat := 0
  /-- Where control goes when it acts. -/
  next   : State → Env → Next := fun _ _ => .fall
  /-- When its effects come among the slots of one bundle: exchanges before SHW (R146), readers before writers. -/
  rank   : Nat := 0
  /-- Its effects: from the state before the bundle, on the state as earlier slots of the bundle have left it. -/
  commit : State → Env → State → State := fun _ _ s => s

/-- A slot of a bundle: its number, the detail code its word fails decode with, its meaning. -/
structure SlotIn where
  k   : Nat
  bad : Option Nat
  m   : Meaning

/-- The instruction of format SR, SB or SC acts (R53): bit 0 of p[g] XOR n. -/
def guardN (g : BitVec 5) (n : BitVec 1) (s : State) (a : Agent) : Bool :=
  (readAP s a g).getLsbD 0 != (n == 1)

/-- The instruction of an M or X format acts (R53): bit 0 of p[g]. -/
def guardM (g : BitVec 5) (s : State) (a : Agent) : Bool := (readAP s a g).getLsbD 0

/-- The core an agent is; a stream thread has none. -/
def Env.p (e : Env) : Nat :=
  match e.agent with
  | .core p => p
  | .thread _ => 0

/-- The context an agent runs. -/
def Env.c (e : Env) (s : State) : Nat :=
  match e.agent with
  | .core p => s.ctxOf p
  | .thread c => c

/-! ### Decode checks (R51, R52, R60, R67) -/

/-- The header checks of R51 that fail, in its order, by detail code. -/
def headerFails (c : Core) (h : W32) (l : List SlotIn) : List Nat :=
  (if headRes h ≠ 0 then [9] else [])
    ++ (if headBe h = false ∧ headBs h ≠ 0 then [10] else [])
    ++ (if headLe h = true ∧ c.seq.loops = [] then [11] else [])
    ++ (if headBe h = false ∧ l.any (fun x => x.m.port) then [12] else [])

/-- Two slots name one register as destination (R52). -/
def destClash (c : Core) (x y : SlotIn) : Bool :=
  (x.m.dests c).any (fun d => d != .none && (y.m.dests c).contains d)

/-- Two slots hold a control transfer (R52). -/
def xferClash (x y : SlotIn) : Bool := x.m.xfer && y.m.xfer

/-- Two SHW name one shadow field (R52). -/
def shwClash (x y : SlotIn) : Bool := x.m.shw.isSome && decide (x.m.shw = y.m.shw)

/-- The higher slot of the first pair that a check fails on. DESIGN CHOICE (log 61): of several pairs the first is the one
with the lowest lower slot. -/
def pairFind (f : SlotIn → SlotIn → Bool) : List SlotIn → Option Nat
  | [] => none
  | x :: r =>
    match r.find? (f x) with
    | some y => some y.k
    | none => pairFind f r

/-- The slots of every pair that a check fails on, as TMASK bits. -/
def pairMask (f : SlotIn → SlotIn → Bool) : List SlotIn → Nat
  | [] => 0
  | x :: r => r.foldl (fun m y => if f x y then m ||| 2 ^ x.k ||| 2 ^ y.k else m) 0 ||| pairMask f r

/-- The detail code a slot fails decode with: the word's own before those that need the core's state. -/
def slotBad (s : State) (p : Nat) (x : SlotIn) : Option Nat :=
  match x.bad with
  | some d => some d
  | none => x.m.decode s p

/-- TMASK of the decode checks (R75): every slot whose check failed, bit 5 for the header. -/
def decodeMask (s : State) (p : Nat) (h : W32) (l : List SlotIn) : Nat :=
  let c := s.core p
  (if (headerFails c h l).isEmpty then 0 else 32)
    ||| pairMask (destClash c) l ||| pairMask xferClash l ||| pairMask shwClash l
    ||| l.foldl (fun m x => if (slotBad s p x).isSome then m ||| 2 ^ x.k else m) 0

/-- The first failing decode check (R75): cause, slot and detail. -/
def decodeFirst (s : State) (p : Nat) (h : W32) (l : List SlotIn) : Option (Nat × Nat × Nat) :=
  let c := s.core p
  match headerFails c h l with
  | d :: _ => some (1, 5, d)
  | [] =>
    match pairFind (destClash c) l with
    | some k => some (1, k, 13)
    | none =>
      match pairFind xferClash l with
      | some k => some (1, k, 14)
      | none =>
        match pairFind shwClash l with
        | some k => some (1, k, 17)
        | none => l.findSome? (fun x => (slotBad s p x).map (fun d => (2, x.k, d)))

/-! ### Freezes (R72, R73) -/

/-- A slot that acts waits on the scoreboard (R72). -/
def slotAwaits (c : Core) (x : SlotIn) : Bool :=
  (x.m.srcs c).any (awaited c) || (x.m.dests c).any (awaited c)

/-- The tags of the outstanding global loads that freeze a slot, or the port of the bundle (R328): of loads of the context's own regions,
since a partner's row has no region of it (R275). -/
def stallTags (s : State) (p : Nat) (h : W32) (l : List SlotIn) : List Nat :=
  let c := s.core p
  let x := s.ctx (s.ctxOf p)
  (c.board.filter (fun a => (a.kind == .ldg || a.kind == .ldgs) && !a.remote
      && (l.any (fun y => (y.m.srcs c).contains a.dest || (y.m.dests c).contains a.dest)
        || (l.any (fun y => y.m.port) && a.dest == destS (headBs h))))).filterMap
    (fun a => (regionAt x (vaOf a.addr)).map (fun r => meTag (mapEntry x x.phase.toNat r.1)))

/-- A frozen core (R3): nothing issues; stall cycles are counted to every buffer whose loads it waits for (R328). -/
def freeze (p : Nat) (tags : List Nat) (s : State) : State :=
  let n := s.cycle + 1 - (s.core p).nextIssue
  let s := tags.dedup.foldl (fun u t => u.onCtx (s.ctxOf p) (fun x => { x with
    bufStall := Tab.upd 0 x.bufStall t (fun v => stopAdd 40 v n) })) s
  s.onCore p (fun c => { c with nextIssue := s.cycle + 1, atSafe := false })

/-! ### Issue-time checks (R74 step 5, R75) -/

/-- The place of a failure in the order of R75. -/
def Fail.order : Fail → Nat
  | .trap c _ _ _ => if c ≤ 2 then 0 else if c = 3 then 2 else if c ≤ 8 then 3 else c - 5
  | .fatal _ _ _ => 1

/-- The failure that prevails among those of the slots (R75). -/
def firstFail : List (Nat × Fail) → Option (Nat × Fail)
  | [] => none
  | x :: r =>
    match firstFail r with
    | none => some x
    | some y => if y.2.order < x.2.order then some y else some x

/-- TMASK of the issue-time checks. -/
def failMask (l : List (Nat × Fail)) : Nat := l.foldl (fun m x => m ||| 2 ^ x.1) 0

/-! ### Commit -/

/-- The effects of the acting slots of one rank. -/
def commitRank (s0 : State) (env : Nat → Env) (r : Nat) (l : List SlotIn) (s : State) : State :=
  l.foldl (fun s x => if x.m.rank = r then x.m.commit s0 (env x.k) s else s) s

/-- The effects of the acting slots, by rank. -/
def commitAll (s0 : State) (env : Nat → Env) (l : List SlotIn) (s : State) : State :=
  commitRank s0 env 3 l (commitRank s0 env 2 l (commitRank s0 env 1 l (commitRank s0 env 0 l s)))

/-- Where control goes after the acting slots: at most one of them transfers (R52). -/
def nextOf (s0 : State) (env : Nat → Env) : List SlotIn → Next
  | [] => .fall
  | x :: r => match x.m.next s0 (env x.k) with
    | .fall => nextOf s0 env r
    | n => n

/-- The core is at a safe point after a bundle (R121): its header says so; it has no wait cycles, which are a freeze (R73, R346); and it
did not use the scale queue, nor commit while that held scales or an SCLD was outstanding (R260). -/
def safePoint (h : W32) (c : Core) : Bool :=
  headSp h && headWc h == 0 && !c.scaleOp && c.scaleQ.isEmpty && c.sclds.isEmpty

/-- The bundle has committed (R74 step 6): control moves on, wait cycles run (R50), the safe point is noted (R121). DESIGN CHOICE
(log 90): HALT leaves the PC at the next bundle, as a bundle that falls through does; R102 lets it write the PC and gives no
value. -/
def retire (p : Nat) (h : W32) (n : Next) (s : State) : State :=
  s.onCore p (fun c =>
    let c := { c with nextIssue := s.cycle + 1 + headWc h, atSafe := safePoint h c, scaleOp := false, lastWord := c.pc,
                      atPadv := false, padvDone := false, padvRetry := false, padvFail := none }
    match n with
    | .fall => if headLe h then { c with lePend := true } else { c with pc := c.pc + 1 }
    | .jump t => { c with pc := t }
    | .retry t => { c with pc := t, padvRetry := true }
    | .loopEnd b => { c with pc := b, lePend := true }
    | .halt => { c with pc := c.pc + 1, run := .halted, seq := Sequencer.zero })

/-- The value of the broadcast port of the bundle (R54), read before it. -/
def portValue (s : State) (p : Nat) (h : W32) : W64 := if headBe h then readS s p (headBs h) else 0

/-- The environment of a slot of core `p`. -/
def coreEnv (s : State) (p : Nat) (h : W32) (act : List SlotIn) (k : Nat) : Env :=
  { agent := .core p, slot := k, port := portValue s p h, pushed := (act.map (fun x => x.m.pushes)).sum }

/-- A bundle of core `p` through the steps of R74: decode, guards, freezes, issue-time checks, commit. -/
def issueCore (p : Nat) (h : W32) (l : List SlotIn) (s : State) : State :=
  match decodeFirst s p h l with
  | some (cause, k, d) =>
    raise p { cause := cause, mask := decodeMask s p h l, slot := k, detail := d, addr := 0, arg := 0,
              bundle := BitVec.ofInt 32 (s.core p).pc } s
  | none =>
    let act := l.filter (fun x => x.m.acts s (.core p))
    let env := coreEnv s p h act
    if s.stopped then freeze p [] s
    else if act.any (slotAwaits (s.core p)) || (act.any (fun x => x.m.port) && awaited (s.core p) (destS (headBs h)))
    then freeze p (stallTags s p h act) s
    else if act.any (fun x => !x.m.ready s (env x.k)) then
      freeze p [] (act.foldl (fun t x => if x.m.ready s (env x.k) then t else x.m.hold s (env x.k) t) s)
    else
      let fails := act.filterMap (fun x => (x.m.check s (env x.k)).map (fun f => (x.k, f)))
      match firstFail fails with
      | some (k, .trap cause d addr arg) =>
        raise p { cause := cause, mask := failMask fails, slot := k, detail := d, addr := addr, arg := arg,
                  bundle := BitVec.ofInt 32 (s.core p).pc } s
      | some (_, .fatal cause addr info) => fatalCore p cause addr info s
      | none => retire p h (nextOf s env act) (commitAll s env act s)

/-! ### Stream words (R243 to R245) -/

/-- The stream thread after a word: the next word four cycles later at the earliest (R243). -/
def retireThread (c : Nat) (n : Next) (s : State) : State :=
  s.onCtx c (fun x =>
    let x := { x with started := true }
    let t := { x.thr with last := x.thr.pc, nextAt := s.cycle + 4, fixed := none, watch := none }
    { x with thr :=
      match n with
      | .jump k => { t with pc := k }
      | .halt => { t with halted := true, haltAt := x.thr.pc.toNat }
      | _ => { t with pc := t.pc + 1 } })

/-- The detail code a stream word fails with (R244): that of its word, else 18 for one that stream code does not let run. -/
def threadBad (bad : Option Nat) (m : Meaning) : Option Nat :=
  match bad with
  | some d => some d
  | none => if m.thread then none else some 18

/-- A stream word through its steps (R244, R245, R359). -/
def issueThread (c : Nat) (bad : Option Nat) (m : Meaning) (s : State) : State :=
  let e : Env := { agent := .thread c, slot := 0, port := 0, pushed := 0 }
  let at_ := BitVec.ofInt 64 (s.ctx c).thr.pc
  match threadBad bad m with
  | some d => fatalThread c 6 0 (BitVec.ofNat 64 d) at_ s
  | none =>
    if s.stopped then s
    else if m.acts s (.thread c) then
      match m.check s e with
      | some (.fatal cause addr info) => fatalThread c cause addr info at_ s
      | some (.trap _ _ addr info) => fatalThread c 7 addr (info.setWidth 64) at_ s
      | none =>
        if m.ready s e then retireThread c (m.next s e) (m.commit s e s)
        else (m.hold s e s).onCtx c (fun x => { x with started := true })
    else retireThread c .fall s

/-! ### One instruction -/

/-- The outcome of a step of a powered module; each draws the free values of one count. -/
def finish (s : State) (f : State → State) : Host.Outcome State Fault Refusal :=
  if s.powered then .next { f s with freeCtr := s.freeCtr + 1 } else .fault .unpowered

/-- The slot that `exec` fills for core `p`: the slot of the state, its instruction. A stream-only instruction in a
bundle is detail 6 (R67). -/
def slotOf (i : Instr) (m : Meaning) (k : Nat) : SlotIn :=
  { k := k, bad := match i.detail with
      | some d => some d
      | none => if i.streamOnly then some 6 else none, m := m }

/-- The effect of one instruction for the agent of the state: a bundle with the header of the state whose slot of the
state holds it, or a stream word. -/
def issueFor (i : Instr) (m : Meaning) (s : State) : State :=
  match s.cur with
  | .core p => issueCore p s.header [slotOf i m s.slot] s
  | .thread c => issueThread c i.detail m s

/-- What `exec` answers for an instruction. -/
def issueOne (i : Instr) (m : Meaning) (s : State) : Host.Outcome State Fault Refusal :=
  finish s (issueFor i m)

/-- What `exec` answers for an event: it takes place when it is enabled, else nothing changes. -/
def happen (enabled : State → Bool) (f : State → State) (s : State) : Host.Outcome State Fault Refusal :=
  finish s (fun s => if enabled s then f s else s)

end Sys2Proof.Machine
end

