-- ==== Sys2Proof/Machine/Operands.lean ====
section
/-!
DEFINITION. Machine/Operands.lean: the operand forms of the scalar slots and their results (R105 to R112), and the
meanings that every scalar register instruction is an instance of.
-/

namespace Sys2Proof.Machine

/-- The register instructions of format SR with two operands (R105, R107). -/
inductive AluOp where
  | add | sub | and | or | xor | andn | shl | shr | sra | mul | mulh | mulhn | div | divn | rem | remn
  | min | max | minn | maxn | clz | popc | bfx
  deriving DecidableEq, Repr

/-- The signed value of a pattern of `w` bits. -/
def toSigned (w x : Nat) : Int := if 2 ^ (w - 1) ≤ x then (x : Int) - (2 ^ w : Nat) else x

/-- An integer wrapped to `w` bits (R27). -/
def wrap (w : Nat) (x : Int) : Nat := (x % (2 ^ w : Nat)).toNat

/-- The signed quotient truncated toward zero and the remainder with the sign of `x` (R105, R107). -/
def quot (x y : Int) : Int := if y = 0 then -1 else x.tdiv y
def remainder (x y : Int) : Int := if y = 0 then x else x - y * x.tdiv y

/-- The number of one bits among the low `w` bits. -/
def popCount (x : Nat) : Nat → Nat
  | 0 => 0
  | w + 1 => popCount x w + x / 2 ^ w % 2

/-- The result of `w` bits on operands of `w` bits (R105, R106, R107). -/
def aluValue (o : AluOp) (w x y : Nat) : Nat :=
  let sh := y % w
  match o with
  | .add => wrap w (x + y)
  | .sub => wrap w ((x : Int) - y)
  | .and => x &&& y
  | .or => x ||| y
  | .xor => x ^^^ y
  | .andn => x &&& (2 ^ w - 1 - y)
  | .shl => x * 2 ^ sh % 2 ^ w
  | .shr => x / 2 ^ sh
  | .sra => wrap w (toSigned w x / (2 ^ sh : Nat))
  | .mul => x * y % 2 ^ w
  | .mulh => wrap w (toSigned w x * toSigned w y / (2 ^ w : Nat))
  | .mulhn => x * y / 2 ^ w
  | .div => wrap w (quot (toSigned w x) (toSigned w y))
  | .divn => if y = 0 then 2 ^ w - 1 else x / y
  | .rem => wrap w (remainder (toSigned w x) (toSigned w y))
  | .remn => if y = 0 then x else x % y
  | .min => if toSigned w y < toSigned w x then y else x
  | .max => if toSigned w x < toSigned w y then y else x
  | .minn => if y < x then y else x
  | .maxn => if x < y then y else x
  | .clz => w - bitLen x
  | .popc => popCount x w
  | .bfx => x / 2 ^ sh % 2 ^ (y / 256 % w + 1)

/-- The 32-bit result is zero-extended, not sign-extended (R105). -/
def AluOp.zeroExt : AluOp → Bool
  | .mulhn | .divn | .remn | .minn | .maxn | .clz | .popc | .bfx => true
  | _ => false

/-- A 32-bit result extended to the register (R105). -/
def extend32 (zero : Bool) (r : Nat) : W64 :=
  if zero then BitVec.ofNat 64 r else (BitVec.ofNat 32 r).signExtend 64

/-- The register value of a format SR instruction (R105): w = 0 on 64 bits, w = 1 on the low 32. -/
def aluResult (o : AluOp) (w : BitVec 1) (x y : W64) : W64 :=
  if w = 0 then BitVec.ofNat 64 (aluValue o 64 x.toNat y.toNat)
  else extend32 o.zeroExt (aluValue o 32 (x.toNat % 2 ^ 32) (y.toNat % 2 ^ 32))

/-- The bound of a format SR instruction (R70). -/
def AluOp.bound : AluOp → Nat
  | .mul | .mulh | .mulhn => 3
  | .div | .divn | .rem | .remn => 20
  | _ => 1

/-- The flag a format SR instruction raises (R107): divide-by-zero of the divisions. -/
def AluOp.flags (o : AluOp) (w : BitVec 1) (y : W64) : Flags :=
  match o with
  | .div | .divn | .rem | .remn => divFlag (if w = 0 then y.toNat else y.toNat % 2 ^ 32)
  | _ => 0

/-- A value as a result: in the low bits of a row. -/
def asVec {n : Nat} (x : BitVec n) : Vec := x.setWidth 4096

/-- A meaning that writes one scalar register from the state before the bundle (R4): guard, sources, bound, value and
flags. -/
def scalarWrite (acts : State → Agent → Bool) (d : BitVec 6) (srcs : List (BitVec 6)) (lat : Nat)
    (f : State → Env → W64 × Flags) : Meaning :=
  { acts := acts
    dests := fun _ => [destS d]
    srcs := fun _ => srcs.map destS
    thread := true
    commit := fun s0 e s => emit e.agent e.slot (destS d) (asVec (f s0 e).1) lat (f s0 e).2 s }

/-- A meaning that writes one predicate register (R110 to R112). -/
def predWrite (acts : State → Agent → Bool) (d : BitVec 5) (srcs : List (BitVec 6)) (f : State → Env → Pred) : Meaning :=
  { acts := acts
    dests := fun c => [destP c d]
    srcs := fun _ => srcs.map destS
    thread := true
    commit := fun s0 e s =>
      let x := f s0 e
      match e.agent with
      | .core p => emit e.agent e.slot (destP (s0.core p) d) (asVec x) 1 0 s
      | .thread _ => emit e.agent e.slot (if d = 0 then .none else .p d.toNat) (asVec x) 1 0 s }

/-- A format SR instruction with operands a and b (R105). -/
def mAlu (o : AluOp) (g : BitVec 5) (n : BitVec 1) (d a b : BitVec 6) (w : BitVec 1) : Meaning :=
  scalarWrite (guardN g n) d [a, b] o.bound (fun s e =>
    let y := readAS s e.agent b
    (aluResult o w (readAS s e.agent a) y, o.flags w y))

/-- A format SR instruction with the operand a only (CLZ, POPC). -/
def mAlu1 (o : AluOp) (g : BitVec 5) (n : BitVec 1) (d a : BitVec 6) (w : BitVec 1) : Meaning :=
  scalarWrite (guardN g n) d [a] o.bound (fun s e => (aluResult o w (readAS s e.agent a) 0, 0))

/-- The immediate instructions of format SI (R108). -/
inductive ImmOp where
  | addi | andi | ori | xori | shli | shri | srai | muli
  deriving DecidableEq, Repr

/-- The result of an immediate instruction (R108). -/
def immResult (o : ImmOp) (x : W64) (i : BitVec 13) : W64 :=
  let k := i.signExtend 64
  match o with
  | .addi => x + k
  | .andi => x &&& k
  | .ori => x ||| k
  | .xori => x ^^^ k
  | .shli => x <<< i.toNat
  | .shri => x >>> i.toNat
  | .srai => x.sshiftRight i.toNat
  | .muli => x * k

/-- The bound of an immediate instruction (R108). -/
def ImmOp.bound : ImmOp → Nat
  | .muli => 3
  | _ => 1

/-- An instruction of format SI that always acts (R53, R108). -/
def mImm (o : ImmOp) (d a : BitVec 6) (i : BitVec 13) : Meaning :=
  scalarWrite (fun _ _ => true) d [a] o.bound (fun s e => (immResult o (readAS s e.agent a) i, 0))

/-- The compares of format SC (R110). -/
inductive CmpOp where
  | eq | ne | lt | le | ltn | len | bit
  deriving DecidableEq, Repr

/-- The relation of a compare (R110). -/
def cmpResult (o : CmpOp) (x y : W64) : Bool :=
  match o with
  | .eq => x == y
  | .ne => x != y
  | .lt => x.slt y
  | .le => x.sle y
  | .ltn => x.ult y
  | .len => x.ule y
  | .bit => x.getLsbD (y.toNat % 64)

/-- A compare (R110): every lane of p[pd] takes the result. -/
def mCmp (o : CmpOp) (g : BitVec 5) (n : BitVec 1) (d : BitVec 5) (a b : BitVec 6) : Meaning :=
  predWrite (guardN g n) d [a, b] (fun s e => predAll (cmpResult o (readAS s e.agent a) (readAS s e.agent b)))

/-- The lanes of PLOG (R112): bit 2 × pa + pb of the truth table. -/
def plogResult (x y : Pred) (t : BitVec 4) : Pred :=
  predOf (fun i => t.getLsbD (2 * (laneBit x i).toNat + (laneBit y i).toNat))

end Sys2Proof.Machine
end

