-- ==== Sys2Proof/Machine/Control.lean ====
section
/-!
DEFINITION. Machine/Control.lean: control transfers and loops (R113 to R120), shape registers, sticky records, control
registers, TRAP and TRET (R143 to R155).
-/

namespace Sys2Proof.Machine

/-- The index of the bundle or stream word in issue (R113, R243). -/
def Env.pc (e : Env) (s : State) : Int :=
  match e.agent with
  | .core p => (s.core p).pc
  | .thread c => (s.ctx c).thr.pc

/-- The return index of CALL (R113, R243), zero-extended. -/
def linkValue (e : Env) (s : State) : W64 := (BitVec.ofInt 32 (e.pc s + 1)).setWidth 64

/-- The meaning of NOP (R67). -/
def mNop : Meaning := { thread := true }

/-- The meaning of BR (R113). -/
def mBr (g : BitVec 5) (n : BitVec 1) (o : BitVec 19) : Meaning :=
  { acts := guardN g n, xfer := true, thread := true, next := fun s e => .jump (e.pc s + o.toInt) }

/-- The meaning of CALL (R113): s62 takes the index after it. -/
def mCall (g : BitVec 5) (n : BitVec 1) (o : BitVec 19) : Meaning :=
  { acts := guardN g n, xfer := true, thread := true, dests := fun _ => [.s 62]
    next := fun s e => .jump (e.pc s + o.toInt)
    commit := fun s0 e s => emit e.agent e.slot (.s 62) (asVec (linkValue e s0)) 1 0 s }

/-- The meaning of JMP (R113). -/
def mJmp (g : BitVec 5) (n : BitVec 1) (a : BitVec 6) : Meaning :=
  { acts := guardN g n, xfer := true, thread := true, srcs := fun _ => [destS a]
    next := fun s e => .jump ((readAS s e.agent a).toNat : Int) }

/-- The meaning of HALT (R115, R245). -/
def mHalt : Meaning := { xfer := true, thread := true, next := fun _ _ => .halt }

/-- A push onto the loop stack (R116): its body starts at the next bundle. -/
def pushLoop (p : Nat) (start : Int) (count : W32) (ep : BitVec 4) (stg : Bool) (s : State) : State :=
  s.onCore p (fun c => { c with seq := { c.seq with loops :=
    { start := BitVec.ofInt 32 start, count := count, index := 0, ep := ep, stg := stg } :: c.seq.loops } })

/-- A push at depth 6 fails decode (R116). -/
def pushDecode (s : State) (p : Nat) : Option Nat := if 6 ≤ (s.core p).seq.loops.length then some 7 else none

/-- The meaning of LOOP (R116). -/
def mLoop (a : BitVec 6) : Meaning :=
  { xfer := true, srcs := fun _ => [destS a], decode := pushDecode
    next := fun s e => .jump (e.pc s + 1)
    commit := fun s0 e s => pushLoop e.p (e.pc s0 + 1) ((readAS s0 e.agent a).setWidth 32) 0 false s }

/-- The meaning of LOOPI (R116). -/
def mLoopi (i : BitVec 19) : Meaning :=
  { xfer := true, decode := pushDecode
    next := fun s e => .jump (e.pc s + 1)
    commit := fun s0 e s => pushLoop e.p (e.pc s0 + 1) (i.setWidth 32) 0 false s }

/-- The meaning of LOOPS (R116): p16 becomes all ones when the count is not 0, else all zeros. DESIGN CHOICE (log 94): p16
is a destination for R52's check of one bundle's destinations. -/
def mLoops (a : BitVec 6) (i : BitVec 13) : Meaning :=
  { xfer := true, srcs := fun _ => [destS a], decode := pushDecode, dests := fun c => [destP c 16]
    next := fun s e => .jump (e.pc s + 1)
    commit := fun s0 e s =>
      let n := (readAS s0 e.agent a).setWidth 32
      emit e.agent e.slot (destP (s0.core e.p) 16) (asVec (predAll (n != 0))) 1 0
        (pushLoop e.p (e.pc s0 + 1) n (i.setWidth 4) true s) }

/-- The meaning of LIDX (R120): a level deeper than the stack reads 0. -/
def mLidx (d : BitVec 6) (i : BitVec 13) : Meaning :=
  { scalarWrite (fun _ _ => true) d [] 1 (fun s e =>
      match (s.core e.p).seq.loops[i.toNat]? with
      | some l => (l.index.setWidth 64, 0)
      | none => (0, 0)) with thread := false }

/-- The meaning of LBRK (R119): taken on an empty stack it is an illegal instruction, found at issue. -/
def mLbrk (g : BitVec 5) (n : BitVec 1) : Meaning :=
  { acts := guardN g n, xfer := true
    check := fun s e => if (s.core e.p).seq.loops = [] then some (.trap 2 8 0 0) else none
    next := fun s e => .jump (e.pc s + 1)
    commit := fun _ e s => s.onCore e.p (fun c => { c with seq := { c.seq with loops := c.seq.loops.tail } }) }

/-- The meaning of TRAP (R155): a check that always fails. -/
def mTrap (i : BitVec 19) : Meaning :=
  { xfer := true, check := fun _ _ => some (.trap 10 0 0 (i.setWidth 32)) }

/-- The header of a bundle of the context's code section (R49, R50). -/
def headerAt (x : Ctx) (b : Nat) : W32 := x.code.getD (6 * b) 0

/-- Where TRET resumes (R155): at TBUNDLE + imm, or at the loop end of the bundle it skips. -/
def tretNext (s : State) (p : Nat) (skip : Bool) : Next :=
  let b := (s.core p).trap.bundle.toNat % 2 ^ 32
  if skip then
    if headLe (headerAt (s.ctx (s.ctxOf p)) b) then .loopEnd (b : Int) else .jump ((b : Int) + 1)
  else .retry (b : Int)

/-- The return from a trap (R155): the sequencer copy comes back and the steward flag clears. -/
def leaveTrap (p : Nat) (s : State) : State :=
  s.onCore p (fun c => { c with seq := c.stewSeq, steward := false })

/-- The meaning of TRET (R155). -/
def mTret (i : BitVec 19) : Meaning :=
  { xfer := true
    decode := fun s p => if (s.core p).steward then none else some 16
    next := fun s e => tretNext s e.p (i == 1)
    commit := fun _ e s => leaveTrap e.p s
    rank := 1 }

/-! ### Control registers (R151, R152) -/

/-- The control register numbers of R152. -/
def ctrlKnown (k : Nat) : Bool := k < 3 || (0x10 ≤ k && k < 0x15) || k == 0x20

/-- The value of a control register (R152). -/
def ctrlRead (s : State) (p k : Nat) : W64 :=
  let c := s.core p
  if k = 0 then (if c.steward then 1 else 0)
  else if k = 1 then BitVec.ofNat 64 (c.lcore % 512 + c.lcore / 4 % 128 * 2 ^ 16)
  else if k = 2 then BitVec.ofNat 64 (s.ctxOf p % 64 + (s.ctx (s.ctxOf p)).tenant % 16 * 2 ^ 8)
  else if k = 0x10 then c.trap.cause
  else if k = 0x11 then c.trap.bundle
  else if k = 0x12 then c.trap.mask
  else if k = 0x13 then c.trap.addr
  else if k = 0x14 then c.trap.info
  else c.klprg

/-- KLPRG (R189): its state field, and its value without the reserved bits. -/
def lprgState (x : W64) : Nat := fld x 62 2
def lprgWord (state status done : Nat) : W64 :=
  BitVec.ofNat 64 (state % 4 * 2 ^ 62 + status % 256 * 2 ^ 48 + done % 2 ^ 14)
def lprgMask (x : W64) : W64 := lprgWord (fld x 62 2) (fld x 48 8) (fld x 0 14)

/-- A control register written (R151, R152, R189). DESIGN CHOICE (log 78): the reserved bits of TINFO stay zero (R3, R153).
DESIGN CHOICE (log 96): beside an LMMAR of its own bundle a KWR of KLPRG finds the LMMAR started, and is ignored. -/
def ctrlWrite (k : Nat) (x : W64) (c : Core) : Core :=
  if k = 0x10 then { c with trap := { c.trap with cause := x } }
  else if k = 0x11 then { c with trap := { c.trap with bundle := x } }
  else if k = 0x12 then { c with trap := { c.trap with mask := x } }
  else if k = 0x13 then { c with trap := { c.trap with addr := x } }
  else if k = 0x14 then { c with trap := { c.trap with info := x &&& ~~~(0xFF0000 : W64) } }
  else if k = 0x20 ∧ lprgState c.klprg ≠ 1 then { c with klprg := lprgMask x }
  else c

/-- The meaning of KRD (R151). -/
def mKrd (d : BitVec 6) (k : BitVec 13) : Meaning :=
  { scalarWrite (fun _ _ => true) d [] 4 (fun s e => (ctrlRead s e.p k.toNat, 0)) with
    thread := false
    decode := fun _ _ => if ctrlKnown k.toNat then none else some 15 }

/-- The meaning of KWR (R151): the trap record only in steward mode, KLPRG in either. DESIGN CHOICE (log 95): of two KWR of
one bundle to one register the later slot's write stands. -/
def mKwr (a : BitVec 6) (k : BitVec 13) : Meaning :=
  { srcs := fun _ => [destS a]
    decode := fun s p =>
      if k.toNat = 0x20 ∨ (0x10 ≤ k.toNat ∧ k.toNat < 0x15 ∧ (s.core p).steward = true) then none else some 15
    commit := fun s0 e s => s.onCore e.p (ctrlWrite k.toNat (readS s0 e.p a))
    rank := 3 }

/-! ### Shape registers (R143 to R147) -/

/-- Field `f` of a shape register copy (R143). -/
def Shape.field (h : Shape) (f : Nat) : W64 :=
  if f = 0 then h.base else if f = 1 then h.ext else if f = 2 then h.st1 else if f = 3 then h.st2
  else if f = 4 then h.fmt else if f = 5 then h.tag else if f = 6 then h.rc else h.bar

/-- A shape register copy with a field written. -/
def Shape.setField (h : Shape) (f : Nat) (x : W64) : Shape :=
  if f = 0 then { h with base := x } else if f = 1 then { h with ext := x } else if f = 2 then { h with st1 := x }
  else if f = 3 then { h with st2 := x } else if f = 4 then { h with fmt := x } else if f = 5 then { h with tag := x }
  else if f = 6 then { h with rc := x } else { h with bar := x }

/-- The active and the shadow copy of register `h` of engine `e` (R59 codes, R143). -/
def activeShape (c : Core) (e h : Nat) : Shape := Tab.get Shape.zero c.active (4 * e + h)
def shadowShape (c : Core) (e h : Nat) : Shape := Tab.get Shape.zero c.shadow (4 * e + h)

/-- The active and shadow copies exchanged (R144). -/
def exchange (e h : Nat) (c : Core) : Core :=
  { c with active := Tab.put Shape.zero c.active (4 * e + h) (shadowShape c e h)
           shadow := Tab.put Shape.zero c.shadow (4 * e + h) (activeShape c e h) }

/-- The copy an X instruction reads (R144): after the exchange when sw = 1. -/
def usedShape (c : Core) (e h : Nat) (sw : BitVec 1) : Shape := if sw = 1 then shadowShape c e h else activeShape c e h

/-- The registers an X instruction exchanges (R144, R198). -/
def exchangeAll (e : Nat) (sw : BitVec 1) (hs : List Nat) (c : Core) : Core :=
  if sw = 1 then hs.foldl (fun k h => exchange e h k) c else c

/-- The meaning of SHW (R146): the shadow field, after any exchange of the bundle. -/
def mShw (e h : BitVec 2) (f : BitVec 3) (a : BitVec 6) : Meaning :=
  { srcs := fun _ => [destS a]
    shw := some ((4 * e.toNat + h.toNat) * 8 + f.toNat)
    commit := fun s0 v s => s.onCore v.p (fun c => { c with
      shadow := Tab.put Shape.zero c.shadow (4 * e.toNat + h.toNat)
        ((shadowShape c e.toNat h.toNat).setField f.toNat (readS s0 v.p a)) })
    rank := 2 }

/-- The meaning of SHRD (R146): the active copy as it stood before the bundle. -/
def mShrd (e h : BitVec 2) (f : BitVec 3) (a : BitVec 6) : Meaning :=
  { scalarWrite (fun _ _ => true) a [] 1 (fun s v => ((activeShape (s.core v.p) e.toNat h.toNat).field f.toNat, 0)) with
    thread := false }

/-- The meaning of SHSW (R147). -/
def mShsw (h : BitVec 2) (g : BitVec 5) (i : BitVec 6) : Meaning :=
  { acts := guardM g, commit := fun _ v s => s.onCore v.p (exchange i.toNat h.toNat), rank := 1 }

/-! ### Sticky records (R150) -/

/-- The meaning of EXRD (R150). -/
def mExrd (d : BitVec 6) (i : BitVec 13) : Meaning :=
  { scalarWrite (fun _ _ => true) d [] 1 (fun s e => ((Tab.get Sticky.zero (s.core e.p).sticky i.toNat).word, 0)) with
    thread := false }

/-- The meaning of EXCLR (R150): imm = 5 clears all five records. -/
def mExclr (i : BitVec 13) : Meaning :=
  { commit := fun _ e s => s.onCore e.p (fun c => { c with
      sticky := if i = 5 then [] else Tab.erase c.sticky i.toNat })
    rank := 3 }

/-- NOP (R67): the all-zero word in any slot does nothing. -/
def execNop (s : State) : Host.Outcome State Fault Refusal :=
  issueOne .nop mNop s

/-- BR (R113): branches by a signed bundle displacement when the guard holds. -/
def execBr (g : BitVec 5) (n : BitVec 1) (o : BitVec 19) (s : State) : Host.Outcome State Fault Refusal :=
  issueOne (.br g n o) (mBr g n o) s

/-- CALL (R113): writes the return index to s62 and branches. -/
def execCall (g : BitVec 5) (n : BitVec 1) (o : BitVec 19) (s : State) : Host.Outcome State Fault Refusal :=
  issueOne (.call g n o) (mCall g n o) s

/-- JMP (R113): jumps to the bundle index in s[a]. -/
def execJmp (g : BitVec 5) (n : BitVec 1) (a : BitVec 6) (s : State) : Host.Outcome State Fault Refusal :=
  issueOne (.jmp g n a) (mJmp g n a) s

/-- HALT (R115): ends the core's part in its task, or stops a stream thread. -/
def execHalt (s : State) : Host.Outcome State Fault Refusal :=
  issueOne .halt mHalt s

/-- LOOP (R116): pushes a loop whose count comes from s[a]. -/
def execLoop (a : BitVec 6) (s : State) : Host.Outcome State Fault Refusal :=
  issueOne (.loop a) (mLoop a) s

/-- LOOPI (R116): pushes a loop with an immediate count. -/
def execLoopi (i : BitVec 19) (s : State) : Host.Outcome State Fault Refusal :=
  issueOne (.loopi i) (mLoopi i) s

/-- LOOPS (R116): pushes a staged loop with epilogue count and sets p16. -/
def execLoops (a : BitVec 6) (i : BitVec 13) (s : State) : Host.Outcome State Fault Refusal :=
  issueOne (.loops a i) (mLoops a i) s

/-- LIDX (R120): reads the index of a loop level. -/
def execLidx (d : BitVec 6) (i : BitVec 13) (s : State) : Host.Outcome State Fault Refusal :=
  issueOne (.lidx d i) (mLidx d i) s

/-- LBRK (R119): pops the innermost loop when the guard holds. -/
def execLbrk (g : BitVec 5) (n : BitVec 1) (s : State) : Host.Outcome State Fault Refusal :=
  issueOne (.lbrk g n) (mLbrk g n) s

/-- TRAP (R155): always fails its issue check, trapping with TCAUSE 10. -/
def execTrap (i : BitVec 19) (s : State) : Host.Outcome State Fault Refusal :=
  issueOne (.trap i) (mTrap i) s

/-- TRET (R155): returns from steward mode to TBUNDLE + imm. -/
def execTret (i : BitVec 19) (s : State) : Host.Outcome State Fault Refusal :=
  issueOne (.tret i) (mTret i) s

/-- KRD (R151): reads a control register. -/
def execKrd (d : BitVec 6) (k : BitVec 13) (s : State) : Host.Outcome State Fault Refusal :=
  issueOne (.krd d k) (mKrd d k) s

/-- KWR (R151): writes a control register at commit. -/
def execKwr (a : BitVec 6) (k : BitVec 13) (s : State) : Host.Outcome State Fault Refusal :=
  issueOne (.kwr a k) (mKwr a k) s

/-- SHW (R146): writes one shadow shape-register field. -/
def execShw (e h : BitVec 2) (f : BitVec 3) (a : BitVec 6) (s : State) : Host.Outcome State Fault Refusal :=
  issueOne (.shw e h f a) (mShw e h f a) s

/-- SHRD (R146): reads one active shape-register field. -/
def execShrd (e h : BitVec 2) (f : BitVec 3) (a : BitVec 6) (s : State) : Host.Outcome State Fault Refusal :=
  issueOne (.shrd e h f a) (mShrd e h f a) s

/-- SHSW (R147): exchanges an engine's active and shadow shape register. -/
def execShsw (h : BitVec 2) (g : BitVec 5) (i : BitVec 6) (s : State) : Host.Outcome State Fault Refusal :=
  issueOne (.shsw h g i) (mShsw h g i) s

/-- EXRD (R150): reads a slot's sticky exception record. -/
def execExrd (d : BitVec 6) (i : BitVec 13) (s : State) : Host.Outcome State Fault Refusal :=
  issueOne (.exrd d i) (mExrd d i) s

/-- EXCLR (R150): clears one or all sticky exception records at commit. -/
def execExclr (i : BitVec 13) (s : State) : Host.Outcome State Fault Refusal :=
  issueOne (.exclr i) (mExclr i) s

end Sys2Proof.Machine
end

