-- ==== Sys2Proof/Machine/Live.lean ====
section
/-!
DEFINITION. Machine/Live.lean: live operations on one 64-bit word (R218, R231, R232, R334), what they release and acquire
(R219), and the order in which a core's outstanding accesses act (R223 to R229).
-/

namespace Sys2Proof.Machine

/-- The count barrier after an add (R231). -/
def barrierNew (w : W64) (amount : Nat) : W64 :=
  let phase := fld w 63 1
  let target := fld w 40 23
  let c := fld w 0 40 + amount
  if target ≠ 0 ∧ target ≤ c then BitVec.ofNat 64 ((1 - phase) * 2 ^ 63 + target * 2 ^ 40 + (c - target) % 2 ^ 40)
  else BitVec.ofNat 64 (phase * 2 ^ 63 + target * 2 ^ 40 + c % 2 ^ 40)

/-- The word an atomic leaves (R232): operand `x`, for a compare and swap also the expected value `y`. -/
def atomNew (k : AtomKind) (old x y : W64) : W64 :=
  match k with
  | .ld => old
  | .st => x
  | .add => old + x
  | .min => if x.slt old then x else old
  | .max => if old.slt x then x else old
  | .minn => if x.ult old then x else old
  | .maxn => if old.ult x then x else old
  | .and => old &&& x
  | .or => old ||| x
  | .xchg => x
  | .cas => if old = y then x else old
  | .bara => barrierNew old (fld x 0 40)

/-- The order part of an oc code (R59): acquiring, releasing. -/
def ocAcquires (oc : Nat) : Bool := oc == 3 || oc == 5 || oc == 6
def ocReleases (oc : Nat) : Bool := oc == 4 || oc == 5 || oc == 6

/-- The routing class of an oc code (R224): only relaxed atomics take ADP or SPR. -/
def ocClass (oc : Nat) : Nat := if oc < 3 then oc else 0

/-- The swaps of one table taken into another, the later one for each tag. -/
def mergeSeen (new old : Tab Nat) : Tab Nat :=
  new.foldl (fun t k => Tab.upd 0 t k.1 (fun v => max v k.2)) old

/-- A live write of a word leaves on it the publications it releases (R219): those of a releasing operation, joined to
those of the releases it read when it is a read-modify-write; a relaxed write leaves none. -/
def noteRelease (key : Nat) (rmw rel : Bool) (pubs : Tab Nat) (x : Ctx) : Ctx :=
  let now := if rel then mergeSeen pubs (if rmw then Tab.get [] x.rel key else []) else []
  { x with rel := Tab.put [] x.rel key now }

/-- An acquiring read of a word takes the publications left on it (R219). -/
def acquireWord (p c key : Nat) (s : State) : State :=
  let r := Tab.get [] (s.ctx c).rel key
  s.onCore p (fun k => { k with seen := mergeSeen r k.seen })

/-- An atomic acts at the home slice of its word (R218): its old value is the one returned. The publications `pubs` are
released when `rel` says so. -/
def atomAct (c : Nat) (k : AtomKind) (va : Nat) (x y : W64) (rel : Bool) (pubs : Tab Nat) (s : State) : State :=
  if k = .ld then s
  else
    let old := memWord s c va
    let key := keyOf s c (va / 8 * 8) / 8
    let s := liveWrite c va (atomNew k old x y) s
    s.onCtx c (noteRelease key (k != .st) rel pubs)

/-- An atomic uses the L2 line of its word (R170, R171). -/
def atomLine (c va : Nat) (s : State) : State := useLine (s.ctx c).tenant true (keyOf s c va / 128) s

/-- A Crier ticket is taken by an SC atomic as it acts (R230): in one order of acts, ticket order is that order. -/
def takeTicket (oc : Nat) (s : State) : State := if oc = 6 then { s with tickets := s.tickets + 1 } else s

/-- The records of an ADMIT (R334): both counts below their limits. -/
def admitted (e r : W64) : Bool := decide (fld e 0 32 < fld e 32 32) && decide (fld r 0 32 < fld r 32 32)

/-- The result of an ADMIT on the words of its two records. -/
def admissionResult (e r : W64) : W64 := if admitted e r then BitVec.ofNat 64 (fld e 0 32) else BitVec.allOnes 64

/-- The two words of an ADMIT after it (R334), one step at their home slice. -/
def admissionAct (c va va2 : Nat) (rel : Bool) (pubs : Tab Nat) (s : State) : State :=
  let e := memWord s c va
  let r := memWord s c va2
  if admitted e r then
    let s := atomAct c .add va 1 0 rel pubs s
    if va / 8 = va2 / 8 then s else atomAct c .add va2 1 0 rel pubs s
  else s

/-! ### The order of outstanding accesses (R223 to R229) -/

/-- The access is an atomic that acquires or that releases. -/
def Access.acquires (a : Access) : Bool := ocAcquires a.oc
def Access.releases (a : Access) : Bool := ocReleases a.oc

/-- The access answers with a value; the others answer with an acknowledgement. -/
def Access.returns (a : Access) : Bool :=
  match a.kind with
  | .store => false
  | .word .st => false
  | .word .bara => false
  | .pub => false
  | .pubg => false
  | _ => true

/-- The addresses an access names: two of an ADMIT. -/
def Access.addrs (a : Access) : List W64 := if a.kind = .admission then [a.addr, a.addr2] else [a.addr]

/-- Two local accesses of one core that meet in one row keep program order (R226). -/
def sameRow (e a : Access) : Bool :=
  !e.remote && !a.remote && e.addrs.any (fun x => a.addrs.any (fun y => decide (vaOf x / 512 = vaOf y / 512)))

/-- Two remote accesses to one device of one class that keeps order (R224, note (r) of R229). -/
def sameFlow (e a : Access) : Bool :=
  e.remote && a.remote && decide (devOf e.addr = devOf a.addr) && decide (e.rc = a.rc) && decide (e.rc < 2)

/-- The access is one of memory; the residency requests of the X slot are not. -/
def Access.ofMemory (a : Access) : Bool := a.kind != .ralloc && a.kind != .rqry

/-- The access is a PUB or PUBG that waits for its turn (R313). -/
def Access.publishes (a : Access) : Bool := a.kind == .pub || a.kind == .pubg

/-- An earlier outstanding access keeps a later one from acting, or from being injected (R227 to R229); residency requests keep their
own order. -/
def holdsBack (e a : Access) : Bool :=
  if e.ofMemory && a.ofMemory then
    e.acquires || a.releases || e.publishes || a.publishes || sameRow e a || (sameFlow e a && !e.sent)
  else !e.ofMemory && !a.ofMemory

/-- An earlier PUBD of the core has not been performed: it holds back what releases, and the PUBs behind it (R227 to R229). -/
def discardHolds (c : Core) (a : Access) : Bool :=
  (a.releases || a.publishes) && c.pubds.any (fun j => decide (j.issue < a.issue))

/-- The outstanding access `i` of a core may act, or be injected. -/
def mayAct (s : State) (p i : Nat) : Bool :=
  let c := s.core p
  match c.board[i]? with
  | none => false
  | some a => !((c.board.take i).any (fun e => holdsBack e a)) && !discardHolds c a

/-- An acquiring atomic is outstanding: later accesses of every kind wait (R227 to R229). -/
def acquireOpen (c : Core) : Bool := c.board.any Access.acquires

/-- The packet an access is injected as (R221). -/
def Access.packet (a : Access) : PacketKind :=
  match a.kind with
  | .store => if a.mask = BitVec.allOnes 512 then .storeRow a.own else .storeWord a.x
  | .word k => .atomic k (a.oc == 6) a.x a.y
  | .admission => .admission (a.oc == 6) (vaOf a.addr2)
  | _ => .loadRow

/-- The hint of an access lets its row be allocated in L2 (R172): NORM or BY of a load or a store. -/
def Access.alloc (a : Access) : Bool :=
  match a.kind with
  | .ldg => a.x == 0 || a.x == 2
  | .ldgs => a.x == 0 || a.x == 2
  | .store => a.y == 0 || a.y == 2
  | _ => false

/-- The number of a word of another device, by its system address. -/
def farWord (a : W64) : Nat := fld a 3 52

/-- A release to a word of another device is noted with the publications it carries (R219): a read-modify-write joins those of
the release before it. -/
def releaseFar (c : Nat) (rmw : Bool) (pubs : Tab Nat) (a : W64) (s : State) : State :=
  s.onCtx c (fun x => { x with relFar := Tab.upd [] x.relFar (farWord a) (fun l =>
    l ++ [mergeSeen pubs (if rmw then l.getLast?.getD [] else [])]) })

/-- The releases that an access makes on words of another device are noted as it goes there. -/
def noteFar (p : Nat) (a : Access) (s : State) : State :=
  if a.releases then
    a.addrs.foldl (fun t w => releaseFar (s.ctxOf p) (a.kind != .word .st) (s.core p).ownPubs w t) s
  else s

/-- An acquiring read of a word of another device takes the publications of the release whose value it has read (R219). -/
def acquireFar (p n : Nat) (a : W64) (s : State) : State :=
  let l := Tab.get [] (s.ctx (s.ctxOf p)).relFar (farWord a)
  if n = 0 then s else s.onCore p (fun k => { k with seen := mergeSeen (l.getD (n - 1) []) k.seen })

/-- What an atomic of core `p` on another device acquires by the value that returns. -/
def acquireReply (p : Nat) (a : Access) (r : Reply) (s : State) : State :=
  if a.acquires then
    let t := acquireFar p (r.rel % 2 ^ 16) a.addr s
    if a.kind = .admission then acquireFar p (r.rel / 2 ^ 16) a.addr2 t else t
  else s

/-- Access `i` of core `p` is injected into the fabric on channel 4 (R214). -/
def inject (p i : Nat) (s : State) : State :=
  match (s.core p).board[i]? with
  | none => s
  | some a =>
    let s := sendHinted p (s.ctxOf p) 4 a.rc a.addr a.alloc a.packet (noteFar p a s)
    s.onCore p (fun c => { c with board := listUpd c.board i (fun (x : Access) => { x with sent := true }) })

/-- An access of core `p` becomes outstanding; a remote one is injected when nothing holds it back. -/
def addAccess (p : Nat) (a : Access) (s : State) : State :=
  let s := s.onCore p (fun c => { c with board := c.board ++ [a] })
  let i := (s.core p).board.length - 1
  if a.remote && mayAct s p i then inject p i s else s

/-- Access `i` of core `p` is outstanding no longer. -/
def dropAccess (p i : Nat) (s : State) : State := s.onCore p (fun c => { c with board := listDrop c.board i })

/-- A scoreboarded value arrives in its destination (R72); what was due before it has landed. -/
def arrive (p i : Nat) (a : Access) (x : Vec) (s : State) : State :=
  let s := dropAccess p i s
  s.onCore p (fun c => landFlight s.freeCtr (landDue s.freeCtr s.cycle c)
    { dest := a.dest, val := x, issue := a.issue, due := s.cycle, flags := 0, slot := a.slot, bundle := a.bundle,
      late := false, free := false })

/-- The context of a core still runs: it is loaded and not stopped or ended (R3, R340). -/
def alive (s : State) (c : Nat) : Bool := decide (1 ≤ (s.ctx c).state) && decide ((s.ctx c).state < 5)

/-- A core that runs a context that still runs. -/
def coreAlive (s : State) (p : Nat) : Bool := (s.core p).ctx.isSome && alive s (s.ctxOf p)

/-- Why the current map refuses a live operation on a word (R203, R221, R274). DEDUCED (log 69): a copy-on-write region refuses ALD
too, which is an atomic (R218). -/
def atomRefused (x : Ctx) (k : AtomKind) (va : Nat) : Option Nat :=
  if k = .ld then
    match mapRefuses x va .load with
    | some n => some n
    | none => if cowAt x va then some 2 else none
  else mapRefuses x va .live

/-- Why a word or words of an access are refused as it is to act at its home slice. -/
def accessRefused (s : State) (c : Nat) (a : Access) : Option Nat :=
  match a.kind with
  | .word k => atomRefused (s.ctx c) k (vaOf a.addr)
  | .admission => a.addrs.findSome? (fun w => mapRefuses (s.ctx c) (vaOf w) .live)
  | .pubg => mapRefuses (s.ctx c) (vaOf a.addr) .live
  | _ => none

/-- A row that an access reads is poisoned (R161). -/
def accessPoisoned (s : State) (c : Nat) (a : Access) : Bool := a.addrs.any (fun w => poisoned s c (rowVa w))

/-! ### Words of the host tier (R351) -/

/-- The backing page of an address lies on the host tier, whole under its key (R291). -/
def hostPage (s : State) (c va : Nat) : List Nat :=
  let page := sideVa (s.ctx c) false va / 65536
  let l := placeOf s c page
  if l.tier = 3 ∧ sealBroken s l = false then [page] else []

/-- An operation on a word of the host tier goes there itself (R351); the others wait until the page is promoted. -/
def hostDirect (k : AtomKind) (oc : Nat) : Bool :=
  oc != 6 && (k == .ld || k == .st || k == .add || k == .xchg || k == .cas)

/-- The pages of the host tier whose promotion an access awaits (R351): of its word or words, of the guard of a PUBG. -/
def hostPages (s : State) (c : Nat) (a : Access) : List Nat :=
  if a.remote then []
  else
    match a.kind with
    | .word k => if hostDirect k a.oc then [] else hostPage s c (vaOf a.addr)
    | .admission => (a.addrs.map (fun w => hostPage s c (vaOf w))).flatten
    | .pubg => hostPage s c (vaOf a.addr)
    | _ => []

/-- An access awaits the promotion of a page. -/
def hostTierWaits (s : State) (c : Nat) (a : Access) : Bool := !(hostPages s c a).isEmpty

/-- The pages of the host tier whose promotion the adds of an engine at a local barrier await (R202, R351): status bits and bytes
are no operations of the host's; a packed count is. -/
def addPages (s : State) (c : Nat) (b : W64) (status : Nat) : List Nat :=
  if b = 0 || isRemote b then []
  else hostPage s c (vaOf b) ++ (if status = 0 then [] else hostPage s c (vaOf (b + 16)))

/-- The pages of the host tier whose promotion a packet of another device awaits (R351). -/
def packetPages (s : State) (k : Packet) : List Nat :=
  match k.kind with
  | .atomic a sc _ _ => if hostDirect a (if sc then 6 else 0) then [] else hostPage s k.dst k.va
  | .admission _ va2 => hostPage s k.dst k.va ++ hostPage s k.dst va2
  | .engineAdd a _ => if hostDirect a 0 then [] else hostPage s k.dst k.va
  | _ => []

/-- A fatal context error found after issue, at the bundle that issued the access. -/
def fatalAt (p cause : Nat) (addr info : W64) (bundle : W32) (s : State) : State :=
  fatal (s.ctxOf p) (coreRecord s p cause addr info (bundle.setWidth 64)) s

end Sys2Proof.Machine
end

