-- ==== Sys2Proof/Machine/Engines.lean ====
section
/-!
DEFINITION. Machine/Engines.lean: what the engines of a core share: shapes and rows (R199 to R201), completion and
refusals (R202, R203), the release of scratchpad banks (R164).
-/

namespace Sys2Proof.Machine

/-! ### Shapes (R199) -/

/-- The outer and inner extents of a shape, and its rows. -/
def Shape.outer (h : Shape) : Nat := fld h.ext 32 32
def Shape.inner (h : Shape) : Nat := fld h.ext 0 32
def Shape.rows (h : Shape) : Nat := h.outer * h.inner

/-- The fields of the operand record (R143). -/
def Shape.code (h : Shape) : Nat := h.fmt.toNat
def Shape.tagNo (h : Shape) : Nat := fld h.tag 0 12
def Shape.cls (h : Shape) : Nat := fld h.rc 0 2
def Shape.barAt (h : Shape) : W64 := h.bar &&& ~~~7

/-- The address of row `j` of a shape (R199). -/
def Shape.rowAt (h : Shape) (j : Nat) : W64 :=
  h.base + BitVec.ofNat 64 (j % h.inner) * h.st1 + BitVec.ofNat 64 (j / h.inner) * h.st2

/-- The address of row `i` along stride 1 alone: a table's row, an activation row, a CTOPK destination. -/
def Shape.stepAt (h : Shape) (i : Nat) : W64 := h.base + BitVec.ofNat 64 i * h.st1

/-- A shape with its base moved (R205, R206). -/
def Shape.move (h : Shape) (off : W64) : Shape := { h with base := h.base + off }

/-! ### Rows of a copy -/

/-- The copy takes its indices from the address queue (R206). -/
def Copy.indexed (j : Copy) : Bool := j.kind == .cgth || j.kind == .csct

/-- A row of a CCPY with a mask is selected (R205). -/
def Copy.selected (j : Copy) (r : Nat) : Bool :=
  match j.mask with
  | none => true
  | some m => m / 2 ^ r % 2 == 1

/-- The rows selected before row `r`. -/
def Copy.rank (j : Copy) (r : Nat) : Nat :=
  match j.mask with
  | none => r
  | some m => popCount (m % 2 ^ r) r

/-- The source address of row `r` (R205, R207); a CTOPK reads the accumulator. -/
def Copy.srcAt (j : Copy) (r : Nat) : W64 :=
  match j.kind with
  | .cgth => j.src.stepAt (j.idx.getD r 0).toNat
  | _ => j.src.rowAt r

/-- The destination address of row `r` (R205, R207, R208). -/
def Copy.dstAt (j : Copy) (r : Nat) : W64 :=
  match j.kind with
  | .ccpy => j.dst.rowAt (j.rank r)
  | .cgth => j.dst.rowAt r
  | .csct => j.dst.stepAt (j.idx.getD r 0).toNat
  | .ctopk => j.dst.stepAt r

/-- The extent of the table of an indexed copy. -/
def Copy.extent (j : Copy) : Nat := if j.kind = .csct then j.dst.inner else j.src.inner

/-- A copy reaches another device: by a shape, its barrier, or its mask. -/
def Copy.remote (j : Copy) : Bool :=
  isRemote j.src.base || isRemote j.dst.base || isRemote j.bar || (j.masked && isRemote j.maskAt)

/-! ### Banks that wait for engine rows (R164) -/

/-- A scratchpad address of core `p`'s cluster lies in bank `b` of core `owner`. -/
def inBank (p owner b : Nat) (a : W64) : Bool :=
  isSpad a && decide (spadPhys p a = owner) && decide (spadRow a / 512 = b)

/-- A copy may still write a row into a bank: a row not done, or, while a CSCT still waits for indices, any row of its
table. -/
def Copy.mayWrite (p owner b : Nat) (j : Copy) : Bool :=
  (List.range j.rows).any (fun r => !j.done.contains r &&
    (if j.kind = .csct ∧ j.idx.length ≤ r then (List.range j.dst.inner).any (fun i => inBank p owner b (j.dst.stepAt i))
     else if j.kind = .ccpy ∧ j.masked = true ∧ j.mask = none then inBank p owner b (j.dst.rowAt r)
     else j.selected r && inBank p owner b (j.dstAt r)))

/-- Some engine of the cluster may still write a row into bank `b` of core `owner`. -/
def engineInto (s : State) (owner b : Nat) : Bool :=
  (List.range 4).any (fun q =>
    let p := owner / 4 * 4 + q
    (List.range 4).any (fun u => (Tab.get [] (s.core p).chans u).any (Copy.mayWrite p owner b)))

/-- Every RELEASING bank of core `owner` that no engine will still write is FREE (R164). -/
def releaseCore (owner : Nat) (s : State) : State :=
  let c := s.core owner
  s.setCore owner { c with banks := c.banks.map (fun (k : Nat × Bank) =>
    if k.2.state = .releasing ∧ !engineInto s owner k.1 then (k.1, { k.2 with state := .free, task := 0 }) else k) }

/-- The RELEASING banks of the cluster of core `p` are looked at again. -/
def releaseCluster (p : Nat) (s : State) : State :=
  let q := p / 4 * 4
  releaseCore (q + 3) (releaseCore (q + 2) (releaseCore (q + 1) (releaseCore q s)))

/-! ### When an engine operation may start, and what it reads (R200, R229) -/

/-- Every access and every discard of the core issued before the operation has been performed (R227, R229). -/
def startedAt (c : Core) (issue : Nat) : Bool :=
  !(c.board.any (fun a => decide (a.issue < issue))) && !(c.pubds.any (fun j => decide (j.issue < issue)))

/-- The bank that a scratchpad address names is held by another context than `c` (R164, R165). -/
def bankGone (s : State) (p c : Nat) (a : W64) : Bool :=
  (Tab.get Bank.zero (s.core (spadPhys p a)).banks (spadRow a / 512)).held != c + 1

/-- The row that an engine of core `p` reads now (R200): at the bank, as an LDG of the core returns it, or as the target answers. A row of
a released bank that another context has acquired since is undefined: no row of one context is read by another (R175; log 88). -/
def engineRead (s : State) (p c : Nat) (a : W64) (r : Reply) : Vec :=
  if isSpad a then (if bankGone s p c a then Config.undef s.freeCtr 12 else spadGet s p a)
  else if isRemote a then r.data else loadRow s p c (rowVa a)

/-- The row it reads is poisoned (R203 code 4). -/
def enginePoison (s : State) (c : Nat) (a : W64) (r : Reply) : Bool :=
  if isSpad a then false else if isRemote a then r.poisoned else poisoned s c (rowVa a)

/-- An engine row uses the L2 lines that hold a local global row (R332) and, on the host tier, its translation (R351); it fills no line
(R158; log 26). -/
def engineLine (c : Nat) (a : W64) (s : State) : State :=
  if isSpad a || isRemote a then s else touchHost c (rowVa a) (useRow (s.ctx c).tenant false (keyOf s c (rowVa a)) s)

/-- A row converted element by element between formats of one element size, under RNE with sat 0 (R205). -/
def convertRow (sf df : Nat) (v : Vec) : Vec × Flags :=
  if sf = df then (v, 0) else mapLanes df (BitVec.allOnes 128) 0 (fun j => convert sf df 0 false (elem v (fmtBits sf) j))

/-- Why the current map refuses a live row at a local address (R203, R274). -/
def rowRefused (s : State) (c : Nat) (a : W64) : Option Nat := mapRefuses (s.ctx c) (vaOf a) .live

/-- Why an engine row is not written at a local address that stands for the back row `back` (R203, R274): the current map
refuses the row named or the row it would land in. DEDUCED (log 58): the back side is held to the map as the front is. -/
def landRefused (s : State) (c : Nat) (a : W64) (back : Nat) : Option Nat :=
  if isSpad a then none
  else
    match rowRefused s c a with
    | some k => some k
    | none => mapRefuses (s.ctx c) back .live

/-- An engine row lands at a local destination (R201): at the bank with every granule full, or in the back row `back`. -/
def landRow (p c : Nat) (a : W64) (back : Nat) (v : Vec) (s : State) : State :=
  if isSpad a then spadPut p a v (some (BitVec.allOnes 32)) s
  else engineLine c a (writeBacking c back v s)

/-! ### Refusals (R203) -/

/-- A channel fault record that a refused row, or a refused add, marks (R202, R203). -/
def chfMark (w : W64) (row : Bool) (cls st dev : Nat) : W64 :=
  let n := if row then min (fld w 0 32 + 1) (2 ^ 32 - 1) else fld w 0 32
  if w.getLsbD 63 then BitVec.ofNat 64 (w.toNat / 2 ^ 32 * 2 ^ 32 + n)
  else BitVec.ofNat 64 (2 ^ 63 + cls % 4 * 2 ^ 61 + st % 256 * 2 ^ 48 + dev % 64 * 2 ^ 42 + n)

/-- A channel's ORD flow to a device (R203). -/
def outFlow (lcore ch dev : Nat) : Nat := (4 * lcore + ch) * 64 + dev

/-- A refused ORD packet leaves its flow's refusal state set at the target (R221); the issuer's side of it. -/
def noteRefused (c lcore ch cls dev : Nat) (s : State) : State :=
  s.onCtx c (fun x => { x with
    refused :=
      if cls = 0 ∧ dev ≠ Config.ownDevice.val then
        outFlow lcore ch dev :: x.refused.filter (fun k => k != outFlow lcore ch dev)
      else x.refused })

/-- The channel fault record of channel `ch` of logical core `lcore` (R327) is marked; a refusal by a target is noted
(R221). -/
def markFault (c lcore ch : Nat) (row : Bool) (cls st dev : Nat) (s : State) : State :=
  let s := s.onCtx c (fun x => { x with
    chf := Tab.upd 0 x.chf (4 * lcore + ch) (fun w => chfMark w row cls st dev) })
  if st = 4 ∨ st = 5 then s else noteRefused c lcore ch cls dev s

/-- The device a fault of a row names: the target's, or the own device for codes 4 and 5. -/
def faultDev (st : Nat) (a : W64) : Nat := if st = 4 ∨ st = 5 ∨ !isRemote a then Config.ownDevice.val else devOf a

/-! ### Completion (R202) -/

/-- The barrier field, when not 0, passes the check of R202 at issue. -/
def barrierOk (s : State) (c : Nat) (b : W64) : Bool :=
  b = 0 || (globalOk s c b .store && (isRemote b || (globalOk s c (b + 8) .store && globalOk s c (b + 16) .store)))

/-- The channel number of the remote packets of an engine that is neither a Carter channel nor the M slot (R214): the update
unit, the residency loader, LMMAR. -/
def ownFlow : Nat := 5

/-- One add of an engine to a word beside a barrier (R202): on a local word at once, unless the map refuses it; to a
remote one as a packet of the record's class on channel `ch`, which the target answers with `st`. A refused add is
counted in CNBREF. -/
def engineAdd (p c ch cls : Nat) (k : AtomKind) (a x : W64) (st : Nat) (s : State) : State :=
  if isRemote a then
    let s := sendPacket p c ch cls a (.engineAdd k x) s
    if st = 0 then s else countCtx c 0x825 1 s
  else if (rowRefused s c a).isSome then countCtx c 0x825 1 s
  else atomLine c (vaOf a) (atomAct c k (vaOf a) x 0 false [] s)

/-- What a remote target answers to step `k` of R202: a byte of `st`, from step 4 in the low 8 bits up to step 2. -/
def addStatus (st k : Nat) : Nat := st / 256 ^ (4 - k) % 256

/-- The words that steps 2 and 3 of R202 add to, with the step: for status bits, and for a packed count when there is one. -/
def earlyAdds (b : W64) (status : Nat) (packed : Option Nat) : List (Nat × W64) :=
  if b = 0 then []
  else (if status = 0 then [] else [(2, b + 16)]) ++ (match packed with
    | none => []
    | some _ => [(3, b + 8)])

/-- Steps 2 and 3 of R202 for a completed operation: status bits, packed count when there is one. -/
def completeEarly (p c ch cls : Nat) (b : W64) (status : Nat) (packed : Option Nat) (st : Nat) (s : State) : State :=
  if b = 0 then s
  else
    let s := if status = 0 then s else engineAdd p c ch cls .or (b + 16) (BitVec.ofNat 64 status) (addStatus st 2) s
    match packed with
    | none => s
    | some n => engineAdd p c ch cls .add (b + 8) (BitVec.ofNat 64 n) (addStatus st 3) s

/-- Step 4 of R202: the bytes landed. -/
def completeLast (p c ch cls : Nat) (b : W64) (bytes st : Nat) (s : State) : State :=
  if b = 0 then s else engineAdd p c ch cls .bara b (BitVec.ofNat 64 bytes) (addStatus st 4) s

/-- The steps 2 to 4 of R202. -/
def completeAt (p c ch cls : Nat) (b : W64) (status : Nat) (packed : Option Nat) (bytes st : Nat) (s : State) : State :=
  completeLast p c ch cls b bytes st (completeEarly p c ch cls b status packed st s)

/-- What an event of a completion does next (R202), by how many of its adds have gone (`told`): with a local barrier it is whole at once
(`early` its adds before step 4); to a remote one steps 2 and 3 go first, step 4 when they have been performed, and the operation is
complete when that has been. -/
inductive AddStep where
  | early
  | last
  | both
  | drop
  deriving DecidableEq, Repr

/-- The next step of a completion. -/
def addStep (b : W64) (early : List (Nat × W64)) (told : Nat) : AddStep :=
  if told = 2 then .drop else if told = 1 then .last else if isRemote b && !early.isEmpty then .early else .both

/-- The status that an add to a word is refused with, 0 when it is not: as the remote target answers, or by the map. -/
def addCode (s : State) (c : Nat) (st : Nat) (k : Nat × W64) : Nat :=
  if isRemote k.2 then addStatus st k.1 else (rowRefused s c k.2).getD 0

/-- The first of the adds that was refused: the status a Carter copy marks its channel fault record with (R202). -/
def addRefused (s : State) (c st : Nat) (l : List (Nat × W64)) : Option Nat := (l.map (addCode s c st)).find? (fun k => k != 0)

/-- The row lies in the front range of the published buffer that the tag names (R204). -/
def inFront (x : Ctx) (tag : Nat) (a : W64) : Bool :=
  published x tag && inHome (Tab.get 0 x.buffers tag) (rowVa a)

end Sys2Proof.Machine
end

