-- ==== Sys2Proof/Machine/Global.lean ====
section
/-!
DEFINITION. Machine/Global.lean: global loads and stores (R173), staged as R214 to R217 say, and how the outstanding ones
return (R221, R223).
-/

namespace Sys2Proof.Machine

/-- The effective address of a format MG access (R160). -/
def globalEa (s : State) (e : Env) (a : BitVec 6) (i : BitVec 5) : W64 := effAddr (readS s e.p a) i

/-- The checks of R161 at an effective address. -/
def globalCheck (s : State) (e : Env) (ea : W64) (w : Want) : Option Fail :=
  if globalOk s (s.ctxOf e.p) ea w then none else some (.fatal 1 ea 0)

/-- The mask of a whole row. -/
def fullMask : BitVec 512 := BitVec.allOnes 512

/-- An access of core `p` at its issue; a local load takes along the core's own stores of the phase (R216), to either side of a
published buffer (R312). -/
def newAccess (s : State) (e : Env) (kind : AccKind) (d : Dest) (ea : W64) : Access :=
  let c := s.ctxOf e.p
  let key (flip : Bool) : Nat := backKey s c (sideVa (s.ctx c) flip (rowVa ea))
  let own (k : Nat) : BitVec 512 × Vec :=
    if isRemote ea then (0, 0) else ownStaged ((s.core e.p).lcore + 1) k (s.ctx c).staged
  let o := own (key false)
  let o2 := own (key true)
  { kind := kind, dest := d, addr := ea, addr2 := ea, x := 0, y := 0, oc := 0, rc := 0, remote := isRemote ea,
    mask := o.1, own := o.2, key := if isRemote ea then 0 else key false, mask2 := o2.1, own2 := o2.2, sent := false, issue := s.cycle, slot := e.slot,
    bundle := BitVec.ofInt 32 (s.core e.p).pc }

/-- A global load issues (R173). Its allocation hint rides along as `x`. -/
def issueLoad (kind : AccKind) (d : Dest) (s0 : State) (e : Env) (ea : W64) (r c : BitVec 2) (s : State) : State :=
  addAccess e.p { newAccess s0 e kind d ea with x := c.setWidth 64, rc := if isRemote ea then r.toNat else 0 } s

/-- A global store issues (R173): a local one is staged at once, a remote one is injected, its allocation hint riding along as `y`. -/
def issueStore (s0 : State) (e : Env) (ea : W64) (mask : BitVec 512) (data : Vec) (x : W64) (r c : BitVec 2) (n : Nat)
    (s : State) : State :=
  let q := s0.ctxOf e.p
  if isRemote ea then
    addAccess e.p { newAccess s0 e .store .none ea with mask := mask, own := data, x := x, y := c.setWidth 64, rc := r.toNat } s
  else
    let l := (s0.core e.p).lcore
    staleRow q (s0.ctx q).phase.toNat (fun k => k == l) (rowVa ea) <|
    countBytes q (vaOf ea) n (cacheRow e.p q ea c.toNat true
      (stage q { key := keyOf s0 q (rowVa ea), va := rowVa ea, back := sideVa (s0.ctx q) false (rowVa ea), writer := (s0.core e.p).lcore + 1, flow := 0,
                 mask := mask, data := data } s))

/-- The meaning of LDG (R173). -/
def mLdg (g : BitVec 5) (v a : BitVec 6) (i : BitVec 5) (r c : BitVec 2) : Meaning :=
  { acts := guardM g
    dests := fun k => [destV k v]
    srcs := fun _ => [destS a]
    check := fun s e => globalCheck s e (globalEa s e a i) .load
    commit := fun s0 e s => issueLoad .ldg (destV (s0.core e.p) v) s0 e (globalEa s0 e a i) r c s }

/-- The meaning of LDGS (R173). -/
def mLdgs (g : BitVec 5) (v a : BitVec 6) (i : BitVec 5) (r c : BitVec 2) : Meaning :=
  { acts := guardM g
    dests := fun _ => [destS v]
    srcs := fun _ => [destS a]
    check := fun s e => globalCheck s e (globalEa s e a i) .load
    commit := fun s0 e s => issueLoad .ldgs (destS v) s0 e (globalEa s0 e a i) r c s }

/-- The meaning of STG (R173). -/
def mStg (g : BitVec 5) (v a : BitVec 6) (i : BitVec 5) (r c : BitVec 2) : Meaning :=
  { acts := guardM g
    srcs := fun k => [destV k v, destS a]
    check := fun s e => globalCheck s e (globalEa s e a i) .store
    commit := fun s0 e s => issueStore s0 e (globalEa s0 e a i) fullMask (readV s0 e.p v) 0 r c 512 s }

/-- The meaning of STGS (R173): only its word is written. -/
def mStgs (g : BitVec 5) (v a : BitVec 6) (i : BitVec 5) (r c : BitVec 2) : Meaning :=
  { acts := guardM g
    srcs := fun _ => [destS v, destS a]
    check := fun s e => globalCheck s e (globalEa s e a i) .store
    commit := fun s0 e s =>
      let ea := globalEa s0 e a i
      let x := readS s0 e.p v
      issueStore s0 e ea (wordMask (wordIx ea)) (setRowWord 0 (wordIx ea) x) x r c 8 s }

/-- The meaning of PRFG (R172, R173): it fills L2, under NORM also L1; of a remote row it asks the partner to fill the home slice's L2,
in the class it names; one that would fail is dropped. -/
def mPrfg (g : BitVec 5) (a : BitVec 6) (i : BitVec 5) (r c : BitVec 2) : Meaning :=
  { acts := guardM g
    srcs := fun _ => [destS a]
    commit := fun s0 e s =>
      let ea := globalEa s0 e a i
      if globalOk s0 (s0.ctxOf e.p) ea .load && (c == 0 || c == 2) then
        if isRemote ea then sendHinted e.p (s0.ctxOf e.p) 4 r.toNat ea true .prefetch s
        else cacheRow e.p (s0.ctxOf e.p) ea c.toNat false s
      else s }

/-! ### How accesses return (R223) -/

/-- A local load is performed (R216, R218, R219): over the phase's value now, the stores that its core had staged at issue to the side
that it reads. -/
def loadNow (s : State) (p : Nat) (a : Access) : Vec :=
  let row := plainRow s p (s.ctxOf p) (rowVa a.addr)
  if loadKey s p (s.ctxOf p) (rowVa a.addr) = a.key then blend a.mask row a.own else blend a.mask2 row a.own2

/-- The value a load delivers: a row, or its word. -/
def loadValue (a : Access) (row : Vec) : Vec := if a.kind = .ldg then row else asVec (rowWord row (wordIx a.addr))

/-- An uncorrectable memory error found on an access (R355): the row is marked poisoned and reported; the info holds the
tier and the backing address. -/
def memError (kind c va : Nat) (s : State) : State :=
  let key := keyOf s c va
  let tier := (placeAt s key).tier
  let s := { s with poison := key / 512 :: s.poison.filter (fun k => k != key / 512) }
  postFault { ctxRecord s kind 0 c (BitVec.ofNat 64 (tier * 2 ^ 60 + key % 2 ^ 60)) with
    addr := if kind = 6 then BitVec.ofNat 64 va else 0 } s

/-- A global load is performed and arrives (R72): a poisoned row is fatal (R161). A local load whose reply is poisoned has
met a memory error. -/
def performLoad (p i : Nat) (a : Access) (r : Reply) (s : State) : State :=
  let c := s.ctxOf p
  let s := if !a.remote && r.poisoned then memError 6 c (rowVa a.addr) s else s
  if (if a.remote then r.poisoned else poisoned s c (rowVa a.addr)) then fatalAt p 2 a.addr 0 a.bundle s
  else
    let row := if a.remote then r.data else loadNow s p a
    let s := arrive p i a (loadValue a row) s
    if a.remote then s
    else touchHost c (vaOf a.addr) <| countBytes c (vaOf a.addr) (if a.kind = .ldg then 512 else 8) (cacheRow p c a.addr a.x.toNat false s)

/-- A key with bytes of the row that a KEYSET reads put in (R323): `off` is the place in its row of the first of the 32 bytes, `next`
says that the row is the one after it. -/
def keyWith (off : Nat) (next : Bool) (row : Vec) (key : BitVec 256) : BitVec 256 :=
  let n := 512 - off
  let part : BitVec 256 := if next then BitVec.ofNat 256 (row.toNat * 2 ^ (8 * n)) else BitVec.ofNat 256 (row.toNat / 2 ^ (8 * off))
  let mask : BitVec 256 := if next then BitVec.allOnes 256 <<< (8 * n) else if 32 ≤ n then BitVec.allOnes 256 else BitVec.ofNat 256 (2 ^ (8 * n) - 1)
  (key &&& ~~~mask) ||| (part &&& mask)

/-- The bytes that a KEYSET has read from another device join the key it has filled, while the slot still holds that key (R323). -/
def fillFar (a : Access) (row : Vec) (s : State) : State :=
  { s with keys := Tab.upd KeySlot.zero s.keys a.x.toNat (fun o =>
      if o.state = 1 ∧ o.epoch = a.y.toNat
      then { o with key := keyWith (vaOf a.addr2 % 512) (rowVa a.addr != rowVa a.addr2) row o.key } else o) }

/-- The row that a KEYSET reads from another device arrives (R323): as one of an LDG, a poisoned row is fatal (R161). -/
def performKeyset (p i : Nat) (a : Access) (r : Reply) (s : State) : State :=
  if r.poisoned then fatalAt p 2 a.addr 0 a.bundle s else dropAccess p i (fillFar a r.data s)

/-- A remote access is refused by its target (R221): fatal to the issuing context when the refusal returns; its
destination takes no value. -/
def refusalReturn (p i : Nat) (s : State) : State :=
  match (s.core p).board[i]? with
  | none => s
  | some a => if a.remote && a.sent then fatalAt p 5 a.addr 0 a.bundle (dropAccess p i s) else s

/-- REMOTE_REFUSAL_RETURN (R221): a refusal of the remote access `i` of core `p` returns with status `st`; the context
error is fatal whatever the status. -/
def execRemoteRefusalReturn (p i st : Nat) (s : State) : Host.Outcome State Fault Refusal :=
  happen (fun s => coreAlive s p && decide (0 < st)) (refusalReturn p i) s

/-- LDG (R173): loads a global or remote row, scoreboarded. -/
def execLdg (g : BitVec 5) (v a : BitVec 6) (i : BitVec 5) (r c : BitVec 2) (s : State) : Host.Outcome State Fault Refusal :=
  issueOne (.ldg g v a i r c) (mLdg g v a i r c) s

/-- STG (R173): stages a store of a global or remote row. -/
def execStg (g : BitVec 5) (v a : BitVec 6) (i : BitVec 5) (r c : BitVec 2) (s : State) : Host.Outcome State Fault Refusal :=
  issueOne (.stg g v a i r c) (mStg g v a i r c) s

/-- PRFG (R173): prefetches a global row into the caches. -/
def execPrfg (g : BitVec 5) (a : BitVec 6) (i : BitVec 5) (r c : BitVec 2) (s : State) : Host.Outcome State Fault Refusal :=
  issueOne (.prfg g a i r c) (mPrfg g a i r c) s

/-- LDGS (R173): loads one global word into a scalar register. -/
def execLdgs (g : BitVec 5) (v a : BitVec 6) (i : BitVec 5) (r c : BitVec 2) (s : State) : Host.Outcome State Fault Refusal :=
  issueOne (.ldgs g v a i r c) (mLdgs g v a i r c) s

/-- STGS (R173): stages a store of one global word. -/
def execStgs (g : BitVec 5) (v a : BitVec 6) (i : BitVec 5) (r c : BitVec 2) (s : State) : Host.Outcome State Fault Refusal :=
  issueOne (.stgs g v a i r c) (mStgs g v a i r c) s

end Sys2Proof.Machine
end

