-- ==== Sys2Proof/Machine/Carter.lean ====
section
/-!
DEFINITION. Machine/Carter.lean: the Carter's copies (R198 to R210), PUSHIX (R261), OPTU (R211, R212), PSTW (R213).
-/

namespace Sys2Proof.Machine

/-! ### Issue checks (R204) -/

/-- Reserved bits of the format field, and of the record's tag and rc fields; class 3 is refused (cause 40). -/
def fmtBad (h : Shape) : Bool := decide (10 ≤ h.fmt.toNat)
def recordBad (h : Shape) : Bool := decide (4096 ≤ h.tag.toNat) || decide (3 ≤ h.rc.toNat)

/-- A source and destination pair of formats that a copy may convert (R205). -/
def copyPair (x y : Nat) : Bool := x == y || (decide (x < 8) && decide (y < 8) && fmtBytes x == fmtBytes y)

/-- A row count of R204. -/
def countOk (n : Nat) : Bool := decide (1 ≤ n) && decide (n ≤ 2 ^ 24)

/-- The first local row of a list that fails its checks of R161. -/
def firstBadRow (s : State) (p : Nat) (w : Want) (l : List W64) : Option W64 :=
  l.find? (fun a =>
    if isSpad a then !spadOk s p (s.ctxOf p) a
    else if isRemote a then false
    else !globalOk s (s.ctxOf p) (BitVec.ofNat 64 (a.toNat / 512 * 512)) w)

/-- A local global row of a list outside the front range that the record's tag names (cause 42). -/
def frontFails (x : Ctx) (tag : Nat) (l : List W64) : Bool := l.any (fun a => !isSpad a && !isRemote a && !inFront x tag a)

/-- The fatal checks of a copy: the rows it reads, the rows it writes, its barrier. -/
def copyFatal (s : State) (p : Nat) (reads writes : List W64) (bar : W64) : Option Fail :=
  match firstBadRow s p .load reads with
  | some a => some (.fatal 1 a 0)
  | none =>
    match firstBadRow s p .store writes with
    | some a => some (.fatal 1 a 0)
    | none => if barrierOk s (s.ctxOf p) bar then none else some (.fatal 1 bar 0)

/-- The rows of a dense side. -/
def denseRows (h : Shape) (n : Nat) : List W64 := (List.range n).map h.rowAt

/-- The rows that bound a table. -/
def tableEnds (h : Shape) : List W64 := [h.stepAt 0, h.stepAt (h.inner - 1)]

/-- The rows of the mask of `n` rows (R205). -/
def maskRows (a : W64) (n : Nat) : List W64 := (List.range ((n + 4095) / 4096)).map (fun k => a + BitVec.ofNat 64 (512 * k))

/-- The checks of CCPY (R204, R205); `dst` has its offset added. -/
def ccpyCheck (s : State) (p : Nat) (src dst : Shape) (mm : Bool) (mask : W64) : Option Fail :=
  let n := src.rows
  let writes := denseRows dst (if mm then n else dst.rows)
  if fmtBad src || fmtBad dst || recordBad dst || !copyPair src.code dst.code then some (.trap 2 40 0 0)
  else if !countOk n || !countOk dst.rows || (if mm then decide (dst.rows < n) else dst.rows != n) then some (.trap 2 41 0 0)
  else if frontFails (s.ctx (s.ctxOf p)) dst.tagNo writes then some (.trap 2 42 0 0)
  else copyFatal s p (denseRows src n ++ (if mm then maskRows mask n else [])) writes dst.barAt

/-- The checks of CGTH and CSCT (R204, R206); the dense side has its offset added. -/
def indexedCheck (s : State) (p : Nat) (scatter : Bool) (src dst : Shape) (q : Nat) : Option Fail :=
  let table := if scatter then dst else src
  let dense := if scatter then src else dst
  let reads := if scatter then denseRows dense q else tableEnds table
  let writes := if scatter then tableEnds table else denseRows dense q
  if fmtBad src || fmtBad dst || recordBad dst || !copyPair src.code dst.code then some (.trap 2 40 0 0)
  else if !countOk q || !countOk dense.rows || decide (dense.rows < q) || table.outer != 1 || !countOk table.inner
  then some (.trap 2 41 0 0)
  else if frontFails (s.ctx (s.ctxOf p)) dst.tagNo writes then some (.trap 2 42 0 0)
  else copyFatal s p reads writes dst.barAt

/-- Destination rows of a CTOPK over M rows (R208). -/
def topkRows (m : Nat) : Nat := (m + 7) / 8

/-- The checks of CTOPK (R204, R208). -/
def ctopkCheck (s : State) (p : Nat) (dst : Shape) (a0 : Nat) : Option Fail :=
  let rows := (List.range (topkRows dst.outer)).map dst.stepAt
  if fmtBad dst || dst.code != 0 || recordBad dst then some (.trap 2 40 0 0)
  else if !countOk dst.outer then some (.trap 2 41 0 0)
  else if frontFails (s.ctx (s.ctxOf p)) dst.tagNo rows then some (.trap 2 42 0 0)
  else if 8192 < a0 + dst.outer ∨ dst.inner < 1 ∨ 128 < dst.inner ∨ isSpad dst.base = false then some (.trap 2 44 0 0)
  else copyFatal s p [] rows dst.barAt

/-! ### Issue of a copy (R205 to R208, R262) -/

/-- The copies of a channel, and a channel changed. -/
def Core.chan (c : Core) (u : Nat) : List Copy := Tab.get [] c.chans u
def onChan (u : Nat) (f : List Copy → List Copy) (c : Core) : Core := { c with chans := Tab.upd [] c.chans u f }

/-- A copy is accepted into its channel. -/
def acceptCopy (p u : Nat) (j : Copy) (s : State) : State := s.onCore p (onChan u (fun l => l ++ [j]))

/-- A copy as its instruction captures it. -/
def newCopy (s : State) (p : Nat) (kind : CopyKind) (src dst : Shape) (rows : Nat) : Copy :=
  { kind := kind, issue := s.cycle, bundle := BitVec.ofInt 32 (s.core p).pc, ctx := s.ctxOf p, src := src, dst := dst,
    rc := dst.cls, tag := dst.tagNo, bar := dst.barAt, masked := false, maskAt := 0, mask := none, maskGot := [], off := 0,
    rows := rows, base := 0, best := 0, order := s.cycle, idx := [], read := [], done := [], landed := 0, status := 0,
    flags := 0, free := [], refused := [], put := [], told := 0 }

/-- The rows of a CTOPK over `m` rows from `a0` that a write is still pending to: their records are undefined (R208). -/
def topkPending (c : Core) (a0 m : Nat) : List Nat :=
  (List.range m).filter (fun k => pending c (.acc (a0 + k)) || loomPending c (a0 + k))

/-- A CTOPK as it is accepted: a write that its own bundle has issued is pending too (R208). -/
def seesPending (c : Core) (j : Copy) : Copy :=
  if j.kind = .ctopk then { j with free := topkPending c j.off.toNat j.dst.outer } else j

/-- A Carter instruction (R198): its channel is imm bits 1:0; it freezes while the channel is full. -/
def mCopy (sw : BitVec 1) (g : BitVec 5) (a b i : BitVec 6) (hs : List Nat) (check : State → Nat → Option Fail)
    (copy : State → Nat → Copy) : Meaning :=
  { acts := guardM g
    srcs := fun _ => [destS a, destS b]
    ready := fun s e => decide (((s.core e.p).chan (i.toNat % 4)).length < 16)
    check := fun s e => check s e.p
    commit := fun s0 e s =>
      acceptCopy e.p (i.toNat % 4) (seesPending (s.core e.p) (copy s0 e.p)) (s.onCore e.p (exchangeAll 1 sw hs))
    rank := 1 }

/-- The other register of a pair (R198). -/
def pairOf (h : BitVec 2) : Nat := (h ^^^ 1).toNat

/-- The shapes of a Carter instruction after any exchange. -/
def carterShape (s : State) (p h : Nat) (sw : BitVec 1) : Shape := usedShape (s.core p) 1 h sw

/-- The meaning of CCPY (R205). -/
def mCcpy (h : BitVec 2) (s : BitVec 1) (g : BitVec 5) (a b i : BitVec 6) : Meaning :=
  let src (t : State) (p : Nat) : Shape := carterShape t p h.toNat s
  let dst (t : State) (p : Nat) : Shape := (carterShape t p (pairOf h) s).move (readS t p b)
  let mm := i.getLsbD 2
  mCopy s g a b i [h.toNat, pairOf h]
    (fun t p => ccpyCheck t p (src t p) (dst t p) mm (readS t p a))
    (fun t p => { newCopy t p .ccpy (src t p) (dst t p) (src t p).rows with masked := mm, maskAt := readS t p a })

/-- The meaning of CGTH (R206). -/
def mCgth (h : BitVec 2) (s : BitVec 1) (g : BitVec 5) (a b i : BitVec 6) : Meaning :=
  let src (t : State) (p : Nat) : Shape := carterShape t p h.toNat s
  let dst (t : State) (p : Nat) : Shape := (carterShape t p (pairOf h) s).move (readS t p b)
  mCopy s g a b i [h.toNat, pairOf h]
    (fun t p => indexedCheck t p false (src t p) (dst t p) (fld (readS t p a) 0 32))
    (fun t p => newCopy t p .cgth (src t p) (dst t p) (fld (readS t p a) 0 32))

/-- The meaning of CSCT (R206). -/
def mCsct (h : BitVec 2) (s : BitVec 1) (g : BitVec 5) (a b i : BitVec 6) : Meaning :=
  let src (t : State) (p : Nat) : Shape := (carterShape t p h.toNat s).move (readS t p b)
  let dst (t : State) (p : Nat) : Shape := carterShape t p (pairOf h) s
  mCopy s g a b i [h.toNat, pairOf h]
    (fun t p => indexedCheck t p true (src t p) (dst t p) (fld (readS t p a) 0 32))
    (fun t p => newCopy t p .csct (src t p) (dst t p) (fld (readS t p a) 0 32))

/-- The meaning of CTOPK (R208). -/
def mCtopk (h : BitVec 2) (s : BitVec 1) (g : BitVec 5) (a b i : BitVec 6) : Meaning :=
  let dst (t : State) (p : Nat) : Shape := carterShape t p h.toNat s
  let a0 (t : State) (p : Nat) : Nat := fld (readS t p a) 0 13
  mCopy s g a b i [h.toNat]
    (fun t p => ctopkCheck t p (dst t p) (a0 t p))
    (fun t p => { newCopy t p .ctopk Shape.zero (dst t p) (topkRows (dst t p).outer) with
      off := BitVec.ofNat 64 (a0 t p), base := (readS t p b).setWidth 32, best := i.toNat / 8 + 1 })

/-- The meaning of CDRN (R209): every copy of the channel has completed. -/
def mCdrn (g : BitVec 5) (i : BitVec 6) : Meaning :=
  { acts := guardM g, ready := fun s e => ((s.core e.p).chan i.toNat).isEmpty }

/-- The meaning of PUSHIX (R261). -/
def mPushix (g : BitVec 5) (a : BitVec 6) : Meaning :=
  { acts := guardM g
    srcs := fun _ => [destS a]
    ready := fun s e => decide ((s.core e.p).addrQ.length < 64)
    commit := fun s0 e s => s.onCore e.p (fun c => { c with addrQ := c.addrQ ++ [(readS s0 e.p a).setWidth 32] }) }

/-! ### CTOPK's records (R208) -/

/-- The bits `x` of an F32 rank above the bits `y`: greater value, every NaN below −∞. -/
def ranksAbove (x y : Nat) : Bool :=
  let a := fpOf 0 x
  let b := fpOf 0 y
  if isNan a then false else if isNan b then true else decide (0 < fpCmp a b)

/-- A column placed behind every column that ranks at least as high. -/
def placeColumn (v : Nat → Nat) (n : Nat) : List Nat → List Nat
  | [] => [n]
  | m :: r => if ranksAbove (v n) (v m) then n :: m :: r else m :: placeColumn v n r

/-- The columns of a row, best first. -/
def rankColumns (v : Nat → Nat) (c : Nat) : List Nat := (List.range c).foldl (fun l n => placeColumn v n l) []

/-- The filler pair of a record. -/
def fillerPair : Nat := 0xFF800000 + 0xFFFFFFFF * 2 ^ 32

/-- The record of one accumulator row as 64 bytes. -/
def topkRecord (row : Vec) (c k : Nat) (base : W32) : Nat :=
  let v := elem row 32
  let l := (rankColumns v c).take k
  (gather 64 (fun i => (match l[i]? with
    | some n => v n + (base + BitVec.ofNat 32 n).toNat * 2 ^ 32
    | none => fillerPair, 0)) 8).1

/-- A destination row of a CTOPK. -/
def topkRow (c : Core) (j : Copy) (e : Nat) : Vec :=
  BitVec.ofNat 4096 (gather 512 (fun t =>
    let m := 8 * e + t
    (if m < j.dst.outer then topkRecord (c.accRow (j.off.toNat + m)) j.dst.inner j.best j.base
     else (gather 64 (fun _ => (fillerPair, 0)) 8).1, 0)) 8).1

/-! ### Rows of a copy (R200, R201, R203) -/

/-- Copy `j` of channel `u` changed. -/
def onCopy (p u j : Nat) (f : Copy → Copy) (s : State) : State := s.onCore p (onChan u (fun l => listUpd l j f))

/-- An earlier gather or scatter of the core still takes indices before this copy (R207). -/
def earlierTakes (c : Core) (j : Copy) : Bool :=
  c.chans.any (fun (u : Nat × List Copy) => u.2.any (fun (k : Copy) =>
    k.indexed && decide (k.order < j.order) && decide (k.idx.length < k.rows)))

/-- A row is not written (R203): its code joins the status, the channel fault record is marked. -/
def refuseRow (p u j row code : Nat) (cls c : Nat) (a : W64) (s : State) : State :=
  let s := onCopy p u j (fun k =>
    { k with done := row :: k.done, refused := row :: k.refused, status := k.status ||| 2 ^ code, read := Tab.erase k.read row }) s
  markFault c (lcoreAt s p c) u true cls code (faultDev code a) s

/-- A later row of a CSCT that names the same table row has already landed (R207). -/
def overtaken (j : Copy) (row : Nat) : Bool :=
  j.kind == .csct && j.done.any (fun r =>
    decide (row < r) && !j.refused.contains r && decide (j.idx.getD r 0 = j.idx.getD row 0))

/-- A copy of a channel has started: it has read a row, a row of its mask, or an index (R209). -/
def Copy.begun (j : Copy) : Bool := !j.done.isEmpty || !j.read.isEmpty || !j.maskGot.isEmpty || !j.idx.isEmpty

/-- A row for a remote destination may not be sent yet: in class ORD while an earlier copy of the channel still has rows for
remote destinations (R209); of a CGTH or CSCT in class SPR, which keeps no order, while an earlier packet of its flow may not have been
performed (R207). -/
def sendWaits (s : State) (p u i : Nat) (j : Copy) : Bool :=
  (j.rc == 0 && (((s.core p).chan u).take i).any (fun k => isRemote k.dst.base && decide (k.done.length < k.rows)))
    || (j.indexed && j.rc == 2 && flowOpen s j.ctx (lcoreAt s p j.ctx) u)

/-- An engine asks for the row it reads: the target when it is remote, else the memory side. A local row of global memory
whose reply is poisoned has met a memory error (R355). -/
def askRow (p u : Nat) (c cls : Nat) (a : W64) (r : Reply) (s : State) : State :=
  let s := if isRemote a then sendPacket p c u cls a .loadRow s else engineLine c a s
  if r.poisoned && !isSpad a && !isRemote a then memError 6 c (rowVa a) s else s

/-- The rows of the mask of a copy (R205). -/
def Copy.maskCount (j : Copy) : Nat := (j.rows + 4095) / 4096

/-- The next row of the mask of a copy is read (R200, R205); the last makes the mask known. A row that the target refuses,
with status `st`, or that is poisoned, leaves undefined bits. -/
def readMaskRow (p u i : Nat) (j : Copy) (r : Reply) (st : Nat) (s : State) : State :=
  let a := j.maskAt + BitVec.ofNat 64 (512 * j.maskGot.length)
  let s := askRow p u j.ctx j.rc a r s
  let no := isRemote a && decide (st % 256 ≠ 0)
  let bad := no || enginePoison s j.ctx a r
  let got := j.maskGot ++ [if bad then Config.undef s.freeCtr 0 else engineRead s p j.ctx a r]
  let s := if no then noteRefused j.ctx (lcoreAt s p j.ctx) u j.rc (devOf a) s else s
  let s := if bad then s else countTag j.ctx j.tag 512 s
  onCopy p u i (fun k => { k with
    maskGot := got
    mask := if got.length < j.maskCount then none else some (gather 4096 (fun n => ((got.getD n 0).toNat, 0)) got.length).1 }) s

/-- The first event of a row reads its source (R200), and refuses one that is poisoned or that its target refuses with
status `st` (R203, R221). -/
def readCopyRow (p u i row : Nat) (j : Copy) (r : Reply) (st : Nat) (s : State) : State :=
  if j.kind = .ctopk then onCopy p u i (fun k => { k with read := Tab.set k.read row (topkRow (s.core p) j row) }) s
  else
    let a := j.srcAt row
    let s := askRow p u j.ctx j.rc a r s
    if isRemote a ∧ st % 256 ≠ 0 then refuseRow p u i row (st % 256) j.rc j.ctx a s
    else if enginePoison s j.ctx a r then refuseRow p u i row 4 j.rc j.ctx a s
    else
      let v := convertRow j.src.code j.dst.code (engineRead s p j.ctx a r)
      countTag j.ctx j.tag 512
        (onCopy p u i (fun k => { k with read := Tab.set k.read row v.1, flags := k.flags ||| v.2 }) s)

/-- A row has landed: it is done and counted. -/
def rowDone (p u i row : Nat) (j : Copy) (put : Option Vec) (s : State) : State :=
  countTag j.ctx j.tag 512 (onCopy p u i (fun k =>
    { k with done := row :: k.done, landed := k.landed + 1, read := Tab.erase k.read row
             put := match put with
               | none => k.put
               | some x => Tab.set k.put row x }) s)

/-- The second event of a row lands it (R201): at its local place, or at a remote one, whose target answers with status
`st`. A row of a CSCT that a later one has overtaken counts as landed and is not written over it (R207). -/
def landCopyRow (p u i row : Nat) (j : Copy) (v : Vec) (st : Nat) (s : State) : State :=
  let a := j.dstAt row
  if isRemote a then
    if overtaken j row then rowDone p u i row j none s
    else if sendWaits s p u i j then s
    else
      let s := sendPacket p j.ctx u j.rc a (.engineRow j.tag v) s
      if st % 256 = 0 then rowDone p u i row j none s else refuseRow p u i row (st % 256) j.rc j.ctx a s
  else
    let back := backTag (s.ctx j.ctx) j.tag (rowVa a)
    match landRefused s j.ctx a back with
    | some k => refuseRow p u i row k j.rc j.ctx a s
    | none =>
      let v := if j.kind = .ctopk then freeRecords s.freeCtr j row v else v
      releaseCluster p (rowDone p u i row j (if j.kind = .ctopk then some v else none)
        (if overtaken j row then s else landRow p j.ctx a back v s))

/-- A row of a copy moves on: mask, index, reading, landing. The copies of a channel start in issue order (R209), and one that
waits for indices holds back those behind it (R207). -/
def copyRow (p u i row : Nat) (r : Reply) (st : Nat) (s : State) : State :=
  let l := (s.core p).chan u
  match l[i]? with
  | none => s
  | some j =>
    let waits := (l.take i).any (fun (k : Copy) => !k.begun || (k.indexed && decide (k.idx.length < k.rows)))
    if j.rows ≤ row ∨ j.done.contains row ∨ waits ∨ startedAt (s.core p) j.issue = false ∨ alive s j.ctx = false then s
    else if j.masked ∧ j.mask = none then readMaskRow p u i j r st s
    else if j.selected row = false then onCopy p u i (fun k => { k with done := row :: k.done }) s
    else if j.indexed ∧ j.idx.length ≤ row then
      match (s.core p).addrQ with
      | [] => s
      | x :: q =>
        if j.idx.length = row ∧ earlierTakes (s.core p) j = false then
          let s := onCopy p u i (fun k => { k with idx := k.idx ++ [x] }) (s.onCore p (fun c => { c with addrQ := q }))
          if j.extent ≤ x.toNat then refuseRow p u i row 5 j.rc j.ctx 0 s else s
        else s
    else
      match Tab.find j.read row with
      | none => readCopyRow p u i row j r st s
      | some v =>
        if j.kind = .cgth ∧ (List.range row).any (fun k => !j.done.contains k) then s
        else landCopyRow p u i row j v st s

/-- The adds of a copy that its targets refuse mark its channel fault record (R202). -/
def markAdds (p u : Nat) (j : Copy) (st : Nat) (l : List (Nat × W64)) (s : State) : State :=
  match addRefused s j.ctx st l with
  | none => s
  | some k => markFault j.ctx (lcoreAt s p j.ctx) u false j.rc k (faultDev k j.bar) s

/-- The packed count that a copy adds in mask mode (R202). -/
def Copy.packed (j : Copy) : Option Nat := if j.masked then some (j.rank j.rows) else none

/-- The copy has every row landed or refused, and every packet of its channel, when it has any, performed or refused (R223); its context
runs (R202), and its barrier does not wait on the host tier (R351). -/
def copyDone (s : State) (p u : Nat) (j : Copy) : Bool :=
  alive s j.ctx && (addPages s j.ctx j.bar j.status).isEmpty && decide (j.done.length = j.rows) && (!j.masked || j.mask.isSome)
    && !(j.remote && flowOpen s j.ctx (lcoreAt s p j.ctx) u)

/-- Step 1 of R202: the flags of a copy land in the record of slot 4. DESIGN CHOICE (log 89): those of a copy that has outlived its task
(R210) land in the record that the core then has, whichever task or context it runs, at the copy's own bundle. -/
def copyFlags (p : Nat) (j : Copy) (s : State) : State := s.onCore p (fun c => landFlags c 4 j.flags j.bundle j.issue)

/-- Steps 2 and 3 of R202 of a copy. -/
def copyEarly (p u : Nat) (j : Copy) (st : Nat) (s : State) : State :=
  completeEarly p j.ctx u j.rc j.bar j.status j.packed st (markAdds p u j st (earlyAdds j.bar j.status j.packed) s)

/-- Step 4 of R202 of a copy. -/
def copyLast (p u : Nat) (j : Copy) (st : Nat) (s : State) : State :=
  completeLast p j.ctx u j.rc j.bar (512 * j.landed) st (if j.bar = 0 then s else markAdds p u j st [(4, j.bar)] s)

/-- The completed copy leaves its channel. -/
def dropCopy (p u i : Nat) (s : State) : State := releaseCluster p (s.onCore p (onChan u (fun l => listDrop l i)))

/-- A copy completes (R202): flags, status, packed count, bytes, in this order; and leaves its channel, with a remote barrier when its
last add has been performed (R209). -/
def completeCopy (p u i st : Nat) (s : State) : State :=
  match ((s.core p).chan u)[i]? with
  | none => s
  | some j =>
    if copyDone s p u j then
      match addStep j.bar (earlyAdds j.bar j.status j.packed) j.told with
      | .early => onCopy p u i (fun k => { k with told := 1 }) (copyEarly p u j st (copyFlags p j s))
      | .last => onCopy p u i (fun k => { k with told := 2 }) (copyLast p u j st s)
      | .both =>
        let s := copyLast p u j st (copyEarly p u j st (copyFlags p j s))
        if isRemote j.bar then onCopy p u i (fun k => { k with told := 2 }) s else dropCopy p u i s
      | .drop => dropCopy p u i s
    else s

/-! ### OPTU (R211, R212) -/

/-- The rows that `n` elements of a stream occupy. -/
def streamRows (h : Shape) (n : Nat) : List W64 :=
  (List.range ((n * fmtBytes h.code + 511) / 512)).map (fun k => BitVec.ofNat 64 (h.base.toNat / 512 * 512) + BitVec.ofNat 64 (512 * k))

/-- The checks of OPTU, by the order of R204. -/
def optuCheck (s : State) (p : Nat) (w g m v : Shape) : Option Fail :=
  let x := s.ctx (s.ctxOf p)
  let n := w.inner
  let bad (h : Shape) : Bool := decide (2 ≤ h.fmt.toNat)
  let off (h : Shape) : Bool := !isRemote h.base && (streamRows h n).any (fun a => isSpad a || !inFront x h.tagNo a)
  if bad w || bad g || bad m || bad v || recordBad w || decide (4096 ≤ m.tag.toNat) || decide (4096 ≤ v.tag.toNat)
  then some (.trap 2 40 0 0)
  else if off w || off m || off v then some (.trap 2 42 0 0)
  else if n < 256 ∨ 2 ^ 31 < n ∨ n % 256 ≠ 0 ∨ isRemote w.base ∨ isRemote g.base ∨ isRemote m.base ∨ isRemote v.base
  then some (.trap 2 46 0 0)
  else copyFatal s p (streamRows g n) (streamRows w n ++ streamRows m n ++ streamRows v n) w.barAt

/-- RNE32 of an exact value (R34). -/
def rne32 (x : Fp × Flags) : Nat × Flags :=
  let o := fpRound 0 0 false x.1
  (o.1, x.2 ||| o.2)

/-- Exact sum, difference and product, their flags joined. -/
def exAdd (x y : Fp × Flags) : Fp × Flags :=
  let r := fpAdd 0 x.1 y.1
  (r.1, x.2 ||| y.2 ||| r.2)
def exSub (x y : Fp × Flags) : Fp × Flags := exAdd x (fpNeg y.1, y.2)
def exMul (x y : Fp × Flags) : Fp × Flags :=
  let r := fpMul x.1 y.1
  (r.1, x.2 ||| y.2 ||| r.2)

/-- An F32 code as an exact value. -/
def ex32 (c : Nat) : Fp × Flags := (fpOf 0 c, 0)
def exOf (x : Nat × Flags) : Fp × Flags := (fpOf 0 x.1, x.2)

/-- The constant RNE32(1 − β) (R212). -/
def oneLess (b : W32) : Nat × Flags := rne32 (exSub (.fin false 1 0, 0) (ex32 b.toNat))

/-- One element of OPTU (R212): the F32 results w1, m1, v1 and every flag; those of c1 and c2 are raised at issue. -/
def optuElem (j : OptuJob) (w g m v : Fp) : Nat × Nat × Nat × Flags :=
  let c1 := oneLess j.b1
  let c2 := oneLess j.b2
  let m1 := rne32 (exAdd (exMul (ex32 j.b1.toNat) (m, 0)) (exMul (ex32 c1.1) (g, 0)))
  let v1 := rne32 (exAdd (exMul (ex32 j.b2.toNat) (v, 0)) (exMul (exMul (ex32 c2.1) (g, 0)) (g, 0)))
  let root := fpSqrt (fpOf 0 v1.1)
  let d := rne32 root
  let e := rne32 (exAdd (ex32 d.1) (ex32 j.eps.toNat))
  let quo := fpDiv (fpOf 0 m1.1) (fpOf 0 e.1)
  let q := rne32 quo
  let lr := ex32 j.lr.toNat
  let w1 := rne32 (exSub (exSub (w, 0) (exMul lr (ex32 q.1))) (exMul (exMul lr (ex32 j.wd.toNat)) (w, 0)))
  (w1.1, m1.1, v1.1, m1.2 ||| v1.2 ||| d.2 ||| e.2 ||| q.2 ||| w1.2)

/-- An F32 result stored in a stream's format (R212). -/
def storeAs (f c : Nat) : Nat × Flags := if f = 0 then (c, 0) else convert 0 f 0 false c

/-- The address of row `k` of a stream. -/
def streamRow (h : Shape) (k : Nat) : W64 := BitVec.ofNat 64 (h.base.toNat / 512 * 512) + BitVec.ofNat 64 (512 * k)

/-- The rows of a stream that block `blk` of 256 elements occupies. -/
def blockRows (h : Shape) (blk : Nat) : List W64 :=
  let n := fmtBytes h.code / 2
  (List.range n).map (fun k => streamRow h (n * blk + k))

/-- Block `blk` of a stream as one number of 256 elements. -/
def readBlock (s : State) (p c : Nat) (h : Shape) (blk : Nat) : Nat :=
  let l := blockRows h blk
  (gather 4096 (fun k => ((engineRead s p c (l.getD k 0) { data := 0, poisoned := false }).toNat, 0)) l.length).1

/-- The rows of stream `h` that hold elements of row `k` of stream `d` in block `blk`. -/
def blockMeets (h d : Shape) (blk k : Nat) : List W64 :=
  if fmtBytes h.code = 4 ∧ fmtBytes d.code = 4 then ((blockRows h blk).drop k).take 1 else blockRows h blk

/-- The OPTU of a core changed. -/
def onOptu (p : Nat) (f : OptuJob → OptuJob) (s : State) : State := s.onCore p (fun c => { c with optu := c.optu.map f })

/-- The rows of a written stream in a block land, each by itself (R203, R212): a row with a poisoned source row is not written
(code 4), nor one that the map refuses; `s0` is the state the block was read in, `f` the stored elements. The flags are those
of the elements computed. -/
def landBlock (s0 : State) (p blk : Nat) (j : OptuJob) (d : Shape) (f : Nat → Nat × Flags) (s : State) : State :=
  let l := blockRows d blk
  let per := 256 / l.length
  (List.range l.length).foldl (fun t k =>
    let a := l.getD k 0
    let from_ := blockMeets j.w d blk k ++ blockMeets j.g d blk k ++ blockMeets j.m d blk k ++ blockMeets j.v d blk k
    let x := gather (fmtBits d.code) (fun n => f (per * k + n)) per
    let back := backTag (t.ctx j.ctx) d.tagNo (rowVa a)
    if from_.any (fun a => enginePoison s0 j.ctx a { data := 0, poisoned := false }) then
      onOptu p (fun o => { o with status := o.status ||| 2 ^ 4 }) t
    else
      match landRefused t j.ctx a back with
      | some q => onOptu p (fun o => { o with status := o.status ||| 2 ^ q, flags := o.flags ||| x.2 }) t
      | none =>
        countTag j.ctx d.tagNo 512 (onOptu p (fun o => { o with landed := o.landed + 512, flags := o.flags ||| x.2 })
          (landRow p j.ctx a back (BitVec.ofNat 4096 x.1) t))) s

/-- The rows of a stream that a block reads use L2, and are counted under a tag (R328, R332). -/
def countBlock (c tag : Nat) (h : Shape) (blk : Nat) (s : State) : State :=
  countTag c tag (512 * ((blockRows h blk).filter (fun a => !enginePoison s c a { data := 0, poisoned := false })).length)
    ((blockRows h blk).foldl (fun t a => engineLine c a t) s)

/-- A block of 256 elements of the OPTU of a core is read, computed and landed (R212). When the device meets a memory error on
a row of the block, `bad` holds and `nth` counts it among the rows read. -/
def optuBlock (p blk : Nat) (bad : Bool) (nth : Nat) (s : State) : State :=
  match (s.core p).optu with
  | none => s
  | some j =>
    if j.n / 256 ≤ blk ∨ j.done.contains blk ∨ startedAt (s.core p) j.issue = false ∨ alive s j.ctx = false then s
    else
      let rows := blockRows j.w blk ++ blockRows j.g blk ++ blockRows j.m blk ++ blockRows j.v blk
      let a := rows.getD nth j.w.base
      let s := if bad && !isSpad a then memError 6 j.ctx (rowVa a) s else s
      let w := readBlock s p j.ctx j.w blk
      let g := readBlock s p j.ctx j.g blk
      let m := readBlock s p j.ctx j.m blk
      let v := readBlock s p j.ctx j.v blk
      let el (h : Shape) (x k : Nat) : Fp := fpOf h.code (x / 2 ^ (fmtBits h.code * k) % 2 ^ fmtBits h.code)
      let one (k : Nat) : Nat × Nat × Nat × Flags := optuElem j (el j.w w k) (el j.g g k) (el j.m m k) (el j.v v k)
      let keep (h : Shape) (x : Nat) (fl : Flags) : Nat × Flags :=
        let t := storeAs h.code x
        (t.1, t.2 ||| fl)
      let t := countBlock j.ctx j.w.tagNo j.w blk (countBlock j.ctx j.w.tagNo j.g blk
        (countBlock j.ctx j.m.tagNo j.m blk (countBlock j.ctx j.v.tagNo j.v blk s)))
      let t := onOptu p (fun o => { o with done := blk :: o.done }) t
      let t := landBlock s p blk j j.w (fun k => keep j.w (one k).1 (one k).2.2.2) t
      let t := landBlock s p blk j j.m (fun k => keep j.m (one k).2.1 (one k).2.2.2) t
      landBlock s p blk j j.v (fun k => keep j.v (one k).2.2.1 (one k).2.2.2) t

/-- Every block of an OPTU has landed, its context runs, and its adds may go (R202, R351). -/
def optuDone (s : State) (p : Nat) (j : OptuJob) : Bool :=
  alive s j.ctx && decide (j.done.length = j.n / 256) && (addPages s j.ctx j.w.barAt j.status).isEmpty
    && !(isRemote j.w.barAt && flowOpen s j.ctx (lcoreAt s p j.ctx) ownFlow)

/-- Step 1 of R202 of an OPTU; as those of a copy, its flags land in the record that its core then has (log 89). -/
def optuFlags (p : Nat) (j : OptuJob) (s : State) : State := s.onCore p (fun c => landFlags c 4 j.flags j.bundle j.issue)

/-- Step 2 of R202 of an OPTU, and step 4. -/
def optuEarly (p : Nat) (j : OptuJob) (st : Nat) (s : State) : State :=
  completeEarly p j.ctx ownFlow j.w.cls j.w.barAt j.status none st s
def optuLast (p : Nat) (j : OptuJob) (st : Nat) (s : State) : State :=
  completeLast p j.ctx ownFlow j.w.cls j.w.barAt j.landed st s

/-- The completed OPTU is gone. -/
def dropOptu (p : Nat) (s : State) : State := s.onCore p (fun c => { c with optu := none })

/-- The OPTU of a core completes (R202, R212), by the steps of a copy. -/
def completeOptu (p st : Nat) (s : State) : State :=
  match (s.core p).optu with
  | none => s
  | some j =>
    if optuDone s p j then
      match addStep j.w.barAt (earlyAdds j.w.barAt j.status none) j.told with
      | .early => onOptu p (fun o => { o with told := 1 }) (optuEarly p j st (optuFlags p j s))
      | .last => onOptu p (fun o => { o with told := 2 }) (optuLast p j st s)
      | .both =>
        let s := optuLast p j st (optuEarly p j st (optuFlags p j s))
        if isRemote j.w.barAt then onOptu p (fun o => { o with told := 2 }) s else dropOptu p s
      | .drop => dropOptu p s
    else s

/-- The meaning of OPTU (R211, R212). -/
def mOptu (s : BitVec 1) (g : BitVec 5) (a b i : BitVec 6) : Meaning :=
  let sh (t : State) (p k : Nat) : Shape := usedShape (t.core p) 2 k s
  { acts := guardM g
    port := i == 63
    srcs := fun _ => [destS a, destS b]
    ready := fun t e => (t.core e.p).optu.isNone
    check := fun t e => optuCheck t e.p (sh t e.p 0) (sh t e.p 1) (sh t e.p 2) (sh t e.p 3)
    commit := fun s0 e t =>
      let x := readS s0 e.p a
      let y := readS s0 e.p b
      let job : OptuJob :=
        { issue := s0.cycle, bundle := BitVec.ofInt 32 (s0.core e.p).pc, ctx := s0.ctxOf e.p, w := sh s0 e.p 0,
          g := sh s0 e.p 1, m := sh s0 e.p 2, v := sh s0 e.p 3, n := (sh s0 e.p 0).inner, lr := x.setWidth 32,
          b1 := (x >>> 32).setWidth 32, b2 := y.setWidth 32, eps := (y >>> 32).setWidth 32,
          wd := if i = 63 then e.port.setWidth 32 else 0, done := [], landed := 0, status := 0,
          flags := (oneLess ((x >>> 32).setWidth 32)).2 ||| (oneLess (y.setWidth 32)).2, told := 0 }
      t.onCore e.p (fun c => { exchangeAll 2 s [0, 1, 2, 3] c with optu := some job })
    rank := 1 }

/-! ### PSTW (R213) -/

/-- A published buffer whose front range holds the virtual address. -/
def inSomeFront (x : Ctx) (va : Nat) : Bool :=
  x.buffers.any (fun (k : Nat × BitVec 256) => bufValid k.2 && bufPublished k.2 && inHome k.2 va)

/-- The checks of PSTW (R213): cause 47 prevails over a fatal one (R75). -/
def pstwCheck (s : State) (p : Nat) (a : BitVec 6) (pa ta : W64) : Option Fail :=
  let c := s.ctxOf p
  let x := s.ctx c
  let front (y : W64) : Bool := formOk y && !isRemote y && inSomeFront x (rowVa y)
  if a.getLsbD 0 ∨ front pa = false ∨ front ta = false
      ∨ backKey s c (backOf x (rowVa pa)) = backKey s c (backOf x (rowVa ta)) then some (.trap 2 47 0 0)
  else if !globalOk s c pa .store then some (.fatal 1 pa 0)
  else if !globalOk s c ta .store then some (.fatal 1 ta 0)
  else none

/-- The transposed block of a row (R213). -/
def transposeRow (x : Vec) : Vec :=
  BitVec.ofNat 4096 (gather 16 (fun k => (elem x 16 (16 * (k % 16) + k / 16), 0)) 256).1

/-- The transposed address of PSTW: the odd register of the pair. -/
def oddOf (a : BitVec 6) : BitVec 6 := a ||| 1

/-- The meaning of PSTW (R213). -/
def mPstw (g : BitVec 5) (v a : BitVec 6) (i : BitVec 7) : Meaning :=
  { acts := guardM g
    srcs := fun c => [destV c v, destS a, destS (oddOf a)]
    check := fun s e => pstwCheck s e.p a (effAddr (readS s e.p a) i) (readS s e.p (oddOf a))
    commit := fun s0 e s => s.onCore e.p (fun c => { c with pstw := c.pstw ++ [
      { ctx := s0.ctxOf e.p, pa := effAddr (readS s0 e.p a) i, ta := readS s0 e.p (oddOf a), x := readV s0 e.p v,
        issue := s0.cycle }] }) }

/-- A PSTW pair lands, both rows as one access. DESIGN CHOICE (log 58): where the map refuses one of them, as in a
copy-on-write region (R274), neither is written. -/
def pstwLand (p i : Nat) (s : State) : State :=
  match (s.core p).pstw[i]? with
  | none => s
  | some j =>
    if startedAt (s.core p) j.issue && alive s j.ctx then
      let pb := backOf (s.ctx j.ctx) (rowVa j.pa)
      let tb := backOf (s.ctx j.ctx) (rowVa j.ta)
      let s := if (landRefused s j.ctx j.pa pb).isSome || (landRefused s j.ctx j.ta tb).isSome then s
        else landRow p j.ctx j.ta tb (transposeRow j.x) (landRow p j.ctx j.pa pb j.x s)
      s.onCore p (fun c => { c with pstw := listDrop c.pstw i })
    else s

/-- PSTW_LAND (R213): pair `i` of core `p` lands. -/
def execPstwLand (p i : Nat) (s : State) : Host.Outcome State Fault Refusal :=
  happen (fun _ => true) (pstwLand p i) s

/-- ENGINE_ROW_LAND (R201): row `row` of copy `j` of channel `u` of core `p` (u = 4: block `row` of the OPTU) is read or
lands; `r` is what a remote device answers, `st` its status in the low 8 bits, 0 when it does not refuse. A local row read
whose reply is poisoned has met a memory error; of a block of the OPTU, `st` then counts that row. -/
def execEngineRowLand (p u j row : Nat) (r : Reply) (st : Nat) (s : State) : Host.Outcome State Fault Refusal :=
  happen (fun _ => true) (if u = 4 then optuBlock p row r.poisoned st else copyRow p u j row r st) s

/-- ENGINE_COMPLETE (R202): copy `j` of channel `u` of core `p` (u = 4: the OPTU) completes; `st` holds a remote target's
answers to the adds: that to step 4 of R202 in the low 8 bits, above it those to step 3 and step 2. -/
def execEngineComplete (p u j st : Nat) (s : State) : Host.Outcome State Fault Refusal :=
  happen (fun _ => true) (if u = 4 then completeOptu p st else completeCopy p u j st) s

/-- CCPY (R205): enqueues a row copy, optionally mask-compacted, on a Carter channel. -/
def execCcpy (h : BitVec 2) (s : BitVec 1) (g : BitVec 5) (a b i : BitVec 6) (st : State) : Host.Outcome State Fault Refusal :=
  issueOne (.ccpy h s g a b i) (mCcpy h s g a b i) st

/-- CGTH (R207): enqueues a gather of table rows by queued indices. -/
def execCgth (h : BitVec 2) (s : BitVec 1) (g : BitVec 5) (a b i : BitVec 6) (st : State) : Host.Outcome State Fault Refusal :=
  issueOne (.cgth h s g a b i) (mCgth h s g a b i) st

/-- CSCT (R207): enqueues a scatter of rows into a table by queued indices. -/
def execCsct (h : BitVec 2) (s : BitVec 1) (g : BitVec 5) (a b i : BitVec 6) (st : State) : Host.Outcome State Fault Refusal :=
  issueOne (.csct h s g a b i) (mCsct h s g a b i) st

/-- CTOPK (R208): enqueues a top-k selection of acc rows into scratchpad. -/
def execCtopk (h : BitVec 2) (s : BitVec 1) (g : BitVec 5) (a b i : BitVec 6) (st : State) : Host.Outcome State Fault Refusal :=
  issueOne (.ctopk h s g a b i) (mCtopk h s g a b i) st

/-- CDRN (R209): freezes until a channel's earlier copies have completed. -/
def execCdrn (g : BitVec 5) (i : BitVec 6) (s : State) : Host.Outcome State Fault Refusal :=
  issueOne (.cdrn g i) (mCdrn g i) s

/-- PUSHIX (R261): appends an index to the address queue. -/
def execPushix (g : BitVec 5) (a : BitVec 6) (s : State) : Host.Outcome State Fault Refusal :=
  issueOne (.pushix g a) (mPushix g a) s

/-- OPTU (R211): starts a one-pass optimiser update over four streams. -/
def execOptu (s : BitVec 1) (g : BitVec 5) (a b i : BitVec 6) (st : State) : Host.Outcome State Fault Refusal :=
  issueOne (.optu s g a b i) (mOptu s g a b i) st

/-- PSTW (R213): stores a 16x16 block and its transpose to back sides as one unit. -/
def execPstw (g : BitVec 5) (v a : BitVec 6) (i : BitVec 7) (s : State) : Host.Outcome State Fault Refusal :=
  issueOne (.pstw g v a i) (mPstw g v a i) s

end Sys2Proof.Machine
end

