-- ==== Sys2Proof/Machine/Atomics.lean ====
section
/-!
DEFINITION. Machine/Atomics.lean: atomics, count barriers, BARW and FENCE (R230 to R237), ADMIT (R334), and how atomics
act and return (R218, R223).
-/

namespace Sys2Proof.Machine

/-- An atomic becomes outstanding (R232): operand and, for ACAS, expected value as before the bundle. -/
def issueAtom (k : AtomKind) (d : Dest) (s0 : State) (e : Env) (ea x y : W64) (o : BitVec 3) (s : State) : State :=
  addAccess e.p { newAccess s0 e (.word k) d ea with
    x := x, y := y, oc := o.toNat, rc := if isRemote ea then ocClass o.toNat else 0 } s

/-- A read-modify-write atomic of format MA (R232): `exp` when it reads its destination as the expected value. -/
def mAtom (k : AtomKind) (exp : Bool) (g : BitVec 5) (d a b : BitVec 6) (o : BitVec 3) : Meaning :=
  { acts := guardM g
    dests := fun _ => [destS d]
    srcs := fun _ => [destS a, destS b] ++ (if exp then [destS d] else [])
    check := fun s e => globalCheck s e (readS s e.p a) .store
    commit := fun s0 e s =>
      issueAtom k (destS d) s0 e (readS s0 e.p a) (readS s0 e.p b) (if exp then readS s0 e.p d else 0) o s }

/-- The meaning of ALD (R232). -/
def mAld (g : BitVec 5) (d a : BitVec 6) (o : BitVec 3) : Meaning :=
  { acts := guardM g
    dests := fun _ => [destS d]
    srcs := fun _ => [destS a]
    check := fun s e => globalCheck s e (readS s e.p a) .load
    commit := fun s0 e s => issueAtom .ld (destS d) s0 e (readS s0 e.p a) 0 0 o s }

/-- The meaning of AST (R232). -/
def mAst (g : BitVec 5) (a b : BitVec 6) (o : BitVec 3) : Meaning :=
  { acts := guardM g
    srcs := fun _ => [destS a, destS b]
    check := fun s e => globalCheck s e (readS s e.p a) .store
    commit := fun s0 e s => issueAtom .st .none s0 e (readS s0 e.p a) (readS s0 e.p b) 0 o s }

/-- The meaning of AADD (R232). -/
def mAadd (g : BitVec 5) (d a b : BitVec 6) (o : BitVec 3) : Meaning := mAtom .add false g d a b o

/-- The meaning of AMIN (R232). -/
def mAmin (g : BitVec 5) (d a b : BitVec 6) (o : BitVec 3) : Meaning := mAtom .min false g d a b o

/-- The meaning of AMAX (R232). -/
def mAmax (g : BitVec 5) (d a b : BitVec 6) (o : BitVec 3) : Meaning := mAtom .max false g d a b o

/-- The meaning of AMINN (R232). -/
def mAminn (g : BitVec 5) (d a b : BitVec 6) (o : BitVec 3) : Meaning := mAtom .minn false g d a b o

/-- The meaning of AMAXN (R232). -/
def mAmaxn (g : BitVec 5) (d a b : BitVec 6) (o : BitVec 3) : Meaning := mAtom .maxn false g d a b o

/-- The meaning of AAND (R232). -/
def mAand (g : BitVec 5) (d a b : BitVec 6) (o : BitVec 3) : Meaning := mAtom .and false g d a b o

/-- The meaning of AOR (R232). -/
def mAor (g : BitVec 5) (d a b : BitVec 6) (o : BitVec 3) : Meaning := mAtom .or false g d a b o

/-- The meaning of AXCHG (R232). -/
def mAxchg (g : BitVec 5) (d a b : BitVec 6) (o : BitVec 3) : Meaning := mAtom .xchg false g d a b o

/-- The meaning of ACAS (R232): it reads s[d] as the expected value. -/
def mAcas (g : BitVec 5) (d a b : BitVec 6) (o : BitVec 3) : Meaning := mAtom .cas true g d a b o

/-- The meaning of BARA (R235). -/
def mBara (g : BitVec 5) (a b : BitVec 6) (o : BitVec 3) : Meaning :=
  { acts := guardM g
    srcs := fun _ => [destS a, destS b]
    check := fun s e => globalCheck s e (readS s e.p a) .store
    commit := fun s0 e s => issueAtom .bara .none s0 e (readS s0 e.p a) (readS s0 e.p b) 0 o s }

/-- The checks of BARW (R233): a remote address is an illegal instruction, which prevails over a fatal one (R75). -/
def barwCheck (s : State) (e : Env) (ea : W64) : Option Fail :=
  if isRemote ea then some (.trap 2 48 0 0) else globalCheck s e ea .load

/-- BARW's freeze ends (R236): the phase bit differs, and no earlier access of the core holds its read back. -/
def barwReady (s : State) (e : Env) (ea w : W64) : Bool :=
  (barwCheck s e ea).isSome
    || (((memWord s (s.ctxOf e.p) (vaOf ea)).getLsbD 63 != w.getLsbD 0) && !acquireOpen (s.core e.p)
        && !((s.core e.p).board.any (fun x => x.publishes || sameRow x (newAccess s e (.word .ld) .none ea))))

/-- The meaning of BARW (R236); with ACQ_ORD the read that ended the freeze acquires. -/
def mBarw (g : BitVec 5) (a b : BitVec 6) (o : BitVec 3) : Meaning :=
  { acts := guardM g
    srcs := fun _ => [destS a, destS b]
    ready := fun s e => barwReady s e (readS s e.p a) (readS s e.p b)
    check := fun s e => barwCheck s e (readS s e.p a)
    commit := fun s0 e s =>
      let va := vaOf (readS s0 e.p a)
      if o.toNat = 3 then acquireWord e.p (s0.ctxOf e.p) (keyOf s0 (s0.ctxOf e.p) (va / 8 * 8) / 8) s else s }

/-! ### FENCE (R237) -/

/-- The kind bit of an outstanding access: LD 0, ST 1, AT 2; none for residency requests. -/
def Access.fenceKind (a : Access) : Option Nat :=
  match a.kind with
  | .ldg => some 0
  | .ldgs => some 0
  | .store => some 1
  | .word _ => some 2
  | .admission => some 2
  | .pub => some 1
  | .pubg => some 1
  | .ralloc => none
  | .rqry => none
  | .keyset => some 0

/-- A class mask covers an operation: it is local or its class is named. -/
def classCovered (cm : BitVec 3) (remote : Bool) (rc : Nat) : Bool := !remote || cm.getLsbD rc

/-- The FENCE covers an outstanding access. -/
def coversAccess (cm : BitVec 3) (km : BitVec 4) (a : Access) : Bool :=
  match a.fenceKind with
  | none => false
  | some k => km.getLsbD k && classCovered cm a.remote a.rc

/-- An engine operation of core `c` that the FENCE covers has not been performed (R223, R237). -/
def coversEngine (c : Core) (cm : BitVec 3) : Bool :=
  c.chans.any (fun (u : Nat × List Copy) => u.2.any (fun (j : Copy) => classCovered cm j.remote j.rc))
    || (match c.optu with
        | none => false
        | some j => classCovered cm (isRemote j.w.barAt) j.w.cls)
    || !c.pstw.isEmpty
    || c.lmmar.any (fun (j : LmmarJob) => classCovered cm true j.rc)
    || c.rloads.any (fun (j : RloadJob) => classCovered cm (isRemote j.bar) 0)

/-- A packet of an engine of core `p` of a covered class is not known to be accepted or refused at its target: a row, or an add of an
operation that is gone (R202, R223). -/
def coversPacket (s : State) (p : Nat) (cm : BitVec 3) : Bool :=
  let mine (c core chan rc : Nat) : Bool :=
    c == s.ctxOf p && core == (s.core p).lcore && (decide (chan < 4) || chan == 5) && cm.getLsbD rc
  s.out.any (fun k => isAnswered k.kind && mine k.ctx k.core k.chan k.rc) || s.unacked.any (fun u => mine u.ctx u.core u.chan u.rc)

/-- The FENCE's freeze is over: every covered operation has been performed. -/
def fenceReady (s : State) (p : Nat) (cm : BitVec 3) (km : BitVec 4) : Bool :=
  let c := s.core p
  cm = 0 || km = 0
    || (!(c.board.any (coversAccess cm km)) && !(km.getLsbD 1 && !c.pubds.isEmpty)
        && !(km.getLsbD 3 && (coversEngine c cm || coversPacket s p cm)))

/-- The meaning of FENCE (R237): whatever its scope, what has been performed here is performed for every observer. -/
def mFence (_s c : BitVec 3) (k : BitVec 4) : Meaning :=
  { ready := fun st e => fenceReady st e.p c k }

/-! ### ADMIT (R334) -/

/-- The checks of ADMIT: one 4 KiB page, then both addresses. -/
def admissionCheck (s : State) (e : Env) (x y : W64) : Option Fail :=
  if fld x 12 52 ≠ fld y 12 52 then some (.trap 2 62 0 0)
  else
    match globalCheck s e x .store with
    | some f => some f
    | none => globalCheck s e y .store

/-- The meaning of ADMIT (R334). -/
def mAdmitEntry (g : BitVec 5) (d a b : BitVec 6) (o : BitVec 3) : Meaning :=
  { acts := guardM g
    dests := fun _ => [destS d]
    srcs := fun _ => [destS a, destS b]
    check := fun s e => admissionCheck s e (readS s e.p a) (readS s e.p b)
    commit := fun s0 e s =>
      let x := readS s0 e.p a
      addAccess e.p { newAccess s0 e .admission (destS d) x with
        addr2 := readS s0 e.p b, oc := o.toNat, rc := if isRemote x then ocClass o.toNat else 0 } s }

/-! ### How atomics act (R218, R219, R230, R351) -/

/-- The operation an access performs on its word or words, each in its L2 line. -/
def actWord (p : Nat) (a : Access) (s : State) : State :=
  let c := s.ctxOf p
  let va := vaOf a.addr
  let s := if a.acquires then a.addrs.foldl (fun t w => acquireWord p c (keyOf t c (vaOf w / 8 * 8) / 8) t) s else s
  let s := a.addrs.foldl (fun t w => atomLine c (vaOf w) t) (takeTicket a.oc s)
  match a.kind with
  | .word k => atomAct c k va a.x a.y a.releases (s.core p).ownPubs s
  | .admission => admissionAct c va (vaOf a.addr2) a.releases (s.core p).ownPubs s
  | _ => s

/-- The value an atomic returns. -/
def atomValue (s : State) (c : Nat) (a : Access) : W64 :=
  match a.kind with
  | .admission => admissionResult (memWord s c (vaOf a.addr)) (memWord s c (vaOf a.addr2))
  | _ => memWord s c (vaOf a.addr)

/-- The word that another device answers. -/
def remoteWord (r : Reply) : W64 := rowWord r.data 0

/-- An atomic with a result acts and its old value arrives (R218, R72): a poisoned word is fatal (R161), and a word that the home
slice refuses, of which no value arrives (R221, R274). DEDUCED (log 69): the refusal of a local atomic has cause 1 of R265. -/
def performAtom (p i : Nat) (a : Access) (r : Reply) (s : State) : State :=
  let c := s.ctxOf p
  if a.remote then
    if r.poisoned then fatalAt p 2 a.addr 0 a.bundle s else arrive p i a (asVec (remoteWord r)) (acquireReply p a r s)
  else if (accessRefused s c a).isSome then fatalAt p 1 a.addr 0 a.bundle (dropAccess p i s)
  else if r.poisoned then fatalAt p 2 a.addr 0 a.bundle (memError 6 c (rowVa a.addr) s)
  else if accessPoisoned s c a then fatalAt p 2 a.addr 0 a.bundle s
  else arrive p i a (asVec (atomValue s c a)) (touchHost c (vaOf a.addr) (actWord p a s))

/-- ALD (R232): atomic load of a word. -/
def execAld (g : BitVec 5) (d a : BitVec 6) (o : BitVec 3) (s : State) : Host.Outcome State Fault Refusal :=
  issueOne (.ald g d a o) (mAld g d a o) s

/-- AST (R232): atomic store of a word. -/
def execAst (g : BitVec 5) (a b : BitVec 6) (o : BitVec 3) (s : State) : Host.Outcome State Fault Refusal :=
  issueOne (.ast g a b o) (mAst g a b o) s

/-- AADD (R232): atomic add returning the old value. -/
def execAadd (g : BitVec 5) (d a b : BitVec 6) (o : BitVec 3) (s : State) : Host.Outcome State Fault Refusal :=
  issueOne (.aadd g d a b o) (mAadd g d a b o) s

/-- AMIN (R232): atomic signed minimum. -/
def execAmin (g : BitVec 5) (d a b : BitVec 6) (o : BitVec 3) (s : State) : Host.Outcome State Fault Refusal :=
  issueOne (.amin g d a b o) (mAmin g d a b o) s

/-- AMAX (R232): atomic signed maximum. -/
def execAmax (g : BitVec 5) (d a b : BitVec 6) (o : BitVec 3) (s : State) : Host.Outcome State Fault Refusal :=
  issueOne (.amax g d a b o) (mAmax g d a b o) s

/-- AMINN (R232): atomic unsigned minimum. -/
def execAminn (g : BitVec 5) (d a b : BitVec 6) (o : BitVec 3) (s : State) : Host.Outcome State Fault Refusal :=
  issueOne (.aminn g d a b o) (mAminn g d a b o) s

/-- AMAXN (R232): atomic unsigned maximum. -/
def execAmaxn (g : BitVec 5) (d a b : BitVec 6) (o : BitVec 3) (s : State) : Host.Outcome State Fault Refusal :=
  issueOne (.amaxn g d a b o) (mAmaxn g d a b o) s

/-- AAND (R232): atomic AND. -/
def execAand (g : BitVec 5) (d a b : BitVec 6) (o : BitVec 3) (s : State) : Host.Outcome State Fault Refusal :=
  issueOne (.aand g d a b o) (mAand g d a b o) s

/-- AOR (R232): atomic OR. -/
def execAor (g : BitVec 5) (d a b : BitVec 6) (o : BitVec 3) (s : State) : Host.Outcome State Fault Refusal :=
  issueOne (.aor g d a b o) (mAor g d a b o) s

/-- AXCHG (R232): atomic exchange. -/
def execAxchg (g : BitVec 5) (d a b : BitVec 6) (o : BitVec 3) (s : State) : Host.Outcome State Fault Refusal :=
  issueOne (.axchg g d a b o) (mAxchg g d a b o) s

/-- ACAS (R232): atomic compare and swap. -/
def execAcas (g : BitVec 5) (d a b : BitVec 6) (o : BitVec 3) (s : State) : Host.Outcome State Fault Refusal :=
  issueOne (.acas g d a b o) (mAcas g d a b o) s

/-- BARA (R235): adds to a count barrier, flipping its phase at target. -/
def execBara (g : BitVec 5) (a b : BitVec 6) (o : BitVec 3) (s : State) : Host.Outcome State Fault Refusal :=
  issueOne (.bara g a b o) (mBara g a b o) s

/-- BARW (R236): freezes until a barrier's phase bit differs from a value. -/
def execBarw (g : BitVec 5) (a b : BitVec 6) (o : BitVec 3) (s : State) : Host.Outcome State Fault Refusal :=
  issueOne (.barw g a b o) (mBarw g a b o) s

/-- FENCE (R237): freezes until covered earlier operations are performed in scope. -/
def execFence (s c : BitVec 3) (k : BitVec 4) (st : State) : Host.Outcome State Fault Refusal :=
  issueOne (.fence s c k) (mFence s c k) st

/-- ADMIT (R334): charges one entry against two count records in one atomic step. -/
def execAdmitEntry (g : BitVec 5) (d a b : BitVec 6) (o : BitVec 3) (s : State) : Host.Outcome State Fault Refusal :=
  issueOne (.admitEntry g d a b o) (mAdmitEntry g d a b o) s

end Sys2Proof.Machine
end

