-- ==== Sys2Proof/Machine/Resid.lean ====
section
/-!
DEFINITION. Machine/Resid.lean: residencies: handles (R298, R301), the instructions of R302 to R306, load completion
(R304), eviction (R310).
-/

namespace Sys2Proof.Machine

/-! ### Slots and handles (R298 to R301) -/

/-- The key of a slot of a logical core in a context's residency tables. -/
def resKey (lcore slot : Nat) : Nat := lcore * 1024 + slot

/-- The residency table entry of a slot (R299). -/
def resAt (x : Ctx) (lcore slot : Nat) : Resid := Tab.get Resid.zero x.res (resKey lcore slot)

/-- The entry of a slot changed. -/
def onRes (c lcore slot : Nat) (f : Resid → Resid) (s : State) : State :=
  s.onCtx c (fun x => { x with res := Tab.upd Resid.zero x.res (resKey lcore slot) f })

/-- The slot and the generation that a handle names (R298). -/
def handleSlot (h : W64) : Nat := fld h 0 16
def handleGen (h : W64) : Nat := fld h 20 12

/-- The handle of a slot. -/
def handleOf (e : Resid) (slot : Nat) : W64 := BitVec.ofNat 64 (e.gen.toNat * 2 ^ 20 + slot)

/-- The handle check of R301: the cause it fails with. -/
def handleCause (x : Ctx) (lcore : Nat) (h : W64) : Option Nat :=
  if fld h 16 4 ≠ 0 ∨ 1024 ≤ handleSlot h then some 8
  else
    let e := resAt x lcore (handleSlot h)
    if e.state = 7 ∧ handleGen h = e.rgen.toNat then some 7
    else if e.held = false ∨ handleGen h ≠ e.gen.toNat then some 8
    else none

/-- The handle check of R301 as an issue-time check. -/
def handleFail (s : State) (p : Nat) (h : W64) : Option Fail :=
  (handleCause (s.ctx (s.ctxOf p)) (s.core p).lcore h).map (fun k => .trap k 0 0 (h.setWidth 32))

/-! ### Granules, drain and charge (R296, R305, R309) -/

/-- Granules a tile occupies (R299). -/
def granulesOf (bytes : Nat) : Nat := (bytes + 4095) / 4096

/-- The granules entry is of a slot. -/
def Granules.isOf (g : Granules) (c lcore slot : Nat) : Bool := g.ctx == c && g.lcore == lcore && g.slotIx == slot

/-- Some Loom instruction that named the slot may not have taken its window yet (R187). -/
def windowOpen (k : Core) (t c lcore slot : Nat) : Bool :=
  k.loom.any (fun (j : LoomJob) => j.ctx == c && j.lcore == lcore && j.slotIx == slot && decide (t < j.issue + j.rows + 40))

/-- The granules of revoked slots whose last bound has passed are free (R305). -/
def drainDue (t : Nat) (k : Core) : Core :=
  { k with granules := k.granules.filter (fun (g : Granules) => !g.drain || windowOpen k t g.ctx g.lcore g.slotIx) }

/-- The slot is revoked and has not drained (R305). -/
def draining (k : Core) (c lcore slot : Nat) : Bool := k.granules.any (fun (g : Granules) => g.drain && g.isOf c lcore slot)

/-- The slots of a logical core that the tables list. -/
def slotsOf (x : Ctx) (lcore : Nat) : List (Nat × Resid) :=
  (x.res.filter (fun k => decide (k.1 / 1024 = lcore))).map (fun k => (k.1 % 1024, k.2))

/-- charge(tenant, core) of R309 for context `c` running as `lcore` on core `p`. -/
def chargeOf (s : State) (p c lcore : Nat) : Nat :=
  let k := s.core p
  let own := ((slotsOf (s.ctx c) lcore).map (fun e => if e.2.held || draining k c lcore e.1 then e.2.charge else 0)).sum
  let others := (k.granules.map (fun (g : Granules) =>
    if g.ctx ≠ c ∧ (s.ctx g.ctx).tenant = (s.ctx c).tenant then g.count else 0)).sum
  own + others

/-- The quota of a tenant on a core (R296). -/
def quotaOf (s : State) (p tenant : Nat) : Nat := bfld (Tab.get 0 s.quotas (16 * p + tenant)) 0 11

/-- Granules of a core that no slot holds. -/
def freeGranules (k : Core) : Nat := 1536 - (k.granules.map Granules.count).sum

/-! ### Eviction (R310) -/

/-- An entry of the order in which contexts left a core: by cycle, then by context number; whether a task of it ran. -/
def leaveCode (t c : Nat) (ran : Bool) : Nat := t * 128 + c * 2 + (if ran then 1 else 0)
def leftCtx (k : Nat) : Nat := k % 128 / 2
def leftRan (k : Nat) : Bool := k % 2 == 1

/-- A code placed in rising order. -/
def insertLeft (k : Nat) : List Nat → List Nat
  | [] => [k]
  | x :: r => if k < x then k :: x :: r else x :: insertLeft k r

/-- A context leaves a core, or counts as leaving it (R310). -/
def leaveCore (t c : Nat) (ran : Bool) (k : Core) : Core :=
  { k with left := insertLeft (leaveCode t c ran) (k.left.filter (fun y => leftCtx y != c)) }

/-- A context that holds granules of a core it has not left counts as leaving it now (R310): one whose residencies are placed there without
a task. -/
def joinLeft (t c : Nat) (k : Core) : Core := if k.left.any (fun y => leftCtx y == c) then k else leaveCore t c false k

/-- The contexts of victims in the order of R310: the one that ran last, then the others as they left; none that runs there. -/
def victimCtxs (k : Core) (c : Nat) : List Nat :=
  let l := k.left.filter (fun y => leftCtx y != c && (k.run == .idle || k.ctx != some (leftCtx y)))
  match (l.reverse).find? leftRan with
  | none => l.map leftCtx
  | some y => leftCtx y :: (l.filter (fun z => z != y)).map leftCtx

/-- Within one context, unpinned slots go first, then lower slot indices (R310). -/
def victimsOf (s : State) (p c : Nat) : List Granules :=
  let l := (s.core p).granules.filter (fun (g : Granules) => g.ctx == c && !g.drain && (resAt (s.ctx c) g.lcore g.slotIx).state != 1)
  let below (g : Granules) (m : List Granules) : List Granules :=
    let k := (if (resAt (s.ctx c) g.lcore g.slotIx).pin then 1024 else 0) + g.slotIx
    let lo := m.filter (fun (y : Granules) => decide ((if (resAt (s.ctx c) y.lcore y.slotIx).pin then 1024 else 0) + y.slotIx < k))
    let hi := m.filter (fun (y : Granules) => decide (k ≤ (if (resAt (s.ctx c) y.lcore y.slotIx).pin then 1024 else 0) + y.slotIx))
    lo ++ g :: hi
  l.foldr below []

/-- A slot loses its granules of core `p` (R310): RESIDENT and PINNED become EVICTED, STALE stays; counted in CNEVCT. -/
def evict (p : Nat) (g : Granules) (s : State) : State :=
  let s := s.onCore p (fun k => { k with granules := k.granules.filter (fun (y : Granules) => !(y.isOf g.ctx g.lcore g.slotIx)) })
  let s := onRes g.ctx g.lcore g.slotIx (fun e => if e.usable then { e with state := 5 } else e) s
  countCore g.ctx g.lcore 0x843 1 s

/-- Victims are evicted in order until the condition holds. -/
def evictUntil (p : Nat) (enough : State → Bool) : List Granules → State → State
  | [], s => s
  | g :: r, s => if enough s then s else evictUntil p enough r (evict p g s)

/-- Granules are made free for context `c` on core `p` (R304, R310). -/
def makeRoom (p c n : Nat) (s : State) : State :=
  evictUntil p (fun t => decide (n ≤ freeGranules (t.core p)))
    ((victimCtxs (s.core p) c).map (victimsOf s p)).flatten s

/-! ### RALLOC and RQRY (R302, R306) -/

/-- RALLOC for context `c` on core `p` with charge `n` (R302): its result, and the state after it. -/
def allocate (p c lcore : Nat) (n : Nat) (s : State) : W64 × State :=
  if n < 1 ∨ 1536 < n then (0x8000000000000003, s)
  else
    let tenant := (s.ctx c).tenant
    let quota := quotaOf s p tenant
    let s := s.onCore p (drainDue s.cycle)
    let fits (t : State) : Bool := decide (chargeOf t p c lcore + n ≤ quota)
    let mates := (victimCtxs (s.core p) c).filter (fun y => (s.ctx y).tenant == tenant)
    let s := evictUntil p fits ((mates.map (victimsOf s p)).flatten) s
    if !fits s then (0x8000000000000002, s)
    else
      let usableSlot (k : Nat) : Bool :=
        let e := resAt (s.ctx c) lcore k
        (e.state == 0 && !e.held) || (e.state == 7 && !draining (s.core p) c lcore k)
      match (List.range 1024).find? usableSlot with
      | none => (0x8000000000000001, s)
      | some k =>
        let e := resAt (s.ctx c) lcore k
        (handleOf e k, onRes c lcore k (fun e =>
          { e with held := true, state := 0, pin := false, charge := n, status := 0, loaded := false
                   rgen := if e.state = 7 then 0 else e.rgen }) s)

/-- RQRY's report of a handle (R306). -/
def queryWord (x : Ctx) (lcore : Nat) (h : W64) : W64 :=
  let e := resAt x lcore (handleSlot h)
  let report (top : Nat) : W64 :=
    BitVec.ofNat 64 (top * 2 ^ 62 + e.state % 16 * 2 ^ 32 + (if e.pin then 2 ^ 31 else 0) + e.status % 256 * 2 ^ 16
      + e.charge % 2048)
  match handleCause x lcore h with
  | none => report 2
  | some 7 => report 1
  | some _ => 0

/-- A request to the residency loader becomes outstanding (R72), with its operand and the result it already has. -/
def issueRequest (kind : AccKind) (d : BitVec 6) (s0 : State) (e : Env) (x y : W64) (s : State) : State :=
  addAccess e.p { newAccess s0 e kind (destS d) 0 with x := x, y := y, mask := 0, own := 0 } s

/-- The meaning of RALLOC (R302): the slot is allocated at commit, before any later residency instruction (R227), and its
handle arrives later. -/
def mRalloc (g : BitVec 5) (a b : BitVec 6) : Meaning :=
  { acts := guardM g
    dests := fun _ => [destS a]
    srcs := fun _ => [destS b]
    commit := fun s0 e s =>
      let x := readS s0 e.p b
      let r := allocate e.p (s0.ctxOf e.p) (s0.core e.p).lcore x.toNat s
      issueRequest .ralloc a s0 e x r.1 r.2 }

/-- The meaning of RQRY (R306). -/
def mRqry (g : BitVec 5) (a b : BitVec 6) : Meaning :=
  { acts := guardM g
    dests := fun _ => [destS a]
    srcs := fun _ => [destS b]
    commit := fun s0 e s => issueRequest .rqry a s0 e (readS s0 e.p b) 0 s }

/-- The result of a request to the residency loader arrives: of a RALLOC the one it has, of an RQRY the slot as it stands
now. -/
def performRequest (p i : Nat) (a : Access) (s : State) : State :=
  arrive p i a (asVec (if a.kind = .ralloc then a.y else queryWord (s.ctx (s.ctxOf p)) (s.core p).lcore a.x)) s

/-- SCOREBOARD_ARRIVE for access `i` of core `p` (R72): a remote access held back is injected; one that may act acts and
its value arrives. -/
def scoreboardArrive (p i : Nat) (r : Reply) (s : State) : State :=
  match (s.core p).board[i]? with
  | none => s
  | some a =>
    if !a.returns then s
    else if a.remote && !a.sent then (if mayAct s p i then inject p i s else s)
    else if !a.remote && (!mayAct s p i || hostTierWaits s (s.ctxOf p) a) then s
    else
      match a.kind with
      | .ldg => performLoad p i a r s
      | .ldgs => performLoad p i a r s
      | .ralloc => performRequest p i a s
      | .rqry => performRequest p i a s
      | .keyset => performKeyset p i a r s
      | _ => performAtom p i a r s

/-- SCOREBOARD_ARRIVE (R72): the value of access `i` of core `p` arrives; `r` is what a remote target answers. -/
def execScoreboardArrive (p i : Nat) (r : Reply) (s : State) : Host.Outcome State Fault Refusal :=
  happen (fun s => coreAlive s p) (scoreboardArrive p i r) s

/-! ### RLOAD (R303, R304) -/

/-- The byte range lies whole in regions that the current map lets a load through (R304). -/
def rangeOk (s : State) (c lo n : Nat) : Bool :=
  decide (lo + n ≤ 2 ^ 48) && (List.range ((lo + n - 1) / 65536 - lo / 65536 + 1)).all (fun k =>
    (mapRefuses (s.ctx c) ((lo / 65536 + k) * 65536) .load).isNone)

/-- The format and row count of a tile are admitted (R303). -/
def tileShapeFail (h : Shape) : Option Nat :=
  if 16 ≤ h.fmt.toNat ∨ !([1, 2, 3, 8, 9].contains h.code) then some 53
  else if h.inner < 1 ∨ 8192 < h.inner ∨ ((h.code = 8 ∨ h.code = 9) ∧ h.inner % 128 ≠ 0) then some 54
  else none

/-- The checks of RLOAD (R303) in their order: illegal instruction, barrier, handle (R75). -/
def rloadCheck (s : State) (p : Nat) (h : Shape) (hd off : W64) : Option Fail :=
  let c := s.ctxOf p
  let e := resAt (s.ctx c) (s.core p).lcore (handleSlot hd)
  let good := (handleCause (s.ctx c) (s.core p).lcore hd).isNone
  let src := h.base + off
  match tileShapeFail h with
  | some k => some (.trap 2 k 0 0)
  | none =>
    if good && e.state == 1 then some (.trap 2 55 0 0)
    else if good && decide (e.charge < granulesOf (tileBytes h.code h.inner)) then some (.trap 2 56 0 0)
    else if fld src 48 16 ≠ 0 then some (.trap 2 57 0 0)
    else if !barrierOk s c h.barAt then some (.fatal 1 h.barAt 0)
    else handleFail s p hd

/-- RLOAD takes effect (R304): the slot is LOADING, or FAULTED when its range is refused; its completion is to come. -/
def startLoad (p : Nat) (h : Shape) (hd off : W64) (pin : Bool) (s0 s : State) : State :=
  let c := s0.ctxOf p
  let l := (s0.core p).lcore
  let slot := handleSlot hd
  let src := fld (h.base + off) 0 48
  let bytes := tileBytes h.code h.inner
  let ok := rangeOk s0 c src bytes
  let s := s.onCore p (fun k => { k with granules := k.granules.filter (fun (y : Granules) => !(y.isOf c l slot)) })
  let s := s.onCtx c (fun x => { x with tiles := Tab.erase x.tiles (resKey l slot) })
  let s := onRes c l slot (fun e => { e with
    state := if ok then 1 else 6, status := if ok then 0 else 1, pin := e.pin || pin, fmt := h.code, k := h.inner,
    src := src, loaded := true }) s
  let n := granulesOf bytes
  let s := if ok then makeRoom p c n (s.onCore p (drainDue s.cycle)) else s
  let job : RloadJob :=
    { ctx := c, lcore := l, slotIx := slot, fmt := h.code, k := h.inner, src := src, bytes := bytes, bar := h.barAt,
      stale := false, revoked := false, failed := !ok, issue := s0.cycle }
  s.onCore p (fun k => { k with
    granules := if ok then k.granules ++ [{ ctx := c, lcore := l, slotIx := slot, count := n, drain := false }]
      else k.granules
    rloads := k.rloads ++ [job] })

/-- The meaning of RLOAD (R303). -/
def mRload (h : BitVec 2) (s : BitVec 1) (g : BitVec 5) (a b i : BitVec 6) : Meaning :=
  { acts := guardM g
    srcs := fun _ => [destS a, destS b]
    ready := fun st e => decide ((st.core e.p).rloads.length < 4)
    check := fun st e => rloadCheck st e.p (usedShape (st.core e.p) 0 h.toNat s) (readS st e.p a) (readS st e.p b)
    commit := fun s0 e st =>
      startLoad e.p (usedShape (s0.core e.p) 0 h.toNat s) (readS s0 e.p a) (readS s0 e.p b) (i.getLsbD 0) s0
        (st.onCore e.p (exchangeAll 0 s [h.toNat]))
    rank := 1 }

/-- The stored bytes of a tile, each row of the range read by R200. -/
def tileRead (s : State) (p c src bytes : Nat) : Nat :=
  let first := src / 512
  let n := (src + bytes - 1) / 512 - first + 1
  let all := (gather 4096 (fun k => ((loadRow s p c ((first + k) * 512)).toNat, 0)) n).1
  all / 2 ^ (8 * (src % 512)) % 2 ^ (8 * bytes)

/-- A row of the range arrives poisoned. -/
def rangePoisoned (s : State) (c src bytes : Nat) : Bool :=
  (List.range ((src + bytes - 1) / 512 - src / 512 + 1)).any (fun k => poisoned s c ((src / 512 + k) * 512))

/-- The rows of the range are read, as rows of an engine. -/
def tileLines (c src bytes : Nat) (s : State) : State :=
  (List.range ((src + bytes - 1) / 512 - src / 512 + 1)).foldl (fun t k =>
    engineLine c (BitVec.ofNat 64 ((src / 512 + k) * 512)) t) s

/-- The row of a load in which the device has met a memory error (R355): a free choice among those of its range. -/
def errorRow (n : Nat) (j : RloadJob) : Nat :=
  (j.src / 512 + Config.pick n 355 % ((j.src + j.bytes - 1) / 512 - j.src / 512 + 1)) * 512

/-- A load completes (R304): `bad` when the device met an uncorrectable memory error in a row of its range. -/
def finishLoad (p : Nat) (j : RloadJob) (bad : Bool) (st : Nat) (s : State) : State :=
  let add (bit bytes : Nat) (s : State) : State := completeAt p j.ctx ownFlow 0 j.bar bit none bytes st s
  if j.revoked then add (2 ^ 10) 0 s
  else if j.failed then add (2 ^ 8) 0 s
  else if bad || rangePoisoned s j.ctx j.src j.bytes then
    let s := if bad then memError 6 j.ctx (errorRow s.freeCtr j) s else s
    let s := onRes j.ctx j.lcore j.slotIx (fun e => { e with state := 6, status := 2 }) s
    let s := s.onCore p (fun k => { k with granules := k.granules.filter (fun (y : Granules) => !(y.isOf j.ctx j.lcore j.slotIx)) })
    add (2 ^ 9) 0 s
  else
    let t : Tile := { fmt := j.fmt, k := j.k, bytes := tileRead s p j.ctx j.src j.bytes }
    let s := tileLines j.ctx j.src j.bytes s
    let s := s.onCtx j.ctx (fun x => { x with tiles := Tab.set x.tiles (resKey j.lcore j.slotIx) t })
    let s := onRes j.ctx j.lcore j.slotIx (fun e => { e with
      state := if j.stale then 4 else if e.pin then 3 else 2 }) s
    let s := if j.stale then countCore j.ctx j.lcore 0x841 1 s else countCore j.ctx j.lcore 0x840 1 s
    add 0 j.bytes s

/-- The oldest load of a slot. -/
def loadOf (l : List RloadJob) (slot : Nat) : Option RloadJob := l.find? (fun j => j.slotIx == slot)

/-- RLOAD_COMPLETE for a slot of core `p`. -/
def rloadComplete (p slot : Nat) (bad : Bool) (st : Nat) (s : State) : State :=
  match loadOf (s.core p).rloads slot with
  | none => s
  | some j =>
    if alive s j.ctx && startedAt (s.core p) j.issue && (addPages s j.ctx j.bar 1).isEmpty then
      finishLoad p j bad st (s.onCore p (fun k => { k with rloads := k.rloads.erase j }))
    else s

/-- RLOAD_COMPLETE (R304): the load of a slot of core `p` completes; `bad` when a row arrived poisoned, `st` the answer of
a remote barrier. -/
def execRloadComplete (p slot : Nat) (bad : Bool) (st : Nat) (s : State) : Host.Outcome State Fault Refusal :=
  happen (fun _ => true) (rloadComplete p slot bad st) s

/-! ### RPIN, RUNPIN, RREV (R305) -/

/-- The mould of R305: the handle check, the exchange, an effect on the slot. -/
def mSlot (h : BitVec 2) (s : BitVec 1) (g : BitVec 5) (a : BitVec 6) (f : Nat → Nat → Nat → Nat → State → State) : Meaning :=
  { acts := guardM g
    srcs := fun _ => [destS a]
    check := fun st e => handleFail st e.p (readS st e.p a)
    commit := fun s0 e st =>
      f e.p (s0.ctxOf e.p) (s0.core e.p).lcore (handleSlot (readS s0 e.p a)) (st.onCore e.p (exchangeAll 0 s [h.toNat]))
    rank := 1 }

/-- The meaning of RPIN (R305). -/
def mRpin (h : BitVec 2) (s : BitVec 1) (g : BitVec 5) (a : BitVec 6) : Meaning :=
  mSlot h s g a (fun _ c l k => onRes c l k (fun e => { e with pin := true, state := if e.state = 2 then 3 else e.state }))

/-- The meaning of RUNPIN (R305). -/
def mRunpin (h : BitVec 2) (s : BitVec 1) (g : BitVec 5) (a : BitVec 6) : Meaning :=
  mSlot h s g a (fun _ c l k => onRes c l k (fun e => { e with pin := false, state := if e.state = 3 then 2 else e.state }))

/-- A slot is revoked (R305): a load of it is abandoned; its granules drain once every Loom instruction that named it has
taken its window. -/
def revoke (p c l k : Nat) (s : State) : State :=
  let e := resAt (s.ctx c) l k
  let open_ := windowOpen (s.core p) s.cycle c l k
  let s := onRes c l k (fun e => { e with
    rgen := e.gen, gen := if e.gen = 4095 then 1 else e.gen + 1, state := 7, pin := false, held := false }) s
  let s := s.onCtx c (fun x => { x with tiles := Tab.erase x.tiles (resKey l k) })
  s.onCore p (fun q => { q with
    rloads := if e.state = 1
      then q.rloads.map (fun (j : RloadJob) =>
        if j.ctx = c ∧ j.lcore = l ∧ j.slotIx = k ∧ j.failed = false then { j with revoked := true } else j)
      else q.rloads
    granules :=
      let others := q.granules.filter (fun (y : Granules) => !(y.isOf c l k))
      if open_ then
        { ctx := c, lcore := l, slotIx := k, drain := true
          count := ((q.granules.filter (fun (y : Granules) => y.isOf c l k)).map Granules.count).sum } :: others
      else others })

/-- The meaning of RREV (R305). -/
def mRrev (h : BitVec 2) (s : BitVec 1) (g : BitVec 5) (a : BitVec 6) : Meaning := mSlot h s g a revoke

/-- The granules of revoked slots of a slot number drain. -/
def rrevDrain (p slot : Nat) (s : State) : State :=
  s.onCore p (fun k => { k with granules := k.granules.filter (fun (g : Granules) => !(g.drain && g.slotIx == slot)) })

/-- RREV_DRAIN (R305): a revoked slot of core `p` has drained, at the latest by the bound of R187. -/
def execRrevDrain (p slot : Nat) (s : State) : Host.Outcome State Fault Refusal :=
  happen (fun _ => true) (rrevDrain p slot) s

/-- RALLOC (R302): allocates a residency slot with a granule charge. -/
def execRalloc (g : BitVec 5) (a b : BitVec 6) (s : State) : Host.Outcome State Fault Refusal :=
  issueOne (.ralloc g a b) (mRalloc g a b) s

/-- RLOAD (R303): starts loading a weight tile into a held slot. -/
def execRload (h : BitVec 2) (s : BitVec 1) (g : BitVec 5) (a b i : BitVec 6) (st : State) : Host.Outcome State Fault Refusal :=
  issueOne (.rload h s g a b i) (mRload h s g a b i) st

/-- RPIN (R305): pins a residency. -/
def execRpin (h : BitVec 2) (s : BitVec 1) (g : BitVec 5) (a : BitVec 6) (st : State) : Host.Outcome State Fault Refusal :=
  issueOne (.rpin h s g a) (mRpin h s g a) st

/-- RUNPIN (R305): unpins a residency. -/
def execRunpin (h : BitVec 2) (s : BitVec 1) (g : BitVec 5) (a : BitVec 6) (st : State) : Host.Outcome State Fault Refusal :=
  issueOne (.runpin h s g a) (mRunpin h s g a) st

/-- RREV (R305): revokes a residency and advances its generation. -/
def execRrev (h : BitVec 2) (s : BitVec 1) (g : BitVec 5) (a : BitVec 6) (st : State) : Host.Outcome State Fault Refusal :=
  issueOne (.rrev h s g a) (mRrev h s g a) st

/-- RQRY (R306): reports the state of the slot a handle names. -/
def execRqry (g : BitVec 5) (a b : BitVec 6) (s : State) : Host.Outcome State Fault Refusal :=
  issueOne (.rqry g a b) (mRqry g a b) s

end Sys2Proof.Machine
end

