-- ==== Sys2Proof/Machine/Phase.lean ====
section
/-!
DEFINITION. Machine/Phase.lean: maps and phases: PBEG, PBEGA, PADV, PQRY, MAPLD, PROBE (R276 to R287), the Reeves' work
and the commit (R277 to R284), the placement engines and page requests (R288 to R292).
-/

namespace Sys2Proof.Machine

/-! ### The Rota (R18, R316) -/

/-- The Rota entry of a slot of a bank. -/
def rotaEntry (s : State) (bank i : Nat) : Byte := Tab.get 0 s.rota (128 * bank + i)

/-- A period has started since the pending request for a switch (R317). -/
def rotaDue (s : State) : Bool := s.rotaPend && decide (s.rotaAt / 1024 < s.cycle / 1024)

/-- The Rota bank in force: the one that a request has asked for from the start of the next period on (R317). -/
def activeBank (s : State) : Nat := if rotaDue s then 1 - s.rotaBank % 2 else s.rotaBank

/-- A switch of Rota bank that has taken place is reported complete (R317). -/
def settleRota (s : State) : State :=
  if rotaDue s then { s with rotaBank := activeBank s, rotaPend := false, rotaDone := true } else s

/-- The tenant that owns the Rota slot of this cycle. -/
def slotOwner (s : State) : Option Nat :=
  let e := rotaEntry s (activeBank s) (s.cycle % 1024 / 8)
  if e.getLsbD 7 then some (e.toNat % 16) else none

/-- The Rota slot of this cycle is owned by no tenant: only in such slots do the Reeves and the placement engines move
pages (R18). -/
def freeSlot (s : State) : Bool := (slotOwner s).isNone

/-- The virtual address of context `c` whose backing a memory key is, if it has one: its own, that of its own copy of a page, or a bound base's
that it has not copied (R274). -/
def backVa (x : Ctx) (c key : Nat) : Option Nat :=
  let off := key % 2 ^ 48
  if 256 ≤ key / 2 ^ 48 then (if keyCtx key = c ∧ x.priv.contains (off / 65536) = true then some off else none)
  else
    let entry (q : Nat × Nat × Nat) : BitVec 128 := Tab.get 0 x.regions q.1
    match x.shared.find? (fun q => q.2.1 == key / 2 ^ 48 && decide (q.2.2 ≤ off) && decide (off < q.2.2 + regSize (entry q))) with
    | some q =>
      let va := regBase (entry q) + (off - q.2.2)
      if x.priv.contains (va / 65536) then none else some va
    | none =>
      if key / 2 ^ 48 = c ∧ x.priv.contains (off / 65536) = false
          ∧ (regionAt x off).all (fun r => (Tab.find x.shared r.1).isNone) = true then some off else none

/-! ### Comparing maps (R277) -/

/-- The pages of a region. -/
def regPages (e : BitVec 128) : List Nat := (List.range (regSize e / 65536)).map (fun k => regBase e / 65536 + k)

/-- The page of a piece of the Reeves' work that is allocated and not yet in force (R277). -/
def WorkItem.takes (w : WorkItem) (tier die : Nat) (at_ : Place) : Bool :=
  w.alloc && w.tier == tier && (decide (2 ≤ tier) || w.die == die)
    && !(at_.tier == w.tier && at_.die == w.die && at_.spot == w.spot)

/-- The pages of the LPDDR-6 of a die that a management window of `size` bytes from `base` takes (R342). DESIGN CHOICE (log 83): the
window counts its addresses through the 3,906,250 pages of die 0, then those of die 1, 2 and 3. -/
def windowPages (base size die : Nat) : Nat :=
  min ((base + size) / 65536) (3906250 * (die + 1)) - max (base / 65536) (3906250 * die)

/-- Used pages of a tier, on a die for HBM4E and LPDDR-6 (R288): those placed there, those allocated for a transition, and the management
window's. -/
def usedPages (s : State) (tier die : Nat) : Nat :=
  (if tier = 1 then windowPages s.mwinBase s.mwinSize die else 0) + (s.ctxs.map (fun (k : Nat × Ctx) => (k.2.pages.filter (fun (g : Nat × Place) =>
    g.2.tier == tier && (decide (2 ≤ tier) || g.2.die == die))).length
      + (k.2.tr.work.filter (fun (w : WorkItem) => w.takes tier die (placeOf s k.1 w.page))).length)).sum

/-- The pages a tier holds (R10, R2): on each die two stacks of HBM4E and four packages of LPDDR-6 of 64 decimal GB each, of CXL what the
described devices give (R350); host memory is bounded by its watermark alone. Sixteen packages are 1.024 x 10^12 bytes, where R10 says
1 TB: DESIGN CHOICE (log 42), the packages count. -/
def tierPages (s : State) (tier : Nat) : Option Nat :=
  if tier = 0 then some 1953125
  else if tier = 1 then some 3906250
  else if tier = 2 then some ((s.cxl.map (fun d => d / 2 ^ 96 % 2 ^ 64)).sum / 65536)
  else none

/-- A tier, on a die, holds one more page. -/
def fits (s : State) (tier die : Nat) : Bool := (tierPages s tier).all (fun n => decide (usedPages s tier die < n))

/-- The place of a watermark pair in the table of R342. -/
def markIx (tier die : Nat) : Nat := if tier < 2 then 4 * die + 2 * tier else 16 + 2 * (tier - 2)
def highMark (s : State) (tier die : Nat) : Nat := (Tab.get 0 s.marks (markIx tier die)).toNat
def lowMark (s : State) (tier die : Nat) : Nat := (Tab.get 0 s.marks (markIx tier die + 1)).toNat

/-- A tier, on a die, has room below its high watermark (R277). -/
def roomBelow (s : State) (tier die : Nat) : Bool := fits s tier die && decide (usedPages s tier die < highMark s tier die)

/-- A tier, on a die, does not lie above its high watermark and holds one more page (R283). -/
def hasRoom (s : State) (tier die : Nat) : Bool := fits s tier die && decide (usedPages s tier die ≤ highMark s tier die)

/-- The dies of a tier in the order the device tries them for a page: all four for HBM4E and LPDDR-6 (R271), the one of R170 for the
others. -/
def diesFor (tier page : Nat) : List Nat :=
  let d := (Config.pageDie page tier).val
  if tier < 2 then [d, (d + 1) % 4, (d + 2) % 4, (d + 3) % 4] else [d]

/-- The key slot lies LIVE in the window of a tenant (R322). -/
def keyUsable (s : State) (tenant k : Nat) : Bool :=
  let t := Tab.get 0 s.tenants tenant
  (Tab.get KeySlot.zero s.keys k).state == 1 && (Tab.get KeySlot.zero s.keys k).tenant == tenant
    && decide (tenantKbase t ≤ k) && decide (k < tenantKbase t + tenantKcount t)

/-- The places, tier and die, that a page may be given: in HBM4E alone, or under WIDE in any tier above storage, off the package only
under a key slot that R322 admits. -/
def placesFor (s : State) (tenant : Nat) (wide : Bool) (page key : Nat) : List (Nat × Nat) :=
  let tiers := if wide then [0, 1, 2, 3] else [0]
  ((tiers.filter (fun t => decide (t < 2) || keyUsable s tenant key)).map (fun t =>
    (diesFor t page).map (fun d => (t, d)))).flatten

/-- The place a page of the Reeves' work takes: for WIDE the highest tier with room below its high watermark (R277), else one not
above it (R283). -/
def choosePlace (s : State) (tenant : Nat) (wide : Bool) (page key : Nat) : Option (Nat × Nat) :=
  let l := placesFor s tenant wide page key
  match l.find? (fun q => wide && roomBelow s q.1 q.2) with
  | some q => some q
  | none => l.find? (fun q => hasRoom s q.1 q.2)

/-- A piece of the Reeves' work for a page that goes to HBM4E, or under WIDE to a tier to be chosen. -/
def workItem (region page : Nat) (wide copy pin resealed : Bool) (key : Nat) : WorkItem :=
  { region := region, page := page, tier := 0, die := 0, wide := wide, alloc := false, copy := copy, pin := pin
    resealed := resealed, key := key, done := if copy || pin then 0 else BitVec.allOnes 16, marks := 0, wait := 0 }

/-- The work for one page of a region between its entries in two maps (R277): the rows of its table in turn. A page that stays off
the package is re-encrypted when the target map names another key slot than it is sealed under (R275). -/
def pageWork (s : State) (c r : Nat) (ec et : BitVec 128) (page : Nat) : List WorkItem :=
  let l := placeOf s c page
  let put := mePlace et
  let k := meKey et
  if put ≠ 0 ∧ (meEntry et = 1 ∨ meEntry et = 2) then
    if put = 3 then (if mePlace ec = 3 then [] else [{ workItem r page false false true false k with fresh := true }])
    else if put = 1 then (if l.tier = 0 then [] else [{ workItem r page false false false false k with fresh := true }])
    else if l.tier < 2 then []
    else [{ workItem r page true false false false k with fresh := true }]
  else if put = 3 ∧ mePlace ec ≠ 3 then [workItem r page false (l.tier != 0) true false k]
  else if put = 1 ∧ l.tier ≠ 0 then [workItem r page false true false false k]
  else if put = 2 ∧ l.tier = 4 then [workItem r page true true false false k]
  else if l.key ≠ k ∧ 2 ≤ l.tier then
    if l.tier = 4 then [workItem r page true true false true k]
    else [{ workItem r page false true false true k with tier := l.tier, die := l.die, spot := l.spot, alloc := true }]
  else []

/-- The Reeves' work toward a target map (R277), by region. -/
def compareMaps (s : State) (c t : Nat) : List WorkItem :=
  let x := s.ctx c
  (x.regions.map (fun (k : Nat × BitVec 128) =>
    if regValid k.2 && !regCode k.2 then
      ((regPages k.2).map (pageWork s c k.1 (mapEntry x x.phase.toNat k.1) (mapEntry x t k.1))).flatten
    else [])).flatten

/-- The place that an old piece of work has allocated is one that new work for its page wants too (R280). -/
def WorkItem.serves (o w : WorkItem) : Bool :=
  o.page == w.page && o.alloc && (w.wide || o.tier == w.tier) && (!w.alloc || o.die == w.die)
    && (decide (o.tier < 2) || o.key == w.key)

/-- A piece of new work takes over from the old work for its page the place, and the chunks that stand there already, where the new
target wants them (R280). A page whose lines were not to be pinned is looked at again for a place where they fit. -/
def keptWork (old : List WorkItem) (w : WorkItem) : WorkItem :=
  match old.find? (fun (o : WorkItem) => o.serves w) with
  | none => w
  | some o =>
    let copy := !w.fresh && (w.copy || (w.pin && o.copy))
    let there := copy && o.copy
    { w with
      tier := o.tier, die := o.die, spot := o.spot, alloc := !w.pin || o.pin, copy := copy
      got := if there then o.got else 0
      done := if w.pin then (if o.pin && (there || !copy) then o.done else 0) else if there then o.got else w.done
      marks := if there then o.marks else 0 }

/-- A MAPLD still writes the map. -/
def mapBusy (x : Ctx) (t : Nat) : Bool := x.mapld.any (fun (j : MapldJob) => j.map == t)

/-- A pinned line that no map in force, and no pending target, asks for is pinned no longer. -/
def mapsPin (x : Ctx) (c line : Nat) : Bool :=
  match backVa x c (line * 128) with
  | none => false
  | some va =>
    match regionAt x va with
    | none => false
    | some (r, _) => mePlace (mapEntry x x.phase.toNat r) == 3 || (x.tr.pend && mePlace (mapEntry x x.tr.tgt.toNat r) == 3)

/-- Lines of regions that are L2PIN in no map in force and in no pending target are unpinned (R277, R274). -/
def unpinIdle (s : State) : State :=
  { s with l2 := s.l2.map (fun (k : Nat × Line) =>
      if k.2.pinned && !(s.ctxs.any (fun y => mapsPin y.2 y.1 k.2.line)) then (k.1, { k.2 with pinned := false }) else k) }

/-- A transition toward a target begins, or begins anew (R276, R280): answers to requests for an old target will be discarded; what has
been copied for it and the new target wants is kept. While a MAPLD still writes the target map, the comparison waits for it. -/
def beginTo (c t : Nat) (s : State) : State :=
  let x := s.ctx c
  let s := { s with reqs := dropMoves c s.reqs }
  let old := x.tr.work.map (fun (w : WorkItem) => { w with wait := 0 })
  let tr : Transition :=
    { x.tr with pend := true, fail := false, ready := false, tgt := BitVec.ofNat 4 t, failAddr := 0, failWhy := 0,
                work := if mapBusy x t then old else (compareMaps s c t).map (keptWork old) }
  let s := s.onCtx c (fun x => { x with tr := tr })
  if mapBusy x t then s else unpinIdle s

/-- The target of PBEG (R276). -/
def pbegTarget (s : State) (p : Nat) (abs : Bool) (i : BitVec 13) : Nat :=
  if abs then i.toNat else ((s.ctx (s.ctxOf p)).phase.toNat + i.toNat) % 16

/-- PBEG and PBEGA (R276). -/
def mBegin (abs : Bool) (i : BitVec 13) : Meaning :=
  { check := fun s e =>
      if pbegTarget s e.p abs i < (s.ctx (s.ctxOf e.p)).mapCount then none else some (.trap 2 49 0 0)
    commit := fun s0 e s => beginTo (s0.ctxOf e.p) (pbegTarget s0 e.p abs i) s }

/-- The meaning of PBEG (R276). -/
def mPbeg (i : BitVec 13) : Meaning := mBegin false i

/-- The meaning of PBEGA (R276). -/
def mPbega (i : BitVec 13) : Meaning := mBegin true i

/-! ### PADV (R279, R284) -/

/-- The wait of PADV is over: its commit has taken place, or the transition has failed while it waited, or before and this is no
retry. -/
def padvReady (s : State) (p : Nat) : Bool :=
  let k := s.core p
  k.padvDone || k.padvFail.isSome || ((s.ctx (s.ctxOf p)).tr.fail && !k.padvRetry)

/-- A core of a context that has yielded runs on, still asked to yield: while a core is frozen in PADV the requests are held, and the
cores that have not arrived run on to theirs (R293). DEDUCED (log 66): this holds of cores that had yielded before. -/
def runOn (c : Nat) (k : Core) : Core :=
  if k.ctx = some c ∧ k.run = .yielded then { k with run := .running, yieldReq := true, atSafe := false } else k

/-- A core waits in PADV; a retry after a failure restarts the comparison toward the same target (R284). -/
def padvHold (p : Nat) (s : State) : State :=
  let c := s.ctxOf p
  let s := if (s.ctx c).tr.fail && (s.core p).padvRetry then beginTo c (s.ctx c).tr.tgt.toNat s else s
  let s := s.onCore p (fun k => { k with atPadv := true, padvRetry := false })
  { s with cores := Tab.mapVal s.cores (runOn c) }

/-- The failure that a core in PADV takes its trap for (R284): cause, address, target. -/
def padvFailure (s : State) (p : Nat) : Nat × W64 × Nat :=
  let t := (s.ctx (s.ctxOf p)).tr
  (s.core p).padvFail.getD (t.failWhy, t.failAddr, t.tgt.toNat)

/-- The meaning of PADV (R279). -/
def mPadv : Meaning :=
  { xfer := true
    ready := fun s e => padvReady s e.p
    hold := fun _ e s => padvHold e.p s
    check := fun s e =>
      let f := padvFailure s e.p
      if (s.core e.p).padvDone then none else some (.trap 11 f.1 f.2.1 (BitVec.ofNat 32 f.2.2)) }

/-! ### PQRY (R285) -/

/-- Chunks still to copy, re-encrypt or load into pinned ways of a piece of work (R285); an allocation alone counts none. -/
def WorkItem.left (w : WorkItem) : Nat := if w.wait ≠ 0 then 16 else 16 - popCount w.done.toNat 16

/-- PQRY's word (R285); while the target map is still being written the Reeves have nothing counted yet (R276). -/
def pqryWord (x : Ctx) : W64 :=
  let t := x.tr
  let left := if t.pend && !mapBusy x t.tgt.toNat then min ((t.work.map WorkItem.left).sum) 0xFFFFFF else 0
  BitVec.ofNat 64 ((if t.pend then 2 ^ 63 else 0) + (if t.fail then 2 ^ 62 else 0) + (if t.ready then 2 ^ 61 else 0)
    + (if t.mfail then 2 ^ 60 else 0) + left * 2 ^ 16 + x.mapCount % 32 * 2 ^ 8
    + (if t.pend then t.tgt.toNat * 2 ^ 4 else 0) + x.phase.toNat)

/-- The meaning of PQRY (R285). -/
def mPqry (d : BitVec 6) : Meaning :=
  { scalarWrite (fun _ _ => true) d [] 4 (fun s e => (pqryWord (s.ctx (s.ctxOf e.p)), 0)) with thread := false }

/-! ### PROBE (R287) -/

/-- Why a page fails a probe: 1 ABSENT, 2 access NONE, 3 write to RO, 4 no region; and the region. -/
def pageProbe (x : Ctx) (write : Bool) (page : Nat) : Option (Nat × W32) :=
  match regionAt x (page * 65536) with
  | none => some (4, BitVec.allOnes 32)
  | some (r, e) =>
    let m := mapEntry x x.phase.toNat r
    let ix := BitVec.ofNat 32 r
    if regCode e then (if write then some (3, ix) else none)
    else if mePlace m = 0 then some (1, ix)
    else if meAccess m = 0 then some (2, ix)
    else if write && (meAccess m != 2 || (regShared e && !meCow m)) then some (3, ix)
    else none

/-- The first failure of a probe: cause, address, region (R287). -/
def probeFail (x : Ctx) (write : Bool) (a n : W64) : Option (Nat × W64 × W32) :=
  if n = 0 then none
  else if fld a 48 16 ≠ 0 ∨ 2 ^ 40 < n.toNat ∨ 2 ^ 48 < a.toNat + n.toNat then
    some (5, a, match regionAt x a.toNat with
      | none => BitVec.allOnes 32
      | some (r, _) => BitVec.ofNat 32 r)
  else
    let first := a.toNat / 65536
    let pages := (List.range ((a.toNat + n.toNat - 1) / 65536 - first + 1)).map (fun k => first + k)
    pages.findSome? (fun g => (pageProbe x write g).map (fun f =>
      (f.1, if g = first then a else BitVec.ofNat 64 (g * 65536), f.2)))

/-- The meaning of PROBE (R287). -/
def mProbe (g p : BitVec 5) (a b : BitVec 6) (m : BitVec 4) : Meaning :=
  let fails (s : State) (e : Env) : Option (Nat × W64 × W32) :=
    probeFail (s.ctx (s.ctxOf e.p)) (m.getLsbD 1) (readS s e.p a) (readS s e.p b)
  { acts := guardM g
    dests := fun c => [destP c p]
    srcs := fun _ => [destS a, destS b]
    check := fun s e => if m.getLsbD 2 then none else (fails s e).map (fun f => .trap 3 f.1 f.2.1 f.2.2)
    commit := fun s0 e s => emit e.agent e.slot (destP (s0.core e.p) p) (asVec (predAll (fails s0 e).isNone)) 4 0 s }

/-! ### MAPLD (R286) -/

/-- The checks of MAPLD, by the precedence of R75. -/
def mapldCheck (s : State) (p : Nat) (a : W64) (i : Nat) : Option Fail :=
  let x := s.ctx (s.ctxOf p)
  if x.mapCount < i then some (.trap 2 50 0 0)
  else if i = x.phase.toNat ∨ (x.tr.pend ∧ i = x.tr.tgt.toNat) then some (.trap 2 51 0 0)
  else if a.toNat % 16 ≠ 0 then some (.trap 2 52 0 0)
  else if !globalOk s (s.ctxOf p) a .load then some (.fatal 1 a 0)
  else none

/-- The load of a row of a map image on another device, as a remote LDG of class ORD asks for it (R286, R214; log 84). -/
def askImage (p c : Nat) (a : W64) (s : State) : State := sendPacket p c 4 0 (a &&& ~~~(511 : W64)) .loadRow s

/-- The meaning of MAPLD (R286). A remote image is asked for by the row of its header. -/
def mMapld (a : BitVec 6) (i : BitVec 13) : Meaning :=
  { srcs := fun _ => [destS a]
    check := fun s e => mapldCheck s e.p (readS s e.p a) i.toNat
    commit := fun s0 e s =>
      let c := s0.ctxOf e.p
      let va := readS s0 e.p a
      let s := s.onCtx c (fun x => { x with mapld := x.mapld ++ [
        { core := e.p, map := i.toNat, addr := va, issue := s0.cycle, bundle := BitVec.ofInt 32 (s0.core e.p).pc }] })
      if isRemote va then askImage e.p c va s else s }

/-- The pages of L2PIN regions that fit a tenant's pinned ways (R318). -/
def pinCapacity (t : BitVec 128) : Nat := popCount (tenantPinned t) 16 * 65536 * 3072

/-- The entries of an image pass the checks of R286. -/
def imageOk (s : State) (c : Nat) (l : List (BitVec 128)) : Bool :=
  let x := s.ctx c
  let region (e : BitVec 128) : Nat := bfld e 0 10
  let entryOk (e : BitVec 128) : Bool :=
    bfld e 108 20 == 0 && bfld e 74 10 == 0 && bfld e 10 56 == 0 && meAccess e != 3 && meEntry e != 3
      && (let r := Tab.get 0 x.regions (region e)
          regValid r && !regCode r)
  let pinned := (l.map (fun e => if mePlace e = 3 then regSize (Tab.get 0 x.regions (region e)) else 0)).sum
  l.all entryOk && decide ((l.map region).Nodup) && decide (pinned ≤ pinCapacity (Tab.get 0 s.tenants x.tenant))

/-- The bytes of an image on the device, as an LDG of the issuing core reads them (R286). -/
def imageWord (s : State) (p c va : Nat) : BitVec 128 :=
  BitVec.ofNat 128 ((loadRow s p c (va / 512 * 512)).toNat / 2 ^ (8 * (va % 512)))

/-- The rows that a local image of `n` entries takes. -/
def imageRows (va n : Nat) : List Nat :=
  (List.range ((va + 16 + 16 * n - 1) / 512 - va / 512 + 1)).map (fun k => (va / 512 + k) * 512)

/-- The first row of a local image that an LDG of the core could not read (R286, R161), with the cause of the context error: 1 the map
refuses it, 2 it is poisoned. -/
def imageFault (s : State) (c va n : Nat) : Option (Nat × Nat) :=
  (imageRows va n).findSome? (fun a =>
    if 2 ^ 48 ≤ a ∨ (mapRefuses (s.ctx c) a .load).isSome = true then some (1, a)
    else if poisoned s c a then some (2, a) else none)

/-- A map replaced whole (R286). -/
def putMap (i : Nat) (l : List (BitVec 128)) (x : Ctx) : Ctx :=
  { x with
    maps := Tab.set x.maps i (l.foldl (fun t e => Tab.put 0 t (bfld e 0 10) e) [])
    mapCount := if i = x.mapCount then x.mapCount + 1 else x.mapCount
    tr := { x.tr with mfail := false } }

/-- An image has been read: its map is replaced when it passes the checks, and a PBEG that waits for its map compares now. -/
def putImage (c : Nat) (j : MapldJob) (good : Bool) (l : List (BitVec 128)) (s : State) : State :=
  let s := if good then s.onCtx c (putMap j.map l)
    else s.onCtx c (fun x => { x with tr := { x.tr with mfail := true } })
  let x := s.ctx c
  if x.tr.pend ∧ x.tr.tgt.toNat = j.map ∧ mapBusy x j.map = false then
    unpinIdle (s.onCtx c (fun x => { x with tr := { x.tr with work := (compareMaps s c j.map).map (keptWork x.tr.work) } }))
  else s

/-- The rows of a remote image of `n` entries after the row of its header are asked for (R286). -/
def askRest (j : MapldJob) (c n : Nat) (s : State) : State :=
  let va := vaOf j.addr
  (List.range ((va + 16 + 16 * n - 1) / 512 - va / 512)).foldl (fun t k =>
    askImage j.core c (j.addr + BitVec.ofNat 64 (512 * (k + 1))) t) s

/-- A MAPLD completes (R286). A row of an image that an LDG of the core could not read ends the context as that LDG would
(DEDUCED, log 67). Of a remote image the header comes first, and the rows after its own are asked for then. -/
def mapldComplete (c i : Nat) (img : RemoteImage) (s : State) : State :=
  match (s.ctx c).mapld[i]? with
  | none => s
  | some j =>
    if startedAt (s.core j.core) j.issue = false then s
    else
      let va := vaOf j.addr
      let t := s.onCtx c (fun x => { x with mapld := listDrop x.mapld i })
      let stop (f : Nat × Nat) : State :=
        fatal c { coreRecord s j.core f.1 (BitVec.ofNat 64 f.2) 0 (j.bundle.setWidth 64) with ctx := c, tenant := (s.ctx c).tenant } t
      if isRemote j.addr then
        let n := img.header.toNat
        match img.poison with
        | some a => stop (2, a)
        | none =>
          if img.status = 0 ∧ n ≤ 1024 ∧ j.asked = false ∧ va / 512 ≠ (va + 16 + 16 * n - 1) / 512 then
            askRest j c n (s.onCtx c (fun x => { x with mapld := listUpd x.mapld i (fun (j : MapldJob) => { j with asked := true }) }))
          else
            putImage c j (img.status == 0 && decide (n ≤ 1024) && img.entries.length == n && imageOk s c img.entries) img.entries t
      else
        match imageFault s c va 0 with
        | some f => stop f
        | none =>
          let n := (imageWord s j.core c va).toNat
          if 1024 < n then putImage c j false [] t
          else
            match imageFault s c va n with
            | some f => stop f
            | none =>
              let l := (List.range n).map (fun k => imageWord s j.core c (va + 16 + 16 * k))
              putImage c j (imageOk s c l) l t

/-- MAPLD_COMPLETE (R286): MAPLD `i` of context `c` completes; `img` is what a remote target answers. -/
def execMapldComplete (c i : Nat) (img : RemoteImage) (s : State) : Host.Outcome State Fault Refusal :=
  happen (fun s => alive s c) (mapldComplete c i img) s

/-! ### Victims (R289) -/

/-- A region is a victim for its context: its class, 0 when ABSENT in the current map and the pending target, 1 when WIDE
in both. -/
def victimClass (x : Ctx) (r : Nat) : Option Nat :=
  let here := mePlace (mapEntry x x.phase.toNat r)
  let there := if x.tr.pend then mePlace (mapEntry x x.tr.tgt.toNat r) else here
  if here = 0 ∧ there = 0 then some 0 else if here = 2 ∧ there = 2 then some 1 else none

/-- The region that holds a page of a context. -/
def pageRegion (x : Ctx) (page : Nat) : Option Nat := (regionAt x (page * 65536)).map Prod.fst

/-- The key slot of a page of a context under its current map (R275). -/
def pageKey (x : Ctx) (page : Nat) : Nat :=
  match pageRegion x page with
  | none => 0
  | some r => meKey (mapEntry x x.phase.toNat r)

/-- A page is a victim for a context that it serves (R274, R289); for one that it does not serve nothing is asked. -/
def victimFor (x : Ctx) (c tier key : Nat) : Bool :=
  match backVa x c key with
  | none => true
  | some va =>
    match regionAt x va with
    | none => true
    | some (r, _) =>
      match victimClass x r with
      | none => false
      | some k => decide (tier < 3) || k == 0

/-- The page placed under a number of a context is a victim on a tier: its place in the order of R289 by class, rank, context, region
and page address, the number last. For a page of a shared base it must be one for every context bound to it (R274). -/
def victimRank (s : State) (tier c number : Nat) : Option (List Nat) :=
  let x := s.ctx c
  let page := number % 2 ^ 32
  match pageRegion x page with
  | none => none
  | some r =>
    if regCode ((Tab.get 0 x.regions r)) then none
    else
      match victimClass x r with
      | none => none
      | some k =>
        if s.ctxs.all (fun y => victimFor y.2 y.1 tier (homeKey (c, number))) = false ∨ (tier = 3 ∧ k = 1)
            ∨ (1 ≤ tier ∧ keyUsable s x.tenant (pageKey x page) = false) then none
        else some [k, (Tab.get 0 x.ranks r).toNat, c, r, page, number]

/-- A page is in motion for some context. -/
def inMotion (s : State) (h : Nat × Nat) : Bool :=
  s.ctxs.any (fun (y : Nat × Ctx) => y.2.tr.work.any (fun (w : WorkItem) => pageHome s y.1 w.page == h))

/-- The pages that lie on a tier and die, each with the context and the number it is placed under. -/
def pagesOn (s : State) (tier die : Nat) : List (Nat × Nat) :=
  (s.ctxs.map (fun (k : Nat × Ctx) => (k.2.pages.filter (fun (g : Nat × Place) =>
    g.2.tier == tier && (decide (2 ≤ tier) || g.2.die == die))).map (fun g => (k.1, g.1)))).flatten

/-- A tier and die holds a victim of R289. -/
def anyVictim (s : State) (tier die : Nat) : Bool := (pagesOn s tier die).any (fun h => (victimRank s tier h.1 h.2).isSome)

/-- The engine of a tier may move the page now: it is not in motion (R277), no write-out of it is under way, and the engine has not
passed over it (R292). -/
def mayMove (s : State) (h : Nat × Nat) : Bool :=
  !(s.passed.contains h) && !(inMotion s h)
    && !(s.reqs.any (fun (q : PageReq) => q.kind == 2 && q.ctx == h.1 && q.page == h.2 && !q.dead))

/-- The first victim of a tier and die that its engine may move (R289): its place in the order, and the page. -/
def firstVictim (s : State) (tier die : Nat) : Option (List Nat × Nat × Nat) :=
  ((pagesOn s tier die).filter (mayMove s)).foldl (fun b h =>
    match victimRank s tier h.1 h.2, b with
    | none, _ => b
    | some v, none => some (v, h)
    | some v, some w => if v < w.1 then some (v, h) else b) none

/-! ### The Reeves at work (R277, R278, R283) -/

/-- A core of the context that is frozen in PADV takes the failure for its own (R284). -/
def latchFail (c : Nat) (f : Nat × W64 × Nat) (k : Core) : Core :=
  if k.ctx = some c ∧ k.atPadv = true then { k with padvFail := some f } else k

/-- The transition fails (R283), and every core frozen in PADV with it (R284). -/
def failTransition (c why : Nat) (addr : W64) (s : State) : State :=
  let tgt := (s.ctx c).tr.tgt.toNat
  let s := s.onCtx c (fun x => { x with tr := { x.tr with fail := true, ready := false, failWhy := why, failAddr := addr, work := [] } })
  unpinIdle { s with reqs := dropMoves c s.reqs, cores := Tab.mapVal s.cores (latchFail c (why, addr, tgt)) }

/-- The pinned ways of a tenant, as a mask (R318). -/
def pinMask (s : State) (tenant : Nat) : Nat := tenantPinned (Tab.get 0 s.tenants tenant)

/-- The 512 lines of the page at a memory key. -/
def pageLines (key : Nat) : List Nat := (List.range 512).map (fun k => key / 128 + k)

/-- The place that a piece of work has allocated. -/
def WorkItem.place (w : WorkItem) : Place := { tier := w.tier, die := w.die, spot := w.spot, writes := 0, key := w.key, epoch := 0 }

/-- The L2 sets, one entry a line, that pieces of the Reeves' work have still to load lines of their pages into (R277). -/
def promisedSets (s : State) : List Nat :=
  (s.ctxs.map (fun (y : Nat × Ctx) =>
    ((y.2.tr.work.filter (fun (w : WorkItem) => w.pin && w.alloc)).map (fun w =>
      ((pageLines (homeKey (pageHome s y.1 w.page))).filter (fun n => !(w.done.getLsbD (n % 512 / 32)))).map (setIn w.place))).flatten)).flatten

/-- The lines of a page at a place fit the pinned ways of a tenant, with the lines that stand there or are to come (R318). -/
def linesFit (s : State) (tenant : Nat) (l : Place) (key : Nat) : Bool :=
  let lines := pageLines key
  let mine := lines.map (setIn l)
  let others := (s.l2.filter (fun (k : Nat × Line) => k.2.pinned && !(lines.contains k.2.line))).map (fun k => k.1 / 16)
  let taken := others ++ promisedSets s
  mine.dedup.all (fun n => decide (mine.count n + taken.count n ≤ popCount (pinMask s tenant) 16))

/-- The first number from `k` on, of `n`, that serves. -/
def firstSpot (ok : Nat → Bool) : Nat → Nat → Option Nat
  | 0, _ => none
  | n + 1, k => if ok k then some k else firstSpot ok n (k + 1)

/-- The die and physical page of HBM4E that the Reeve chooses for a page of an L2PIN region, so that its lines fit (R318). -/
def pinSpot (s : State) (tenant key : Nat) (dies : List Nat) : Option (Nat × Nat) :=
  if pinMask s tenant = 0 then none
  else dies.findSome? (fun d =>
    (firstSpot (fun k => linesFit s tenant { tier := 0, die := d, spot := k, writes := 0, key := 0, epoch := 0 } key) 1953125 0).map
      (fun k => (d, k)))

/-- The L2 way of a set, `16 × set + way`, that is pinned for the tenant and holds no other pinned line. -/
def pinWay (s : State) (tenant line set : Nat) : Option Nat :=
  ((waysIn (pinMask s tenant)).map (fun w => set * 16 + w)).find? (fun k =>
    (Tab.find s.l2 k).all (fun l => !l.pinned || l.line == line))

/-- A line of a page at a place is loaded into a pinned way of its set (R277, R318), where one is open. A line that L2 holds is no
fill (R332). -/
def pinLine (tenant : Nat) (l : Place) (line : Nat) (s : State) : State :=
  if s.l2.any (fun (k : Nat × Line) => k.2.line == line && k.2.pinned) then s
  else
    match pinWay s tenant line (setIn l line) with
    | none => s
    | some k =>
      let held := s.l2.any (fun (k : Nat × Line) => k.2.line == line)
      let l2 := s.l2.filter (fun (k : Nat × Line) => k.2.line != line)
      { s with
        l2 := Tab.set l2 k { line := line, tenant := tenant, pinned := true, use := s.freeCtr + 1 }
        l2fill := if held then s.l2fill else Tab.upd 0 s.l2fill tenant (fun v => (v + 1) % 2 ^ 48) }

/-- The 32 lines of a chunk of the page at a key. -/
def chunkLines (key chunk : Nat) : List Nat := (List.range 32).map (fun k => (key + chunk * 4096) / 128 + k)

/-- Every line of a list is in a pinned way. -/
def allPinned (s : State) (l : List Nat) : Bool := l.all (fun n => s.l2.any (fun (k : Nat × Line) => k.2.line == n && k.2.pinned))

/-- The lines of a page in HBM4E go to pinned ways; where they do not fit, the page takes another physical page first (R318). -/
def pinPage (c page : Nat) (s : State) : State :=
  let h := pageHome s c page
  let key := homeKey h
  let tenant := (s.ctx c).tenant
  let l := placeOf s c page
  let s :=
    if linesFit s tenant l key then s
    else match pinSpot s tenant key (diesFor 0 page) with
      | none => s
      | some q => setHome h (fun l => { l with die := q.1, spot := q.2 }) s
  (pageLines key).foldl (fun t n => pinLine tenant (placeOf s c page) n t) s

/-- Every piece of work has its page and is done, and no chunk is marked. -/
def workDone (l : List WorkItem) : Bool :=
  l.all (fun w => w.alloc && w.wait == 0 && w.done == BitVec.allOnes 16 && w.marks == 0)

/-- The target map is true (R278). -/
def becomeReady (c : Nat) (s : State) : State :=
  let x := s.ctx c
  if x.tr.pend && !x.tr.fail && !mapBusy x x.tr.tgt.toNat && workDone x.tr.work then
    s.onCtx c (fun x => { x with tr := { x.tr with ready := true } })
  else s

/-- The place of a page whose lines go to pinned ways: where it stands, or the old target has put it, when its lines fit there; else
in HBM4E with room, in a physical page where they do (R277, R318). -/
def pinPlace (s : State) (c : Nat) (w : WorkItem) : Option (Nat × Nat) :=
  let l := placeOf s c w.page
  let tenant := (s.ctx c).tenant
  let key := homeKey (pageHome s c w.page)
  if l.tier = 0 ∧ linesFit s tenant l key = true then some (l.die, l.spot)
  else if w.got ≠ 0 ∧ hasRoom s 0 w.die = true ∧ linesFit s tenant w.place key = true then some (w.die, w.spot)
  else pinSpot s tenant key ((diesFor 0 w.page).filter (hasRoom s 0))

/-- The place, tier, die and physical page, that a piece of work takes (R277, R283). -/
def workPlace (s : State) (c : Nat) (w : WorkItem) : Option (Nat × Nat × Nat) :=
  if w.pin then (pinPlace s c w).map (fun q => (0, q.1, q.2))
  else (choosePlace s (s.ctx c).tenant w.wide w.page w.key).map (fun q => (q.1, q.2, 0))

/-- A piece of work with its page allocated at a place; a page that its lines make leave another place of HBM4E is copied. -/
def WorkItem.placed (w : WorkItem) (l : Place) (q : Nat × Nat × Nat) : WorkItem :=
  let stays := l.tier == q.1 && l.die == q.2.1 && l.spot == q.2.2
  let kept := w.die == q.2.1 && w.spot == q.2.2
  { w with tier := q.1, die := q.2.1, spot := q.2.2, alloc := true, copy := w.copy || (w.pin && !w.fresh && !stays)
           got := if kept then w.got else 0 }

/-- A page is allocated for a piece of work; when no place that its map admits has room and none has a victim, the transition fails
(R283); while there are victims the Reeves wait. -/
def allocWork (c item : Nat) (w : WorkItem) (s : State) : State :=
  let x := s.ctx c
  match workPlace s c w with
  | some q =>
    becomeReady c (s.onCtx c (fun x => { x with tr := { x.tr with
      work := listUpd x.tr.work item (fun (w : WorkItem) => w.placed (placeOf s c w.page) q) } }))
  | none =>
    if (placesFor s x.tenant w.wide w.page w.key).any (fun q => anyVictim s q.1 q.2) then s
    else failTransition c 2 0 s

/-- One chunk of a piece of work is copied, re-encrypted or loaded into pinned ways; before the first, its page is allocated; with no
such piece, the Reeves look whether the target map is true. A page that fails authentication (R291), or would be sealed under a key
slot that R322 does not allow, fails the transition. -/
def reeveChunk (c item chunk : Nat) (s : State) : State :=
  let x := s.ctx c
  if x.tr.pend = false ∨ x.tr.fail = true ∨ mapBusy x x.tr.tgt.toNat = true then s
  else
    match x.tr.work[item]? with
    | none => becomeReady c s
    | some w =>
      let l := placeOf s c w.page
      let lines := chunkLines (homeKey (pageHome s c w.page)) chunk
      if w.alloc = false then allocWork c item w s
      else if 16 ≤ chunk ∨ w.wait ≠ 0 ∨ (l.tier = 4 ∧ w.copy = true) then s
      else if w.copy = true ∧ sealBroken s l = true then failTransition c 3 (BitVec.ofNat 64 (w.page * 65536)) s
      else if w.resealed ∧ keyUsable s x.tenant w.key = false then failTransition c 2 0 s
      else
        let bit : BitVec 16 := 1 <<< chunk
        let s := if w.pin then lines.foldl (fun t n => pinLine x.tenant w.place n t) s else s
        let s := s.onCtx c (fun x => { x with tr := { x.tr with work := listUpd x.tr.work item (fun (w : WorkItem) =>
          { w with got := if w.copy then w.got ||| bit else w.got
                   done := if w.pin && !allPinned s lines then w.done else w.done ||| bit, marks := w.marks &&& ~~~bit }) } })
        becomeReady c s

/-- The Reeves' work for a page of a context follows the page to where it has moved since the comparison (R275, R277). -/
def reworkFor (h : Nat × Nat) (s : State) (y : Nat × Ctx) : State :=
  let x := s.ctx y.1
  if x.tr.pend = false ∨ x.tr.fail = true ∨ mapBusy x x.tr.tgt.toNat = true then s
  else
    match (backVa x y.1 (homeKey h)).bind (fun va => (regionAt x va).map (fun r => (va / 65536, r.1))) with
    | none => s
    | some (page, r) =>
      let new := (pageWork s y.1 r (mapEntry x x.phase.toNat r) (mapEntry x x.tr.tgt.toNat r) page).map (keptWork x.tr.work)
      if new = [] ∧ x.tr.work.all (fun w => w.page != page) = true then s
      else
        becomeReady y.1 (s.onCtx y.1 (fun x => { x with tr := { x.tr with
          ready := false, work := x.tr.work.filter (fun (w : WorkItem) => w.page != page) ++ new } }))

/-- A page has moved beneath the maps: the work of every context that it serves follows. -/
def reworkPage (h : Nat × Nat) (s : State) : State := s.ctxs.foldl (reworkFor h) s

/-- A piece of work whose page was to leave the package under a key slot that is no longer usable is abandoned: the page stays where it is
(R323, R322). -/
def dropOutbound (s : State) (tenant : Nat) (w : WorkItem) : WorkItem :=
  if w.alloc && decide (2 ≤ w.tier) && !keyUsable s tenant w.key then
    { w with alloc := !w.wide, got := 0, done := if w.copy || w.pin then 0 else w.done, marks := 0 }
  else w

/-- The transfers out of the package that key slots no longer allow are abandoned, and no target map that needs one is true. -/
def abandonKeys (s : State) : State :=
  s.ctxs.foldl (fun t (y : Nat × Ctx) =>
    let x := t.ctx y.1
    let work := x.tr.work.map (dropOutbound t x.tenant)
    if work = x.tr.work then t
    else t.onCtx y.1 (fun x => { x with tr := { x.tr with ready := false, work := work } })) s

/-! ### The commit (R217, R272, R274, R279) -/

/-- An engine operation of the context is under way on a core (R279). -/
def engineBusy (c : Nat) (k : Core) : Bool :=
  k.chans.any (fun (u : Nat × List Copy) => u.2.any (fun (j : Copy) => j.ctx == c))
    || k.optu.any (fun j => j.ctx == c) || k.pstw.any (fun (j : PstwJob) => j.ctx == c)
    || k.lmmar.any (fun j => j.ctx == c) || k.rloads.any (fun (j : RloadJob) => j.ctx == c)
    || k.pubds.any (fun (j : PubdJob) => j.ctx == c)

/-- The pages of shared regions that a commit makes the context's own because they hold a staged byte (R274). -/
def newOwn (x : Ctx) : List Nat :=
  ((x.staged.map (fun (g : Stage) => g.back / 65536)).dedup).filter (fun page =>
    (regionAt x (page * 65536)).any (fun r => regShared r.2) && !(x.priv.contains page))

/-- The pages of HBM4E, over the four dies, that take no page yet. -/
def freeHbm (s : State) : Nat := ((List.range 4).map (fun d => (tierPages s 0).getD 0 - usedPages s 0 d)).sum

/-- The commit of a context may take place (R279): every core with a task of it that has not issued HALT is frozen in PADV. DESIGN CHOICE
(log 85): it waits until HBM4E has room for the pages that it makes the context's own, which no rule lets fail. -/
def commitReady (s : State) (c : Nat) : Bool :=
  let x := s.ctx c
  let mine := s.cores.filter (fun (k : Nat × Core) => k.2.ctx == some c)
  mine.any (fun k => k.2.atPadv)
    && mine.all (fun k => (k.2.run == .idle || k.2.run == .halted || k.2.atPadv) && k.2.padvFail.isNone && k.2.board.isEmpty
      && k.2.trapPend.isNone)
    && !(s.cores.any (fun (k : Nat × Core) => engineBusy c k.2))
    && x.mapld.isEmpty && !x.tr.fail && (x.tr.ready || !x.tr.pend) && decide ((newOwn x).length ≤ freeHbm s)

/-- The copies of a staged byte's writers differ: bytes of a row with more than one writer (R217, R333). -/
def conflictBytes (l : List Stage) : Nat :=
  ((List.range 512).filter (fun b =>
    match l.filter (fun (g : Stage) => g.mask.getLsbD b) with
    | [] => false
    | g :: r => r.any (fun (h : Stage) => h.writer != g.writer || h.flow != g.flow))).length

/-- The rows that staged stores name. -/
def stagedKeys (l : List Stage) : List Nat := (l.map Stage.key).dedup

/-- Conflicts of one row are counted at its home slice and in CNCONF (R333). -/
def countConflicts (c : Nat) (l : List Stage) (s : State) (key : Nat) : State :=
  let n := conflictBytes (l.filter (fun (g : Stage) => g.key == key))
  if n = 0 then s
  else
    countCtx c 0x821 n { s with conflicts := Tab.upd 0 s.conflicts (sliceOf s key) (fun v => stopAdd 32 v n) }

/-- The staged stores in the order they are applied (R217): remote ones by arrival, then local cores by index, each in
program order. -/
def applyOrder (l : List Stage) : List Stage :=
  ((List.range 321).map (fun w => l.filter (fun (g : Stage) => g.writer == w))).flatten

/-- The residencies of a context that meet a range of a watched region become STALE (R307). -/
def staleRange (c m lo hi : Nat) (s : State) : State :=
  let x := s.ctx c
  if watched x x.phase.toNat lo || watched x m lo then
    s.onCtx c (staleTable (fun _ => true) (fun e => decide (e.src < hi) && decide (lo < e.src + tileBytes e.fmt e.k)))
  else s

/-- The places, tier and die, that a context's own copy of a page may take, the first choice first (R274): under NEAR or L2PIN in HBM4E, else
where the base lies, in HBM4E, in LPDDR-6, or off the package under a key slot that R322 admits. -/
def privPlaces (s : State) (c m r page : Nat) (was : Place) : List (Nat × Nat) :=
  let x := s.ctx c
  let e := mapEntry x m r
  let on (t : Nat) : List (Nat × Nat) := (diesFor t page).map (fun d => (t, d))
  if mePlace e % 2 = 1 then on 0
  else ([(was.tier, was.die)] ++ on 0 ++ on 1 ++ on 2 ++ on 3).filter (fun q =>
    decide (q.1 < 2) || (decide (q.1 < 4) && keyUsable s x.tenant (meKey e)))

/-- The place of a context's own copy of a page (R274): the one allocated for it by the Reeves, else the first with room. -/
def privPlace (s : State) (c m r page : Nat) (was : Place) : Place :=
  let x := s.ctx c
  let k := meKey (mapEntry x m r)
  let q := match x.tr.work.find? (fun (w : WorkItem) => w.page == page && w.alloc && w.fresh) with
    | some w => (w.tier, w.die, w.spot)
    | none =>
      let q := ((privPlaces s c m r page was).find? (fun (q : Nat × Nat) => fits s q.1 q.2)).getD (0, (Config.pageDie page 0).val)
      (q.1, q.2, 0)
  { tier := q.1, die := q.2.1, spot := q.2.2, writes := if 2 ≤ q.1 then was.writes + 1 else was.writes
    key := if 2 ≤ q.1 then k else was.key
    epoch := if 2 ≤ q.1 then (Tab.get KeySlot.zero s.keys k).epoch else was.epoch }

/-- A page of a region that is written through cow becomes the context's own, with contents `v` (R274). -/
def takePrivate (c m r page v : Nat) (s : State) : State :=
  let was := placeOf s c page
  let s := { s with mem := (s.mem.clear (privKey c (page * 65536)) (privKey c ((page + 1) * 65536))).write
                             (privKey c (page * 65536)) 65536 v }
  s.onCtx c (fun x => { x with priv := page :: x.priv, pages := Tab.set x.pages (2 ^ 32 + page) (privPlace s c m r page was) })

/-- A page of a shared region that holds a staged byte becomes the context's own with the base's contents (R274). `va` is of the backing.
Stale are the residencies of the rows that read it now (R307), each under the address that names it. -/
def makePrivate (c m va : Nat) (s : State) : State :=
  let x := s.ctx c
  match regionAt x va with
  | none => s
  | some (r, e) =>
    let page := va / 65536
    if !regShared e || x.priv.contains page then s
    else
      let s := takePrivate c m r page (s.mem.read (backKey s c (page * 65536)) 65536) s
      (List.range 128).foldl (fun t k => staleRow c m (fun _ => true) (sideVa (t.ctx c) false (page * 65536 + 512 * k)) t) s

/-- One staged store is applied over the live bytes (R217), to the backing its address named at issue (R312), its own copy where it is
written through cow. Stale are the residencies of the rows that read that backing now (R307). -/
def applyStage (c m : Nat) (g : Stage) (s : State) : State :=
  let s := makePrivate c m g.back s
  let key := backKey s c g.back
  let old := BitVec.ofNat 4096 (s.mem.read key 512)
  staleRow c m (fun _ => true) (sideVa (s.ctx c) false g.back)
    { s with mem := s.mem.write key 512 (blend g.mask old g.data).toNat }

/-- The rows of a range of keys are poisoned no longer: new contents stand there. -/
def freshRows (lo hi : Nat) (s : State) : State :=
  { s with poison := s.poison.filter (fun r => !(decide (lo ≤ 512 * r) && decide (512 * r < hi))) }

/-- The pages of a shared region that are not its own yet become so with contents nobody has written: the base is never written
(R274). -/
def ownPages (c m r : Nat) (e : BitVec 128) (s : State) : State :=
  (regPages e).foldl (fun t page => if (t.ctx c).priv.contains page then t else takePrivate c m r page 0 t) s

/-- A swapped published buffer has a side in a region: some of its rows name backing of another place (R312). -/
def swappedIn (x : Ctx) (e : BitVec 128) : Bool :=
  let meets (a n : Nat) : Bool := decide (a < regBase e + regSize e) && decide (regBase e < a + n)
  x.buffers.any (fun (k : Nat × BitVec 256) => bufValid k.2 && bufPublished k.2 && bufSwapped k.2
    && (meets (bufHome k.2) (512 * bufRows k.2) || meets (bufAlt k.2) (512 * bufRows k.2)))

/-- The ranges of memory keys that the addresses of a region name (R312). -/
def regionKeys (s : State) (c : Nat) (e : BitVec 128) : List (Nat × Nat) :=
  if swappedIn (s.ctx c) e then
    (List.range (regSize e / 512)).map (fun k => (keyOf s c (regBase e + 512 * k), keyOf s c (regBase e + 512 * k) + 512))
  else
    let lo := if regShared e then privKey c (regBase e) else c * 2 ^ 48 + regBase e
    [(lo, lo + regSize e)]

/-- The backing that the addresses of a region name is the context's own (R274): its pages, and those of a swapped side elsewhere. -/
def ownBacking (c m r : Nat) (e : BitVec 128) (s : State) : State :=
  let s := if regShared e then ownPages c m r e s else s
  if swappedIn (s.ctx c) e then
    (List.range (regSize e / 512)).foldl (fun t k => makePrivate c m (sideVa (t.ctx c) false (regBase e + 512 * k)) t) s
  else s

/-- The contents of a range of keys made new: zero, or undefined (R272). -/
def newContents (undef : Bool) (s : State) (q : Nat × Nat) : State :=
  freshRows q.1 q.2 { s with mem := if undef then s.mem.makeUndef q.1 q.2 s.freeCtr else s.mem.clear q.1 q.2 }

/-- The entry action of a region in the map entered (R272), on what its addresses name: a shared region's own pages take it (DEDUCED,
log 68). The contents are new, so no row of it is poisoned. -/
def entryAction (c m : Nat) (k : Nat × BitVec 128) (s : State) : State :=
  let e := mapEntry (s.ctx c) m k.1
  let base := regBase k.2
  if !regValid k.2 || regCode k.2 || mePlace e == 0 || (meEntry e != 1 && meEntry e != 2) then s
  else
    let s := ownBacking c m k.1 k.2 s
    staleRange c m base (base + regSize k.2) ((regionKeys s c k.2).foldl (newContents (meEntry e == 2)) s)

/-- Another context that a page of backing serves has its region NEAR or L2PIN in its current map (R274). -/
def heldNear (s : State) (c : Nat) (h : Nat × Nat) : Bool :=
  s.ctxs.any (fun (y : Nat × Ctx) => y.1 != c &&
    ((backVa y.2 y.1 (homeKey h)).bind (regionAt y.2)).any (fun r => mePlace (mapEntry y.2 y.2.phase.toNat r.1) % 2 == 1))

/-- The page of a piece of work is to be replaced by the context's own copy (R272, R274). -/
def becomesOwn (s : State) (c : Nat) (w : WorkItem) : Bool :=
  let x := s.ctx c
  w.fresh && regShared (Tab.get 0 x.regions w.region) && !(x.priv.contains w.page)

/-- A page takes the placement its work gave it, sealed under its region's key where it lies off the package (R291, R322). A page of a
shared base keeps the highest placement that a map in force asks for (R274). -/
def placeWork (c : Nat) (w : WorkItem) (s : State) : State :=
  if becomesOwn s c w || ((placeOf s c w.page).tier == 0 && w.tier != 0 && heldNear s c (pageHome s c w.page)) then s
  else
    setPlace c w.page (fun l =>
      { tier := w.tier, die := w.die, spot := w.spot
        writes := if 2 ≤ w.tier then l.writes + 1 else l.writes
        key := if 2 ≤ w.tier then w.key else l.key
        epoch := if 2 ≤ w.tier then (Tab.get KeySlot.zero s.keys w.key).epoch else l.epoch }) s

/-- The own pages of L2PIN regions have their lines in pinned ways from the commit that makes them on (R271, R274). -/
def pinPrivate (c m : Nat) (k : Nat × BitVec 128) (s : State) : State :=
  if regValid k.2 && regShared k.2 && mePlace (mapEntry (s.ctx c) m k.1) == 3 then
    ((s.ctx c).priv.filter (fun g => (regPages k.2).contains g)).foldl (fun t g => pinPage c g t) s
  else s

/-- The map that a commit enters. -/
def commitTarget (x : Ctx) : Nat := if x.tr.pend then x.tr.tgt.toNat else x.phase.toNat

/-- The contexts' cores go on after the commit, with every publication seen (R219, R279). -/
def passPadv (c : Nat) (swaps : Tab Nat) (k : Core) : Core :=
  if k.ctx = some c then { k with padvDone := k.padvDone || k.atPadv, atPadv := false, seen := swaps } else k

/-- The commit of a context, in one step (R279). -/
def commitPhase (c : Nat) (s : State) : State :=
  let x := s.ctx c
  let m := commitTarget x
  let s := (stagedKeys x.staged).foldl (countConflicts c x.staged) s
  let s := (applyOrder x.staged).foldl (fun t g => applyStage c m g t) s
  let s := if x.tr.pend then
      x.regions.foldl (fun t k => entryAction c m k t) (x.tr.work.foldl (fun t w => placeWork c w t) s)
    else s
  let s := s.onCtx c (fun y => { y with
    phase := BitVec.ofNat 4 m, staged := [], live := [], swapsAt := y.swaps, tr := { y.tr with pend := false, ready := false, tgt := 0, work := [] } })
  let s := x.regions.foldl (fun t k => pinPrivate c m k t) (unpinIdle s)
  let s := countCtx c 0x820 1 s
  { s with cores := Tab.mapVal s.cores (passPadv c (s.ctx c).swaps) }

/-- PHASE_COMMIT (R279): the commit of context `c`, when every condition of R279 holds. -/
def execPhaseCommit (c : Nat) (s : State) : Host.Outcome State Fault Refusal :=
  happen (fun s => alive s c && commitReady s c) (commitPhase c) s

/-- The Reeves serve a context: one that runs, or a saved one whose newly bound bases have pages to bring up (R274). -/
def reeveServes (s : State) (c : Nat) : Bool := alive s c || ((s.ctx c).state == 3 && !(s.ctx c).rising.isEmpty)

/-! ### Page requests (R263, R264, R292) -/

/-- The 32 bytes of a page-request record (R264). -/
def pageRecord (gen : W32) (c tenant kind : Nat) (va hpa region key slot : Nat) : Nat :=
  gen.toNat + c % 256 * 2 ^ 32 + tenant % 256 * 2 ^ 40 + kind % 256 * 2 ^ 48 + va % 2 ^ 64 * 2 ^ 64 + hpa % 2 ^ 64 * 2 ^ 128
    + region % 2 ^ 16 * 2 ^ 192 + key % 2 ^ 16 * 2 ^ 208 + slot % 2 ^ 32 * 2 ^ 224

/-- An answer slot and a pool page are free, and the queue takes a record (R292). -/
def canRequest (s : State) (slot pool : Nat) : Bool :=
  s.pageQ.open && s.ansArmed && s.poolArmed && decide (slot < s.ansCount) && decide (pool < s.poolSize)
    && !(s.reqs.any (fun (q : PageReq) => q.slot == slot || q.pool == pool))

/-- The host address of a pool page. -/
def poolAddr (s : State) (pool : Nat) : Nat := s.poolBase + 65536 * pool

/-- What seals a page image (R291, R322): nonce from slot, address and write count; data from context, region, address. -/
def pageNonce (key va writes : Nat) : Nat := key * 2 ^ 128 + va * 2 ^ 64 + writes
def pageAad (c region va : Nat) : Nat := c * 2 ^ 128 + region * 2 ^ 64 + va

/-- A page request is written: the answer word first, then the record (R292). Kind 1 names a page of the context, kind 2 the number
a page is placed under. -/
def writeRequest (c kind page slot pool : Nat) (s : State) : State :=
  let x := s.ctx c
  let va := page % 2 ^ 32
  let r := (pageRegion x va).getD 0
  let gen := Tab.get 0 s.reqGens slot + 1
  let key := if kind = 1 then (placeOf s c page).key else pageKey x va
  let rec_ := pageRecord gen c x.tenant kind (va * 65536) (poolAddr s pool) r key slot
  let w := ringWrite s.pageQ s.hostMem 32 rec_
  let s := { s with
    mgmtMem := s.mgmtMem.write (s.ansBase + 8 * slot) 8 (gen.toNat * 2 ^ 32)
    pageQ := w.1, hostMem := w.2, msix := s.msix ++ [s.pageQ.vector]
    reqGens := Tab.set s.reqGens slot gen, reqCtx := Tab.set s.reqCtx slot c
    reqs := s.reqs ++ [{ slot := slot, gen := gen, ctx := c, kind := kind, page := page, pool := pool }] }
  countCtx c 0x823 1 s

/-- What a page of storage was sealed with: the context and the number it is placed under, and its place. -/
def pageSealed (s : State) (h : Nat × Nat) (l : Place) (plain : Nat) : Nat :=
  let va := h.2 % 2 ^ 32 * 65536
  Config.seal (Tab.get KeySlot.zero s.keys l.key).key (pageNonce l.key va l.writes)
    (pageAad h.1 ((pageRegion (s.ctx h.1) (h.2 % 2 ^ 32)).getD 0) va) plain

/-- The image of a page of storage as it was sealed at its last write-out. -/
def pageImage (s : State) (h : Nat × Nat) (l : Place) : Nat := pageSealed s h l (s.mem.read (homeKey h) 65536)

/-- A kind 1 request for a page of a newly bound base that lies on storage (R274, R292). -/
def risingRequest (c k slot pool : Nat) (s : State) : State :=
  match (s.ctx c).rising[k]? with
  | none => s
  | some g =>
    if g.2 == 0 && (placeOf s c g.1).tier == 4 && canRequest s slot pool then
      (writeRequest c 1 g.1 slot pool s).onCtx c (fun x => { x with rising := listUpd x.rising k (fun g => (g.1, slot + 1)) })
    else s

/-- PAGE_REQUEST for a piece of the Reeves' work whose page lies on storage, once its place on the device is allocated; the pages of
newly bound bases count on after the pieces of work. -/
def pageRequest (c item slot pool : Nat) (s : State) : State :=
  let x := s.ctx c
  match x.tr.work[item]? with
  | none => risingRequest c (item - x.tr.work.length) slot pool s
  | some w =>
    if x.tr.pend && !x.tr.fail && w.alloc && w.copy && w.wait == 0 && w.done != BitVec.allOnes 16
        && (placeOf s c w.page).tier == 4 && canRequest s slot pool then
      let s := writeRequest c 1 w.page slot pool s
      s.onCtx c (fun x => { x with tr := { x.tr with
        work := listUpd x.tr.work item (fun (w : WorkItem) => { w with wait := slot + 1 }) } })
    else s

/-- PAGE_REQUEST (R292): a kind 1 request for piece `item` of the work of context `c`, in a free slot and pool page. -/
def execPageRequest (c item slot pool : Nat) (s : State) : Host.Outcome State Fault Refusal :=
  happen (fun s => reeveServes s c) (pageRequest c item slot pool) s

/-- A page of a newly bound base wants another place under the map of a context: a mapped page on storage, or one off HBM4E under NEAR or
L2PIN (R274, R271). -/
def wantsRise (s : State) (c page : Nat) : Bool :=
  (pageRegion (s.ctx c) page).any (fun r =>
    let put := mePlace (mapEntry (s.ctx c) (s.ctx c).phase.toNat r)
    let l := placeOf s c page
    (put == 2 && l.tier == 4) || (put % 2 == 1 && l.tier != 0)
      || (put == 3 && !(allPinned s (pageLines (homeKey (pageHome s c page))))))

/-- The place that a page of a newly bound base rises to (R274). -/
def risingPlace (s : State) (c page : Nat) : Option (Nat × Nat × Nat) :=
  let put := (pageRegion (s.ctx c) page).elim 0 (fun r => mePlace (mapEntry (s.ctx c) (s.ctx c).phase.toNat r))
  workPlace s c (workItem 0 page (put == 2) true (put == 3) false (placeOf s c page).key)

/-- A page of a newly bound base waits for the Reeves no longer. -/
def risingDone (c page : Nat) (s : State) : State :=
  s.onCtx c (fun x => { x with rising := x.rising.filter (fun g => g.1 != page) })

/-- A page of a newly bound base takes the place that the map asks for; while no place has room it waits. -/
def riseTo (c page : Nat) (s : State) : State :=
  match risingPlace s c page with
  | none => s
  | some q =>
    let s := risingDone c page (setPlace c page (fun l => { l with tier := q.1, die := q.2.1, spot := q.2.2 }) s)
    let s := if q.1 = 0 ∧ (pageRegion (s.ctx c) page).any (fun r => mePlace (mapEntry (s.ctx c) (s.ctx c).phase.toNat r) == 3) = true
      then pinPage c page s else s
    reworkPage (pageHome s c page) s

/-- The Reeves take the next step for page `k` of a context's newly bound bases (R274). DESIGN CHOICE (log 79): a move is one step; a page
whose tag fails is not placed, and its rows arrive poisoned (R291). A page on storage waits for its request (R292). -/
def risingStep (c k : Nat) (s : State) : State :=
  match (s.ctx c).rising[k]? with
  | none => s
  | some g =>
    if wantsRise s c g.1 = false then risingDone c g.1 s
    else if (placeOf s c g.1).tier = 4 then s
    else if sealBroken s (placeOf s c g.1) then risingDone c g.1 s
    else riseTo c g.1 s

/-- The image of a page of a newly bound base has come and authenticates (R291): the page takes a place on the device; while none has
room, it is asked for again. -/
def risingArrives (q : PageReq) (v : Nat) (s : State) : State :=
  if (s.ctx q.ctx).rising.any (fun g => g == (q.page, q.slot + 1)) then
    let s := s.onCtx q.ctx (fun x => { x with rising := x.rising.map (fun g => if g.1 = q.page then (g.1, 0) else g) })
    riseTo q.ctx q.page { s with mem := s.mem.write (homeKey (pageHome s q.ctx q.page)) 65536 v }
  else s

/-- The image of a page of a newly bound base does not authenticate (R291): it is not placed, and its rows arrive poisoned. -/
def risingBroken (q : PageReq) (s : State) : State :=
  if (s.ctx q.ctx).rising.any (fun g => g == (q.page, q.slot + 1)) then
    let first := backKey s q.ctx (q.page * 65536) / 512
    risingDone q.ctx q.page { s with poison := s.poison ++ (List.range 128).map (fun k => first + k) }
  else s

/-- A page that a kind 1 request waited for has arrived (R291, R292): authenticated and placed where its work has allocated it, or the
transition fails. -/
def pageArrives (q : PageReq) (s : State) : State :=
  let h := pageHome s q.ctx q.page
  let l := placeOf s q.ctx q.page
  let va := h.2 % 2 ^ 32 * 65536
  let image := s.hostMem.read (poolAddr s q.pool) 65536
  let k := Tab.get KeySlot.zero s.keys l.key
  let plain := if image = pageImage s h l then some (s.mem.read (homeKey h) 65536)
    else Config.unseal k.key (pageNonce l.key va l.writes) (pageAad h.1 ((pageRegion (s.ctx h.1) (h.2 % 2 ^ 32)).getD 0) va) image
  let waits : Option WorkItem := (s.ctx q.ctx).tr.work.find? (fun (w : WorkItem) => w.page == q.page && w.wait == q.slot + 1)
  match (if sealBroken s l then none else plain), waits with
  | none, none => risingBroken q s
  | some v, none => risingArrives q v s
  | none, some _ => failTransition q.ctx 3 (BitVec.ofNat 64 (q.page * 65536)) s
  | some v, some w =>
    match (if w.alloc then some (w.tier, w.die, w.spot) else workPlace s q.ctx w) with
    | none => failTransition q.ctx 2 0 s
    | some p =>
      let s := { s with mem := s.mem.write (homeKey h) 65536 v }
      let s := setHome h (fun l => { l with tier := p.1, die := p.2.1, spot := p.2.2 }) s
      becomeReady q.ctx (s.onCtx q.ctx (fun x => { x with tr := { x.tr with
        work := x.tr.work.map (fun (w : WorkItem) =>
          if w.page = q.page then
            { w with tier := p.1, die := p.2.1, spot := p.2.2, alloc := true, wait := 0, got := BitVec.allOnes 16
                     done := if w.pin then w.done else BitVec.allOnes 16 }
          else w) } }))

/-- An answer that R264 does not accept is counted (R292). -/
def discardAnswer (slot : Nat) (s : State) : State :=
  let c := Tab.get 64 s.reqCtx slot
  let s := { s with discarded := stopAdd 32 s.discarded 1 }
  if c < 64 ∧ (s.ctx c).state ≠ 0 then countCtx c 0x824 1 s else s

/-- The host could not bring a page in: the transition that waits for it fails (R283); a page of a newly bound base is asked for again. -/
def pageFails (q : PageReq) (s : State) : State :=
  if (s.ctx q.ctx).rising.any (fun g => g == (q.page, q.slot + 1)) then
    s.onCtx q.ctx (fun x => { x with rising := x.rising.map (fun g => if g.1 = q.page then (g.1, 0) else g) })
  else failTransition q.ctx 1 (BitVec.ofNat 64 (q.page * 65536)) s

/-- The device looks at an answer word the host has written (R264, R292). A page whose write-out the host could not do is passed over
until the engine's round ends. -/
def pageAnswer (slot : Nat) (s : State) : State :=
  let w := BitVec.ofNat 64 (s.mgmtMem.read (s.ansBase + 8 * slot) 8)
  let status := fld w 0 8
  let s := { s with answers := s.answers.filter (fun k => k != slot) }
  match s.reqs.find? (fun (q : PageReq) => q.slot == slot) with
  | none => discardAnswer slot s
  | some q =>
    if fld w 32 32 ≠ q.gen.toNat ∨ fld w 8 24 ≠ 0 ∨ 2 < status then discardAnswer slot s
    else if status = 0 then s
    else
      let s := { s with reqs := s.reqs.filter (fun (y : PageReq) => y.slot != slot) }
      if q.dead then discardAnswer slot s
      else if q.kind = 1 then (if status = 1 then pageArrives q s else pageFails q s)
      else if status = 2 then { s with passed := (q.ctx, q.page) :: s.passed }
      else if (victimRank s 3 q.ctx q.page).isSome = true ∧ (Tab.get Place.zero (s.ctx q.ctx).pages q.page).tier = 3 then
        reworkPage (q.ctx, q.page) (setHome (q.ctx, q.page) (fun l => { l with tier := 4 }) s)
      else s

/-- The answer lets a page come in: the placement engine moves it in a Rota slot that no tenant owns (R18). -/
def answerMoves (s : State) (slot : Nat) : Bool :=
  s.reqs.any (fun (q : PageReq) => q.slot == slot && q.kind == 1 && !q.dead)

/-- PAGE_ANSWER (R292): the placement engine reads answer word `slot`, which the host has written. -/
def execPageAnswer (slot : Nat) (s : State) : Host.Outcome State Fault Refusal :=
  happen (fun s => s.answers.contains slot && (freeSlot s || !answerMoves s slot)) (pageAnswer slot) s

/-- The Reeves take a step for a context: one of a transition, or, past its pieces of work, one for a page of a newly bound base. -/
def reeveStep (c item chunk : Nat) (s : State) : State :=
  let x := s.ctx c
  if x.tr.work.length ≤ item ∧ item - x.tr.work.length < x.rising.length then risingStep c (item - x.tr.work.length) s
  else reeveChunk c item chunk s

/-- REEVE_CHUNK_COPY (R277): chunk `chunk` of piece `item` of the Reeves' work for context `c`. -/
def execReeveChunkCopy (c item chunk : Nat) (s : State) : Host.Outcome State Fault Refusal :=
  happen (fun s => reeveServes s c && freeSlot s) (reeveStep c item chunk) s

/-! ### Demotion and promotion (R288) -/

/-- The number of a placement engine. -/
def engineNo (tier die : Nat) : Nat := 8 * tier + (if tier < 2 then die else 0)

/-- The tier below another in the chain of R288; CXL is no step when no device is attached (R10, R350). -/
def nextTier (s : State) (tier : Nat) : Nat := if tier = 1 ∧ tierPages s 2 = some 0 then 3 else tier + 1

/-- A page moves one step down the chain (R288, R291): sealed under its region's key slot when it leaves the package. -/
def demotePage (tier c number : Nat) (s : State) : State :=
  let page := number % 2 ^ 32
  let k := pageKey (s.ctx c) page
  let t := nextTier s tier
  match (diesFor t page).find? (fun d => fits s t d) with
  | none => s
  | some d =>
    reworkPage (c, number) <| setHome (c, number) (fun l =>
      { l with tier := t, die := d, spot := 0
               writes := if tier = 1 then l.writes + 1 else l.writes
               key := if tier = 1 then k else l.key
               epoch := if tier = 1 then (Tab.get KeySlot.zero s.keys k).epoch else l.epoch }) s

/-- A page of host memory goes to storage through a kind 2 request, its image in a pool page first (R292). -/
def writeOut (c number : Nat) (s : State) : State :=
  let slot := Config.pick s.freeCtr 3
  let pool := Config.pick s.freeCtr 5
  if canRequest s slot pool then
    writeRequest c 2 number slot pool
      { s with hostMem := s.hostMem.write (poolAddr s pool) 65536 (pageImage s (c, number) (Tab.get Place.zero (s.ctx c).pages number)) }
  else s

/-- One demotion of an engine (R288): it starts above the high watermark and goes on until the low one. -/
def demote (tier die : Nat) (s : State) : State :=
  let n := engineNo tier die
  let used := usedPages s tier die
  if highMark s tier die < lowMark s tier die then s
  else
    let s := if highMark s tier die < used then { s with demoting := n :: s.demoting.filter (fun k => k != n) } else s
    if !(s.demoting.contains n) then s
    else if used ≤ lowMark s tier die then
      { s with demoting := s.demoting.filter (fun k => k != n), passed := if tier = 3 then [] else s.passed }
    else
      match firstVictim s tier die with
      | none => { s with passed := if tier = 3 then [] else s.passed }
      | some v => if tier = 3 then writeOut v.2.1 v.2.2 s else demotePage tier v.2.1 v.2.2 s

/-- A placement engine of R174: one for the HBM4E and one for the LPDDR-6 of each die, one for CXL and one for host memory. -/
def isEngine (tier die : Nat) : Bool := decide (tier < 4) && decide (die < (if tier < 2 then 4 else 1))

/-- PAGE_DEMOTE (R288): the placement engine of a tier (and die) takes its next step. -/
def execPageDemote (tier die : Nat) (s : State) : Host.Outcome State Fault Refusal :=
  happen (fun s => isEngine tier die && freeSlot s) (demote tier die) s

/-- An engine operation of context `c` waits for the page of its barrier: one whose rows are done, an LMMAR or a residency load
that runs (R202, R351). -/
def engineWants (s : State) (c page : Nat) (k : Core) : Bool :=
  let wants (b : W64) (st : Nat) : Bool := (addPages s c b st).contains page
  k.chans.any (fun u => u.2.any (fun (j : Copy) => j.ctx == c && decide (j.done.length = j.rows) && wants j.bar j.status))
    || k.optu.any (fun j => j.ctx == c && decide (j.done.length = j.n / 256) && wants j.w.barAt j.status)
    || k.lmmar.any (fun j => j.ctx == c && wants j.bar 0)
    || k.rloads.any (fun j => j.ctx == c && wants j.bar 1)

/-- An atomic waits for a host-tier page of a context (R351): one of a core, of an engine, of another device,
of the host. -/
def promotionWanted (s : State) (c page : Nat) : Bool :=
  s.cores.any (fun (k : Nat × Core) =>
      (k.2.ctx == some c && k.2.board.any (fun a => (hostPages s c a).contains page)) || engineWants s c page k.2)
    || s.waiting.any (fun k => k.dst == c && (packetPages s k).contains page)
    || s.hostOps.any (fun k => k.ctx == c && (hostPage s c k.va).contains page)

/-- A host-tier page goes to LPDDR-6, on a die that holds one more (R288); its tag is intact (R291). -/
def promotePage (c page : Nat) (s : State) : State :=
  match (diesFor 1 page).find? (fun d => fits s 1 d) with
  | none => s
  | some d => reworkPage (pageHome s c page) (setPlace c page (fun l => { l with tier := 1, die := d, spot := 0 }) s)

/-! ### Backing placed at a load (R97 step 4) -/

/-- The place that step 4 gives a page: HBM4E for a region placed first, else the first tier from LPDDR-6 on that stays at or below its
high watermark. DESIGN CHOICE (log 77): off the package only under a key slot that R322 admits; none when no tier takes it. -/
def loadPlace (s : State) (tenant : Nat) (first : Bool) (page key : Nat) : Option (Nat × Nat) :=
  if first then ((diesFor 0 page).find? (fits s 0)).map (fun d => (0, d))
  else
    let tiers := [1, 2, 3].filter (fun t => decide (t < 2) || keyUsable s tenant key)
    ((tiers.map (fun t => (diesFor t page).map (fun d => (t, d)))).flatten).find? (fun q =>
      fits s q.1 q.2 && decide (usedPages s q.1 q.2 + 1 ≤ highMark s q.1 q.2))

/-- One page is placed. -/
def loadPage (c : Nat) (first : Bool) (page : Nat) (s : State) : Option State :=
  let k := pageKey (s.ctx c) page
  match loadPlace s (s.ctx c).tenant first page k with
  | none => none
  | some q =>
    let l : Place := { tier := q.1, die := q.2, writes := 0, key := k, epoch := (Tab.get KeySlot.zero s.keys k).epoch }
    some (s.onCtx c (fun x => { x with pages := Tab.set x.pages page l }))

/-- Every page of a list, each with its region, in order; the region of the first that finds no place. -/
def loadPages (c : Nat) (first : Bool) : List (Nat × Nat) → State → Except Nat State
  | [], s => .ok s
  | g :: r, s =>
    match loadPage c first g.2 s with
    | none => .error g.1
    | some t => loadPages c first r t

/-- PBEG (R276): names a relative target phase and starts the Reeves. -/
def execPbeg (i : BitVec 13) (s : State) : Host.Outcome State Fault Refusal :=
  issueOne (.pbeg i) (mPbeg i) s

/-- PBEGA (R276): names an absolute target phase and starts the Reeves. -/
def execPbega (i : BitVec 13) (s : State) : Host.Outcome State Fault Refusal :=
  issueOne (.pbega i) (mPbega i) s

/-- PADV (R279): arrives at the phase advance and freezes until commit or failure. -/
def execPadv (s : State) : Host.Outcome State Fault Refusal :=
  issueOne .padv mPadv s

/-- PQRY (R285): reads the transition state. -/
def execPqry (d : BitVec 6) (s : State) : Host.Outcome State Fault Refusal :=
  issueOne (.pqry d) (mPqry d) s

/-- MAPLD (R286): starts loading a map from a map image. -/
def execMapld (a : BitVec 6) (i : BitVec 13) (s : State) : Host.Outcome State Fault Refusal :=
  issueOne (.mapld a i) (mMapld a i) s

/-- PROBE (R287): tests an address range against the current map. -/
def execProbe (g p : BitVec 5) (a b : BitVec 6) (m : BitVec 4) (s : State) : Host.Outcome State Fault Refusal :=
  issueOne (.probe g p a b m) (mProbe g p a b m) s

end Sys2Proof.Machine
end

