-- ==== Sys2Proof/Machine/Record.lean ====
section
/-!
DEFINITION. Machine/Record.lean: the bytes of a save record (R345, R347): the layouts of a loop entry (R104) and of a residency
table entry (R299), the sections of R345, the header and the bound. The manual gives the sections their types, sizes and items
in order; how the items of types 1, 6, 7 and 8 are packed is a DESIGN CHOICE (log 63).
-/

namespace Sys2Proof.Machine

/-- Fields laid out from bit 0 upward, each given by its width and its value. -/
def packBits : List (Nat × Nat) → Nat
  | [] => 0
  | f :: r => f.2 % 2 ^ f.1 + 2 ^ f.1 * packBits r

/-- The bits that fields take. -/
def bitsOf (l : List (Nat × Nat)) : Nat := (l.map Prod.fst).sum

/-- `n` entries of `w` bits of a table. -/
def tabBits {w : Nat} (t : Tab (BitVec w)) (n : Nat) : List (Nat × Nat) :=
  (List.range n).map (fun k => (w, (Tab.get 0 t k).toNat))

/-! ### Loop entries (R104) -/

/-- A loop-stack entry in the layout of R104. -/
def loopWord (e : LoopEntry) : BitVec 128 :=
  BitVec.ofNat 128 (packBits [(32, e.start.toNat), (32, e.count.toNat), (32, e.index.toNat), (4, e.ep.toNat),
    (1, e.stg.toNat), (1, e.index.toNat / 2 ^ 32), (25, 0), (1, 1)])

/-- The loop-stack entry that a word of R104 stands for; none when its valid bit is 0. -/
def loopOf (w : BitVec 128) : Option LoopEntry :=
  if w.getLsbD 127 then
    some { start := BitVec.ofNat 32 (bfld w 0 32), count := BitVec.ofNat 32 (bfld w 32 32)
           index := BitVec.ofNat 33 (bfld w 64 32 + bfld w 101 1 * 2 ^ 32), ep := BitVec.ofNat 4 (bfld w 96 4)
           stg := w.getLsbD 100 }
  else none

/-- The loop stack that saved entries stand for, innermost first. -/
def loopsOf (l : List (BitVec 128)) : List LoopEntry := l.filterMap loopOf

/-! ### Residency table entries (R299) -/

/-- A residency table entry in the layout of R299. -/
def residWord (e : Resid) : BitVec 128 :=
  BitVec.ofNat 128 (packBits [(48, e.src), (8, 0), (8, e.status), (11, e.charge), (14, e.k), (4, e.fmt), (12, e.rgen.toNat),
    (12, e.gen.toNat), (5, 0), (1, e.held.toNat), (1, e.pin.toNat), (4, e.state)])

/-- The residency table entry that a word of R299 stands for. -/
def residOf (w : BitVec 128) : Resid :=
  { state := bfld w 124 4, pin := w.getLsbD 123, held := w.getLsbD 122, gen := BitVec.ofNat 12 (bfld w 105 12)
    rgen := BitVec.ofNat 12 (bfld w 93 12), fmt := bfld w 89 4, k := bfld w 75 14, charge := bfld w 64 11
    status := bfld w 56 8, src := bfld w 0 48, loaded := bfld w 124 4 != 0 }

/-- The entry is RESIDENT or PINNED: a save record lists its slot (R310). -/
def listedWord (w : BitVec 128) : Bool := bfld w 124 4 == 2 || bfld w 124 4 == 3

/-- The slots that a residency list of a save record names. -/
def listedSlots (t : Tab (BitVec 128)) : List Nat := (t.filter (fun e => listedWord e.2)).map Prod.fst

/-! ### Sections (R345) -/

/-- A section: its type, its logical core, its contents as fields. -/
structure RecPart where
  ty    : Nat
  lcore : Nat
  body  : List (Nat × Nat)
  deriving DecidableEq, Repr

/-- The bytes of a section's contents. -/
def RecPart.bytes (h : RecPart) : Nat := (bitsOf h.body + 7) / 8

/-- The bytes of a section in the record: its header, its contents padded to a multiple of 16. -/
def RecPart.size (h : RecPart) : Nat := 16 + (h.bytes + 15) / 16 * 16

/-- A section as fields: type, core, length, zero, contents, padding. -/
def RecPart.fields (h : RecPart) : List (Nat × Nat) :=
  [(16, h.ty), (16, h.lcore), (32, h.bytes), (64, 0)] ++ h.body ++ [(8 * (h.size - 16) - bitsOf h.body, 0)]

/-- The eight fields of a shape register copy (R143). -/
def Shape.fields (h : Shape) : List (Nat × Nat) :=
  [h.base, h.ext, h.st1, h.st2, h.fmt, h.tag, h.rc, h.bar].map (fun x => (64, x.toNat))

/-- The twelve copies of a core's shape registers. -/
def shapeBits (t : Tab Shape) : List (Nat × Nat) := ((List.range 12).map (fun k => (Tab.get Shape.zero t k).fields)).flatten

/-- The sticky records of a core with their stamps (R148). -/
def stickyBits (t : Tab Sticky) : List (Nat × Nat) :=
  ((List.range 5).map (fun k =>
    let y := Tab.get Sticky.zero t k
    [(4, y.flags.toNat), (4, 0), (24, y.count.toNat), (32, y.addr.toNat), (64, y.stamp)])).flatten

/-- The counters of a core (R329): CHF0 to CHF3, CNRLD to CNRLDF. -/
def counterBits (k : SavedCore) : List (Nat × Nat) :=
  tabBits k.chf 4 ++ (List.range 5).map (fun j => (32, Tab.get 0 k.ctrs j))

/-- Type 1, the core state. A core that yielded through HALT gives its owned-bank mask and its counters only (R347). -/
def coreSection (k : SavedCore) : RecPart :=
  { ty := 1, lcore := k.lcore
    body :=
      [(8, k.inTask.toNat), (8, k.halted.toNat), (16, k.owned.toNat), (32, k.task)] ++ counterBits k
        ++ (if k.inTask && !k.halted then
              [(64, (BitVec.ofInt 64 k.pc).toNat)] ++ tabBits (k.loops.zipIdx.map (fun q => (q.2, q.1))) 6
                ++ [(8, k.vrb.toNat), (8, k.prb.toNat), (48, 0)] ++ tabBits k.s 64 ++ tabBits k.p 32 ++ tabBits k.v 64
                ++ shapeBits k.active ++ shapeBits k.shadow ++ stickyBits k.sticky
                ++ [k.trap.cause, k.trap.bundle, k.trap.mask, k.trap.addr, k.trap.info, k.klprg].map (fun x => (64, x.toNat))
            else []) }

/-- Type 2, the spill memory. -/
def spillSection (k : SavedCore) : RecPart := { ty := 2, lcore := k.lcore, body := tabBits k.spill 128 }

/-- Type 3, a live bank: its number, its rows, their full-empty bits. -/
def bankSection (k : SavedCore) (b : Nat) : RecPart :=
  { ty := 3, lcore := k.lcore
    body := [(128, b)] ++ (List.range 512).map (fun r => (4096, (Tab.get 0 k.rows (512 * b + r)).toNat))
      ++ (List.range 512).map (fun r => (32, (Tab.get 0 k.fe (512 * b + r)).toNat)) }

/-- The rows of a list of ranges. -/
def rangeRows (l : List (Nat × Nat)) : List Nat :=
  (l.map (fun q => (List.range (q.2 + 1 - q.1)).map (fun r => q.1 + r))).flatten

/-- Type 4, the live acc rows: the count of ranges, the ranges of R95, the rows. -/
def accSection (k : SavedCore) : RecPart :=
  { ty := 4, lcore := k.lcore
    body := [(128, k.ranges.length)] ++ (k.ranges.map (fun q => [(16, q.1), (16, q.2)])).flatten
      ++ (rangeRows k.ranges).map (fun r => (4096, (Tab.get 0 k.acc r).toNat)) }

/-- The live banks of a saved core. -/
def SavedCore.banks (k : SavedCore) : List Nat := (List.range 16).filter (fun b => k.live.getLsbD b)

/-- The sections of a core: its state, and for one that yielded at a safe point spill memory, live banks and live acc rows. -/
def coreSections (k : SavedCore) : List RecPart :=
  coreSection k ::
    (if k.inTask && !k.halted then spillSection k :: (k.banks.map (bankSection k) ++ [accSection k]) else [])

/-- Type 5, the residency list of a logical core: the entries of its table up to the last that is not at its reset value, in the
layout of R299. -/
def residSection (q : Nat × Tab (BitVec 128)) : RecPart :=
  { ty := 5, lcore := q.1
    body := (List.range ((q.2.map Prod.fst).foldl max 0 + 1)).map (fun k =>
      (128, (Tab.get (residWord Resid.zero) q.2 k).toNat)) }

/-- Type 6, the context state: phase register, transition state, context counters. -/
def ctxSection (x : SavedCtx) : RecPart :=
  { ty := 6, lcore := 0xFFFF
    body := [(4, x.phase.toNat), (4, x.tr.tgt.toNat), (1, x.tr.pend.toNat), (1, x.tr.fail.toNat), (1, x.tr.ready.toNat),
      (1, x.tr.mfail.toNat), (4, 0), (16, x.tr.failWhy), (32, 0), (64, x.tr.failAddr.toNat)]
      ++ (List.range 6).map (fun j => (32, Tab.get 0 x.ctr (0x820 + j))) }

/-- An entry of the task queue in 48 bytes (R252), with its age in the place of its enqueue cycle. -/
def entryBits (e : QEntry) : List (Nat × Nat) :=
  [(64, e.record), (64, e.args.toNat), (80, e.clusters.toNat), (8, e.prio), (40, 0), (64, e.gate.toNat), (64, e.enq.toNat)]

/-- Type 7, the task queue in order. -/
def queueSection (x : SavedCtx) : RecPart := { ty := 7, lcore := 0xFFFF, body := (x.queue.map entryBits).flatten }

/-- Type 8, the stream thread (R241, R245). -/
def threadSection (x : SavedCtx) : RecPart :=
  { ty := 8, lcore := 0xFFFF
    body := tabBits x.thr.s 64 ++ tabBits x.thr.p 32 ++ [(32, (BitVec.ofInt 32 x.thr.pc).toNat), (32, x.thr.halted.toNat)] }

/-- Two staged stores of one local core to one row share a record; a remote one has its own, by arrival. -/
def sameStage (g h : Stage) : Bool := g.writer == h.writer && g.key == h.key && g.writer != 0

/-- A staged record: address, writer (FFFFh a remote one), arrival order, zero, byte mask, data. -/
def stageBits (n : Nat) (g : Stage) (mask : BitVec 512) (data : Vec) : List (Nat × Nat) :=
  [(64, g.va), (16, if g.writer = 0 then 0xFFFF else g.writer - 1), (32, n), (16, 0), (512, mask.toNat), (4096, data.toNat)]

/-- The staged stores of one record joined, later bytes over earlier ones. -/
def joinStage (g : Stage) : List Stage → Stage
  | [] => g
  | h :: r =>
    if sameStage g h then
      joinStage { g with mask := g.mask ||| h.mask, data := blend h.mask g.data h.data } r
    else joinStage g r

/-- The staged stores as the records of R345: one for each row and writer. -/
def stageRecords : Nat → List Stage → List Stage
  | 0, _ => []
  | _ + 1, [] => []
  | n + 1, g :: r => joinStage g r :: stageRecords n (r.filter (fun h => !sameStage g h))

/-- The records of a context's staged stores. -/
def stagedOf (l : List Stage) : List Stage := stageRecords l.length l

/-- Type 9, the staged rows. -/
def stageSection (x : SavedCtx) : RecPart :=
  { ty := 9, lcore := 0xFFFF
    body := ((stagedOf x.staged).zipIdx.map (fun q => stageBits q.2 q.1 q.1.mask q.1.data)).flatten }

/-- The sections of a save record. -/
def recordSections (cores : List SavedCore) (lists : List (Nat × Tab (BitVec 128))) (x : SavedCtx) : List RecPart :=
  (cores.map coreSections).flatten ++ lists.map residSection
    ++ [ctxSection x, queueSection x, threadSection x, stageSection x]

/-- The bytes of a save record: its header and its sections. -/
def sectionsSize (l : List RecPart) : Nat := 64 + (l.map RecPart.size).sum

/-- The sections as one number. -/
def sectionsBits (l : List RecPart) : Nat := packBits ((l.map RecPart.fields).flatten)

/-- Bytes 0 to 47 of the header of a save record (R345) but for the nonce. -/
def recordHeader (c tenant key size n : Nat) : Nat :=
  packBits [(32, 0x1A525653), (16, 1), (8, c), (8, tenant), (64, size), (32, n), (16, key), (16, 0)]

/-- The bound of R345 on the bytes of a save record of so many cores. -/
def recordBound (n : Nat) (cores : List SavedCore) (x : SavedCtx) : Nat :=
  64 + 125024 * n + (cores.map (fun k => 264208 * k.banks.length + 512 * (rangeRows k.ranges).length)).sum
    + 5984 + 592 * (stagedOf x.staged).length

end Sys2Proof.Machine
end

