-- ==== Sys2Proof/WellFormed.lean ====
section
/-!
DEFINITION. WellFormed.lean: an instruction whose used fields are within the limits of R60. An event is well formed
as it stands.
-/

namespace Sys2Proof

/-- Every used field of the instruction is within its limits (R60). -/
def Instr.wf (i : Instr) : Bool := i.detail.isNone

end Sys2Proof
end

