-- ==== Sys2Proof/Decode.lean ====
section
/-!
DEFINITION. Decode.lean: the decoder of one slot word and of one stream word, total and by name (R55 to R68), and
after it the encoder, from the same format tables.
-/

namespace Sys2Proof

/-- The field of a word that begins at bit `lo` and is `len` bits wide (R55 to R58). -/
def bits (w lo len : Nat) : BitVec len := BitVec.ofNat len (w / 2 ^ lo)

/-- The field of a word is zero (R60). -/
def zeroBits (w lo len : Nat) : Bool := w / 2 ^ lo % 2 ^ len == 0

/-- The opcode map of the scalar slots (R61, R65): for a defined opcode, whether every unused field and reserved
bit is zero, and the instruction with its fields. -/
def rowScalar (w : Nat) : Option (Bool × Instr) :=
  match w / 2 ^ 25 % 2 ^ 7 with
  | 0x01 => some (true, .add (bits w 20 5) (bits w 19 1) (bits w 13 6) (bits w 7 6) (bits w 1 6) (bits w 0 1))
  | 0x02 => some (true, .sub (bits w 20 5) (bits w 19 1) (bits w 13 6) (bits w 7 6) (bits w 1 6) (bits w 0 1))
  | 0x03 => some (true, .and (bits w 20 5) (bits w 19 1) (bits w 13 6) (bits w 7 6) (bits w 1 6) (bits w 0 1))
  | 0x04 => some (true, .or (bits w 20 5) (bits w 19 1) (bits w 13 6) (bits w 7 6) (bits w 1 6) (bits w 0 1))
  | 0x05 => some (true, .xor (bits w 20 5) (bits w 19 1) (bits w 13 6) (bits w 7 6) (bits w 1 6) (bits w 0 1))
  | 0x06 => some (true, .andn (bits w 20 5) (bits w 19 1) (bits w 13 6) (bits w 7 6) (bits w 1 6) (bits w 0 1))
  | 0x07 => some (true, .shl (bits w 20 5) (bits w 19 1) (bits w 13 6) (bits w 7 6) (bits w 1 6) (bits w 0 1))
  | 0x08 => some (true, .shr (bits w 20 5) (bits w 19 1) (bits w 13 6) (bits w 7 6) (bits w 1 6) (bits w 0 1))
  | 0x09 => some (true, .sra (bits w 20 5) (bits w 19 1) (bits w 13 6) (bits w 7 6) (bits w 1 6) (bits w 0 1))
  | 0x0A => some (true, .mul (bits w 20 5) (bits w 19 1) (bits w 13 6) (bits w 7 6) (bits w 1 6) (bits w 0 1))
  | 0x0B => some (true, .mulh (bits w 20 5) (bits w 19 1) (bits w 13 6) (bits w 7 6) (bits w 1 6) (bits w 0 1))
  | 0x0C => some (true, .mulhn (bits w 20 5) (bits w 19 1) (bits w 13 6) (bits w 7 6) (bits w 1 6) (bits w 0 1))
  | 0x0D => some (true, .div (bits w 20 5) (bits w 19 1) (bits w 13 6) (bits w 7 6) (bits w 1 6) (bits w 0 1))
  | 0x0E => some (true, .divn (bits w 20 5) (bits w 19 1) (bits w 13 6) (bits w 7 6) (bits w 1 6) (bits w 0 1))
  | 0x0F => some (true, .rem (bits w 20 5) (bits w 19 1) (bits w 13 6) (bits w 7 6) (bits w 1 6) (bits w 0 1))
  | 0x10 => some (true, .remn (bits w 20 5) (bits w 19 1) (bits w 13 6) (bits w 7 6) (bits w 1 6) (bits w 0 1))
  | 0x11 => some (true, .min (bits w 20 5) (bits w 19 1) (bits w 13 6) (bits w 7 6) (bits w 1 6) (bits w 0 1))
  | 0x12 => some (true, .max (bits w 20 5) (bits w 19 1) (bits w 13 6) (bits w 7 6) (bits w 1 6) (bits w 0 1))
  | 0x13 => some (true, .minn (bits w 20 5) (bits w 19 1) (bits w 13 6) (bits w 7 6) (bits w 1 6) (bits w 0 1))
  | 0x14 => some (true, .maxn (bits w 20 5) (bits w 19 1) (bits w 13 6) (bits w 7 6) (bits w 1 6) (bits w 0 1))
  | 0x15 => some (true, .sel (bits w 20 5) (bits w 19 1) (bits w 13 6) (bits w 7 6) (bits w 1 6) (bits w 0 1))
  | 0x16 => some (zeroBits w 1 6, .clz (bits w 20 5) (bits w 19 1) (bits w 13 6) (bits w 7 6) (bits w 0 1))
  | 0x17 => some (zeroBits w 1 6, .popc (bits w 20 5) (bits w 19 1) (bits w 13 6) (bits w 7 6) (bits w 0 1))
  | 0x18 => some (true, .bfx (bits w 20 5) (bits w 19 1) (bits w 13 6) (bits w 7 6) (bits w 1 6) (bits w 0 1))
  | 0x20 => some (true, .addi (bits w 19 6) (bits w 13 6) (bits w 0 13))
  | 0x21 => some (true, .andi (bits w 19 6) (bits w 13 6) (bits w 0 13))
  | 0x22 => some (true, .ori (bits w 19 6) (bits w 13 6) (bits w 0 13))
  | 0x23 => some (true, .xori (bits w 19 6) (bits w 13 6) (bits w 0 13))
  | 0x24 => some (true, .shli (bits w 19 6) (bits w 13 6) (bits w 0 13))
  | 0x25 => some (true, .shri (bits w 19 6) (bits w 13 6) (bits w 0 13))
  | 0x26 => some (true, .srai (bits w 19 6) (bits w 13 6) (bits w 0 13))
  | 0x27 => some (true, .muli (bits w 19 6) (bits w 13 6) (bits w 0 13))
  | 0x30 => some (true, .liu (bits w 19 6) (bits w 0 19))
  | 0x31 => some (true, .lih (bits w 19 6) (bits w 0 19))
  | 0x34 => some (zeroBits w 0 2, .cmpeq (bits w 20 5) (bits w 19 1) (bits w 14 5) (bits w 8 6) (bits w 2 6))
  | 0x35 => some (zeroBits w 0 2, .cmpne (bits w 20 5) (bits w 19 1) (bits w 14 5) (bits w 8 6) (bits w 2 6))
  | 0x36 => some (zeroBits w 0 2, .cmplt (bits w 20 5) (bits w 19 1) (bits w 14 5) (bits w 8 6) (bits w 2 6))
  | 0x37 => some (zeroBits w 0 2, .cmple (bits w 20 5) (bits w 19 1) (bits w 14 5) (bits w 8 6) (bits w 2 6))
  | 0x38 => some (zeroBits w 0 2, .cmpltn (bits w 20 5) (bits w 19 1) (bits w 14 5) (bits w 8 6) (bits w 2 6))
  | 0x39 => some (zeroBits w 0 2, .cmplen (bits w 20 5) (bits w 19 1) (bits w 14 5) (bits w 8 6) (bits w 2 6))
  | 0x3A => some (zeroBits w 0 2, .cmpbit (bits w 20 5) (bits w 19 1) (bits w 14 5) (bits w 8 6) (bits w 2 6))
  | 0x3B => some (zeroBits w 19 6, .plog (bits w 14 5) (bits w 9 5) (bits w 4 5) (bits w 0 4))
  | 0x3C => some (zeroBits w 0 2, .pfrom (bits w 20 5) (bits w 19 1) (bits w 14 5) (bits w 8 6) (bits w 2 6))
  | 0x3D => some (zeroBits w 1 6, .pto (bits w 20 5) (bits w 19 1) (bits w 13 6) (bits w 7 6) (bits w 0 1))
  | 0x40 => some (true, .br (bits w 20 5) (bits w 19 1) (bits w 0 19))
  | 0x41 => some (true, .call (bits w 20 5) (bits w 19 1) (bits w 0 19))
  | 0x42 => some (zeroBits w 0 7 && zeroBits w 13 6, .jmp (bits w 20 5) (bits w 19 1) (bits w 7 6))
  | 0x43 => some (zeroBits w 0 13 && zeroBits w 19 6, .loop (bits w 13 6))
  | 0x44 => some (zeroBits w 19 6, .loopi (bits w 0 19))
  | 0x45 => some (zeroBits w 19 6, .loops (bits w 13 6) (bits w 0 13))
  | 0x46 => some (zeroBits w 13 6, .lidx (bits w 19 6) (bits w 0 13))
  | 0x47 => some (zeroBits w 0 19, .lbrk (bits w 20 5) (bits w 19 1))
  | 0x48 => some (zeroBits w 0 25, .halt)
  | 0x49 => some (zeroBits w 19 6, .trap (bits w 0 19))
  | 0x4A => some (zeroBits w 19 6, .tret (bits w 0 19))
  | 0x50 => some (zeroBits w 13 6, .krd (bits w 19 6) (bits w 0 13))
  | 0x51 => some (zeroBits w 19 6, .kwr (bits w 13 6) (bits w 0 13))
  | 0x52 => some (zeroBits w 0 12, .shw (bits w 23 2) (bits w 21 2) (bits w 18 3) (bits w 12 6))
  | 0x53 => some (zeroBits w 0 12, .shrd (bits w 23 2) (bits w 21 2) (bits w 18 3) (bits w 12 6))
  | 0x54 => some (zeroBits w 13 6, .exrd (bits w 19 6) (bits w 0 13))
  | 0x55 => some (zeroBits w 13 12, .exclr (bits w 0 13))
  | 0x56 => some (zeroBits w 13 6, .cnrd (bits w 19 6) (bits w 0 13))
  | 0x57 => some (zeroBits w 13 12, .cnclr (bits w 0 13))
  | 0x60 => some (zeroBits w 13 12, .pbeg (bits w 0 13))
  | 0x61 => some (zeroBits w 13 12, .pbega (bits w 0 13))
  | 0x62 => some (zeroBits w 0 25, .padv)
  | 0x63 => some (zeroBits w 0 19, .pqry (bits w 19 6))
  | 0x64 => some (zeroBits w 19 6, .pub (bits w 13 6) (bits w 0 13))
  | 0x65 => some (zeroBits w 0 13 && zeroBits w 19 6, .pubd (bits w 13 6))
  | 0x66 => some (zeroBits w 0 13 && zeroBits w 19 6, .pubg (bits w 13 6))
  | 0x67 => some (zeroBits w 0 13 && zeroBits w 19 6, .waym (bits w 13 6))
  | 0x68 => some (zeroBits w 0 1 && zeroBits w 13 12, .keyset (bits w 7 6) (bits w 1 6))
  | 0x69 => some (zeroBits w 0 13 && zeroBits w 19 6, .keykill (bits w 13 6))
  | 0x6A => some (zeroBits w 19 6, .mapld (bits w 13 6) (bits w 0 13))
  | 0x70 => some (zeroBits w 0 1 && zeroBits w 13 12, .launch (bits w 7 6) (bits w 1 6))
  | 0x71 => some (true, .taskw (bits w 19 6) (bits w 13 6) (bits w 0 13))
  | 0x72 => some (true, .grun (bits w 19 6) (bits w 13 6) (bits w 0 13))
  | 0x73 => some (true, .gwait (bits w 19 6) (bits w 13 6) (bits w 0 13))
  | 0x74 => some (zeroBits w 0 1 && zeroBits w 13 12, .patch (bits w 7 6) (bits w 1 6))
  | 0x75 => some (true, .mbxw (bits w 19 6) (bits w 13 6) (bits w 0 13))
  | _ => none

/-- The opcode map of the V slot (R62, R66): for a defined opcode, whether every unused field and reserved
bit is zero, and the instruction with its fields. -/
def rowVec (w : Nat) : Option (Bool × Instr) :=
  match w / 2 ^ 26 % 2 ^ 6 with
  | 0x01 => some (true, .vadd (bits w 21 5) (bits w 15 6) (bits w 9 6) (bits w 3 6) (bits w 0 3))
  | 0x02 => some (true, .vsub (bits w 21 5) (bits w 15 6) (bits w 9 6) (bits w 3 6) (bits w 0 3))
  | 0x03 => some (true, .vmul (bits w 21 5) (bits w 15 6) (bits w 9 6) (bits w 3 6) (bits w 0 3))
  | 0x04 => some (true, .vfma (bits w 21 5) (bits w 15 6) (bits w 9 6) (bits w 3 6) (bits w 0 3))
  | 0x05 => some (true, .vfms (bits w 21 5) (bits w 15 6) (bits w 9 6) (bits w 3 6) (bits w 0 3))
  | 0x06 => some (true, .vmin (bits w 21 5) (bits w 15 6) (bits w 9 6) (bits w 3 6) (bits w 0 3))
  | 0x07 => some (true, .vmax (bits w 21 5) (bits w 15 6) (bits w 9 6) (bits w 3 6) (bits w 0 3))
  | 0x08 => some (zeroBits w 3 6, .vabs (bits w 21 5) (bits w 15 6) (bits w 9 6) (bits w 0 3))
  | 0x09 => some (zeroBits w 3 6, .vneg (bits w 21 5) (bits w 15 6) (bits w 9 6) (bits w 0 3))
  | 0x0A => some (zeroBits w 3 6, .vrcp (bits w 21 5) (bits w 15 6) (bits w 9 6) (bits w 0 3))
  | 0x0B => some (zeroBits w 3 6, .vrsq (bits w 21 5) (bits w 15 6) (bits w 9 6) (bits w 0 3))
  | 0x0C => some (zeroBits w 3 6, .vexp2 (bits w 21 5) (bits w 15 6) (bits w 9 6) (bits w 0 3))
  | 0x0D => some (zeroBits w 3 6, .vlog2 (bits w 21 5) (bits w 15 6) (bits w 9 6) (bits w 0 3))
  | 0x0E => some (true, .vand (bits w 21 5) (bits w 15 6) (bits w 9 6) (bits w 3 6) (bits w 0 3))
  | 0x0F => some (true, .vor (bits w 21 5) (bits w 15 6) (bits w 9 6) (bits w 3 6) (bits w 0 3))
  | 0x10 => some (true, .vxor (bits w 21 5) (bits w 15 6) (bits w 9 6) (bits w 3 6) (bits w 0 3))
  | 0x11 => some (true, .vshl (bits w 21 5) (bits w 15 6) (bits w 9 6) (bits w 3 6) (bits w 0 3))
  | 0x12 => some (true, .vshr (bits w 21 5) (bits w 15 6) (bits w 9 6) (bits w 3 6) (bits w 0 3))
  | 0x13 => some (true, .vsra (bits w 21 5) (bits w 15 6) (bits w 9 6) (bits w 3 6) (bits w 0 3))
  | 0x14 => some (true, .vadds (bits w 21 5) (bits w 15 6) (bits w 9 6) (bits w 3 6) (bits w 0 3))
  | 0x15 => some (true, .vsubs (bits w 21 5) (bits w 15 6) (bits w 9 6) (bits w 3 6) (bits w 0 3))
  | 0x16 => some (zeroBits w 3 6, .vmov (bits w 21 5) (bits w 15 6) (bits w 9 6) (bits w 0 3))
  | 0x17 => some (true, .vsel (bits w 21 5) (bits w 15 6) (bits w 9 6) (bits w 3 6) (bits w 0 3))
  | 0x18 => some (true, .vperm (bits w 21 5) (bits w 15 6) (bits w 9 6) (bits w 3 6) (bits w 0 3))
  | 0x19 => some (zeroBits w 3 6, .vrsum (bits w 21 5) (bits w 15 6) (bits w 9 6) (bits w 0 3))
  | 0x1A => some (zeroBits w 3 6, .vrmax (bits w 21 5) (bits w 15 6) (bits w 9 6) (bits w 0 3))
  | 0x1B => some (zeroBits w 3 6, .vrmin (bits w 21 5) (bits w 15 6) (bits w 9 6) (bits w 0 3))
  | 0x1C => some (true, .vminn (bits w 21 5) (bits w 15 6) (bits w 9 6) (bits w 3 6) (bits w 0 3))
  | 0x1D => some (true, .vmaxn (bits w 21 5) (bits w 15 6) (bits w 9 6) (bits w 3 6) (bits w 0 3))
  | 0x20 => some (zeroBits w 0 1, .vceq (bits w 21 5) (bits w 16 5) (bits w 10 6) (bits w 4 6) (bits w 1 3))
  | 0x21 => some (zeroBits w 0 1, .vcne (bits w 21 5) (bits w 16 5) (bits w 10 6) (bits w 4 6) (bits w 1 3))
  | 0x22 => some (zeroBits w 0 1, .vclt (bits w 21 5) (bits w 16 5) (bits w 10 6) (bits w 4 6) (bits w 1 3))
  | 0x23 => some (zeroBits w 0 1, .vcle (bits w 21 5) (bits w 16 5) (bits w 10 6) (bits w 4 6) (bits w 1 3))
  | 0x24 => some (zeroBits w 0 1, .vcltn (bits w 21 5) (bits w 16 5) (bits w 10 6) (bits w 4 6) (bits w 1 3))
  | 0x25 => some (zeroBits w 0 1, .vclen (bits w 21 5) (bits w 16 5) (bits w 10 6) (bits w 4 6) (bits w 1 3))
  | 0x28 => some (true, .vcvt (bits w 21 5) (bits w 15 6) (bits w 9 6) (bits w 6 3) (bits w 3 3) (bits w 1 2) (bits w 0 1))
  | 0x29 => some (true, .vpack (bits w 21 5) (bits w 15 6) (bits w 9 6) (bits w 6 3) (bits w 3 3) (bits w 1 2) (bits w 0 1))
  | 0x2A => some (true, .vunpkl (bits w 21 5) (bits w 15 6) (bits w 9 6) (bits w 6 3) (bits w 3 3) (bits w 1 2) (bits w 0 1))
  | 0x2B => some (true, .vunpkh (bits w 21 5) (bits w 15 6) (bits w 9 6) (bits w 6 3) (bits w 3 3) (bits w 1 2) (bits w 0 1))
  | 0x2C => some (true, .vrotm (bits w 21 5) (bits w 15 6) (bits w 9 6) (bits w 3 6) (bits w 0 3))
  | 0x30 => some (true, .vacr (bits w 21 5) (bits w 15 6) (bits w 9 6) (bits w 6 3) (bits w 3 3) (bits w 1 2) (bits w 0 1))
  | 0x31 => some (true, .vacw (bits w 21 5) (bits w 15 6) (bits w 9 6) (bits w 6 3) (bits w 3 3) (bits w 1 2) (bits w 0 1))
  | 0x32 => some (true, .vacc (bits w 21 5) (bits w 15 6) (bits w 9 6) (bits w 6 3) (bits w 3 3) (bits w 1 2) (bits w 0 1))
  | 0x33 => some (zeroBits w 0 3, .vacz (bits w 21 5) (bits w 15 6) (bits w 9 6) (bits w 6 3) (bits w 3 3))
  | _ => none

/-- The opcode map of the M slot (R63, R66): for a defined opcode, whether every unused field and reserved
bit is zero, and the instruction with its fields. -/
def rowMem (w : Nat) : Option (Bool × Instr) :=
  match w / 2 ^ 26 % 2 ^ 6 with
  | 0x01 => some (true, .ldv (bits w 21 5) (bits w 15 6) (bits w 9 6) (bits w 2 7) (bits w 0 2))
  | 0x02 => some (true, .stv (bits w 21 5) (bits w 15 6) (bits w 9 6) (bits w 2 7) (bits w 0 2))
  | 0x03 => some (zeroBits w 0 2, .lds (bits w 21 5) (bits w 15 6) (bits w 9 6) (bits w 2 7))
  | 0x04 => some (zeroBits w 0 2, .sts (bits w 21 5) (bits w 15 6) (bits w 9 6) (bits w 2 7))
  | 0x05 => some (true, .spl (bits w 21 5) (bits w 15 6) (bits w 0 15))
  | 0x06 => some (true, .fil (bits w 21 5) (bits w 15 6) (bits w 0 15))
  | 0x07 => some (true, .spls (bits w 21 5) (bits w 15 6) (bits w 0 15))
  | 0x08 => some (true, .fils (bits w 21 5) (bits w 15 6) (bits w 0 15))
  | 0x09 => some (zeroBits w 0 9 && zeroBits w 15 6, .bacq (bits w 21 5) (bits w 9 6))
  | 0x0A => some (zeroBits w 0 9 && zeroBits w 15 6, .brel (bits w 21 5) (bits w 9 6))
  | 0x10 => some (true, .ldg (bits w 21 5) (bits w 15 6) (bits w 9 6) (bits w 4 5) (bits w 2 2) (bits w 0 2))
  | 0x11 => some (true, .stg (bits w 21 5) (bits w 15 6) (bits w 9 6) (bits w 4 5) (bits w 2 2) (bits w 0 2))
  | 0x12 => some (zeroBits w 15 6, .prfg (bits w 21 5) (bits w 9 6) (bits w 4 5) (bits w 2 2) (bits w 0 2))
  | 0x13 => some (true, .ldgs (bits w 21 5) (bits w 15 6) (bits w 9 6) (bits w 4 5) (bits w 2 2) (bits w 0 2))
  | 0x14 => some (true, .stgs (bits w 21 5) (bits w 15 6) (bits w 9 6) (bits w 4 5) (bits w 2 2) (bits w 0 2))
  | 0x18 => some (true, .probe (bits w 21 5) (bits w 16 5) (bits w 10 6) (bits w 4 6) (bits w 0 4))
  | 0x19 => some (zeroBits w 0 2, .pstw (bits w 21 5) (bits w 15 6) (bits w 9 6) (bits w 2 7))
  | 0x1A => some (zeroBits w 0 2 && zeroBits w 15 6, .scld (bits w 21 5) (bits w 9 6) (bits w 2 7))
  | 0x20 => some (zeroBits w 3 6, .ald (bits w 21 5) (bits w 15 6) (bits w 9 6) (bits w 0 3))
  | 0x21 => some (zeroBits w 15 6, .ast (bits w 21 5) (bits w 9 6) (bits w 3 6) (bits w 0 3))
  | 0x22 => some (true, .aadd (bits w 21 5) (bits w 15 6) (bits w 9 6) (bits w 3 6) (bits w 0 3))
  | 0x23 => some (true, .amin (bits w 21 5) (bits w 15 6) (bits w 9 6) (bits w 3 6) (bits w 0 3))
  | 0x24 => some (true, .amax (bits w 21 5) (bits w 15 6) (bits w 9 6) (bits w 3 6) (bits w 0 3))
  | 0x25 => some (true, .aminn (bits w 21 5) (bits w 15 6) (bits w 9 6) (bits w 3 6) (bits w 0 3))
  | 0x26 => some (true, .amaxn (bits w 21 5) (bits w 15 6) (bits w 9 6) (bits w 3 6) (bits w 0 3))
  | 0x27 => some (true, .aand (bits w 21 5) (bits w 15 6) (bits w 9 6) (bits w 3 6) (bits w 0 3))
  | 0x28 => some (true, .aor (bits w 21 5) (bits w 15 6) (bits w 9 6) (bits w 3 6) (bits w 0 3))
  | 0x29 => some (true, .axchg (bits w 21 5) (bits w 15 6) (bits w 9 6) (bits w 3 6) (bits w 0 3))
  | 0x2A => some (true, .acas (bits w 21 5) (bits w 15 6) (bits w 9 6) (bits w 3 6) (bits w 0 3))
  | 0x2B => some (zeroBits w 15 6, .bara (bits w 21 5) (bits w 9 6) (bits w 3 6) (bits w 0 3))
  | 0x2C => some (zeroBits w 15 6, .barw (bits w 21 5) (bits w 9 6) (bits w 3 6) (bits w 0 3))
  | 0x2D => some (zeroBits w 0 16, .fence (bits w 23 3) (bits w 20 3) (bits w 16 4))
  | 0x30 => some (true, .admitEntry (bits w 21 5) (bits w 15 6) (bits w 9 6) (bits w 3 6) (bits w 0 3))
  | _ => none

/-- The opcode map of the X slot (R64, R66): for a defined opcode, whether every unused field and reserved
bit is zero, and the instruction with its fields. -/
def rowEng (w : Nat) : Option (Bool × Instr) :=
  match w / 2 ^ 26 % 2 ^ 6 with
  | 0x01 => some (true, .lmma (bits w 24 2) (bits w 23 1) (bits w 18 5) (bits w 12 6) (bits w 6 6) (bits w 0 6))
  | 0x02 => some (true, .lmmaz (bits w 24 2) (bits w 23 1) (bits w 18 5) (bits w 12 6) (bits w 6 6) (bits w 0 6))
  | 0x03 => some (true, .lmmar (bits w 24 2) (bits w 23 1) (bits w 18 5) (bits w 12 6) (bits w 6 6) (bits w 0 6))
  | 0x08 => some (true, .ccpy (bits w 24 2) (bits w 23 1) (bits w 18 5) (bits w 12 6) (bits w 6 6) (bits w 0 6))
  | 0x09 => some (true, .cgth (bits w 24 2) (bits w 23 1) (bits w 18 5) (bits w 12 6) (bits w 6 6) (bits w 0 6))
  | 0x0A => some (true, .csct (bits w 24 2) (bits w 23 1) (bits w 18 5) (bits w 12 6) (bits w 6 6) (bits w 0 6))
  | 0x0B => some (true, .ctopk (bits w 24 2) (bits w 23 1) (bits w 18 5) (bits w 12 6) (bits w 6 6) (bits w 0 6))
  | 0x0C => some (zeroBits w 6 12 && zeroBits w 23 3, .cdrn (bits w 18 5) (bits w 0 6))
  | 0x0D => some (zeroBits w 24 2, .optu (bits w 23 1) (bits w 18 5) (bits w 12 6) (bits w 6 6) (bits w 0 6))
  | 0x10 => some (zeroBits w 0 12 && zeroBits w 23 3, .pushix (bits w 18 5) (bits w 12 6))
  | 0x14 => some (zeroBits w 6 12 && zeroBits w 23 1, .shsw (bits w 24 2) (bits w 18 5) (bits w 0 6))
  | 0x18 => some (zeroBits w 0 6 && zeroBits w 23 3, .ralloc (bits w 18 5) (bits w 12 6) (bits w 6 6))
  | 0x19 => some (true, .rload (bits w 24 2) (bits w 23 1) (bits w 18 5) (bits w 12 6) (bits w 6 6) (bits w 0 6))
  | 0x1A => some (zeroBits w 0 12, .rpin (bits w 24 2) (bits w 23 1) (bits w 18 5) (bits w 12 6))
  | 0x1B => some (zeroBits w 0 12, .runpin (bits w 24 2) (bits w 23 1) (bits w 18 5) (bits w 12 6))
  | 0x1C => some (zeroBits w 0 12, .rrev (bits w 24 2) (bits w 23 1) (bits w 18 5) (bits w 12 6))
  | 0x1D => some (zeroBits w 0 6 && zeroBits w 23 3, .rqry (bits w 18 5) (bits w 12 6) (bits w 6 6))
  | _ => none

/-- The opcode map of a slot class. -/
def rowOf (c : SlotClass) (w : Nat) : Option (Bool × Instr) :=
  match c with
  | .scalar => rowScalar w
  | .vec => rowVec w
  | .mem => rowMem w
  | .eng => rowEng w

/-- The opcode field of a word is zero (R67): 7 bits in the scalar slots, 6 in the others. -/
def opZero (c : SlotClass) (w : Nat) : Bool :=
  match c with
  | .scalar => w / 2 ^ 25 == 0
  | _ => w / 2 ^ 26 == 0

/-- The word in a slot of class `c`, below 2^32: its instruction, or the lowest detail code of R153 that it fails
with among those the word alone decides: 1 opcode 0 with another bit set, 2 reserved opcode, 3 unused field,
4 field out of limits, 5 format code (R67). -/
def decodeWord (c : SlotClass) (w : Nat) : Except Nat Instr :=
  if w = 0 then .ok .nop
  else if opZero c w then .error 1
  else
    match rowOf c w with
    | none => .error 2
    | some (clean, i) =>
      if clean then
        match i.detail with
        | none => .ok i
        | some d => .error d
      else .error 3

/-- The word of a bundle slot: as `decodeWord`, and a stream-only instruction is detail 6 (R67). -/
def decodeSlot (c : SlotClass) (w : Nat) : Except Nat Instr :=
  match decodeWord c w with
  | .ok i => if i.streamOnly then .error 6 else .ok i
  | .error d => .error d

/-- The class of the slot with number `k` (R52). -/
def slotClass (k : Nat) : SlotClass :=
  if k < 2 then .scalar else if k = 2 then .mem else if k = 3 then .vec else .eng

/-- The little-endian value of a list of bytes (R2). -/
def wordOfBytes : List Byte → Nat
  | [] => 0
  | b :: bs => b.toNat + 256 * wordOfBytes bs

/-- The bytes of a word of `n` bytes, least significant first (R2). -/
def bytesOfWord : Nat → Nat → List Byte
  | 0, _ => []
  | n + 1, w => BitVec.ofNat 8 w :: bytesOfWord n (w / 256)

/-- The instruction that the four bytes of a slot or stream word hold. -/
def decodeBytes (c : SlotClass) (bs : List Byte) : Except Nat Instr :=
  decodeWord c (wordOfBytes (bs.take 4))

/-- The classes a word is tried in when no slot is given with it. -/
def tableClasses : List SlotClass := [.scalar, .vec, .mem, .eng]

/-- The first class of a list whose slots take the word as an instruction. -/
def firstClass : List SlotClass → Nat → Option (SlotClass × Instr)
  | [], _ => none
  | c :: cs, w =>
    match decodeBytes c (bytesOfWord 4 w) with
    | .ok i => some (c, i)
    | .error _ => firstClass cs w

/-- The instruction of a table word. One 32-bit word may be an instruction in more than one class of slots
(R61 to R64); the classes are tried in the order of `tableClasses`. -/
def decodeTableWord (nbits w : Nat) : Option Instr :=
  (firstClass tableClasses (w % 2 ^ nbits)).map Prod.snd

/-- The class of slots whose instruction this is; none for an event. NOP is the same word in every class. -/
def Instr.cls : Instr → Option SlotClass
  | .nop => some .scalar
  | .add _ _ _ _ _ _ => some .scalar
  | .sub _ _ _ _ _ _ => some .scalar
  | .and _ _ _ _ _ _ => some .scalar
  | .or _ _ _ _ _ _ => some .scalar
  | .xor _ _ _ _ _ _ => some .scalar
  | .andn _ _ _ _ _ _ => some .scalar
  | .shl _ _ _ _ _ _ => some .scalar
  | .shr _ _ _ _ _ _ => some .scalar
  | .sra _ _ _ _ _ _ => some .scalar
  | .mul _ _ _ _ _ _ => some .scalar
  | .mulh _ _ _ _ _ _ => some .scalar
  | .mulhn _ _ _ _ _ _ => some .scalar
  | .div _ _ _ _ _ _ => some .scalar
  | .divn _ _ _ _ _ _ => some .scalar
  | .rem _ _ _ _ _ _ => some .scalar
  | .remn _ _ _ _ _ _ => some .scalar
  | .min _ _ _ _ _ _ => some .scalar
  | .max _ _ _ _ _ _ => some .scalar
  | .minn _ _ _ _ _ _ => some .scalar
  | .maxn _ _ _ _ _ _ => some .scalar
  | .sel _ _ _ _ _ _ => some .scalar
  | .clz _ _ _ _ _ => some .scalar
  | .popc _ _ _ _ _ => some .scalar
  | .bfx _ _ _ _ _ _ => some .scalar
  | .addi _ _ _ => some .scalar
  | .andi _ _ _ => some .scalar
  | .ori _ _ _ => some .scalar
  | .xori _ _ _ => some .scalar
  | .shli _ _ _ => some .scalar
  | .shri _ _ _ => some .scalar
  | .srai _ _ _ => some .scalar
  | .muli _ _ _ => some .scalar
  | .liu _ _ => some .scalar
  | .lih _ _ => some .scalar
  | .cmpeq _ _ _ _ _ => some .scalar
  | .cmpne _ _ _ _ _ => some .scalar
  | .cmplt _ _ _ _ _ => some .scalar
  | .cmple _ _ _ _ _ => some .scalar
  | .cmpltn _ _ _ _ _ => some .scalar
  | .cmplen _ _ _ _ _ => some .scalar
  | .cmpbit _ _ _ _ _ => some .scalar
  | .plog _ _ _ _ => some .scalar
  | .pfrom _ _ _ _ _ => some .scalar
  | .pto _ _ _ _ _ => some .scalar
  | .br _ _ _ => some .scalar
  | .call _ _ _ => some .scalar
  | .jmp _ _ _ => some .scalar
  | .loop _ => some .scalar
  | .loopi _ => some .scalar
  | .loops _ _ => some .scalar
  | .lidx _ _ => some .scalar
  | .lbrk _ _ => some .scalar
  | .halt => some .scalar
  | .trap _ => some .scalar
  | .tret _ => some .scalar
  | .krd _ _ => some .scalar
  | .kwr _ _ => some .scalar
  | .shw _ _ _ _ => some .scalar
  | .shrd _ _ _ _ => some .scalar
  | .exrd _ _ => some .scalar
  | .exclr _ => some .scalar
  | .cnrd _ _ => some .scalar
  | .cnclr _ => some .scalar
  | .pbeg _ => some .scalar
  | .pbega _ => some .scalar
  | .padv => some .scalar
  | .pqry _ => some .scalar
  | .pub _ _ => some .scalar
  | .pubd _ => some .scalar
  | .pubg _ => some .scalar
  | .waym _ => some .scalar
  | .keyset _ _ => some .scalar
  | .keykill _ => some .scalar
  | .mapld _ _ => some .scalar
  | .launch _ _ => some .scalar
  | .taskw _ _ _ => some .scalar
  | .grun _ _ _ => some .scalar
  | .gwait _ _ _ => some .scalar
  | .patch _ _ => some .scalar
  | .mbxw _ _ _ => some .scalar
  | .vadd _ _ _ _ _ => some .vec
  | .vsub _ _ _ _ _ => some .vec
  | .vmul _ _ _ _ _ => some .vec
  | .vfma _ _ _ _ _ => some .vec
  | .vfms _ _ _ _ _ => some .vec
  | .vmin _ _ _ _ _ => some .vec
  | .vmax _ _ _ _ _ => some .vec
  | .vabs _ _ _ _ => some .vec
  | .vneg _ _ _ _ => some .vec
  | .vrcp _ _ _ _ => some .vec
  | .vrsq _ _ _ _ => some .vec
  | .vexp2 _ _ _ _ => some .vec
  | .vlog2 _ _ _ _ => some .vec
  | .vand _ _ _ _ _ => some .vec
  | .vor _ _ _ _ _ => some .vec
  | .vxor _ _ _ _ _ => some .vec
  | .vshl _ _ _ _ _ => some .vec
  | .vshr _ _ _ _ _ => some .vec
  | .vsra _ _ _ _ _ => some .vec
  | .vadds _ _ _ _ _ => some .vec
  | .vsubs _ _ _ _ _ => some .vec
  | .vmov _ _ _ _ => some .vec
  | .vsel _ _ _ _ _ => some .vec
  | .vperm _ _ _ _ _ => some .vec
  | .vrsum _ _ _ _ => some .vec
  | .vrmax _ _ _ _ => some .vec
  | .vrmin _ _ _ _ => some .vec
  | .vminn _ _ _ _ _ => some .vec
  | .vmaxn _ _ _ _ _ => some .vec
  | .vceq _ _ _ _ _ => some .vec
  | .vcne _ _ _ _ _ => some .vec
  | .vclt _ _ _ _ _ => some .vec
  | .vcle _ _ _ _ _ => some .vec
  | .vcltn _ _ _ _ _ => some .vec
  | .vclen _ _ _ _ _ => some .vec
  | .vcvt _ _ _ _ _ _ _ => some .vec
  | .vpack _ _ _ _ _ _ _ => some .vec
  | .vunpkl _ _ _ _ _ _ _ => some .vec
  | .vunpkh _ _ _ _ _ _ _ => some .vec
  | .vrotm _ _ _ _ _ => some .vec
  | .vacr _ _ _ _ _ _ _ => some .vec
  | .vacw _ _ _ _ _ _ _ => some .vec
  | .vacc _ _ _ _ _ _ _ => some .vec
  | .vacz _ _ _ _ _ => some .vec
  | .ldv _ _ _ _ _ => some .mem
  | .stv _ _ _ _ _ => some .mem
  | .lds _ _ _ _ => some .mem
  | .sts _ _ _ _ => some .mem
  | .spl _ _ _ => some .mem
  | .fil _ _ _ => some .mem
  | .spls _ _ _ => some .mem
  | .fils _ _ _ => some .mem
  | .bacq _ _ => some .mem
  | .brel _ _ => some .mem
  | .ldg _ _ _ _ _ _ => some .mem
  | .stg _ _ _ _ _ _ => some .mem
  | .prfg _ _ _ _ _ => some .mem
  | .ldgs _ _ _ _ _ _ => some .mem
  | .stgs _ _ _ _ _ _ => some .mem
  | .probe _ _ _ _ _ => some .mem
  | .pstw _ _ _ _ => some .mem
  | .scld _ _ _ => some .mem
  | .ald _ _ _ _ => some .mem
  | .ast _ _ _ _ => some .mem
  | .aadd _ _ _ _ _ => some .mem
  | .amin _ _ _ _ _ => some .mem
  | .amax _ _ _ _ _ => some .mem
  | .aminn _ _ _ _ _ => some .mem
  | .amaxn _ _ _ _ _ => some .mem
  | .aand _ _ _ _ _ => some .mem
  | .aor _ _ _ _ _ => some .mem
  | .axchg _ _ _ _ _ => some .mem
  | .acas _ _ _ _ _ => some .mem
  | .bara _ _ _ _ => some .mem
  | .barw _ _ _ _ => some .mem
  | .fence _ _ _ => some .mem
  | .admitEntry _ _ _ _ _ => some .mem
  | .lmma _ _ _ _ _ _ => some .eng
  | .lmmaz _ _ _ _ _ _ => some .eng
  | .lmmar _ _ _ _ _ _ => some .eng
  | .ccpy _ _ _ _ _ _ => some .eng
  | .cgth _ _ _ _ _ _ => some .eng
  | .csct _ _ _ _ _ _ => some .eng
  | .ctopk _ _ _ _ _ _ => some .eng
  | .cdrn _ _ => some .eng
  | .optu _ _ _ _ _ => some .eng
  | .pushix _ _ => some .eng
  | .shsw _ _ _ => some .eng
  | .ralloc _ _ _ => some .eng
  | .rload _ _ _ _ _ _ => some .eng
  | .rpin _ _ _ _ => some .eng
  | .runpin _ _ _ _ => some .eng
  | .rrev _ _ _ _ => some .eng
  | .rqry _ _ _ => some .eng
  | .bundleFetch _ => none
  | .preciseTrap _ => none
  | .resultLand _ _ => none
  | .scoreboardArrive _ _ _ => none
  | .loomRowLand _ => none
  | .loopEnd _ => none
  | .waitCyclesExpire _ => none
  | .safePointYield _ => none
  | .remoteRefusalReturn _ _ _ => none
  | .remotePacketReceive _ => none
  | .resyncMarker _ _ _ _ => none
  | .scldAppend _ => none
  | .engineRowLand _ _ _ _ _ _ => none
  | .engineComplete _ _ _ _ => none
  | .lmmarRow _ _ _ _ => none
  | .pstwLand _ _ => none
  | .rloadComplete _ _ _ _ => none
  | .rrevDrain _ _ => none
  | .pubdComplete _ _ => none
  | .mapldComplete _ _ _ => none
  | .reeveChunkCopy _ _ _ => none
  | .phaseCommit _ => none
  | .pageDemote _ _ => none
  | .pagePromote _ _ => none
  | .pageRequest _ _ _ _ => none
  | .pageAnswer _ => none
  | .faultRecordWrite => none
  | .taskDispatch _ => none
  | .gateOpen _ _ => none
  | .taskEnd _ _ => none
  | .bankStall _ => none
  | .streamThreadHalted _ => none
  | .saveCommand _ => none
  | .saveRecordWrite _ => none
  | .yieldOverdue _ => none
  | .restoreCommand _ => none
  | .endCommand _ => none
  | .contextLoad _ _ _ => none
  | .mgmtDescribeCxl => none
  | .mgmtLoadFirmware => none
  | .mgmtReadTelemetry => none
  | .mgmtTenantTeardown => none
  | .mgmtSetMgmtWindow => none
  | .mgmtBindSharedBase => none
  | .mgmtUnknownCommand => none
  | .hostRegisterWrite _ _ _ _ => none
  | .tableStatusClear => none
  | .hostCounterClear _ => none
  | .rotaSwitchRequest => none
  | .rotaSwitch => none
  | .routingSelect => none
  | .routingValidate => none
  | .routingRetire => none
  | .hostBar2Load _ _ _ => none
  | .hostBar2Write _ _ _ _ => none
  | .hostAtomicop _ _ _ _ _ _ => none
  | .atsInvalidate _ => none
  | .flitTransmit _ _ => none
  | .flitReceive _ _ => none
  | .laneFailure _ _ => none
  | .linkRetrainDone _ _ => none
  | .linkCalibration _ _ => none
  | .supplyOutOfRange _ _ => none
  | .coolantOutOfRange _ _ => none
  | .scrub _ _ => none
  | .memoryRefresh => none
  | .telemetrySample _ _ => none
  | .cxlError _ _ _ => none
  | .powerOnReset _ => none
  | .loomAccept _ => none
  | .acknowledgementReturn _ _ => none
  | .hostReleaseStop => none
  | .hostLinkRetrain _ => none
  | .contextUnload _ => none

/-- A word of format SR (R55). -/
def encSR (op : Nat) (g : BitVec 5) (n : BitVec 1) (d : BitVec 6) (a : BitVec 6) (b : BitVec 6) (w : BitVec 1) : Nat :=
  op * 2 ^ 25 + g.toNat * 2 ^ 20 + n.toNat * 2 ^ 19 + d.toNat * 2 ^ 13 + a.toNat * 2 ^ 7 + b.toNat * 2 ^ 1 + w.toNat

/-- A word of format SI (R55). -/
def encSI (op : Nat) (d : BitVec 6) (a : BitVec 6) (i : BitVec 13) : Nat :=
  op * 2 ^ 25 + d.toNat * 2 ^ 19 + a.toNat * 2 ^ 13 + i.toNat

/-- A word of format SL (R55). -/
def encSL (op : Nat) (d : BitVec 6) (i : BitVec 19) : Nat :=
  op * 2 ^ 25 + d.toNat * 2 ^ 19 + i.toNat

/-- A word of format SB (R55). -/
def encSB (op : Nat) (g : BitVec 5) (n : BitVec 1) (o : BitVec 19) : Nat :=
  op * 2 ^ 25 + g.toNat * 2 ^ 20 + n.toNat * 2 ^ 19 + o.toNat

/-- A word of format SC (R55). -/
def encSC (op : Nat) (g : BitVec 5) (n : BitVec 1) (p : BitVec 5) (a : BitVec 6) (b : BitVec 6) : Nat :=
  op * 2 ^ 25 + g.toNat * 2 ^ 20 + n.toNat * 2 ^ 19 + p.toNat * 2 ^ 14 + a.toNat * 2 ^ 8 + b.toNat * 2 ^ 2

/-- A word of format PLOG (R55). -/
def encPlog (op : Nat) (p : BitVec 5) (x : BitVec 5) (y : BitVec 5) (t : BitVec 4) : Nat :=
  op * 2 ^ 25 + p.toNat * 2 ^ 14 + x.toNat * 2 ^ 9 + y.toNat * 2 ^ 4 + t.toNat

/-- A word of format SK (R55). -/
def encSK (op : Nat) (d : BitVec 6) (a : BitVec 6) (k : BitVec 13) : Nat :=
  op * 2 ^ 25 + d.toNat * 2 ^ 19 + a.toNat * 2 ^ 13 + k.toNat

/-- A word of format SW (R55). -/
def encSW (op : Nat) (e : BitVec 2) (h : BitVec 2) (f : BitVec 3) (a : BitVec 6) : Nat :=
  op * 2 ^ 25 + e.toNat * 2 ^ 23 + h.toNat * 2 ^ 21 + f.toNat * 2 ^ 18 + a.toNat * 2 ^ 12

/-- A word of format VR (R56). -/
def encVR (op : Nat) (g : BitVec 5) (d : BitVec 6) (a : BitVec 6) (b : BitVec 6) (f : BitVec 3) : Nat :=
  op * 2 ^ 26 + g.toNat * 2 ^ 21 + d.toNat * 2 ^ 15 + a.toNat * 2 ^ 9 + b.toNat * 2 ^ 3 + f.toNat

/-- A word of format VC (R56). -/
def encVC (op : Nat) (g : BitVec 5) (p : BitVec 5) (a : BitVec 6) (b : BitVec 6) (f : BitVec 3) : Nat :=
  op * 2 ^ 26 + g.toNat * 2 ^ 21 + p.toNat * 2 ^ 16 + a.toNat * 2 ^ 10 + b.toNat * 2 ^ 4 + f.toNat * 2 ^ 1

/-- A word of format VX (R56). -/
def encVX (op : Nat) (g : BitVec 5) (d : BitVec 6) (a : BitVec 6) (s : BitVec 3) (t : BitVec 3) (r : BitVec 2) (u : BitVec 1) : Nat :=
  op * 2 ^ 26 + g.toNat * 2 ^ 21 + d.toNat * 2 ^ 15 + a.toNat * 2 ^ 9 + s.toNat * 2 ^ 6 + t.toNat * 2 ^ 3 + r.toNat * 2 ^ 1 + u.toNat

/-- A word of format MV (R57). -/
def encMV (op : Nat) (g : BitVec 5) (v : BitVec 6) (a : BitVec 6) (i : BitVec 7) (e : BitVec 2) : Nat :=
  op * 2 ^ 26 + g.toNat * 2 ^ 21 + v.toNat * 2 ^ 15 + a.toNat * 2 ^ 9 + i.toNat * 2 ^ 2 + e.toNat

/-- A word of format MG (R57). -/
def encMG (op : Nat) (g : BitVec 5) (v : BitVec 6) (a : BitVec 6) (i : BitVec 5) (r : BitVec 2) (c : BitVec 2) : Nat :=
  op * 2 ^ 26 + g.toNat * 2 ^ 21 + v.toNat * 2 ^ 15 + a.toNat * 2 ^ 9 + i.toNat * 2 ^ 4 + r.toNat * 2 ^ 2 + c.toNat

/-- A word of format MS (R57). -/
def encMS (op : Nat) (g : BitVec 5) (d : BitVec 6) (o : BitVec 15) : Nat :=
  op * 2 ^ 26 + g.toNat * 2 ^ 21 + d.toNat * 2 ^ 15 + o.toNat

/-- A word of format MA (R57). -/
def encMA (op : Nat) (g : BitVec 5) (d : BitVec 6) (a : BitVec 6) (b : BitVec 6) (o : BitVec 3) : Nat :=
  op * 2 ^ 26 + g.toNat * 2 ^ 21 + d.toNat * 2 ^ 15 + a.toNat * 2 ^ 9 + b.toNat * 2 ^ 3 + o.toNat

/-- A word of format FENCE (R57). -/
def encFence (op : Nat) (s : BitVec 3) (c : BitVec 3) (k : BitVec 4) : Nat :=
  op * 2 ^ 26 + s.toNat * 2 ^ 23 + c.toNat * 2 ^ 20 + k.toNat * 2 ^ 16

/-- A word of format PROBE (R57). -/
def encProbe (op : Nat) (g : BitVec 5) (p : BitVec 5) (a : BitVec 6) (b : BitVec 6) (m : BitVec 4) : Nat :=
  op * 2 ^ 26 + g.toNat * 2 ^ 21 + p.toNat * 2 ^ 16 + a.toNat * 2 ^ 10 + b.toNat * 2 ^ 4 + m.toNat

/-- A word of format X (R58). -/
def encX (op : Nat) (h : BitVec 2) (s : BitVec 1) (g : BitVec 5) (a : BitVec 6) (b : BitVec 6) (i : BitVec 6) : Nat :=
  op * 2 ^ 26 + h.toNat * 2 ^ 24 + s.toNat * 2 ^ 23 + g.toNat * 2 ^ 18 + a.toNat * 2 ^ 12 + b.toNat * 2 ^ 6 + i.toNat

/-- The word of an instruction (R55 to R58, R61 to R64); an event has none and gives 0. -/
def encode : Instr → Nat
  | .nop => 0
  | .add g n d a b w => encSR 0x01 g n d a b w
  | .sub g n d a b w => encSR 0x02 g n d a b w
  | .and g n d a b w => encSR 0x03 g n d a b w
  | .or g n d a b w => encSR 0x04 g n d a b w
  | .xor g n d a b w => encSR 0x05 g n d a b w
  | .andn g n d a b w => encSR 0x06 g n d a b w
  | .shl g n d a b w => encSR 0x07 g n d a b w
  | .shr g n d a b w => encSR 0x08 g n d a b w
  | .sra g n d a b w => encSR 0x09 g n d a b w
  | .mul g n d a b w => encSR 0x0A g n d a b w
  | .mulh g n d a b w => encSR 0x0B g n d a b w
  | .mulhn g n d a b w => encSR 0x0C g n d a b w
  | .div g n d a b w => encSR 0x0D g n d a b w
  | .divn g n d a b w => encSR 0x0E g n d a b w
  | .rem g n d a b w => encSR 0x0F g n d a b w
  | .remn g n d a b w => encSR 0x10 g n d a b w
  | .min g n d a b w => encSR 0x11 g n d a b w
  | .max g n d a b w => encSR 0x12 g n d a b w
  | .minn g n d a b w => encSR 0x13 g n d a b w
  | .maxn g n d a b w => encSR 0x14 g n d a b w
  | .sel g n d a b w => encSR 0x15 g n d a b w
  | .clz g n d a w => encSR 0x16 g n d a 0 w
  | .popc g n d a w => encSR 0x17 g n d a 0 w
  | .bfx g n d a b w => encSR 0x18 g n d a b w
  | .addi d a i => encSI 0x20 d a i
  | .andi d a i => encSI 0x21 d a i
  | .ori d a i => encSI 0x22 d a i
  | .xori d a i => encSI 0x23 d a i
  | .shli d a i => encSI 0x24 d a i
  | .shri d a i => encSI 0x25 d a i
  | .srai d a i => encSI 0x26 d a i
  | .muli d a i => encSI 0x27 d a i
  | .liu d i => encSL 0x30 d i
  | .lih d i => encSL 0x31 d i
  | .cmpeq g n p a b => encSC 0x34 g n p a b
  | .cmpne g n p a b => encSC 0x35 g n p a b
  | .cmplt g n p a b => encSC 0x36 g n p a b
  | .cmple g n p a b => encSC 0x37 g n p a b
  | .cmpltn g n p a b => encSC 0x38 g n p a b
  | .cmplen g n p a b => encSC 0x39 g n p a b
  | .cmpbit g n p a b => encSC 0x3A g n p a b
  | .plog p x y t => encPlog 0x3B p x y t
  | .pfrom g n p a b => encSC 0x3C g n p a b
  | .pto g n d a w => encSR 0x3D g n d a 0 w
  | .br g n o => encSB 0x40 g n o
  | .call g n o => encSB 0x41 g n o
  | .jmp g n a => encSR 0x42 g n 0 a 0 0
  | .loop a => encSI 0x43 0 a 0
  | .loopi i => encSL 0x44 0 i
  | .loops a i => encSI 0x45 0 a i
  | .lidx d i => encSI 0x46 d 0 i
  | .lbrk g n => encSR 0x47 g n 0 0 0 0
  | .halt => encSR 0x48 0 0 0 0 0 0
  | .trap i => encSL 0x49 0 i
  | .tret i => encSL 0x4A 0 i
  | .krd d k => encSK 0x50 d 0 k
  | .kwr a k => encSK 0x51 0 a k
  | .shw e h f a => encSW 0x52 e h f a
  | .shrd e h f a => encSW 0x53 e h f a
  | .exrd d i => encSI 0x54 d 0 i
  | .exclr i => encSI 0x55 0 0 i
  | .cnrd d k => encSK 0x56 d 0 k
  | .cnclr k => encSK 0x57 0 0 k
  | .pbeg i => encSI 0x60 0 0 i
  | .pbega i => encSI 0x61 0 0 i
  | .padv => encSR 0x62 0 0 0 0 0 0
  | .pqry d => encSI 0x63 d 0 0
  | .pub a i => encSI 0x64 0 a i
  | .pubd a => encSI 0x65 0 a 0
  | .pubg a => encSI 0x66 0 a 0
  | .waym a => encSI 0x67 0 a 0
  | .keyset a b => encSR 0x68 0 0 0 a b 0
  | .keykill a => encSI 0x69 0 a 0
  | .mapld a i => encSI 0x6A 0 a i
  | .launch a b => encSR 0x70 0 0 0 a b 0
  | .taskw d a i => encSI 0x71 d a i
  | .grun d a i => encSI 0x72 d a i
  | .gwait d a i => encSI 0x73 d a i
  | .patch a b => encSR 0x74 0 0 0 a b 0
  | .mbxw d a i => encSI 0x75 d a i
  | .vadd g d a b f => encVR 0x01 g d a b f
  | .vsub g d a b f => encVR 0x02 g d a b f
  | .vmul g d a b f => encVR 0x03 g d a b f
  | .vfma g d a b f => encVR 0x04 g d a b f
  | .vfms g d a b f => encVR 0x05 g d a b f
  | .vmin g d a b f => encVR 0x06 g d a b f
  | .vmax g d a b f => encVR 0x07 g d a b f
  | .vabs g d a f => encVR 0x08 g d a 0 f
  | .vneg g d a f => encVR 0x09 g d a 0 f
  | .vrcp g d a f => encVR 0x0A g d a 0 f
  | .vrsq g d a f => encVR 0x0B g d a 0 f
  | .vexp2 g d a f => encVR 0x0C g d a 0 f
  | .vlog2 g d a f => encVR 0x0D g d a 0 f
  | .vand g d a b f => encVR 0x0E g d a b f
  | .vor g d a b f => encVR 0x0F g d a b f
  | .vxor g d a b f => encVR 0x10 g d a b f
  | .vshl g d a b f => encVR 0x11 g d a b f
  | .vshr g d a b f => encVR 0x12 g d a b f
  | .vsra g d a b f => encVR 0x13 g d a b f
  | .vadds g d a b f => encVR 0x14 g d a b f
  | .vsubs g d a b f => encVR 0x15 g d a b f
  | .vmov g d a f => encVR 0x16 g d a 0 f
  | .vsel g d a b f => encVR 0x17 g d a b f
  | .vperm g d a b f => encVR 0x18 g d a b f
  | .vrsum g d a f => encVR 0x19 g d a 0 f
  | .vrmax g d a f => encVR 0x1A g d a 0 f
  | .vrmin g d a f => encVR 0x1B g d a 0 f
  | .vminn g d a b f => encVR 0x1C g d a b f
  | .vmaxn g d a b f => encVR 0x1D g d a b f
  | .vceq g p a b f => encVC 0x20 g p a b f
  | .vcne g p a b f => encVC 0x21 g p a b f
  | .vclt g p a b f => encVC 0x22 g p a b f
  | .vcle g p a b f => encVC 0x23 g p a b f
  | .vcltn g p a b f => encVC 0x24 g p a b f
  | .vclen g p a b f => encVC 0x25 g p a b f
  | .vcvt g d a s t r u => encVX 0x28 g d a s t r u
  | .vpack g d a s t r u => encVX 0x29 g d a s t r u
  | .vunpkl g d a s t r u => encVX 0x2A g d a s t r u
  | .vunpkh g d a s t r u => encVX 0x2B g d a s t r u
  | .vrotm g d a b f => encVR 0x2C g d a b f
  | .vacr g d a s t r u => encVX 0x30 g d a s t r u
  | .vacw g d a s t r u => encVX 0x31 g d a s t r u
  | .vacc g d a s t r u => encVX 0x32 g d a s t r u
  | .vacz g d a s t => encVX 0x33 g d a s t 0 0
  | .ldv g v a i e => encMV 0x01 g v a i e
  | .stv g v a i e => encMV 0x02 g v a i e
  | .lds g v a i => encMV 0x03 g v a i 0
  | .sts g v a i => encMV 0x04 g v a i 0
  | .spl g d o => encMS 0x05 g d o
  | .fil g d o => encMS 0x06 g d o
  | .spls g d o => encMS 0x07 g d o
  | .fils g d o => encMS 0x08 g d o
  | .bacq g a => encMV 0x09 g 0 a 0 0
  | .brel g a => encMV 0x0A g 0 a 0 0
  | .ldg g v a i r c => encMG 0x10 g v a i r c
  | .stg g v a i r c => encMG 0x11 g v a i r c
  | .prfg g a i r c => encMG 0x12 g 0 a i r c
  | .ldgs g v a i r c => encMG 0x13 g v a i r c
  | .stgs g v a i r c => encMG 0x14 g v a i r c
  | .probe g p a b m => encProbe 0x18 g p a b m
  | .pstw g v a i => encMV 0x19 g v a i 0
  | .scld g a i => encMV 0x1A g 0 a i 0
  | .ald g d a o => encMA 0x20 g d a 0 o
  | .ast g a b o => encMA 0x21 g 0 a b o
  | .aadd g d a b o => encMA 0x22 g d a b o
  | .amin g d a b o => encMA 0x23 g d a b o
  | .amax g d a b o => encMA 0x24 g d a b o
  | .aminn g d a b o => encMA 0x25 g d a b o
  | .amaxn g d a b o => encMA 0x26 g d a b o
  | .aand g d a b o => encMA 0x27 g d a b o
  | .aor g d a b o => encMA 0x28 g d a b o
  | .axchg g d a b o => encMA 0x29 g d a b o
  | .acas g d a b o => encMA 0x2A g d a b o
  | .bara g a b o => encMA 0x2B g 0 a b o
  | .barw g a b o => encMA 0x2C g 0 a b o
  | .fence s c k => encFence 0x2D s c k
  | .admitEntry g d a b o => encMA 0x30 g d a b o
  | .lmma h s g a b i => encX 0x01 h s g a b i
  | .lmmaz h s g a b i => encX 0x02 h s g a b i
  | .lmmar h s g a b i => encX 0x03 h s g a b i
  | .ccpy h s g a b i => encX 0x08 h s g a b i
  | .cgth h s g a b i => encX 0x09 h s g a b i
  | .csct h s g a b i => encX 0x0A h s g a b i
  | .ctopk h s g a b i => encX 0x0B h s g a b i
  | .cdrn g i => encX 0x0C 0 0 g 0 0 i
  | .optu s g a b i => encX 0x0D 0 s g a b i
  | .pushix g a => encX 0x10 0 0 g a 0 0
  | .shsw h g i => encX 0x14 h 0 g 0 0 i
  | .ralloc g a b => encX 0x18 0 0 g a b 0
  | .rload h s g a b i => encX 0x19 h s g a b i
  | .rpin h s g a => encX 0x1A h s g a 0 0
  | .runpin h s g a => encX 0x1B h s g a 0 0
  | .rrev h s g a => encX 0x1C h s g a 0 0
  | .rqry g a b => encX 0x1D 0 0 g a b 0
  | .bundleFetch _ => 0
  | .preciseTrap _ => 0
  | .resultLand _ _ => 0
  | .scoreboardArrive _ _ _ => 0
  | .loomRowLand _ => 0
  | .loopEnd _ => 0
  | .waitCyclesExpire _ => 0
  | .safePointYield _ => 0
  | .remoteRefusalReturn _ _ _ => 0
  | .remotePacketReceive _ => 0
  | .resyncMarker _ _ _ _ => 0
  | .scldAppend _ => 0
  | .engineRowLand _ _ _ _ _ _ => 0
  | .engineComplete _ _ _ _ => 0
  | .lmmarRow _ _ _ _ => 0
  | .pstwLand _ _ => 0
  | .rloadComplete _ _ _ _ => 0
  | .rrevDrain _ _ => 0
  | .pubdComplete _ _ => 0
  | .mapldComplete _ _ _ => 0
  | .reeveChunkCopy _ _ _ => 0
  | .phaseCommit _ => 0
  | .pageDemote _ _ => 0
  | .pagePromote _ _ => 0
  | .pageRequest _ _ _ _ => 0
  | .pageAnswer _ => 0
  | .faultRecordWrite => 0
  | .taskDispatch _ => 0
  | .gateOpen _ _ => 0
  | .taskEnd _ _ => 0
  | .bankStall _ => 0
  | .streamThreadHalted _ => 0
  | .saveCommand _ => 0
  | .saveRecordWrite _ => 0
  | .yieldOverdue _ => 0
  | .restoreCommand _ => 0
  | .endCommand _ => 0
  | .contextLoad _ _ _ => 0
  | .mgmtDescribeCxl => 0
  | .mgmtLoadFirmware => 0
  | .mgmtReadTelemetry => 0
  | .mgmtTenantTeardown => 0
  | .mgmtSetMgmtWindow => 0
  | .mgmtBindSharedBase => 0
  | .mgmtUnknownCommand => 0
  | .hostRegisterWrite _ _ _ _ => 0
  | .tableStatusClear => 0
  | .hostCounterClear _ => 0
  | .rotaSwitchRequest => 0
  | .rotaSwitch => 0
  | .routingSelect => 0
  | .routingValidate => 0
  | .routingRetire => 0
  | .hostBar2Load _ _ _ => 0
  | .hostBar2Write _ _ _ _ => 0
  | .hostAtomicop _ _ _ _ _ _ => 0
  | .atsInvalidate _ => 0
  | .flitTransmit _ _ => 0
  | .flitReceive _ _ => 0
  | .laneFailure _ _ => 0
  | .linkRetrainDone _ _ => 0
  | .linkCalibration _ _ => 0
  | .supplyOutOfRange _ _ => 0
  | .coolantOutOfRange _ _ => 0
  | .scrub _ _ => 0
  | .memoryRefresh => 0
  | .telemetrySample _ _ => 0
  | .cxlError _ _ _ => 0
  | .powerOnReset _ => 0
  | .loomAccept _ => 0
  | .acknowledgementReturn _ _ => 0
  | .hostReleaseStop => 0
  | .hostLinkRetrain _ => 0
  | .contextUnload _ => 0

end Sys2Proof
end

