-- ==== Sys2Proof/Machine/Spad.lean ====
section
/-!
DEFINITION. Machine/Spad.lean: spill memory (R162), scratchpad loads and stores (R168), bank ownership (R165), the scale
queue (R259).
-/

namespace Sys2Proof.Machine

/-! ### Scratchpad (R168) -/

/-- The effective address of a format MV access (R160). -/
def spadEa (s : State) (e : Env) (a : BitVec 6) (i : BitVec 7) : W64 := effAddr (readS s e.p a) i

/-- The scratchpad checks of R161 at an effective address. -/
def spadCheck (s : State) (e : Env) (ea : W64) : Option Fail :=
  if spadOk s e.p (s.ctxOf e.p) ea then none else some (.fatal 1 ea 0)

/-- The bound of a scratchpad load (R168): 4 from the core's own banks, 12 from another core's. -/
def spadLat (e : Env) (ea : W64) : Nat := if spadPhys e.p ea = e.p then 4 else 12

/-- Every granule of the row is full (R167). -/
def rowFull (s : State) (p : Nat) (ea : W64) : Bool := spadFe s p ea == BitVec.allOnes 32

/-- A full-empty load is ready: its row is full, or its address fails the checks that follow; an acquiring atomic that
is outstanding holds every access back (R229). -/
def spadReady (s : State) (e : Env) (wait : Bool) (ea : W64) : Bool :=
  !acquireOpen (s.core e.p) && (!wait || !spadOk s e.p (s.ctxOf e.p) ea || rowFull s e.p ea)

/-- The meaning of LDV (R168). -/
def mLdv (g : BitVec 5) (v a : BitVec 6) (i : BitVec 7) (f : BitVec 2) : Meaning :=
  { acts := guardM g
    dests := fun c => [destV c v]
    srcs := fun _ => [destS a]
    ready := fun s e => spadReady s e (f != 0) (spadEa s e a i)
    check := fun s e => spadCheck s e (spadEa s e a i)
    commit := fun s0 e s =>
      let ea := spadEa s0 e a i
      let s := emit e.agent e.slot (destV (s0.core e.p) v) (spadGet s0 e.p ea) (spadLat e ea) 0 s
      if f = 2 then spadPut e.p ea (spadGet s0 e.p ea) (some 0) s else s }

/-- The meaning of STV (R168). -/
def mStv (g : BitVec 5) (v a : BitVec 6) (i : BitVec 7) (f : BitVec 2) : Meaning :=
  { acts := guardM g
    srcs := fun c => [destV c v, destS a]
    ready := fun s e => spadReady s e false (spadEa s e a i)
    check := fun s e => spadCheck s e (spadEa s e a i)
    commit := fun s0 e s =>
      spadPut e.p (spadEa s0 e a i) (readV s0 e.p v) (if f = 1 then some (BitVec.allOnes 32) else none) s }

/-- The meaning of LDS (R168). -/
def mLds (g : BitVec 5) (v a : BitVec 6) (i : BitVec 7) : Meaning :=
  { acts := guardM g
    dests := fun _ => [destS v]
    srcs := fun _ => [destS a]
    ready := fun s e => spadReady s e false (spadEa s e a i)
    check := fun s e => spadCheck s e (spadEa s e a i)
    commit := fun s0 e s =>
      let ea := spadEa s0 e a i
      emit e.agent e.slot (destS v) (asVec (rowWord (spadGet s0 e.p ea) (wordIx ea))) (spadLat e ea) 0 s }

/-- The meaning of STS (R168): only its word of the row changes. -/
def mSts (g : BitVec 5) (v a : BitVec 6) (i : BitVec 7) : Meaning :=
  { acts := guardM g
    srcs := fun _ => [destS v, destS a]
    ready := fun s e => spadReady s e false (spadEa s e a i)
    check := fun s e => spadCheck s e (spadEa s e a i)
    commit := fun s0 e s =>
      let ea := spadEa s0 e a i
      spadPut e.p ea (setRowWord (spadGet s e.p ea) (wordIx ea) (readS s0 e.p v)) none s }

/-! ### Spill memory (R162) -/

/-- The spill row and the word of it that an offset names. -/
def spillRow (o : BitVec 15) : Nat := o.toNat / 64 % 128
def spillWord (o : BitVec 15) : Nat := o.toNat % 64

/-- The meaning of SPL (R162). -/
def mSpl (g : BitVec 5) (d : BitVec 6) (o : BitVec 15) : Meaning :=
  { acts := guardM g
    srcs := fun c => [destV c d]
    commit := fun s0 e s => s.onCore e.p (fun c => { c with spill := Tab.put 0 c.spill (spillRow o) (readV s0 e.p d) }) }

/-- The meaning of FIL (R162). -/
def mFil (g : BitVec 5) (d : BitVec 6) (o : BitVec 15) : Meaning :=
  { acts := guardM g
    dests := fun c => [destV c d]
    commit := fun s0 e s =>
      emit e.agent e.slot (destV (s0.core e.p) d) (Tab.get 0 (s0.core e.p).spill (spillRow o)) 1 0 s }

/-- The meaning of SPLS (R162). -/
def mSpls (g : BitVec 5) (d : BitVec 6) (o : BitVec 15) : Meaning :=
  { acts := guardM g
    srcs := fun _ => [destS d]
    commit := fun s0 e s => s.onCore e.p (fun c => { c with
      spill := Tab.put 0 c.spill (spillRow o)
        (setRowWord (Tab.get 0 c.spill (spillRow o)) (spillWord o) (readS s0 e.p d)) }) }

/-- The meaning of FILS (R162). -/
def mFils (g : BitVec 5) (d : BitVec 6) (o : BitVec 15) : Meaning :=
  { acts := guardM g
    dests := fun _ => [destS d]
    commit := fun s0 e s =>
      emit e.agent e.slot (destS d) (asVec (rowWord (Tab.get 0 (s0.core e.p).spill (spillRow o)) (spillWord o))) 1 0 s }

/-! ### Bank ownership (R165) -/

/-- The banks of core `p` that a mask names: those below S. -/
def maskBanks (s : State) (p : Nat) (m : W64) : List Nat :=
  (List.range (min (s.ctx (s.ctxOf p)).split 16)).filter (fun b => m.getLsbD b)

/-- A bank is OWNED by the task that core `p` runs. -/
def ownedHere (s : State) (p b : Nat) : Bool :=
  let k := Tab.get Bank.zero (s.core p).banks b
  k.state == .owned && k.task == (s.core p).task && k.held == s.ctxOf p + 1

/-- BACQ may acquire: every named bank is FREE or OWNED by this task. -/
def acquirable (s : State) (p : Nat) (m : W64) : Bool :=
  (maskBanks s p m).all (fun b => (Tab.get Bank.zero (s.core p).banks b).state == .free || ownedHere s p b)

/-- A FREE bank becomes OWNED: its full-empty bits all empty, its rows zero when another context held it last. -/
def acquireBank (c b : Nat) (k : Core) : Core :=
  let o := Tab.get Bank.zero k.banks b
  if o.state = .free then
    { k with
      banks := Tab.set k.banks b { state := .owned, task := k.task, held := c + 1 }
      fullEmpty := Tab.eraseRange k.fullEmpty (512 * b) (512 * b + 512)
      spad := if o.held = c + 1 then k.spad else Tab.eraseRange k.spad (512 * b) (512 * b + 512) }
  else k

/-- The meaning of BACQ (R165): all of its banks or none. -/
def mBacq (g : BitVec 5) (a : BitVec 6) : Meaning :=
  { acts := guardM g
    srcs := fun _ => [destS a]
    ready := fun s e => acquirable s e.p (readS s e.p a)
    commit := fun s0 e s =>
      (maskBanks s0 e.p (readS s0 e.p a)).foldl (fun t b => t.onCore e.p (acquireBank (s0.ctxOf e.p) b))
        (s.onCore e.p (fun c => { c with stallSeen := false })) }

/-- The meaning of BREL (R165): banks OWNED by this task become RELEASING, and FREE once no engine row is due. -/
def mBrel (g : BitVec 5) (a : BitVec 6) : Meaning :=
  { acts := guardM g
    srcs := fun _ => [destS a]
    commit := fun s0 e s =>
      let l := (maskBanks s0 e.p (readS s0 e.p a)).filter (ownedHere s0 e.p)
      releaseCore e.p (s.onCore e.p (fun c => { c with banks := c.banks.map (fun (k : Nat × Bank) =>
        if l.contains k.1 then (k.1, { k.2 with state := .releasing }) else k) }))
    rank := 3 }

/-! ### The scale queue (R259) -/

/-- The 16 scales of a granule of a row. -/
def scalesOf (r : Vec) (q : Nat) : List (BitVec 16) := (List.range 16).map (fun k => BitVec.ofNat 16 (elem r 16 (16 * q + k)))

/-- Scales queued and outstanding. -/
def scaleCount (c : Core) : Nat := c.scaleQ.length + 16 * c.sclds.length

/-- Scales queued and outstanding that no Loom instruction in flight has still to take. -/
def scalesFree (c : Core) : Nat := scaleCount c - (c.loom.map LoomJob.owed).sum

/-- The meaning of SCLD (R259). -/
def mScld (g : BitVec 5) (a : BitVec 6) (i : BitVec 7) : Meaning :=
  { acts := guardM g
    srcs := fun _ => [destS a]
    ready := fun s e => decide (scaleCount (s.core e.p) + 16 ≤ 64)
    pushes := 16
    check := fun s e => spadCheck s e (spadEa s e a i)
    commit := fun s0 e s =>
      let ea := spadEa s0 e a i
      s.onCore e.p (fun c => { c with scaleOp := true, sclds := c.sclds ++ [
        { scales := scalesOf (spadGet s0 e.p ea) (fld ea 5 4), owner := spadPhys e.p ea, row := spadRow ea,
          gran := fld ea 5 4, issue := s0.cycle }] }) }

/-- SCLD_APPEND (R259): the oldest SCLD's scales join the queue; a store since its issue gives the old row or the new. -/
def scldAppend (p : Nat) (s : State) : State :=
  match (s.core p).sclds with
  | [] => s
  | j :: r =>
    let now := scalesOf (Tab.get 0 (s.core j.owner).spad j.row) j.gran
    let l := if Config.pick s.freeCtr (j.row + 1) % 2 = 1 then now else j.scales
    s.onCore p (fun c => joinScales l { c with sclds := r })

/-- SCLD_APPEND (R259): the scales of the oldest SCLD of core `p` join the tail of its scale queue. -/
def execScldAppend (p : Nat) (s : State) : Host.Outcome State Fault Refusal :=
  happen (fun s => coreAlive s p) (scldAppend p) s

/-- LDV (R168): loads a scratchpad row, optionally waiting for and consuming full bits. -/
def execLdv (g : BitVec 5) (v a : BitVec 6) (i : BitVec 7) (e : BitVec 2) (s : State) : Host.Outcome State Fault Refusal :=
  issueOne (.ldv g v a i e) (mLdv g v a i e) s

/-- STV (R168): stores a scratchpad row, optionally setting full bits. -/
def execStv (g : BitVec 5) (v a : BitVec 6) (i : BitVec 7) (e : BitVec 2) (s : State) : Host.Outcome State Fault Refusal :=
  issueOne (.stv g v a i e) (mStv g v a i e) s

/-- LDS (R168): loads one scratchpad word into a scalar register. -/
def execLds (g : BitVec 5) (v a : BitVec 6) (i : BitVec 7) (s : State) : Host.Outcome State Fault Refusal :=
  issueOne (.lds g v a i) (mLds g v a i) s

/-- STS (R168): stores one scalar word into a scratchpad row. -/
def execSts (g : BitVec 5) (v a : BitVec 6) (i : BitVec 7) (s : State) : Host.Outcome State Fault Refusal :=
  issueOne (.sts g v a i) (mSts g v a i) s

/-- SPL (R162): stores a vector register to a spill row. -/
def execSpl (g : BitVec 5) (d : BitVec 6) (o : BitVec 15) (s : State) : Host.Outcome State Fault Refusal :=
  issueOne (.spl g d o) (mSpl g d o) s

/-- FIL (R162): loads a vector register from a spill row. -/
def execFil (g : BitVec 5) (d : BitVec 6) (o : BitVec 15) (s : State) : Host.Outcome State Fault Refusal :=
  issueOne (.fil g d o) (mFil g d o) s

/-- SPLS (R162): stores a scalar register to a spill word. -/
def execSpls (g : BitVec 5) (d : BitVec 6) (o : BitVec 15) (s : State) : Host.Outcome State Fault Refusal :=
  issueOne (.spls g d o) (mSpls g d o) s

/-- FILS (R162): loads a scalar register from a spill word. -/
def execFils (g : BitVec 5) (d : BitVec 6) (o : BitVec 15) (s : State) : Host.Outcome State Fault Refusal :=
  issueOne (.fils g d o) (mFils g d o) s

/-- BACQ (R165): acquires scratchpad banks, zeroing them across contexts. -/
def execBacq (g : BitVec 5) (a : BitVec 6) (s : State) : Host.Outcome State Fault Refusal :=
  issueOne (.bacq g a) (mBacq g a) s

/-- BREL (R165): releases owned scratchpad banks. -/
def execBrel (g : BitVec 5) (a : BitVec 6) (s : State) : Host.Outcome State Fault Refusal :=
  issueOne (.brel g a) (mBrel g a) s

/-- SCLD (R259): pushes 16 activation scales toward the scale queue. -/
def execScld (g : BitVec 5) (a : BitVec 6) (i : BitVec 7) (s : State) : Host.Outcome State Fault Refusal :=
  issueOne (.scld g a i) (mScld g a i) s

end Sys2Proof.Machine
end

