-- ==== Sys2Proof/Machine/Publish.lean ====
section
/-!
DEFINITION. Machine/Publish.lean: publication: PUB, PUBG, PUBD (R313 to R315), their waits for earlier accesses of the
core, and the acknowledgement of accesses that return no value (R223).
-/

namespace Sys2Proof.Machine

/-! ### Tags (R313, R314) -/

/-- The first tag and the number of tags of a group word (R314). -/
def groupFirst (w : W64) : Nat := fld w 0 12
def groupCount (w : W64) : Nat := fld w 12 12 + 1

/-- Every tag of a group names a valid published buffer. -/
def groupOk (x : Ctx) (t n : Nat) : Bool := (List.range n).all (fun k => published x (t + k))

/-- The tag of a PUB (R313). -/
def pubTag (s : State) (p : Nat) (a : BitVec 6) (i : BitVec 13) : Nat := (immResult .addi (readS s p a) i).toNat

/-! ### The swap (R312, R313, R307) -/

/-- The front and back rows of a buffer change for the residencies of every core (R307). -/
def staleBuffer (c : Nat) (b : BitVec 256) (s : State) : State :=
  let m := (s.ctx c).phase.toNat
  (List.range (bufRows b)).foldl (fun t k =>
    staleRow c m (fun _ => true) (bufAlt b + 512 * k) (staleRow c m (fun _ => true) (bufHome b + 512 * k) t)) s

/-- A published buffer is swapped for every observer at once; the publishing core has seen it (R219). -/
def swapBuffer (p c tag : Nat) (s : State) : State :=
  let b := Tab.get 0 (s.ctx c).buffers tag
  let n := Tab.get 0 (s.ctx c).swaps tag + 1
  let s := s.onCtx c (fun x => { x with buffers := Tab.set x.buffers tag (b ^^^ 4), swaps := Tab.set x.swaps tag n })
  let s := s.onCore p (fun k => { k with seen := Tab.set k.seen tag n, ownPubs := Tab.set k.ownPubs tag n })
  staleBuffer c b s

/-- A group is swapped in one instant. -/
def swapGroup (p c t n : Nat) (s : State) : State := (List.range n).foldl (fun u k => swapBuffer p c (t + k) u) s

/-- PUBG at the home slice of its guard (R314): one step. -/
def guardedSwap (p c va t n : Nat) (s : State) : State :=
  let add (k : Nat) (s : State) : State := atomAct c .add ((va / 8 * 8 + k) % 2 ^ 48) 1 0 false [] s
  if memWord s c va = 0 then add 8 (swapGroup p c t n s) else add 16 s

/-- A PUB or PUBG that waits, or need not wait, is performed. A guard that the home slice refuses is fatal (R221, R274; log 69). -/
def performPub (p : Nat) (a : Access) (s : State) : State :=
  let c := s.ctxOf p
  if a.kind = .pubg then
    if (accessRefused s c a).isSome then fatalAt p 1 a.addr 0 a.bundle s
    else if poisoned s c (rowVa a.addr) then fatalAt p 2 a.addr 0 a.bundle s
    else guardedSwap p c (vaOf a.addr) a.x.toNat a.y.toNat (atomLine c (vaOf a.addr) s)
  else swapGroup p c a.x.toNat a.y.toNat s

/-- No earlier access of the core, and no earlier PUBD, is outstanding (R227). -/
def pubFree (c : Core) (issue : Nat) : Bool :=
  c.board.all (fun e => !e.ofMemory || decide (issue ≤ e.issue)) && c.pubds.all (fun j => decide (issue ≤ j.issue))

/-- A PUB or PUBG issues (R313): it is performed at once, or after every earlier access of its core and, a PUBG, once its guard is not on
the host tier (R351); it never freezes. -/
def issuePub (p : Nat) (a : Access) (s : State) : State :=
  if pubFree (s.core p) s.cycle && !hostTierWaits s (s.ctxOf p) a then performPub p a s else addAccess p a s

/-- The access of a PUB (R313) or PUBG (R314). -/
def pubAccess (s0 : State) (e : Env) (kind : AccKind) (ea : W64) (t n : Nat) : Access :=
  { newAccess s0 e kind .none ea with x := BitVec.ofNat 64 t, y := BitVec.ofNat 64 n, mask := 0, own := 0 }

/-- The meaning of PUB (R313). -/
def mPub (a : BitVec 6) (i : BitVec 13) : Meaning :=
  { srcs := fun _ => [destS a]
    check := fun s e => if published (s.ctx (s.ctxOf e.p)) (pubTag s e.p a i) then none else some (.trap 2 58 0 0)
    commit := fun s0 e s => issuePub e.p (pubAccess s0 e .pub 0 (pubTag s0 e.p a i) 1) s
    rank := 3 }

/-- The checks of PUBG (R314), by the precedence of R75. -/
def pubgCheck (s : State) (e : Env) (ea w : W64) : Option Fail :=
  if !groupOk (s.ctx (s.ctxOf e.p)) (groupFirst w) (groupCount w) then some (.trap 2 58 0 0)
  else if isRemote ea then some (.trap 2 63 0 0)
  else globalCheck s e ea .store

/-- The meaning of PUBG (R314). -/
def mPubg (a : BitVec 6) : Meaning :=
  { srcs := fun _ => [destS a, destS (a + 1)]
    decode := fun _ _ => if a.getLsbD 0 then some 59 else none
    check := fun s e => pubgCheck s e (readS s e.p a) (readS s e.p (a + 1))
    commit := fun s0 e s =>
      let w := readS s0 e.p (a + 1)
      issuePub e.p (pubAccess s0 e .pubg (readS s0 e.p a) (groupFirst w) (groupCount w)) s
    rank := 3 }

/-- The meaning of PUBD (R315). -/
def mPubd (a : BitVec 6) : Meaning :=
  { srcs := fun _ => [destS a]
    check := fun s e =>
      let w := readS s e.p a
      if groupOk (s.ctx (s.ctxOf e.p)) (groupFirst w) (groupCount w) then none else some (.trap 2 58 0 0)
    commit := fun s0 e s =>
      let w := readS s0 e.p a
      s.onCore e.p (fun k => { k with pubds := k.pubds ++ [
        { ctx := s0.ctxOf e.p, tag := groupFirst w, n := groupCount w, issue := s0.cycle }] })
    rank := 3 }

/-! ### PUBD's copy (R315) -/

/-- The front of a buffer is copied into its back, row by row. DEDUCED (log 58): a back row that the map refuses, as in a
copy-on-write region whose base is never written (R274), is left as it is. -/
def copyFront (c tag : Nat) (s : State) : State :=
  let b := Tab.get 0 (s.ctx c).buffers tag
  (List.range (bufRows b)).foldl (fun t k =>
    let va := bufHome b + 512 * k
    let back := backTag (t.ctx c) tag va
    if (mapRefuses (t.ctx c) back .live).isSome then t else writeBacking c back (memRow t c va) t) s

/-- PUBD `i` of core `p` completes after every earlier access and every earlier PUBD of the core (R227). -/
def pubdComplete (p i : Nat) (s : State) : State :=
  let k := s.core p
  match k.pubds[i]? with
  | none => s
  | some j =>
    if alive s j.ctx && startedAt k j.issue && (k.pubds.take i).isEmpty then
      (List.range j.n).foldl (fun t m => copyFront j.ctx (j.tag + m) t)
        (s.onCore p (fun k => { k with pubds := listDrop k.pubds i }))
    else s

/-- PUBD_COMPLETE (R315): every row of the discard `i` of core `p` has been copied. -/
def execPubdComplete (p i : Nat) (s : State) : Host.Outcome State Fault Refusal :=
  happen (fun _ => true) (pubdComplete p i) s

/-! ### Acknowledgements (R223) -/

/-- An access that returns no value is acknowledged (R223): a remote one held back at injection is injected first; a
local AST, BARA, PUB or PUBG acts at its home slice. -/
def acknowledge (p i : Nat) (s : State) : State :=
  match (s.core p).board[i]? with
  | none => s
  | some a =>
    if a.returns then s
    else if a.remote then
      if a.sent then dropAccess p i s else if mayAct s p i then inject p i s else s
    else if mayAct s p i && !hostTierWaits s (s.ctxOf p) a then
      if a.publishes then performPub p a (dropAccess p i s)
      else if (accessRefused s (s.ctxOf p) a).isSome then fatalAt p 1 a.addr 0 a.bundle (dropAccess p i s)
      else dropAccess p i (actWord p a s)
    else s

/-- ACKNOWLEDGEMENT_RETURN (R223): access `i` of core `p`, which returns no value, is acknowledged. -/
def execAcknowledgementReturn (p i : Nat) (s : State) : Host.Outcome State Fault Refusal :=
  happen (fun s => coreAlive s p) (acknowledge p i) s

/-- PUB (R313): swaps the front and back of one published buffer. -/
def execPub (a : BitVec 6) (i : BitVec 13) (s : State) : Host.Outcome State Fault Refusal :=
  issueOne (.pub a i) (mPub a i) s

/-- PUBG (R314): swaps a group of buffers only if the guard word is zero. -/
def execPubg (a : BitVec 6) (s : State) : Host.Outcome State Fault Refusal :=
  issueOne (.pubg a) (mPubg a) s

/-- PUBD (R315): starts copying fronts into backs for a group of buffers. -/
def execPubd (a : BitVec 6) (s : State) : Host.Outcome State Fault Refusal :=
  issueOne (.pubd a) (mPubd a) s

end Sys2Proof.Machine
end

