-- ==== Sys2Proof/Machine/Sys.lean ====
section
/-!
DEFINITION. Machine/Sys.lean: the fill mask (R319), key slots (R323), counters (R329 to R331) and the holding area of
fault records (R263).
-/

namespace Sys2Proof.Machine

/-! ### WAYM (R319) -/

/-- A tenant entry with its fill mask set within allowed. -/
def setMask (m : Nat) (t : BitVec 128) : BitVec 128 :=
  (t &&& ~~~((0xFFFF : BitVec 128) <<< 32)) ||| (BitVec.ofNat 128 (m % 2 ^ 16 &&& tenantAllowed t) <<< 32)

/-- The meaning of WAYM (R319). -/
def mWaym (a : BitVec 6) : Meaning :=
  { srcs := fun _ => [destS a]
    commit := fun s0 e s =>
      let t := Tab.upd 0 s.tenants (s0.ctx (s0.ctxOf e.p)).tenant (setMask (fld (readS s0 e.p a) 0 16))
      { s with tenants := t }
    rank := 3 }

/-! ### Key slots (R322, R323) -/

/-- Key slot `k` lies in the window of the tenant (R322). -/
def inWindow (s : State) (tenant k : Nat) : Bool :=
  let t := Tab.get 0 s.tenants tenant
  decide (tenantKbase t ≤ k) && decide (k < tenantKbase t + tenantKcount t)

/-- The slot a key instruction names. -/
def keySlot (s : State) (p : Nat) (a : BitVec 6) : Nat := fld (readS s p a) 0 12

/-- The tenant of the context of a core. -/
def tenantOf (s : State) (p : Nat) : Nat := (s.ctx (s.ctxOf p)).tenant

/-- The 32 bytes at a local address, read as an LDG of core `p` (R323). -/
def keyBytes (s : State) (p : Nat) (a : W64) : BitVec 256 :=
  let c := s.ctxOf p
  let lo := loadRow s p c (rowVa a)
  let hi := loadRow s p c (rowVa a + 512)
  BitVec.ofNat 256 ((lo.toNat + hi.toNat * 2 ^ 4096) / 2 ^ (8 * (vaOf a % 512)))

/-- The 32 bytes at an address reach into the next row. -/
def keySpills (a : W64) : Bool := decide (480 < vaOf a % 512)

/-- A row that the 32 bytes at a local address lie in is poisoned. -/
def keyPoisoned (s : State) (c : Nat) (a : W64) : Bool :=
  poisoned s c (rowVa a) || (keySpills a && poisoned s c (rowVa a + 512))

/-- The checks of KEYSET, by the precedence of R75. -/
def keysetCheck (s : State) (p k : Nat) (b : W64) : Option Fail :=
  if !inWindow s (tenantOf s p) k then some (.trap 2 60 0 0)
  else if (Tab.get KeySlot.zero s.keys k).state = 1 then some (.trap 2 61 0 0)
  else if b = 0 then none
  else if !globalOk s (s.ctxOf p) b .load then some (.fatal 1 b 0)
  else if !isRemote b && keyPoisoned s (s.ctxOf p) b then some (.fatal 2 b 0)
  else none

/-- A key slot filled for a tenant. -/
def fillKey (tenant k : Nat) (key : BitVec 256) (s : State) : State :=
  { s with keys := Tab.upd KeySlot.zero s.keys k (fun o => { state := 1, tenant := tenant, key := key, epoch := o.epoch + 1 }) }

/-- A KEYSET asks another device for the row of its 32 bytes, or for both rows (R323), as LDGs of class ORD; the access keeps the key
slot and the count of its keys. -/
def askKey (s0 : State) (e : Env) (k : Nat) (y : W64) (s : State) : State :=
  let row (a : W64) : Access :=
    { newAccess s0 e .keyset .none a with
      addr2 := y, x := BitVec.ofNat 64 k, y := BitVec.ofNat 64 (Tab.get KeySlot.zero s.keys k).epoch }
  let t := addAccess e.p (row y) s
  if keySpills y then addAccess e.p (row (BitVec.ofNat 64 (y.toNat / 2 ^ 48 * 2 ^ 48 + (rowVa y + 512) % 2 ^ 48))) t else t

/-- The key that a KEYSET fills its slot with at commit (R323): a fresh one, or the 32 bytes at s[b]; a free value while those of
another device are on their way. -/
def keyOfSet (s : State) (e : Env) (y : W64) : BitVec 256 :=
  if y = 0 then Config.randomKey (2 * s.freeCtr + e.slot % 2)
  else if isRemote y then (Config.undef s.freeCtr 0).setWidth 256
  else keyBytes s e.p y

/-- The meaning of KEYSET (R323). -/
def mKeyset (a b : BitVec 6) : Meaning :=
  { srcs := fun _ => [destS a, destS b]
    check := fun s e => keysetCheck s e.p (keySlot s e.p a) (readS s e.p b)
    commit := fun s0 e s =>
      let y := readS s0 e.p b
      let k := keySlot s0 e.p a
      let t := fillKey (tenantOf s0 e.p) k (keyOfSet s0 e y) s
      if y ≠ 0 ∧ isRemote y = true then askKey s0 e k y t else t
    rank := 3 }

/-- A LIVE key slot destroyed; transfers out of the package under it are abandoned (R323). -/
def killKey (k : Nat) (s : State) : State :=
  abandonKeys { s with keys := Tab.upd KeySlot.zero s.keys k (fun o => if o.state = 1 then { o with state := 2, key := 0 } else o) }

/-- The meaning of KEYKILL (R323). -/
def mKeykill (a : BitVec 6) : Meaning :=
  { srcs := fun _ => [destS a]
    check := fun s e => if inWindow s (tenantOf s e.p) (keySlot s e.p a) then none else some (.trap 2 60 0 0)
    commit := fun s0 e s => killKey (keySlot s0 e.p a) s
    rank := 3 }

/-! ### Counters (R329, R330) -/

def isChf (k : Nat) : Bool := decide (0x800 ≤ k) && decide (k < 0x804)
def isCtxCounter (k : Nat) : Bool := decide (0x820 ≤ k) && decide (k < 0x826)
def isCoreCounter (k : Nat) : Bool := decide (0x840 ≤ k) && decide (k < 0x845)

/-- The counter numbers of R329. -/
def counterKnown (k : Nat) : Bool :=
  isChf k || k == 0x810 || k == 0x811 || isCtxCounter k || k == 0x830 || k == 0x831 || isCoreCounter k

/-- The value of a counter as core `p` reads it (R329). -/
def counterRead (s : State) (p k : Nat) : W64 :=
  let x := s.ctx (s.ctxOf p)
  let l := (s.core p).lcore
  if isChf k then Tab.get 0 x.chf (4 * l + k % 4)
  else if k = 0x810 then BitVec.ofNat 64 s.cycle
  else if k = 0x811 then BitVec.ofNat 64 s.tickets
  else if isCtxCounter k then BitVec.ofNat 64 (Tab.get 0 x.ctr k)
  else if k = 0x830 then BitVec.ofNat 64 (l2Occupancy s x.tenant)
  else if k = 0x831 then BitVec.ofNat 64 (Tab.get 0 s.l2fill x.tenant)
  else BitVec.ofNat 64 (Tab.get 0 x.coreCtr (l * 16 + k % 16))

/-- The meaning of CNRD (R330). -/
def mCnrd (d : BitVec 6) (k : BitVec 13) : Meaning :=
  { scalarWrite (fun _ _ => true) d [] 4 (fun s e => (counterRead s e.p k.toNat, 0)) with
    thread := false
    decode := fun _ _ => if counterKnown k.toNat then none else some 15 }

/-- CNCLR of the counter is refused (R329, R331). -/
def clearRefused (steward : Bool) (k : Nat) : Bool :=
  !counterKnown k || k == 0x810 || k == 0x811 || k == 0x830 || (isChf k && !steward)

/-- An address of another device, to name it in a packet. -/
def deviceAddr (dev : Nat) : W64 := BitVec.ofNat 64 (2 ^ 48 + dev % 64 * 2 ^ 49)

/-- A channel of core `p` is resynchronised (R331): a marker in class ORD to every target of a refused flow. -/
def resync (p ch : Nat) (s : State) : State :=
  let c := s.ctxOf p
  let l := (s.core p).lcore
  let mine (f : Nat) : Bool := f / 64 == 4 * l + ch
  let devs := ((s.ctx c).refused.filter mine).map (fun f => f % 64)
  let s := s.onCtx c (fun x => { x with refused := x.refused.filter (fun f => !(mine f)) })
  devs.foldl (fun t d => sendPacket p c ch 0 (deviceAddr d) .resync t) s

/-- A counter cleared by core `p` (R330, R331). -/
def counterClear (p k : Nat) (s : State) : State :=
  let c := s.ctxOf p
  let l := (s.core p).lcore
  if isChf k then resync p (k % 4) (s.onCtx c (fun x => { x with chf := Tab.put 0 x.chf (4 * l + k % 4) 0 }))
  else if isCtxCounter k then s.onCtx c (fun x => { x with ctr := Tab.put 0 x.ctr k 0 })
  else if k = 0x831 then { s with l2fill := Tab.put 0 s.l2fill (s.ctx c).tenant 0 }
  else if isCoreCounter k then s.onCtx c (fun x => { x with coreCtr := Tab.put 0 x.coreCtr (l * 16 + k % 16) 0 })
  else s

/-- The meaning of CNCLR (R330): an event of its own bundle is counted after the clear. -/
def mCnclr (k : BitVec 13) : Meaning :=
  { decode := fun s p => if clearRefused (s.core p).steward k.toNat then some 15 else none
    commit := fun _ e s => counterClear e.p k.toNat s }

/-! ### The holding area (R263) -/

/-- The oldest record of the holding area is written to its ring. -/
def writeHeld (s : State) : State :=
  match s.held with
  | [] => s
  | r :: rest =>
    if s.faultQ.open then
      let w := ringWrite s.faultQ s.hostMem 64 (r.word s.lost)
      { s with faultQ := w.1, hostMem := w.2, held := rest, lost := 0, msix := s.msix ++ [s.faultQ.vector] }
    else s

/-- FAULT_RECORD_WRITE (R263): a record of the holding area goes to its ring, when that is armed and not full. -/
def execFaultRecordWrite (s : State) : Host.Outcome State Fault Refusal :=
  happen (fun _ => true) writeHeld s

/-- WAYM (R319): sets the tenant's L2 fill mask. -/
def execWaym (a : BitVec 6) (s : State) : Host.Outcome State Fault Refusal :=
  issueOne (.waym a) (mWaym a) s

/-- KEYSET (R323): fills a key slot and makes it LIVE. -/
def execKeyset (a b : BitVec 6) (s : State) : Host.Outcome State Fault Refusal :=
  issueOne (.keyset a b) (mKeyset a b) s

/-- KEYKILL (R323): destroys the key of a LIVE slot. -/
def execKeykill (a : BitVec 6) (s : State) : Host.Outcome State Fault Refusal :=
  issueOne (.keykill a) (mKeykill a) s

/-- CNRD (R330): reads a counter. -/
def execCnrd (d : BitVec 6) (k : BitVec 13) (s : State) : Host.Outcome State Fault Refusal :=
  issueOne (.cnrd d k) (mCnrd d k) s

/-- CNCLR (R330): clears a counter at commit, resynchronising ORD flows for CHF. -/
def execCnclr (k : BitVec 13) (s : State) : Host.Outcome State Fault Refusal :=
  issueOne (.cnclr k) (mCnclr k) s

end Sys2Proof.Machine
end

