-- ==== Sys2Proof/Machine/Stream.lean ====
section
/-!
DEFINITION. Machine/Stream.lean: the stream-only instructions: task records and LAUNCH (R246 to R248), TASKW, graph replays
(R255 to R257), mailboxes (R258), and the checks of R359. A failed check is a fatal context error of cause 7 whose info is
the detail of R359.
-/

namespace Sys2Proof.Machine

/-! ### Words read and written live (R247, R359) -/

/-- The `n` bytes from an address lie in the context's own memory, by pages, and pass the checks of R161. -/
def ownRange (s : State) (c : Nat) (a : W64) (n : Nat) (w : Want) : Bool :=
  !isRemote a && globalOk s c a w && decide (vaOf a + n ≤ 2 ^ 48)
    && (List.range ((vaOf a + max n 1 - 1) / 65536 - vaOf a / 65536 + 1)).all (fun k =>
      (mapRefuses (s.ctx c) ((vaOf a / 65536 + k) * 65536) w).isNone)

/-- Why the `n` bytes from an address may not be used: detail 1 of R359, or poisoned data (R161). -/
def rangeFail (s : State) (c : Nat) (a : W64) (n : Nat) (w : Want) : Option Fail :=
  if !ownRange s c a n w then some (.fatal 7 a 1)
  else if rangePoisoned s c (vaOf a) (max n 1) then some (.fatal 2 a 0)
  else none

/-- An object of 8-byte words at an aligned address. -/
def objectFail (s : State) (c : Nat) (a : W64) (n : Nat) (w : Want) : Option Fail :=
  if a.toNat % 8 ≠ 0 then some (.fatal 7 a 1) else rangeFail s c a n w

/-- The first failure of a list of checks. -/
def firstOf (l : List (Option Fail)) : Option Fail := l.findSome? id

/-- Word `k` of an object, read live. -/
def objWord (s : State) (c : Nat) (a : W64) (k : Nat) : W64 := memWord s c (vaOf a + 8 * k)

/-- A word written live at its home slice (R218). -/
def liveStore (c va : Nat) (v : W64) (s : State) : State := atomAct c .st va v 0 false [] s

/-- A word raised by 1 live. -/
def liveBump (c va : Nat) (s : State) : State := atomAct c .add va 1 0 false [] s

/-- `n` bytes written live from an address, each word once. -/
def liveBytes (c va n v : Nat) (s : State) : State :=
  if n = 0 then s
  else
    (List.range ((va + n - 1) / 8 - va / 8 + 1)).foldl (fun t k =>
      let w := va / 8 + k
      let old := memWord t c (8 * w)
      let new := (gather 8 (fun b =>
        let at_ := 8 * w + b
        ((if va ≤ at_ ∧ at_ < va + n then v / 2 ^ (8 * (at_ - va)) % 256 else fld old (8 * b) 8), 0)) 8).1
      liveStore c (8 * w) (BitVec.ofNat 64 new) t) s

/-! ### Task records (R246, R248) -/

/-- The clusters of a record. -/
def recClusters (s : State) (c : Nat) (a : W64) : BitVec 128 :=
  (objWord s c a 3).setWidth 128 <<< 64 ||| (objWord s c a 2).setWidth 128

/-- The logical clusters of a set. -/
def clusterList (b : BitVec 128) : List Nat := (List.range 80).filter (fun k => b.getLsbD k)

/-- A field of the record lies out of its range, or a reserved bit or byte is set. -/
def recordMalformed (s : State) (c : Nat) (a : W64) : Bool :=
  fld (objWord s c a 0) 35 29 != 0 || objWord s c a 7 != 0 || fld (objWord s c a 3) 16 48 != 0
    || fld (objWord s c a 4) 1 2 != 0

/-- The clusters of the record are named, and the context's own (R249). -/
def clustersOk (x : Ctx) (b : BitVec 128) : Bool :=
  !(clusterList b).isEmpty && (clusterList b).all (fun k => (Tab.get (0 : BitVec 16) x.placement k).getLsbD 15)

/-- The checks of LAUNCH on a record (R248, R359), in its order. -/
def recordFail (s : State) (c : Nat) (a : W64) : Option Fail :=
  let gate := objWord s c a 4
  firstOf
    [ objectFail s c a 64 .load
    , rangeFail s c (a + 40) 8 .live
    , if (s.ctx c).code.length / 6 ≤ fld (objWord s c a 0) 0 32 then some (.fatal 7 a 4) else none
    , if recordMalformed s c a then some (.fatal 7 a 2) else none
    , if gate = 0 then none else rangeFail s c (gate &&& ~~~7) 8 .load
    , if clustersOk (s.ctx c) (recClusters s c a) then none else some (.fatal 7 a 2) ]

/-- A launch of a record joins the task queue (R248). -/
def enqueue (c : Nat) (a args : W64) (graph : Option (Nat × Nat)) (s : State) : State :=
  let w := objWord s c a 0
  let q : QEntry :=
    { record := vaOf a, args := args, prio := fld w 32 3, clusters := recClusters s c a, gate := objWord s c a 4,
      entry := BitVec.ofNat 32 (fld w 0 32), enq := s.cycle, opened := objWord s c a 4 == 0, acq := [], graph := graph }
  let s := liveBump c (vaOf a + 40) s
  s.onCtx c (fun x => { x with queue := x.queue ++ [q] })

/-- The task queue of the context has room (R241). -/
def queueRoom (s : State) (c : Nat) : Bool := decide ((s.ctx c).queue.length < 64)

/-- The meaning of LAUNCH (R248). -/
def mLaunch (a b : BitVec 6) : Meaning :=
  { thread := true
    check := fun s e => recordFail s (e.c s) (readAS s e.agent a)
    ready := fun s e => queueRoom s (e.c s)
    commit := fun s0 e s =>
      let r := readAS s0 e.agent a
      let y := readAS s0 e.agent b
      enqueue (e.c s0) r (if y = 0 then objWord s0 (e.c s0) r 1 else y) none s }

/-! ### Waits that fix a value (R245) -/

/-- The value a wait has fixed in its first cycle, or fixes now. -/
def fixedOr (s : State) (c : Nat) (now : W64) : W64 := ((s.ctx c).thr.fixed).getD now

/-- The value is fixed. -/
def fixNow (c : Nat) (v : W64) (s : State) : State :=
  s.onCtx c (fun x => { x with thr := { x.thr with fixed := some v } })

/-- A wait until word `done` of the object at s[a] reaches what word `goal` held when the wait began; s[d] takes it. -/
def mWaitCount (goal done : Nat) (n : Nat) (d a : BitVec 6) : Meaning :=
  { thread := true
    check := fun s e => objectFail s (e.c s) (readAS s e.agent a) n .load
    ready := fun s e =>
      let r := readAS s e.agent a
      (fixedOr s (e.c s) (objWord s (e.c s) r goal)).ule (objWord s (e.c s) r done)
    hold := fun s0 e s => fixNow (e.c s0) (fixedOr s0 (e.c s0) (objWord s0 (e.c s0) (readAS s0 e.agent a) goal)) s
    commit := fun s0 e s =>
      emit e.agent e.slot (destS d) (asVec (objWord s0 (e.c s0) (readAS s0 e.agent a) done)) 1 0 s }

/-- The meaning of TASKW (R248): it waits for every launch of the record issued before it. -/
def mTaskw (d a : BitVec 6) (_i : BitVec 13) : Meaning := mWaitCount 5 6 64 d a

/-- The meaning of GWAIT (R257): it waits for every replay of the graph started before it. -/
def mGwait (d a : BitVec 6) (_i : BitVec 13) : Meaning := mWaitCount 1 2 64 d a

/-! ### Graph objects (R255) -/

def graphSize (s : State) (c : Nat) (g : W64) : Nat := fld (objWord s c g 0) 0 32
def graphState (s : State) (c : Nat) (g : W64) : Nat := fld (objWord s c g 0) 32 32
def graphBack (s : State) (c : Nat) (g : W64) : Nat := graphState s c g % 2
def graphStale (s : State) (c : Nat) (g : W64) : Bool := graphState s c g / 2 % 2 == 1
def graphBusy (s : State) (c : Nat) (g : W64) (f : Nat) : Bool := graphState s c g / 2 ^ (2 + f) % 2 == 1

/-- The address of block `f` of a graph. -/
def graphBlock (s : State) (c : Nat) (g : W64) (f : Nat) : Nat := vaOf g + 64 + f * graphSize s c g

/-- The state word of a graph written, its size kept. -/
def setGraphState (c : Nat) (g : W64) (v : Nat) (s : State) : State :=
  liveStore c (vaOf g) (BitVec.ofNat 64 (graphSize s c g + v % 2 ^ 32 * 2 ^ 32)) s

/-- A reserved bit or byte of a graph object is set. DESIGN CHOICE (log 21): its size field is held to no limit here; R89 gives the
limits of the directive. -/
def graphMalformed (s : State) (c : Nat) (g : W64) : Bool :=
  decide (16 ≤ graphState s c g) || (List.range 5).any (fun k => objWord s c g (3 + k) != 0)

/-- The checks on a graph that is written (R256, R257, R359). -/
def graphFail (s : State) (c : Nat) (g : W64) : Option Fail :=
  firstOf
    [ objectFail s c g 64 .live
    , if graphMalformed s c g then some (.fatal 7 g 2) else none
    , rangeFail s c g (64 + 2 * graphSize s c g) .live ]

/-- A stale back block takes the front's parameters (R256, R257). -/
def refreshBack (c : Nat) (g : W64) (s : State) : State :=
  if graphStale s c g then
    let n := graphSize s c g
    let b := graphBack s c g
    liveBytes c (graphBlock s c g b) n (memRead s c (graphBlock s c g (1 - b)) n) s
  else s

/-! ### PATCH (R256) -/

def patchGraph (s : State) (c : Nat) (a : W64) : W64 := objWord s c a 0
def patchOff (s : State) (c : Nat) (a : W64) : Nat := fld (objWord s c a 2) 0 32
def patchSize (s : State) (c : Nat) (a : W64) : Nat := fld (objWord s c a 2) 32 32

/-- The source of a patch. -/
def patchSource (s : State) (c : Nat) (a b : W64) : W64 := if b = 0 then objWord s c a 1 else b

/-- The checks of PATCH. -/
def patchFail (s : State) (c : Nat) (a b : W64) : Option Fail :=
  let g := patchGraph s c a
  firstOf
    [ objectFail s c a 32 .load
    , if objWord s c a 3 = 0 then none else some (.fatal 7 a 2)
    , graphFail s c g
    , if graphSize s c g < patchOff s c a + patchSize s c a then some (.fatal 7 a 3) else none
    , rangeFail s c (patchSource s c a b) (patchSize s c a) .load ]

/-- A patch is applied to the back block (R256). -/
def applyPatch (c : Nat) (a b : W64) (s : State) : State :=
  let g := patchGraph s c a
  let src := vaOf (patchSource s c a b)
  let n := patchSize s c a
  let off := patchOff s c a
  let back := graphBack s c g
  let s := refreshBack c g s
  let s := if graphStale s c g then setGraphState c g (graphState s c g - 2) s else s
  liveBytes c (graphBlock s c g back + off) n (memRead s c src n) s

/-- The meaning of PATCH (R256). -/
def mPatch (a b : BitVec 6) : Meaning :=
  { thread := true
    check := fun s e => patchFail s (e.c s) (readAS s e.agent a) (readAS s e.agent b)
    ready := fun s e =>
      let g := patchGraph s (e.c s) (readAS s e.agent a)
      !graphBusy s (e.c s) g (graphBack s (e.c s) g)
    commit := fun s0 e s => applyPatch (e.c s0) (readAS s0 e.agent a) (readAS s0 e.agent b) s }

/-! ### GRUN (R257) -/

/-- A replay of graph `g` starts on its back block, which becomes the front; it runs the record at `r`. -/
def startReplay (c : Nat) (g r : W64) (s : State) : State :=
  let f := graphBack s c g
  let s := refreshBack c g s
  let busy := graphState s c g / 4 % 4 ||| 2 ^ f
  let s := setGraphState c g ((1 - f) + 2 + 4 * busy) s
  let s := liveBump c (vaOf g + 8) s
  enqueue c r (BitVec.ofNat 64 (graphBlock s c g f)) (some (vaOf g, f)) s

/-- The meaning of GRUN (R257). -/
def mGrun (d a : BitVec 6) (_i : BitVec 13) : Meaning :=
  { thread := true
    check := fun s e =>
      firstOf [graphFail s (e.c s) (readAS s e.agent a), recordFail s (e.c s) (readAS s e.agent d)]
    ready := fun s e =>
      let g := readAS s e.agent a
      !graphBusy s (e.c s) g (graphBack s (e.c s) g) && queueRoom s (e.c s)
    commit := fun s0 e s => startReplay (e.c s0) (readAS s0 e.agent a) (readAS s0 e.agent d) s }

/-! ### MBXW (R258) -/

/-- The value that an MBXW waits away from: that of its register, or 0 when it takes the word. -/
def mbxAway (s : State) (c : Nat) (d : BitVec 6) (take : Bool) : W64 := if take then 0 else readAS s (.thread c) d

/-- What an MBXW of a thread does with the word it wakes on (R258): it takes it, in one atomic at the home slice, when it is to; and
s[d] is the word. -/
def mbxTake (c : Nat) (d : BitVec 6) (a : W64) (take : Bool) (s : State) : State :=
  emit (.thread c) 0 (destS d) (asVec (objWord s c a 0)) 1 0 (if take then atomAct c .xchg (vaOf a) 0 0 false [] s else s)

/-- The meaning of MBXW (R258): imm = 0 waits for a change, imm = 1 for a word that it takes. While it waits, the end of every cycle
looks at the word (`wakeThread`). -/
def mMbxw (d a : BitVec 6) (i : BitVec 13) : Meaning :=
  let word (s : State) (e : Env) : W64 := objWord s (e.c s) (readAS s e.agent a) 0
  { thread := true
    check := fun s e => objectFail s (e.c s) (readAS s e.agent a) 8 .live
    ready := fun s e => word s e != (if i = 0 then readAS s e.agent d else 0)
    hold := fun s0 e s => s.onCtx (e.c s0) (fun x => { x with thr := { x.thr with watch := some (d, readAS s0 e.agent a, i != 0) } })
    commit := fun s0 e s =>
      let s := if i = 0 then s else atomAct (e.c s0) .xchg (vaOf (readAS s0 e.agent a)) 0 0 false [] s
      emit e.agent e.slot (destS d) (asVec (word s0 e)) 1 0 s }

/-- The thread of a running context that waits in an MBXW wakes in the cycle in which a changing write of its word is performed (R258),
unless the word has become one that it may not take, which its next turn finds. -/
def wakeThread (c : Nat) (s : State) : State :=
  match (s.ctx c).thr.watch with
  | none => s
  | some (d, a, take) =>
    if (s.ctx c).state = 1 ∧ s.stopped = false ∧ objectFail s c a 8 .live = none ∧ objWord s c a 0 ≠ mbxAway s c d take
    then retireThread c .fall (mbxTake c d a take s) else s

/-- LAUNCH (R248): stream-only: enqueues one launch of a task record. -/
def execLaunch (a b : BitVec 6) (s : State) : Host.Outcome State Fault Refusal :=
  issueOne (.launch a b) (mLaunch a b) s

/-- TASKW (R248): stream-only: waits until a record's done reaches its issued count. -/
def execTaskw (d a : BitVec 6) (i : BitVec 13) (s : State) : Host.Outcome State Fault Refusal :=
  issueOne (.taskw d a i) (mTaskw d a i) s

/-- GRUN (R257): stream-only: starts one replay of a graph. -/
def execGrun (d a : BitVec 6) (i : BitVec 13) (s : State) : Host.Outcome State Fault Refusal :=
  issueOne (.grun d a i) (mGrun d a i) s

/-- GWAIT (R257): stream-only: waits until a graph's replays have ended. -/
def execGwait (d a : BitVec 6) (i : BitVec 13) (s : State) : Host.Outcome State Fault Refusal :=
  issueOne (.gwait d a i) (mGwait d a i) s

/-- PATCH (R256): stream-only: applies a patch record to a graph's back block. -/
def execPatch (a b : BitVec 6) (s : State) : Host.Outcome State Fault Refusal :=
  issueOne (.patch a b) (mPatch a b) s

/-- MBXW (R258): stream-only: waits on a mailbox word, optionally consuming it. -/
def execMbxw (d a : BitVec 6) (i : BitVec 13) (s : State) : Host.Outcome State Fault Refusal :=
  issueOne (.mbxw d a i) (mMbxw d a i) s

end Sys2Proof.Machine
end

