-- ==== Sys2Proof/Machine/Sched.lean ====
section
/-!
DEFINITION. Machine/Sched.lean: the dispatcher: gates (R250), task start (R100, R251, R252), task end (R101, R252), bank
stalls (R253), and the record of a halted stream thread (R245).
-/

namespace Sys2Proof.Machine

/-- The dispatcher works for the context: it runs, and no save has been commanded (R346). -/
def dispatching (s : State) (c : Nat) : Bool := (s.ctx c).state == 1 && (s.ctx c).saveAt == 0

/-! ### Gates (R250) -/

/-- The gate of a queued task, read live: its barrier has left the phase waited away from. -/
def gateFlipped (s : State) (c : Nat) (e : QEntry) : Bool :=
  (memWord s c (vaOf (e.gate &&& ~~~7))).getLsbD 63 != e.gate.getLsbD 0

/-- The gate of queue entry `i`, when it is closed, opens, and stays open; what the flip released is acquired at the task's start
(R219). -/
def gateOpen (c i : Nat) (s : State) : State :=
  match (s.ctx c).queue[i]? with
  | none => s
  | some e =>
    if !e.opened && gateFlipped s c e then
      let r := Tab.get [] (s.ctx c).rel (keyOf s c (vaOf (e.gate &&& ~~~7)) / 8)
      s.onCtx c (fun x => { x with queue := listUpd x.queue i (fun (q : QEntry) => { q with opened := true, acq := r }) })
    else s

/-- The gates of a context's queue that have flipped open. -/
def openGates (c : Nat) (s : State) : State :=
  if (s.ctx c).state = 1 ∧ (s.ctx c).queue.any (fun e => !e.opened) = true
  then (List.range (s.ctx c).queue.length).foldl (fun t i => gateOpen c i t) s else s

/-- GATE_OPEN (R250): the gate barrier of queue entry `i` of context `c` is seen to have flipped. -/
def execGateOpen (c i : Nat) (s : State) : Host.Outcome State Fault Refusal :=
  happen (fun s => (s.ctx c).state == 1) (gateOpen c i) s

/-! ### Task start (R100, R101, R141, R157, R180, R252) -/

/-- The four physical cores of a logical cluster of a context, where they are placed. -/
def clusterCores (x : Ctx) (k : Nat) : List Nat := (List.range 4).filterMap (fun j => physOf x (4 * k + j))

/-- The cores of a set of clusters, each with its logical number and its rank (R100). -/
def taskCores (x : Ctx) (b : BitVec 128) : List (Nat × Nat × Nat) :=
  ((clusterList b).zipIdx.map (fun k => (List.range 4).filterMap (fun j =>
    (physOf x (4 * k.1 + j)).map (fun p => (p, 4 * k.1 + j, 4 * k.2 + j))))).flatten

/-- An LMMAR of the task before runs on, and writes KLPRG no more (R188; log 59). -/
def outlive (j : LmmarJob) : LmmarJob := { j with own := false }

/-- A core with every register of R100, R122, R141 and the spill memory as at a task start, and nothing of the sequencer and
no result pending (R101). What a context keeps across its tasks stays. -/
def cleanCore (t : Nat) (k : Core) : Core :=
  { k with s := [], p := [], v := [], seq := Sequencer.zero, steward := false, trap := TrapRegs.zero,
           stewSeq := Sequencer.zero, active := [], shadow := [], sticky := [], klprg := 0, spill := [], scaleQ := [],
           flights := [], board := [], loom := [], sclds := [], scaleOp := false, lmmar := k.lmmar.map outlive, nextIssue := t + 1, miss := false, lePend := false, trapPend := none, atPadv := false, padvDone := false,
           padvRetry := false, padvFail := none, yieldReq := false, atSafe := false, stallSeen := false }

/-- A core taken by a context: what another context left is dropped (R157, R180, R241); the swaps before the last commit
have been seen (R219). -/
def enterCore (c lcore : Nat) (x : Ctx) (k : Core) : Core :=
  let same := decide (k.ctx = some c)
  { k with ctx := some c, lcore := lcore
           addrQ := if same then k.addrQ else []
           l1 := if same then k.l1 else []
           icache := if same then k.icache else []
           acc := if k.accCtx = some c then k.acc else []
           accCtx := some c
           seen := mergeSeen x.swapsAt (if same then k.seen else [])
           ownPubs := if same then k.ownPubs else [] }

/-- A core at the start of a task (R100): s1 the arguments, s2 the logical index, s3 the rank. -/
def startCore (t c : Nat) (x : Ctx) (e : QEntry) (id lcore rank : Nat) (k : Core) : Core :=
  let k := enterCore c lcore x (cleanCore t k)
  { k with run := .running, task := id, pc := (e.entry.toNat : Int), lastWord := (e.entry.toNat : Int)
           s := Tab.put 0 (Tab.put 0 (Tab.put 0 [] 1 e.args) 2 (BitVec.ofNat 64 lcore)) 3 (BitVec.ofNat 64 rank)
           seen := mergeSeen e.acq k.seen }

/-- A queued task starts on every core of its clusters (R252). DESIGN CHOICE (log 91): where the placement puts two of its logical clusters
on one physical cluster (R342 refuses no such write), it starts on the cores of both, and those of the higher one are the ones that
run. -/
def startTask (c : Nat) (e : QEntry) (s : State) : State :=
  let x := s.ctx c
  let id := x.nextTask
  let s := s.onCtx c (fun y => { y with
    queue := y.queue.erase e, nextTask := id + 1
    tasks := y.tasks ++ [{ id := id, record := e.record, clusters := e.clusters, graph := e.graph }] })
  (taskCores x e.clusters).foldl (fun t k => t.onCore k.1 (startCore s.cycle c x e id k.2.1 k.2.2)) s

/-- A core is owned by a tenant (R344). -/
def ownedBy (s : State) (p tenant : Nat) : Bool :=
  let e := Tab.get (0 : BitVec 16) s.owner p
  e.getLsbD 15 && bfld e 0 4 == tenant

/-- The four cores of a logical cluster are released (R250), and owned by the context's tenant (R344). -/
def clusterFree (s : State) (c k : Nat) : Bool :=
  let l := clusterCores (s.ctx c) k
  l.length == 4 && l.all (fun p => (s.core p).run == .idle && ownedBy s p (s.ctx c).tenant)

/-! ### Dispatch (R251) -/

/-- The effective priority of an entry (R251). -/
def effPrio (aging now : Nat) (e : QEntry) : Nat :=
  if aging = 0 then e.prio else min 7 (e.prio + ((now : Int) - e.enq).toNat / (1024 * aging))

/-- The queue by effective priority, then by enqueue order. -/
def dispatchOrder (aging now : Nat) (l : List QEntry) : List QEntry :=
  ([7, 6, 5, 4, 3, 2, 1, 0].map (fun k => l.filter (fun e => effPrio aging now e == k))).flatten

/-- One entry of the dispatcher's walk, with the clusters reserved so far. -/
def dispatchOne (c : Nat) (a : BitVec 128 × State) (e : QEntry) : BitVec 128 × State :=
  if !e.opened then a
  else if a.1 &&& e.clusters = 0 && (clusterList e.clusters).all (clusterFree a.2 c) then (a.1, startTask c e a.2)
  else (a.1 ||| e.clusters, a.2)

/-- One decision of the dispatcher for a context: it reads the gates, then walks the queue. -/
def dispatch (c : Nat) (s : State) : State :=
  let t := openGates c s
  ((dispatchOrder (t.ctx c).aging t.cycle (t.ctx c).queue).foldl (dispatchOne c) (0, t)).2

/-- The end of a cycle for a context (R250, R251, R258): its waiting thread wakes when its word has changed; a gate that has flipped
opens, and the dispatcher decides. -/
def endCycleOf (s : State) (c : Nat) : State :=
  let t := wakeThread c s
  if (t.ctx c).queue.isEmpty then t else if dispatching t c then dispatch c t else openGates c t

/-- The end of a cycle, for every context. -/
def endCycle (s : State) : State := (s.ctxs.map Prod.fst).foldl endCycleOf s

/-- `n` cycles pass, each with its end. -/
def passCycles : Nat → State → State
  | 0, s => s
  | n + 1, s => passCycles n { endCycle s with cycle := s.cycle + 1 }

/-- Time passes to cycle `t`. -/
def passTo (t : Nat) (s : State) : State := passCycles (t - s.cycle) s

/-- TASK_DISPATCH (R251): the dispatcher's decision for context `c`. -/
def execTaskDispatch (c : Nat) (s : State) : Host.Outcome State Fault Refusal :=
  happen (fun s => dispatching s c) (dispatch c) s

/-! ### Task end (R101, R252, R257) -/

/-- Every result of a core's task has landed (R101). -/
def settled (s : State) (p : Nat) : Bool :=
  let d := landDue s.freeCtr s.cycle (s.core p)
  d.board.isEmpty && d.flights.isEmpty && d.loom.isEmpty && d.sclds.isEmpty

/-- Core `p` has executed HALT for the task and its results have landed. -/
def coreEnded (s : State) (c id p : Nat) : Bool :=
  let k := s.core p
  decide (k.ctx = some c) && k.task == id && k.run == .halted && settled s p

/-- A replay ends (R257): its block is no longer busy, and ended goes up. -/
def endReplay (c : Nat) (g : Nat × Nat) (s : State) : State :=
  let a := BitVec.ofNat 64 g.1
  let keep := graphState s c a
  let bit := 2 ^ (2 + g.2)
  let s := if keep / bit % 2 = 1 then setGraphState c a (keep - bit) s else s
  liveBump c (g.1 + 16) s

/-- A core released from its task; the context leaves it (R310). -/
def releaseFromTask (n t c : Nat) (k : Core) : Core :=
  leaveCore t c true { landDue n t k with run := .idle, task := 0 }

/-- A task whose cores have all ended. -/
def taskEnd (c i : Nat) (s : State) : State :=
  let x := s.ctx c
  match x.tasks[i]? with
  | none => s
  | some t =>
    let cores := taskCores x t.clusters
    if cores.all (fun k => coreEnded s c t.id k.1) then
      let s := cores.foldl (fun u k => u.onCore k.1 (releaseFromTask s.freeCtr s.cycle c)) s
      let s := s.onCtx c (fun y => { y with tasks := listDrop y.tasks i })
      let s := match t.graph with
        | none => s
        | some g => endReplay c g s
      liveBump c (t.record + 48) s
    else s

/-- TASK_END (R252): every core of task `i` of context `c` has halted and landed; done goes up. -/
def execTaskEnd (c i : Nat) (s : State) : Host.Outcome State Fault Refusal :=
  happen (fun s => (s.ctx c).state == 1) (taskEnd c i) s

/-! ### Bank stalls (R253) -/

/-- The M-slot instruction of the bundle a core is to issue. -/
def memSlotOf (x : Ctx) (pc : Int) : Option Instr :=
  if 0 ≤ pc ∧ pc.toNat < x.code.length / 6 then
    match decodeSlot .mem (x.code.getD (6 * pc.toNat + 3) 0).toNat with
    | .ok i => some i
    | .error _ => none
  else none

/-- The mask of a BACQ that a core is frozen on because of a bank that an ended task left OWNED. -/
def stalledOn (s : State) (p : Nat) : Option W64 :=
  let k := s.core p
  let c := s.ctxOf p
  match memSlotOf (s.ctx c) k.pc with
  | some (.bacq g a) =>
    let m := readS s p a
    let left (b : Nat) : Bool :=
      let o := Tab.get Bank.zero k.banks b
      o.state == .owned && o.held == c + 1 && o.task != k.task && !((s.ctx c).tasks.any (fun t => t.id == o.task))
    if k.run = .running ∧ guardM g s (.core p) = true ∧ awaited k (destS a) = false ∧ (maskBanks s p m).any left = true
    then some m else none
  | _ => none

/-- A bank stall is counted and reported, once for each such BACQ. -/
def bankStall (p : Nat) (s : State) : State :=
  match stalledOn s p with
  | none => s
  | some m =>
    if (s.core p).stallSeen then s
    else
      let c := s.ctxOf p
      let mask := BitVec.ofNat 64 (((maskBanks s p m).map (fun b => 2 ^ b)).sum)
      let s := s.onCore p (fun k => { k with stallSeen := true })
      postFault { coreRecord s p 0 0 mask (BitVec.ofInt 64 (s.core p).pc) with kind := 2 } (countCtx c 0x822 1 s)

/-- BANK_STALL (R253): the dispatcher finds core `p` frozen in a BACQ on a bank that an ended task left OWNED. -/
def execBankStall (p : Nat) (s : State) : Host.Outcome State Fault Refusal :=
  happen (fun s => coreAlive s p) (bankStall p) s

/-! ### A halted stream thread (R245) -/

/-- The thread has halted and every task it launched has ended. -/
def threadDone (x : Ctx) : Bool := x.state == 1 && x.thr.halted && x.queue.isEmpty && x.tasks.isEmpty && !x.haltRec

/-- STREAM_THREAD_HALTED (R245): one record of kind 3, where the word index of the HALT. -/
def execStreamThreadHalted (c : Nat) (s : State) : Host.Outcome State Fault Refusal :=
  happen (fun s => threadDone (s.ctx c)) (fun s =>
    postFault { ctxRecord s 3 0 c 0 with at_ := BitVec.ofNat 64 (s.ctx c).thr.haltAt }
      (s.onCtx c (fun x => { x with haltRec := true }))) s

end Sys2Proof.Machine
end

