-- ==== Sys2Proof/Machine/Save.lean ====
section
/-!
DEFINITION. Machine/Save.lean: a context saved, restored, ended and unloaded by command of the host (R340, R345 to R349),
and how its cores yield (R121, R346).
-/

namespace Sys2Proof.Machine

/-! ### Commands (R340) -/

/-- A kind 16 record of a context (R340). -/
def stateRecord (s : State) (c cause : Nat) (info : Nat) : FaultRec := ctxRecord s 16 cause c (BitVec.ofNat 64 info)

/-- A refused command: result, and its record (R340, R348). -/
def refuseCommand (c cmd result : Nat) (s : State) : State :=
  let s := s.onCtx c (fun x => { x with result := result, cmd := 0 })
  if cmd = 2 then postFault (ctxRecord s 4 0 c (BitVec.ofNat 64 result)) s
  else postFault (stateRecord s c 1 (cmd % 256 + result * 2 ^ 32)) s

/-- The host port answers and contexts are admitted once bring-up is complete (R358). -/
def hostUp (s : State) : Bool := s.bootStep == 5

/-! ### Save (R345, R346) -/

/-- A core of the context is asked to yield. -/
def askYield (c : Nat) (k : Core) : Core := if k.ctx = some c then { k with yieldReq := true } else k

/-- Command 1: the context is asked to yield its cores; in state 2 a save stopped for want of room begins afresh. -/
def saveCommand (c : Nat) (s : State) : State :=
  let x := s.ctx c
  if x.state = 1 then
    let s := s.onCtx c (fun x => { x with cmd := 0, result := 0, saveAt := s.cycle + 1, overdue := false })
    { s with cores := Tab.mapVal s.cores (askYield c) }
  else if x.state = 2 ∧ x.short = true then s.onCtx c (fun x => { x with cmd := 0, result := 0, short := false })
  else refuseCommand c 1 5 s

/-- SAVE_COMMAND (R346): the host writes command 1 for context `c`. -/
def execSaveCommand (c : Nat) (s : State) : Host.Outcome State Fault Refusal :=
  happen hostUp (saveCommand c) s

/-- Engine work of a core that a yield waits for (R190, R210, R304). -/
def enginesIdle (k : Core) : Bool :=
  k.chans.all (fun u => u.2.isEmpty) && k.optu.isNone && k.pstw.isEmpty && k.lmmar.isEmpty && k.rloads.isEmpty

/-- A core has engine work of a context under way, whichever context it runs now (R210). -/
def worksFor (c : Nat) (k : Core) : Bool :=
  k.chans.any (fun u => u.2.any (fun j => j.ctx == c)) || k.optu.any (fun j => j.ctx == c) || k.pstw.any (fun j => j.ctx == c)
    || k.lmmar.any (fun j => j.ctx == c) || k.rloads.any (fun j => j.ctx == c)

/-- Some core of the context is frozen in PADV (R293). -/
def padvHeld (s : State) (c : Nat) : Bool := s.cores.any (fun k => k.2.ctx == some c && k.2.atPadv)

/-- A running core may yield now (R346): it has committed a safe-point bundle, no freeze has come since, and every condition
holds. -/
def mayYield (s : State) (p : Nat) : Bool :=
  let k := s.core p
  k.yieldReq && k.run == .running && k.atSafe && !k.lePend && !k.steward && k.trapPend.isNone
    && !s.stopped && !k.miss && !padvHeld s (s.ctxOf p) && enginesIdle k && k.addrQ.isEmpty && k.scaleQ.isEmpty && k.sclds.isEmpty
    && k.board.isEmpty

/-- A core yields (R121): every result it has in flight lands. -/
def yieldCore (p : Nat) (s : State) : State :=
  s.onCore p (fun k => { landAll s.freeCtr k with run := .yielded, yieldReq := false })

/-- SAFE_POINT_YIELD (R121): core `p`, asked to yield, yields after a safe-point bundle once its conditions hold. -/
def execSafePointYield (p : Nat) (s : State) : Host.Outcome State Fault Refusal :=
  happen (fun s => mayYield s p) (yieldCore p) s

/-- A core counts as yielded (R346): it yielded at a safe point, or it has no task, or its task has halted and landed, with
nothing left to its engines (R210, R261). -/
def hasYielded (s : State) (p : Nat) : Bool :=
  let k := s.core p
  k.run == .yielded || ((k.run == .idle || (k.run == .halted && settled s p)) && enginesIdle k && k.addrQ.isEmpty)

/-- The safe-point entry of a bundle (R88); with none, every scratchpad bank (R163) and acc row is live. DESIGN CHOICE (log 62):
the first of several records for one bundle counts. -/
def safeEntry (x : Ctx) (b : Nat) : SafePt :=
  (x.safept.find? (fun e => e.bundle == b)).getD { bundle := b, banks := 2 ^ min x.split 16 - 1, rows := [(0, 8191)] }

/-- An acc row is live. -/
def rowLive (e : SafePt) (r : Nat) : Bool := e.rows.any (fun q => decide (q.1 ≤ r) && decide (r ≤ q.2))

/-- The banks of a core that its context holds OWNED, as a mask. -/
def ownedMask (c : Nat) (k : Core) : BitVec 16 :=
  k.banks.foldl (fun m (b : Nat × Bank) => if b.2.state = .owned ∧ b.2.held = c + 1 then m ||| (1 <<< b.1) else m) 0

/-- The banks of a core whose last holder is a context, as a mask: their rows are its own (R165). -/
def heldMask (c : Nat) (k : Core) : BitVec 16 :=
  k.banks.foldl (fun m (b : Nat × Bank) => if b.2.held = c + 1 then m ||| (1 <<< b.1) else m) 0

/-- The slots of a logical core that are RESIDENT or PINNED (R310). -/
def residentSlots (x : Ctx) (lcore : Nat) : List Nat := ((slotsOf x lcore).filter (fun e => e.2.usable)).map Prod.fst

/-- The banks that a save keeps (R88, R175): marked live at the safe point, below S, and with rows of the context; one that it has not
acquired has none. -/
def liveMask (c : Nat) (x : Ctx) (k : Core) : BitVec 16 :=
  BitVec.ofNat 16 ((safeEntry x k.lastWord.toNat).banks) &&& BitVec.ofNat 16 (2 ^ min x.split 16 - 1) &&& heldMask c k

/-- What a save record keeps of a core (R347). A core that did not yield at a safe point gives its owned-bank mask and its counters
only. -/
def saveCore (c : Nat) (x : Ctx) (k : Core) : SavedCore :=
  let here := k.run == .yielded
  let e := safeEntry x k.lastWord.toNat
  let inLive (row : Nat) : Bool := here && (liveMask c x k).getLsbD (row / 512)
  { lcore := k.lcore, inTask := here || k.run == .halted, halted := k.run == .halted, task := k.task
    pc := if here then k.pc else 0
    loops := if here then k.seq.loops.map loopWord else [], vrb := if here then k.seq.vrb else 0
    prb := if here then k.seq.prb else 0
    s := if here then k.s else [], p := if here then k.p else [], v := if here then k.v else []
    spill := if here then k.spill else []
    active := if here then k.active else [], shadow := if here then k.shadow else []
    sticky := if here then k.sticky else [], trap := if here then k.trap else TrapRegs.zero
    klprg := if here then k.klprg else 0
    owned := ownedMask c k, live := if here then liveMask c x k else 0
    rows := k.spad.filter (fun r => inLive r.1), fe := k.fullEmpty.filter (fun r => inLive r.1)
    ranges := if here then e.rows else []
    acc := if here then k.acc.filter (fun r => rowLive e r.1) else []
    chf := x.chf.filterMap (fun t => if t.1 / 4 = k.lcore then some (t.1 % 4, t.2) else none)
    ctrs := x.coreCtr.filterMap (fun t => if t.1 / 16 = k.lcore then some (t.1 % 16, t.2) else none) }

/-- What a save record keeps of a core that serves another context by now: the banks that the context still holds OWNED there. -/
def leftCore (c lcore : Nat) (x : Ctx) (k : Core) : SavedCore :=
  saveCore c x { k with lcore := lcore, run := .idle, task := 0 }

/-- The cores of a context, saved: those it runs, and those on which it holds banks. -/
def heldCores (s : State) (c : Nat) : List SavedCore :=
  s.cores.filterMap (fun k =>
    if k.2.ctx = some c then some (saveCore c (s.ctx c) k.2)
    else if ownedMask c k.2 ≠ 0 then some (leftCore c (lcoreAt s k.1 c) (s.ctx c) k.2)
    else none)

/-- The logical cores that have counters (R329). -/
def countedCores (x : Ctx) : List Nat := (x.chf.map (fun (t : Nat × W64) => t.1 / 4) ++ x.coreCtr.map (fun (t : Nat × Nat) => t.1 / 16)).dedup

/-- The cores of a save record (R347): beside those of `heldCores`, every logical core that has counters. -/
def savedCores (s : State) (c : Nat) : List SavedCore :=
  let l := heldCores s c
  l ++ ((countedCores (s.ctx c)).filter (fun n => l.all (fun w => w.lcore != n))).map (fun n => leftCore c n (s.ctx c) Core.zero)

/-- The residency lists of a save (R310): of each logical core that has one, the entries of its table, whatever its core does. -/
def savedLists (x : Ctx) : List (Nat × Tab (BitVec 128)) :=
  ((x.res.map (fun k => k.1 / 1024)).dedup).map (fun l => (l, (slotsOf x l).map (fun e => (e.1, residWord e.2))))

/-- A queue entry with its age in the place of its enqueue cycle (R252). -/
def aged (t : Nat) (e : QEntry) : QEntry := { e with enq := (t : Int) - e.enq }

/-- What a save record keeps of the context (R347). -/
def savedRest (t : Nat) (x : Ctx) : SavedCtx :=
  { phase := x.phase, tr := x.tr, ctr := x.ctr, queue := x.queue.map (aged t), tasks := x.tasks, thr := { x.thr with fixed := none, watch := none }
    staged := x.staged }

/-- The save record of a context as it would be written now: its sections. -/
def sectionsNow (s : State) (c : Nat) : List RecPart :=
  recordSections (savedCores s c) (savedLists (s.ctx c)) (savedRest s.cycle (s.ctx c))

/-- The bytes of the save record of a context (R345). -/
def recordSize (s : State) (c : Nat) : Nat := sectionsSize (sectionsNow s c)

/-- The bytes of a save record with the given sections (R345): its header with a nonce, then the tag and the sealed sections, with bytes
0 to 47 as authenticated data. -/
def sealedRecord (s : State) (c key : Nat) (l : List RecPart) : Nat :=
  let size := sectionsSize l
  let nonce := Config.pick s.freeCtr 345 % 2 ^ 96
  let head := recordHeader c (s.ctx c).tenant key size l.length + nonce * 2 ^ 192
  head + Config.seal (Tab.get KeySlot.zero s.keys key).key nonce head (sectionsBits l) % 2 ^ (8 * (size - 48)) * 2 ^ 384

/-- The bytes of the save record of a context as it would be written now. -/
def recordImage (s : State) (c : Nat) : Nat := sealedRecord s c (s.ctx c).key (sectionsNow s c)

/-- The record with a store that has arrived since it was written at the end of its staged list, sealed anew (R347). DESIGN CHOICE
(log 92): where the longer record would exceed the limit, the bytes in the save area stay as they are. -/
def longerRecord (s : State) (c : Nat) (g : Stage) (r : SaveRecord) : SaveRecord :=
  let rest := { r.rest with staged := r.rest.staged ++ [g] }
  let l := recordSections r.cores r.lists rest
  if sectionsSize l ≤ (s.ctx c).limit then { r with rest := rest, size := sectionsSize l, image := sealedRecord s c r.key l }
  else { r with rest := rest }

/-- A remote store arrives for a saved context (R347): it joins the staged list of the save record, in the save area too. -/
def appendStaged (c : Nat) (g : Stage) (s : State) : State :=
  match (s.ctx c).record with
  | none => s
  | some r =>
    let r := longerRecord s c g r
    { s with mgmtMem := s.mgmtMem.write r.area r.size r.image }.onCtx c (fun x => { x with size := r.size, record := some r })

/-- The banks of a core that a context holds are FREE, their last owner noted. -/
def freeBanks (c : Nat) (k : Core) : Core :=
  { k with banks := k.banks.map (fun (b : Nat × Bank) =>
      if b.2.held = c + 1 then (b.1, { b.2 with state := .free, task := 0 }) else b) }

/-- A core released by a save (R346): it belongs to no context, its results have landed (R101), L1 is empty (R169). Every core
loses the context's banks. -/
def releaseSaved (n t c : Nat) (k : Core) : Core :=
  let k := freeBanks c k
  if k.ctx = some c then
    let k := landAll n k
    let k := if k.task = 0 then k else leaveCore t c true k
    { k with ctx := none, run := .idle, task := 0, yieldReq := false, atSafe := false, l1 := [], icache := [], addrQ := [] }
  else k

/-- The record is written to the save area and the context is saved: state 3. The transition keeps its target (R293), the queue
its ages (R252); outstanding page requests are answered to nobody (R347). -/
def finishSave (c : Nat) (s : State) : State :=
  let size := recordSize s c
  let x := s.ctx c
  let image := recordImage s c
  let rec_ : SaveRecord :=
    { area := x.area, size := size, key := x.key, epoch := (Tab.get KeySlot.zero s.keys x.key).epoch, image := image
      cores := savedCores s c, lists := savedLists x, rest := savedRest s.cycle x }
  let s := { s with mgmtMem := s.mgmtMem.write x.area size image }
  let s := s.onCtx c (fun x => { x with
    state := 3, cmd := 0, size := size, result := 0, saveAt := 0, short := false, record := some rec_
    thr := { x.thr with fixed := none, watch := none }, queue := x.queue.map (aged s.cycle)
    tr := { x.tr with ready := false, work := [] } })
  let s := { s with cores := Tab.mapVal s.cores (releaseSaved s.freeCtr s.cycle c), reqs := dropMoves c s.reqs }
  postFault (stateRecord s c 3 size) s

/-- Every core has yielded: the record is written, or, when it would exceed the limit, the save stops in state 2. -/
def saveRecordWrite (c : Nat) (s : State) : State :=
  let size := recordSize s c
  if (s.ctx c).limit < size then
    let s := s.onCtx c (fun x => { x with state := 2, size := size, result := 6, short := true })
    postFault (stateRecord s c 2 size) s
  else finishSave c s

/-- The save record of a context may be written (R346): every core has yielded, and no engine works for it, also on a core that another
context has taken (R175, R210). -/
def saveReady (s : State) (c : Nat) : Bool :=
  let x := s.ctx c
  ((x.state == 1 && x.saveAt != 0) || (x.state == 2 && !x.short)) && (coresOf s c).all (hasYielded s)
    && !(padvHeld s c) && !(s.cores.any (fun k => worksFor c k.2))

/-- SAVE_RECORD_WRITE (R345): every core of context `c` has yielded, and the sealed record is written. -/
def execSaveRecordWrite (c : Nat) (s : State) : Host.Outcome State Fault Refusal :=
  happen (fun s => saveReady s c) (saveRecordWrite c) s

/-- The cores of a context that have not yielded. -/
def stillRunning (s : State) (c : Nat) : Nat := ((coresOf s c).filter (fun p => !hasYielded s p)).length

/-- The yield timeout of a context has passed, unreported. -/
def yieldLate (s : State) (c : Nat) : Bool :=
  let x := s.ctx c
  x.state == 1 && x.saveAt != 0 && x.timeout != 0 && !x.overdue
    && decide (x.saveAt - 1 + x.timeout * 1024 ≤ s.cycle) && decide (0 < stillRunning s c)

/-- YIELD_OVERDUE (R346): one record of kind 5 names the count of cores still running; the device goes on waiting. -/
def execYieldOverdue (c : Nat) (s : State) : Host.Outcome State Fault Refusal :=
  happen (fun s => yieldLate s c) (fun s =>
    postFault (ctxRecord s 5 0 c (BitVec.ofNat 64 (stillRunning s c))) (s.onCtx c (fun x => { x with overdue := true }))) s

/-! ### Restore (R348) -/

/-- The logical clusters that a record names. -/
def recordClusters (r : SaveRecord) : List Nat :=
  (r.cores.map (fun (k : SavedCore) => k.lcore / 4) ++ r.lists.map (fun (q : Nat × Tab (BitVec 128)) => q.1 / 4)).dedup

/-- The placement serves the record: every cluster placed, no two on one physical cluster, none owned by another tenant
(result 1). -/
def placementOk (s : State) (c : Nat) (r : SaveRecord) : Bool :=
  let x := s.ctx c
  let l := recordClusters r
  let phys := l.filterMap (fun k => physOf x (4 * k))
  phys.length == l.length && decide phys.Nodup
    && l.all (fun k => (clusterCores x k).all (fun p => ownedBy s p x.tenant))

/-- The listed residencies of every core fit the tenant's quota on its new core (result 2). -/
def chargesOk (s : State) (c : Nat) (r : SaveRecord) : Bool :=
  let x := s.ctx c
  r.lists.all (fun q =>
    match physOf x q.1 with
    | none => false
    | some p => decide (((listedSlots q.2).map (fun e => (residOf (Tab.get 0 q.2 e)).charge)).sum ≤ quotaOf s p x.tenant))

/-- The record of this device authenticates: the save area that the control block names holds the bytes that were written, and the
key slot is LIVE under the key that sealed them (result 3). -/
def recordAuthentic (s : State) (x : Ctx) (r : SaveRecord) : Bool :=
  let k := Tab.get KeySlot.zero s.keys r.key
  k.state == 1 && k.epoch == r.epoch && s.mgmtMem.read x.area r.size == r.image

end Sys2Proof.Machine

namespace Sys2Proof

/-- The outcome of authenticating a save record that another part has written (R21, R345): the key of its slot, its bytes, the
number of the context. -/
opaque Config.recordOpen (key : BitVec 256) (image c : Nat) : Option Machine.SaveRecord

end Sys2Proof

namespace Sys2Proof.Machine

/-- A record of another part in the save area of context `c` (R21): its header is one of R345 within the limit, and it
authenticates under the key slot of the control block, which is LIVE. -/
def foreignRecord (s : State) (c : Nat) (x : Ctx) : Option SaveRecord :=
  let k := Tab.get KeySlot.zero s.keys x.key
  let head := s.mgmtMem.read x.area 24
  let size := head / 2 ^ 64 % 2 ^ 64
  if head % 2 ^ 56 = 0x1A525653 + 2 ^ 32 + c % 256 * 2 ^ 48 ∧ 64 ≤ size ∧ size ≤ x.limit ∧ k.state = 1 then
    Config.recordOpen k.key (s.mgmtMem.read x.area size) c
  else none

/-- The record that a restore of context `c` takes, and whether another part has written it: what the save area holds, when it
authenticates. -/
def restoreRecord (s : State) (c : Nat) : Option (SaveRecord × Bool) :=
  let x := s.ctx c
  let foreign := (foreignRecord s c x).map (fun r => (r, true))
  match x.record with
  | some r => if recordAuthentic s x r then some (r, false) else foreign
  | none => foreign

/-- The split holds every live or owned bank (result 4). -/
def banksFit (x : Ctx) (r : SaveRecord) : Bool :=
  r.cores.all (fun k => (List.range 16).all (fun b => !((k.owned ||| k.live).getLsbD b) || decide (b < x.split)))

/-- The result a restore is refused with (R348); the record authenticates before any section of it is read (R345). -/
def restoreRefused (s : State) (c : Nat) : Option Nat :=
  if (s.ctx c).state ≠ 3 then some 5
  else
    match restoreRecord s c with
    | none => some 3
    | some (r, _) =>
      if !placementOk s c r then some 1
      else if !chargesOk s c r then some 2
      else if !banksFit (s.ctx c) r then some 4
      else none

/-- A restore places a saved core: it has a task, or banks. Of another the record keeps counters alone, and a core that has neither belongs
to no context until a dispatch (R346). -/
def SavedCore.placed (w : SavedCore) : Bool := w.inTask || w.owned != 0

/-- The cores of the clusters that a restore places the context on run no task of another context (R17), and the banks it acquires or
fills there are FREE (R164). -/
def restoreFree (s : State) (c : Nat) (r : SaveRecord) : Bool :=
  let l := r.cores.filter SavedCore.placed
  (l.map (fun (w : SavedCore) => w.lcore / 4)).dedup.all (fun k => (clusterCores (s.ctx c) k).all (fun p => (s.core p).run == .idle))
    && l.all (fun w : SavedCore => (physOf (s.ctx c) w.lcore).all (fun p => (List.range 16).all (fun b =>
      !(w.owned ||| w.live).getLsbD b || (Tab.get Bank.zero (s.core p).banks b).state == .free)))

/-- A bank of a restored core (R348 step 1): OWNED by its task, or, live and not owned, FREE with the rows of the context. -/
def putBank (c : Nat) (w : SavedCore) (m : Tab Bank) (b : Nat) : Tab Bank :=
  if w.owned.getLsbD b then Tab.set m b { state := .owned, task := w.task, held := c + 1 }
  else if w.live.getLsbD b then Tab.set m b { state := .free, task := 0, held := c + 1 }
  else m

/-- A core takes back what its record keeps (R348 steps 1, 2, 4, 7). The stamps of sticky records that another part wrote (R21) are no
later than those that bundles issued from now on take (R148). -/
def putCore (n t c : Nat) (x : Ctx) (w : SavedCore) (k : Core) : Core :=
  let filled (b : Nat) : Bool := (w.owned ||| w.live).getLsbD b
  let k := enterCore c w.lcore x { cleanCore t (landAll n k) with ctx := none, accCtx := none }
  { k with
    run := if w.halted then .halted else if w.inTask then .running else .idle
    task := w.task, pc := w.pc, lastWord := w.pc, seq := { loops := loopsOf w.loops, vrb := w.vrb, prb := w.prb }
    s := w.s, p := w.p, v := w.v, spill := w.spill
    active := w.active, shadow := w.shadow, sticky := Tab.mapVal w.sticky (fun (y : Sticky) => { y with stamp := min y.stamp t })
    trap := w.trap, klprg := w.klprg, acc := w.acc
    banks := (List.range 16).foldl (putBank c w) k.banks
    spad := w.rows.foldl (fun m r => Tab.put 0 m r.1 r.2) (k.spad.filter (fun r => !(filled (r.1 / 512))))
    fullEmpty := w.fe.foldl (fun m r => Tab.put 0 m r.1 r.2) (k.fullEmpty.filter (fun r => !(filled (r.1 / 512)))) }

/-- A listed slot is reloaded as RLOAD would, or left FAULTED with status 3 (R310). -/
def reloadSlot (p c lcore slot : Nat) (s : State) : State :=
  let e := resAt (s.ctx c) lcore slot
  let bytes := tileBytes e.fmt e.k
  if rangeOk s c e.src bytes && !rangePoisoned s c e.src bytes then
    let n := granulesOf bytes
    let s := makeRoom p c n (s.onCore p (drainDue s.cycle))
    let s := s.onCore p (fun k => { k with granules := k.granules ++
      [{ ctx := c, lcore := lcore, slotIx := slot, count := n, drain := false }] })
    let t : Tile := { fmt := e.fmt, k := e.k, bytes := tileRead s p c e.src bytes }
    let s := s.onCtx c (fun x => { x with tiles := Tab.set x.tiles (resKey lcore slot) t })
    onRes c lcore slot (fun e => { e with state := if e.pin then 3 else 2 }) s
  else
    let s := onRes c lcore slot (fun e => { e with state := 6, status := 3 }) s
    countCore c lcore 0x844 1 s

/-- The granules of a context's logical core that lie on other cores than `p` are freed (R310). -/
def dropElsewhere (p c lcore : Nat) (s : State) : State :=
  { s with cores := s.cores.map (fun (k : Nat × Core) =>
      if k.1 = p then k
      else (k.1, { k.2 with granules := k.2.granules.filter (fun (g : Granules) => !(g.ctx == c && g.lcore == lcore)) })) }

/-- The residency list of a logical core is made good (R348 step 3): slots that still lie on its core stay; where no task of the context has
run it counts as leaving the core now (R310). -/
def restoreResidencies (c : Nat) (s : State) (q : Nat × Tab (BitVec 128)) : State :=
  match physOf (s.ctx c) q.1 with
  | none => s
  | some p =>
    (listedSlots q.2).foldl (fun t k =>
      let here := (t.core p).granules.any (fun (g : Granules) => g.isOf c q.1 k)
      let e := resAt (t.ctx c) q.1 k
      if here || !(e.usable || e.state == 5) then t else reloadSlot p c q.1 k t)
      ((dropElsewhere p c q.1 s).onCore p (joinLeft s.cycle c))

/-- One core of a record is restored. -/
def restoreCore (c : Nat) (s : State) (w : SavedCore) : State :=
  match physOf (s.ctx c) w.lcore with
  | none => s
  | some p => if w.placed then s.onCore p (putCore s.freeCtr s.cycle c (s.ctx c) w) else s

/-- What another part's record holds of a logical core's counters (R348 step 4). -/
def adoptCounters (x : Ctx) (w : SavedCore) : Ctx :=
  { x with chf := w.chf.foldl (fun m r => Tab.put 0 m (4 * w.lcore + r.1) r.2) x.chf
           coreCtr := w.ctrs.foldl (fun m r => Tab.put 0 m (16 * w.lcore + r.1) r.2) x.coreCtr }

/-- The context takes what another part's record holds of it: residency tables, phase, transition, counters, queue, thread, staged
stores before those that have arrived here (R347). -/
def adoptRecord (r : SaveRecord) (x : Ctx) : Ctx :=
  let x := r.cores.foldl adoptCounters { x with chf := [], coreCtr := [] }
  { x with
    res := ((r.lists.map (fun q => q.2.map (fun e => (resKey q.1 e.1, residOf e.2)))).flatten).foldl
      (fun t e => Tab.put Resid.zero t e.1 e.2) []
    tiles := [], phase := r.rest.phase, tr := r.rest.tr, ctr := r.rest.ctr, queue := r.rest.queue, tasks := r.rest.tasks
    thr := r.rest.thr, staged := r.rest.staged ++ x.staged.filter (fun g => g.writer == 0) }

/-- The context resumes (R348 steps 5 to 7): queue entries keep their ages, and the comparison toward a kept target restarts
(R280). -/
def resumeCtx (c : Nat) (s : State) : State :=
  let s := s.onCtx c (fun x => { x with
    state := 1, cmd := 0, result := 0, saveAt := 0, overdue := false, record := none, queue := x.queue.map (aged s.cycle) })
  if (s.ctx c).tr.pend then beginTo c (s.ctx c).tr.tgt.toNat s else s

/-- The steps of R348 for an authentic record. -/
def restoreFrom (c : Nat) (r : SaveRecord) (foreign : Bool) (s : State) : State :=
  let s := if foreign then s.onCtx c (adoptRecord r) else s
  resumeCtx c (r.lists.foldl (restoreResidencies c) (r.cores.foldl (restoreCore c) s))

/-- Command 2 (R348). While another context's task runs on a core it would use, or holds a bank it acquires there, or pages of newly
bound bases have still to rise (log 79), the command waits. -/
def restoreCommand (c : Nat) (s : State) : State :=
  match restoreRefused s c, restoreRecord s c with
  | some r, _ => refuseCommand c 2 r s
  | none, none => s
  | none, some (r, foreign) =>
    if restoreFree s c r && (s.ctx c).rising.isEmpty then restoreFrom c r foreign s else s.onCtx c (fun x => { x with cmd := 2 })

/-- RESTORE_COMMAND (R348): the host writes command 2 for context `c`, or a waiting one is looked at again. -/
def execRestoreCommand (c : Nat) (s : State) : Host.Outcome State Fault Refusal :=
  happen hostUp (restoreCommand c) s

/-! ### End and unload (R349) -/

/-- The work of a context on a core is abandoned, and the core released when it is the context's (R210, R349). -/
def endCore (c : Nat) (k : Core) : Core :=
  let k := freeBanks c (dropWork c k)
  let k := { k with granules := k.granules.filter (fun g => g.ctx != c), left := k.left.filter (fun y => leftCtx y != c) }
  if k.ctx = some c then
    { k with ctx := none, run := .idle, task := 0, flights := [], board := [], loom := [], sclds := [], scaleQ := [],
             addrQ := [], l1 := [], icache := [], lePend := false, trapPend := none, atPadv := false, yieldReq := false
             atSafe := false }
  else k

/-- A held slot revoked at the end of its context (R305, R349). -/
def endSlot (e : Resid) : Resid :=
  if e.held then
    { e with rgen := e.gen, gen := if e.gen = 4095 then 1 else e.gen + 1, state := 7, pin := false, held := false }
  else e

/-- An ended context (R349). -/
def endCtx (x : Ctx) : Ctx :=
  { x with state := 5, cmd := 0, result := 0, saveAt := 0, staged := [], queue := [], tasks := [], mapld := [], rising := [], tiles := [],
           record := none, res := Tab.mapVal x.res endSlot
           thr := { x.thr with fixed := none, watch := none, halted := true }
           tr := { x.tr with pend := false, ready := false, work := [] } }

/-- The device tells every bound partner that the context has ended: a packet in class ORD of channel 4, which clears the refusal
states of that channel (R215, R221). DESIGN CHOICE (log 64): the manual names the effect, not the packet. -/
def sendEnded (c : Nat) (s : State) : State :=
  ((s.ctx c).binding.filter (fun b => b.2.getLsbD 15)).foldl (fun t b =>
    { t with
      out := t.out ++ [{ dev := b.1, ctx := c, dst := b.2.toNat % 64, core := 0, chan := 4, rc := 0, ver := 0, va := 0, kind := .ended }] }) s

/-- The packets that wait for a page of an ended context are refused with status 3 (R320). -/
def refuseWaiting (c : Nat) (s : State) : State :=
  (s.waiting.filter (fun k => k.dst == c)).foldl (fun t k => reply k 3 0 false t)
    { s with waiting := s.waiting.filter (fun k => k.dst != c) }

/-- The AtomicOps of the host that wait for a page of an ended context are answered with Unsupported Request (R341). -/
def refuseHostOps (c : Nat) (s : State) : State :=
  { s with
    hostOps := s.hostOps.filter (fun k => k.ctx != c)
    replies := s.replies ++ (s.hostOps.filter (fun k => k.ctx == c)).map (fun k =>
      { dest := 64 + k.fn, status := 1, data := 0, poisoned := false }) }

/-- Command 3 (R349). -/
def endCommand (c : Nat) (s : State) : State :=
  let x := s.ctx c
  if x.state = 1 ∨ x.state = 2 ∨ x.state = 3 ∨ x.state = 6 then
    let s := (sendEnded c s).onCtx c endCtx
    let s := refuseHostOps c <| refuseWaiting c { s with cores := Tab.mapVal s.cores (endCore c), reqs := dropReqs c s.reqs }
    postFault (stateRecord s c 5 0) s
  else refuseCommand c 3 5 s

/-- END_COMMAND (R349): the host writes command 3 for context `c`. -/
def execEndCommand (c : Nat) (s : State) : Host.Outcome State Fault Refusal :=
  happen hostUp (endCommand c) s

/-- A flow of a remote core (R214), as the receiver keeps it: sender device, context, core, channel, class, and the partner
context it names. -/
def flowCode (dev c lcore ch rc dst : Nat) : Nat := ((((dev * 64 + c) * 512 + lcore) * 16 + ch) * 4 + rc) * 64 + dst

/-- The sender device and context, the core and the channel of a flow. -/
def flowSender (f : Nat) : Nat := f / 2 ^ 21
def flowChan (f : Nat) : Nat := f / 256

/-- Another context's region is bound to a base of context `c` (R269). -/
def baseInUse (s : State) (c : Nat) : Bool :=
  s.ctxs.any (fun k => k.1 != c && k.2.state != 0 && k.2.shared.any (fun q => q.2.1 == c))

/-- A core forgets an unloaded context: its number may be another context's next (R165, R180). -/
def forgetCtx (c : Nat) (k : Core) : Core :=
  { k with
    banks := k.banks.map (fun (b : Nat × Bank) => if b.2.held = c + 1 then (b.1, { b.2 with held := 0 }) else b)
    acc := if k.accCtx = some c then [] else k.acc
    accCtx := if k.accCtx = some c then none else k.accCtx }

/-- An ended context is unloaded (R349): its number is free, and its memory. -/
def unloadCtx (c : Nat) (s : State) : State :=
  { s with ctxs := Tab.erase s.ctxs c
           mem := (s.mem.clear (c * 2 ^ 48) ((c + 1) * 2 ^ 48)).clear (privKey c 0) (privKey (c + 1) 0)
           cores := Tab.mapVal s.cores (forgetCtx c)
           reqCtx := s.reqCtx.filter (fun k => k.2 != c)
           unacked := s.unacked.filter (fun u => u.ctx != c)
           poison := s.poison.filter (fun r => keyCtx (512 * r) != c)
           l2 := s.l2.filter (fun (k : Nat × Line) => keyCtx (128 * k.2.line) != c) }

/-- CONTEXT_UNLOAD (R349): the host unloads the ended context `c`. -/
def execContextUnload (c : Nat) (s : State) : Host.Outcome State Fault Refusal :=
  happen (fun s => hostUp s && (s.ctx c).state == 5 && !(baseInUse s c)) (unloadCtx c) s

end Sys2Proof.Machine
end

