-- ==== Sys2Proof/Machine/Host.lean ====
section
/-!
DEFINITION. Machine/Host.lean: the host port: BAR0 registers and table windows (R339, R342, R344), the Rota and routing
controls (R317, R321), the management mailbox (R343), BAR2 (R341), ATS (R351).
-/

namespace Sys2Proof.Machine

/-! ### Bytes of a block -/

/-- An image of `n` bytes with `size` bytes from `off` replaced by those of `val`. -/
def mergeBytes (n old off size val : Nat) : Nat :=
  (gather 8 (fun b => ((if off ≤ b ∧ b < off + size then val / 2 ^ (8 * (b - off)) % 256 else old / 2 ^ (8 * b) % 256), 0)) n).1

/-- The field of `n` bytes at a byte offset of an image. -/
def byteField (img off n : Nat) : Nat := img / 2 ^ (8 * off) % 2 ^ (8 * n)

/-! ### Refused writes (R342) -/

/-- A refused host write: the status word and a record of kind 14 whose info holds the cause. -/
def refuseWrite (off cause : Nat) (s : State) : State :=
  postFault (devRecord s 14 0 0 (BitVec.ofNat 64 cause))
    { s with winStatus := BitVec.ofNat 64 (cause % 256 + off % 2 ^ 32 * 2 ^ 32) }

/-- The first cause that holds refuses a write; else it takes effect. -/
def writeUnless (off : Nat) (l : List (Bool × Nat)) (f : State → State) (s : State) : State :=
  match l.find? Prod.fst with
  | some k => refuseWrite off k.2 s
  | none => f s

/-- The per-context tables of a context may not be written: it runs, is saving or restoring (R296, R339). -/
def tablesClosed (s : State) (c : Nat) : Bool :=
  let x := s.ctx c
  (x.state == 1 && x.started) || x.state == 2 || x.state == 4

/-- The scheduling entry of a context may not be written (R249): it has started and is not saved. -/
def schedClosed (s : State) (c : Nat) : Bool :=
  let x := s.ctx c
  !(x.state == 0 || x.state == 3 || (x.state == 1 && !x.started))

/-! ### The Rota (R316, R317) -/

/-- A switch of Rota bank is requested; one that has taken place before is complete. -/
def rotaRequest (s : State) : State := { settleRota s with rotaPend := true, rotaAt := s.cycle, rotaDone := false }

/-- ROTA_SWITCH_REQUEST (R317): the host requests that the inactive bank become active. -/
def execRotaSwitchRequest (s : State) : Host.Outcome State Fault Refusal := happen hostUp rotaRequest s

/-- ROTA_SWITCH (R317): the bank that has become active at the start of a period, on every resource at once, is reported. -/
def execRotaSwitch (s : State) : Host.Outcome State Fault Refusal := happen rotaDue settleRota s

/-! ### Routing versions (R321) -/

/-- The state of a routing version: 0 EMPTY, 1 VALID, 2 RETIRING. -/
def routeState (s : State) (v : Nat) : Nat := Tab.get 0 s.rstate v

/-- The BAR0 offset of the routing control word. -/
def routeCtlOff : Nat := 0x20010

/-- The other version is selected for injection, when it is VALID; the old one retires. -/
def routeSelect (s : State) : State :=
  let v := 1 - s.rsel % 2
  if routeState s v = 1 then { s with rsel := v, rstate := Tab.set s.rstate (s.rsel % 2) 2 }
  else refuseWrite routeCtlOff 5 s

/-- ROUTING_SELECT (R321): the host selects the other version. -/
def execRoutingSelect (s : State) : Host.Outcome State Fault Refusal := happen hostUp routeSelect s

/-- The version that is not selected is marked VALID once written. -/
def routeValidate (s : State) : State :=
  let v := 1 - s.rsel % 2
  if routeState s v = 2 then refuseWrite routeCtlOff 5 s else { s with rstate := Tab.set s.rstate v 1 }

/-- ROUTING_VALIDATE (R342): the host marks the unselected version VALID. -/
def execRoutingValidate (s : State) : Host.Outcome State Fault Refusal := happen hostUp routeValidate s

/-- A retiring version with no packet in flight becomes EMPTY. -/
def routeRetire (s : State) : State :=
  let v := 1 - s.rsel % 2
  if routeState s v = 2 ∧ Tab.get 0 s.rflight v = 0 then { s with rstate := Tab.set s.rstate v 0 } else s

/-- ROUTING_RETIRE (R321): the retiring version's in-flight count has reached zero. -/
def execRoutingRetire (s : State) : Host.Outcome State Fault Refusal := happen (fun _ => true) routeRetire s

/-- The routing control word as the host reads it. -/
def routeCtlWord (s : State) : Nat :=
  s.rsel % 2 + routeState s 0 % 4 * 2 ^ 8 + routeState s 1 % 4 * 2 ^ 10 + Tab.get 0 s.rflight (1 - s.rsel % 2) % 2 ^ 32 * 2 ^ 32

/-! ### The management mailbox (R343) -/

/-- A field of the mailbox's data. -/
def mailField (s : State) (off n : Nat) : Nat := s.mboxMem.read (64 + off) n

/-- A response is written, then the status, then the vector is raised, one of the PF's 2,048 (R338). -/
def mailAnswer (status n v : Nat) (s : State) : State :=
  { s with mboxMem := s.mboxMem.write 64 n v, mbox := { s.mbox with status := status, rtag := s.mbox.tag }
           msix := if s.mbox.vector < 2048 then s.msix ++ [s.mbox.vector] else s.msix }

/-- Request 1: the CXL devices are described (R350); at most 8. -/
def mailDescribe (s : State) : State :=
  let n := mailField s 0 8
  if 8 < n then mailAnswer 2 0 0 s
  else mailAnswer 1 0 0 { s with cxl := (List.range n).map (fun k => mailField s (8 + 32 * k) 32) }

/-- Request 2: firmware is loaded from host memory, in recovery only (R358); it is what attestation measures (R357). -/
def mailFirmware (s : State) : State :=
  if s.bootStep = 2 then
    let image := s.hostMem.read (mailField s 8 8) (mailField s 0 8)
    mailAnswer 1 4 (Config.firmwareCode (mailField s 0 8) image).toNat { s with firmware := image }
  else mailAnswer 2 0 0 s

/-- Request 3: one 8-byte sample for each sensor selected. -/
def mailTelemetry (s : State) : State :=
  let l := (List.range 64).filter (fun k => mailField s 0 8 / 2 ^ k % 2 == 1)
  let v := (gather 64 (fun k => (Tab.get 0 s.telemetry (l.getD k 0), 0)) l.length).1
  mailAnswer 1 (8 * l.length) v s

/-- A context of the tenant is in a state other than 0 or 5. -/
def tenantBusy (s : State) (t : Nat) : Bool := s.ctxs.any (fun k => k.2.tenant == t && k.2.state != 0 && k.2.state != 5)

/-- A key slot that a tenant's teardown clears (R322). -/
def slotToClear (t : Nat) (k : KeySlot) : Bool := k.state != 0 && k.tenant == t

/-- Request 4: every LIVE or KILLED slot of a tenant becomes EMPTY, with key zero. -/
def mailTeardown (s : State) : State :=
  let t := mailField s 0 1
  if tenantBusy s t then mailAnswer 2 0 0 s
  else
    let n := (s.keys.filter (fun k => slotToClear t k.2)).length
    mailAnswer 1 4 n { s with keys := Tab.mapVal s.keys (fun k =>
      if slotToClear t k then { state := 0, tenant := 0, key := 0, epoch := k.epoch } else k) }

/-- A management window that is no range of whole pages of LPDDR-6, or for which a die has no room (R342, R10). -/
def windowBad (s : State) (base size : Nat) : Bool :=
  base % 65536 != 0 || size % 65536 != 0 || decide (4 * 3906250 * 65536 < base + size)
    || (List.range 4).any (fun d => !(tierPages s 1).all (fun n =>
      decide (usedPages { s with mwinBase := base, mwinSize := size } 1 d ≤ n)))

/-- Request 5: the management window is set (R342). DESIGN CHOICE (log 83): a window that R342 does not admit is refused, where R343 lists
an armed queue alone. -/
def mailWindow (s : State) : State :=
  let base := mailField s 0 8
  let size := mailField s 8 8
  if s.pageQ.armed = true ∨ windowBad s base size = true then mailAnswer 2 0 0 s
  else mailAnswer 1 0 0 { s with mwinBase := base, mwinSize := size }

/-- A binding of request 6 is admitted (R343). -/
def bindOk (s : State) (src dst rs rt : Nat) : Bool :=
  let x := s.ctx src
  let y := s.ctx dst
  let a := Tab.get 0 x.regions rs
  let b := Tab.get 0 y.regions rt
  decide (src < 64) && decide (dst < 64) && (y.state == 3 || (y.state == 1 && !y.started)) && x.state != 0 && x.state != 5
    && x.tenant == y.tenant && regValid a && regValid b && regSize a == regSize b && !regCode a && !regCode b

/-- The backing of a range of virtual addresses of a context is released: its own pages, those it has made its own (R274), what L2 holds
of them, and the stores staged there. -/
def releaseRange (c lo hi : Nat) (s : State) : State :=
  let own := c * 2 ^ 48
  let cow := privKey c 0
  let inside (key : Nat) : Bool :=
    (decide (own + lo ≤ key) && decide (key < own + hi)) || (decide (cow + lo ≤ key) && decide (key < cow + hi))
  let page (g : Nat) : Bool := decide (lo ≤ g * 65536) && decide (g * 65536 < hi)
  let s := { s with
    mem := (s.mem.clear (own + lo) (own + hi)).clear (cow + lo) (cow + hi)
    poison := s.poison.filter (fun r => !inside (512 * r))
    l2 := s.l2.filter (fun (k : Nat × Line) => !inside (128 * k.2.line)) }
  s.onCtx c (fun y => { y with
    pages := y.pages.filter (fun (g : Nat × Place) => !page (g.1 % 2 ^ 32))
    priv := y.priv.filter (fun g => !page g)
    staged := y.staged.filter (fun (g : Stage) => !page (g.back / 65536)) })

/-- The backing of a region of a context is released. -/
def releaseBacking (c : Nat) (e : BitVec 128) (s : State) : State := releaseRange c (regBase e) (regBase e + regSize e) s

/-- The pages of a list that want another place under a context's current map are the Reeves' to bring there (R274, R271). DESIGN CHOICE
(log 79): until they are there, the context's stream thread does not start, and a restore of it waits. -/
def raisePages (c : Nat) (l : List Nat) (s : State) : State :=
  s.onCtx c (fun y => { y with rising := y.rising ++ (l.filter (wantsRise s c)).map (fun g => (g, 0)) })

/-- A region of one context is bound to the backing of a region of another (R269, R274): its own backing is released, its
staged stores are discarded, and its residencies of watched rows are stale (R307). -/
def bindBase (src dst rs rt : Nat) (s : State) : State :=
  let a := Tab.get 0 (s.ctx src).regions rs
  let b := Tab.get 0 (s.ctx dst).regions rt
  let home := (Tab.find (s.ctx src).shared rs).getD (src, regBase a)
  let s := (releaseBacking dst b s).onCtx src (fun x => { x with regions := Tab.set x.regions rs (a ||| 2) })
  let s := s.onCtx dst (fun y => { y with regions := Tab.set y.regions rt (b ||| 2), shared := Tab.set y.shared rt home })
  let s := raisePages dst (regPages b) s
  staleRange dst (s.ctx dst).phase.toNat (regBase b) (regBase b + regSize b) s

/-- Request 6. -/
def mailBind (s : State) : State :=
  let src := mailField s 0 1
  let dst := mailField s 1 1
  let rs := mailField s 4 2
  let rt := mailField s 6 2
  if bindOk s src dst rs rt then mailAnswer 1 0 0 (bindBase src dst rs rt s) else mailAnswer 2 0 0 s

/-- An unknown request. -/
def mailUnknown (s : State) : State := mailAnswer 3 0 0 s

/-- The mailbox answers (R343, R358); in recovery only request 2 does. -/
def mailUp (s : State) : Bool := s.mbox.status != 0 && hostUp s

/-- A request code is written to the mailbox. -/
def mailCommand (code : Nat) (s : State) : State :=
  let s := { s with mbox := { s.mbox with command := code } }
  if s.bootStep = 2 then (if code = 2 then mailFirmware s else s)
  else if code = 1 then mailDescribe s
  else if code = 2 then mailFirmware s
  else if code = 3 then mailTelemetry s
  else if code = 4 then mailTeardown s
  else if code = 5 then mailWindow s
  else if code = 6 then mailBind s
  else mailUnknown s

/-- MGMT_DESCRIBE_CXL (R343): request 1. -/
def execMgmtDescribeCxl (s : State) : Host.Outcome State Fault Refusal := happen mailUp mailDescribe s

/-- MGMT_LOAD_FIRMWARE (R343): request 2. -/
def execMgmtLoadFirmware (s : State) : Host.Outcome State Fault Refusal :=
  happen (fun s => s.mbox.status != 0 && (hostUp s || s.bootStep == 2)) mailFirmware s

/-- MGMT_READ_TELEMETRY (R343): request 3. -/
def execMgmtReadTelemetry (s : State) : Host.Outcome State Fault Refusal := happen mailUp mailTelemetry s

/-- MGMT_TENANT_TEARDOWN (R343): request 4. -/
def execMgmtTenantTeardown (s : State) : Host.Outcome State Fault Refusal := happen mailUp mailTeardown s

/-- MGMT_SET_MGMT_WINDOW (R343): request 5. -/
def execMgmtSetMgmtWindow (s : State) : Host.Outcome State Fault Refusal := happen mailUp mailWindow s

/-- MGMT_BIND_SHARED_BASE (R343): request 6. -/
def execMgmtBindSharedBase (s : State) : Host.Outcome State Fault Refusal := happen mailUp mailBind s

/-- MGMT_UNKNOWN_COMMAND (R343): a code that names no request is answered with status 3. -/
def execMgmtUnknownCommand (s : State) : Host.Outcome State Fault Refusal := happen mailUp mailUnknown s

/-! ### Blocks of BAR0 (R339, R342) -/

/-- The blocks and table entries that a host write may reach. -/
inductive Block where
  | none
  | queue (page : Bool)
  | pool
  | area
  | control (c : Nat)
  | mailHead
  | mailData
  | status
  | rotaCtl
  | routeCtl
  | select
  | window (fn : Nat)
  | tenant (t : Nat)
  | rota (bank i : Nat)
  | route (v dev : Nat)
  | marks (k : Nat)
  | quota (p : Nat)
  | owner (p : Nat)
  | sched (c : Nat)
  | place (c k : Nat)
  | binding (c dev : Nat)
  | vector (c k : Nat)
  | rank (c r : Nat)
  | region (c r : Nat)
  | policy (k : Nat)
  | yields
  | counter (off : Nat)
  deriving DecidableEq, Repr

/-- An entry of a table of entries of `len` bytes from `base`: the entry, the offset in it, its length. -/
def inTable (off base len : Nat) (f : Nat → Block) : Block × Nat × Nat := (f ((off - base) / len), (off - base) % len, len)

/-- The entry of the per-context window that an offset names, for the selected context (R342). -/
def ctxBlock (c off : Nat) : Block × Nat × Nat :=
  if off < 16 then (.sched c, off, 16)
  else if off < 16 + 160 then inTable off 16 2 (.place c)
  else if 0x1000 ≤ off ∧ off < 0x1080 then inTable off 0x1000 2 (.binding c)
  else if 0x1100 ≤ off ∧ off < 0x1140 then inTable off 0x1100 4 (.vector c)
  else if 0x2000 ≤ off ∧ off < 0x2800 then inTable off 0x2000 2 (.rank c)
  else if 0x4000 ≤ off ∧ off < 0x8000 then inTable off 0x4000 16 (.region c)
  else (.none, 0, 1)

/-- The entry of the device's table windows that an offset from 02_0000h names (R342). -/
def windowBlock (off : Nat) : Block × Nat × Nat :=
  if off < 0x8 then (.status, off, 8)
  else if off < 0x10 then (.rotaCtl, off - 0x8, 8)
  else if off < 0x18 then (.routeCtl, off - 0x10, 8)
  else if off < 0x20 then (.select, off - 0x18, 8)
  else if 0x100 ≤ off ∧ off < 0x210 then inTable off 0x100 16 .window
  else if 0x1000 ≤ off ∧ off < 0x1100 then inTable off 0x1000 16 .tenant
  else if 0x1100 ≤ off ∧ off < 0x1180 then inTable off 0x1100 1 (.rota 0)
  else if 0x1180 ≤ off ∧ off < 0x1200 then inTable off 0x1180 1 (.rota 1)
  else if 0x1200 ≤ off ∧ off < 0x1300 then inTable off 0x1200 4 (.route 0)
  else if 0x1300 ≤ off ∧ off < 0x1400 then inTable off 0x1300 4 (.route 1)
  else if 0x1400 ≤ off ∧ off < 0x1450 then inTable off 0x1400 8 .marks
  else if 0x2000 ≤ off ∧ off < 0x4A00 then inTable off 0x2000 32 .quota
  else if 0x5000 ≤ off ∧ off < 0x52A0 then inTable off 0x5000 2 .owner
  else (.none, 0, 1)

/-- The block that an offset of the PF's BAR0 names (R339). -/
def pfBlock (sel off : Nat) : Block × Nat × Nat :=
  if 0x1000 ≤ off ∧ off < 0x1020 then (.queue true, off - 0x1000, 32)
  else if 0x1020 ≤ off ∧ off < 0x1040 then (.queue false, off - 0x1020, 32)
  else if 0x1040 ≤ off ∧ off < 0x1060 then (.pool, off - 0x1040, 32)
  else if 0x1060 ≤ off ∧ off < 0x1080 then (.area, off - 0x1060, 32)
  else if 0x2000 ≤ off ∧ off < 0x3000 then inTable off 0x2000 64 .control
  else if 0x10000 ≤ off ∧ off < 0x10040 then (.mailHead, off - 0x10000, 64)
  else if 0x10040 ≤ off ∧ off < 0x20000 then (.mailData, off - 0x10000, 0x10000)
  else if 0x20000 ≤ off ∧ off < 0x40000 then windowBlock (off - 0x20000)
  else if 0x40000 ≤ off ∧ off < 0x50000 then ctxBlock sel (off - 0x40000)
  else if 0x100000 ≤ off ∧ off < 0x200000 then (.counter off, 0, 1)
  else if 0x200100 ≤ off ∧ off < 0x200108 then (.yields, off - 0x200100, 8)
  else if 0x200000 ≤ off ∧ off < 0x210000 then (.policy (Config.policyAt (off - 0x200000)), 0, 1)
  else (.none, 0, 1)

/-- The tenant that a VF is bound to (R17): at reset VF n to tenant n − 1, each tenant with a function of its own (log 93). -/
def vfTenantOf (s : State) (fn : Nat) : Nat := (Tab.find s.vfTenant fn).getD (fn - 1)

/-- The block that an offset of a VF's BAR0 names (R343): the control blocks of its own tenant's contexts. -/
def vfBlock (s : State) (fn off : Nat) : Block × Nat × Nat :=
  if 0x1000 ≤ off ∧ off < 0x2000 then
    let c := (off - 0x1000) / 64
    if (s.ctx c).tenant = vfTenantOf s fn then (.control c, (off - 0x1000) % 64, 64) else (.none, 0, 64)
  else (.none, 0, 1)

/-! ### Images of blocks -/

def QueueCtl.image (q : QueueCtl) : Nat :=
  q.base % 2 ^ 64 + q.m % 256 * 2 ^ 64 + q.armed.toNat * 2 ^ 72 + q.vector % 2 ^ 16 * 2 ^ 80 + q.producer.toNat * 2 ^ 128
    + q.consumer.toNat * 2 ^ 160

/-- A ring's control block written; arming empties the ring. -/
def QueueCtl.put (img : Nat) (q : QueueCtl) : QueueCtl :=
  let armed := byteField img 9 1 % 2 == 1
  let consumer := BitVec.ofNat 32 (byteField img 20 4)
  { base := byteField img 0 8, m := byteField img 8 1, armed := armed, vector := byteField img 10 2
    producer := if armed && !q.armed then consumer else q.producer, consumer := consumer }

/-- A ring that may not be armed: m outside 6 to 16, base not aligned to its size (R263), a vector that the PF does not have (R338). -/
def queueBad (img rec_ : Nat) : Bool :=
  let m := byteField img 8 1
  byteField img 9 1 % 2 == 1 && (decide (m < 6) || decide (16 < m) || byteField img 0 8 % (2 ^ m * rec_) != 0
    || decide (2048 ≤ byteField img 10 2))

/-- A context control block (R340). -/
def ctlImage (x : Ctx) : Nat :=
  x.cmd % 256 + x.state % 256 * 2 ^ 8 + x.key % 2 ^ 16 * 2 ^ 16 + x.result % 2 ^ 32 * 2 ^ 32 + x.area % 2 ^ 64 * 2 ^ 64
    + x.size % 2 ^ 64 * 2 ^ 128 + x.timeout % 2 ^ 64 * 2 ^ 192 + x.limit % 2 ^ 64 * 2 ^ 256

/-- A command of the host (R340). -/
def command (c cmd : Nat) (s : State) : State :=
  if cmd = 0 then s
  else if cmd = 1 then saveCommand c s
  else if cmd = 2 then restoreCommand c s
  else if cmd = 3 then endCommand c s
  else refuseCommand c cmd 5 s

/-- A BAR2 window select (R342). -/
def bar2Image (b : Bar2) : Nat := b.ctx % 256 + b.valid.toNat * 2 ^ 8 + b.base % 2 ^ 64 * 2 ^ 64

/-- The size of the BAR2 window of a function (R338): a Resizable BAR of 1 GiB at reset (DESIGN CHOICE, log 76), up to 512 GiB. -/
def windowSize (s : State) (fn : Nat) : Nat := 2 ^ (30 + Tab.get 0 s.barSize fn % 10)

/-- A configuration request of the host to a function: until bring-up step 5 completes it is answered with Configuration Request Retry
Status (R338, R358). -/
def configRequest (fn : Nat) (f : State → State) (s : State) : State :=
  if hostUp s then f s
  else { s with replies := s.replies ++ [{ dest := 64 + fn, status := 2, data := 0, poisoned := false }] }

/-- The host sizes the BAR2 of a function: 2^(30 + k) bytes, k at most 9 (R338). -/
def sizeBar (fn k : Nat) (s : State) : State :=
  configRequest fn (fun s =>
    if decide (fn ≤ 16) && decide (k < 10) then { s with barSize := Tab.put 0 s.barSize fn k } else s) s

/-- The host enables the first VFs, at most 16 (R338, R358 step 5). -/
def enableVfs (n : Nat) (s : State) : State := configRequest 0 (fun s => if n ≤ 16 then { s with vfs := n } else s) s

/-- The host exchanges the tenants that two VFs are bound to (R17), so that each tenant keeps a function of its own (R338); their
windows, of other tenants' contexts by then, close. DESIGN CHOICE (log 93): the manual gives no register for the binding. -/
def bindVfs (fn gn : Nat) (s : State) : State :=
  configRequest 0 (fun s =>
    if 1 ≤ fn ∧ fn ≤ 16 ∧ 1 ≤ gn ∧ gn ≤ 16 then
      { s with
        vfTenant := Tab.set (Tab.set s.vfTenant fn (vfTenantOf s gn)) gn (vfTenantOf s fn)
        bar2 := Tab.erase (Tab.erase s.bar2 fn) gn }
    else s) s

/-- A window select that the device does not take (R342 cause 2). -/
def bar2Bad (s : State) (fn img : Nat) : Bool :=
  let c := byteField img 0 1
  let base := byteField img 8 8
  byteField img 1 7 / 2 != 0 || (decide (64 ≤ c) && c != 0xFF) || base % windowSize s fn != 0
    || (fn != 0 && (c == 0xFF || (s.ctx c).tenant != vfTenantOf s fn))

/-- The bits of a field of an image. -/
def bitField (img lo len : Nat) : Nat := img / 2 ^ lo % 2 ^ len

/-- A tenant entry that the device does not take: reserved bits and the key window (cause 2). -/
def tenantBad (img : Nat) : Bool :=
  bitField img 109 19 != 0 || bitField img 48 36 != 0 || decide (4096 < bitField img 84 12 + bitField img 96 13)

/-- Pinned ways overlap another tenant's pinned or allowed ways (cause 7, R318). -/
def pinClash (s : State) (t img : Nat) : Bool :=
  (List.range 16).any (fun u =>
    let o := Tab.get 0 s.tenants u
    u != t && ((bitField img 16 16 &&& (tenantPinned o ||| tenantAllowed o)) != 0 || (bitField img 0 16 &&& tenantPinned o) != 0))

/-- A tenant entry written by the host: its mask stays, within allowed (R318). -/
def tenantPut (img : Nat) (o : BitVec 128) : BitVec 128 :=
  BitVec.ofNat 128 (bitField img 0 32 + (tenantMask o &&& bitField img 0 16) * 2 ^ 32 + bitField img 84 25 * 2 ^ 84)

/-- A core's quota table (R296), 16 entries of 2 bytes. -/
def quotaImage (s : State) (p : Nat) : Nat := (gather 16 (fun t => ((Tab.get (0 : BitVec 16) s.quotas (16 * p + t)).toNat, 0)) 16).1

/-- A core's physical cluster is the one that fuses disable (R20). -/
def coreDisabled (p : Nat) : Bool := (Config.disabledCluster (dieOf p)).val == p % 84 / 4

/-- A placement entry that names a disabled cluster, or one whose cores are not the tenant's (cause 4, R249). -/
def placeBad (s : State) (c k img : Nat) : Bool :=
  bitField img 15 1 == 1
    && (let first := 84 * (k / 20) + 4 * bitField img 0 5
        coreDisabled first || (List.range 4).any (fun j => !ownedBy s (first + j) (s.ctx c).tenant))

/-- A header of a scheduling entry whose tenant does not own the cores of a cluster placed (cause 4, R249). -/
def headBad (s : State) (c img : Nat) : Bool :=
  decide (byteField img 0 1 ≠ (s.ctx c).tenant)
    && (s.ctx c).placement.any (fun k => k.2.getLsbD 15
        && (List.range 4).any (fun j => !ownedBy s (84 * (k.1 / 20) + 4 * bfld k.2 0 5 + j) (byteField img 0 1)))

/-- A region table entry that the device does not take (cause 2): reserved bits, a shared or code bit set, any change of the code region
(R99), a region beyond the address space or over another. DESIGN CHOICE (log 86): a bound region changes in nothing either. -/
def regionBad (x : Ctx) (r img : Nat) : Bool :=
  let e := BitVec.ofNat 128 img
  let o := Tab.get 0 x.regions r
  bitField img 112 16 != 0 || bitField img 48 40 != 0 || bitField img 3 13 != 0
    || (if regShared o || regCode o then e != o else regShared e || regCode e)
    || (regValid e && (decide (2 ^ 48 < regBase e + regSize e)
        || x.regions.any (fun q => q.1 != r && regValid q.2 && decide (regBase q.2 < regBase e + regSize e)
              && decide (regBase e < regBase q.2 + regSize q.2))))

/-- The page lies in the region that an entry names. -/
def pageIn (e : BitVec 128) (page : Nat) : Bool :=
  regValid e && decide (regBase e ≤ page * 65536) && decide (page * 65536 < regBase e + regSize e)

/-- A region table entry of a context that does not run is written. DESIGN CHOICE (log 86): pages that no entry names any longer are
released with their contents; those newly named read zero and lie where step 4 of R97 would place them under the current map; none when
there is no place. -/
def putRegion (c r : Nat) (e : BitVec 128) (s : State) : Option State :=
  let x := s.ctx c
  let o := Tab.get 0 x.regions r
  let gone := if regValid o then (regPages o).filter (fun g => !pageIn e g) else []
  let new := if regValid e then (regPages e).filter (fun g => !pageIn o g) else []
  let m := x.phase.toNat
  let stale (g : Nat) (t : State) : State := staleRange c m (g * 65536) ((g + 1) * 65536) t
  let s := gone.foldl (fun t g => releaseRange c (g * 65536) ((g + 1) * 65536) (stale g t)) s
  let s := s.onCtx c (fun y => { y with regions := Tab.put 0 y.regions r e })
  if x.state = 0 then some s
  else
    match loadPages c (mePlace (mapEntry x m r) % 2 == 1) (new.map (fun g => (r, g))) s with
    | .error _ => none
    | .ok t => some (raisePages c new (new.foldl (fun t g => stale g t) t))

/-- A scheduling entry's header (R249). -/
def schedImage (x : Ctx) : Nat := x.tenant % 256 + x.split % 256 * 2 ^ 8 + x.aging % 256 * 2 ^ 16 + x.thread % 256 * 2 ^ 24

/-- A policy or event register (R352, R355). -/
def policyGet (s : State) (k : Nat) : Byte :=
  if 1 ≤ k ∧ k < 17 then Tab.get 0 s.linkPol (k - 1) else if 32 ≤ k then Tab.get 0 s.eventPol (k - 32) else 0

/-- The bytes of a block as a host write finds them. -/
def blockImage (s : State) : Block → Nat
  | .queue true => s.pageQ.image
  | .queue false => s.faultQ.image
  | .pool => s.poolBase % 2 ^ 64 + s.poolSize % 2 ^ 32 * 2 ^ 64 + s.poolArmed.toNat * 2 ^ 96
  | .area => s.ansBase % 2 ^ 64 + s.ansCount % 2 ^ 32 * 2 ^ 64 + s.ansArmed.toNat * 2 ^ 96
  | .control c => ctlImage (s.ctx c)
  | .mailHead => s.mbox.command % 2 ^ 32 + s.mbox.tag % 2 ^ 32 * 2 ^ 32 + s.mbox.status % 2 ^ 32 * 2 ^ 64
      + s.mbox.rtag % 2 ^ 32 * 2 ^ 96 + s.mbox.vector % 2 ^ 16 * 2 ^ 128
  | .status => s.winStatus.toNat
  | .rotaCtl => 0
  | .routeCtl => 0
  | .select => s.ctxSel % 64
  | .window fn => bar2Image (Tab.get Bar2.zero s.bar2 fn)
  | .tenant t => (Tab.get 0 s.tenants t).toNat
  | .rota b i => (rotaEntry s b i).toNat
  | .route v d => (Tab.get 0 s.routes (64 * v + d)).toNat
  | .marks k => (Tab.get 0 s.marks (2 * k)).toNat + (Tab.get 0 s.marks (2 * k + 1)).toNat * 2 ^ 32
  | .quota p => quotaImage s p
  | .owner p => (Tab.get (0 : BitVec 16) s.owner p).toNat
  | .sched c => schedImage (s.ctx c)
  | .place c k => (Tab.get (0 : BitVec 16) (s.ctx c).placement k).toNat
  | .binding c d => (Tab.get (0 : BitVec 16) (s.ctx c).binding d).toNat
  | .vector c k => (vectorOf (s.ctx c) k).toNat
  | .rank c r => (Tab.get (0 : BitVec 16) (s.ctx c).ranks r).toNat
  | .region c r => (Tab.get 0 (s.ctx c).regions r).toNat
  | .policy k => (policyGet s k).toNat
  | .yields => s.yieldDef % 2 ^ 32
  | .counter _ => 1
  | .mailData => 0
  | .none => 0

/-! ### Host counters (R339) -/

/-- A host counter cleared. -/
def hostCounterClear (off : Nat) (s : State) : State :=
  let k := Config.counterAt off
  let link (f : Link → Link) : State := { s with links := Tab.upd Link.zero s.links k.2.1 f }
  if k.1 = 1 then s.onCtx k.2.1 (fun x => { x with bufBytes := Tab.put 0 x.bufBytes k.2.2 0 })
  else if k.1 = 2 then s.onCtx k.2.1 (fun x => { x with bufStall := Tab.put 0 x.bufStall k.2.2 0 })
  else if k.1 = 3 then { s with conflicts := Tab.put 0 s.conflicts k.2.1 0 }
  else if k.1 = 4 then link (fun l => { l with flits := 0 })
  else if k.1 = 5 then link (fun l => { l with replays := 0 })
  else if k.1 = 6 then link (fun l => { l with failovers := 0 })
  else if k.1 = 7 then link (fun l => { l with retrains := 0 })
  else if k.1 = 8 then { s with discarded := 0 }
  else s

/-- HOST_COUNTER_CLEAR (R339): a host write of zero at an offset of the counter readout. -/
def execHostCounterClear (off : Nat) (s : State) : Host.Outcome State Fault Refusal := happen hostUp (hostCounterClear off) s

/-- TABLE_STATUS_CLEAR (R342): a host write of zero clears the status word. -/
def execTableStatusClear (s : State) : Host.Outcome State Fault Refusal := happen hostUp (fun s => { s with winStatus := 0 }) s

/-! ### Writes of blocks -/

/-- A context runs on a core (R344): a task is there, or its context is neither saved nor ended nor gone. -/
def coreHeld (s : State) (p : Nat) : Bool :=
  (s.core p).run != .idle || (s.core p).ctx.any (fun c => (s.ctx c).state != 0 && (s.ctx c).state != 3 && (s.ctx c).state != 5)

/-- A device table or register written with its new image; `off` is the BAR0 offset, `at_` and `size` say what the write
covers. The save area of a control block is 64 KiB aligned (R340): DESIGN CHOICE (log 80), its low bits stay zero. -/
def devicePut (off at_ size img : Nat) (s : State) : Block → State
  | .queue true => writeUnless off [(queueBad img 32, 2)] (fun s => { s with pageQ := s.pageQ.put img }) s
  | .queue false => writeUnless off [(queueBad img 64, 2)] (fun s => { s with faultQ := s.faultQ.put img }) s
  | .pool => { s with poolBase := byteField img 0 8, poolSize := byteField img 8 4, poolArmed := byteField img 12 1 % 2 == 1 }
  | .area =>
    let base := byteField img 0 8
    let n := byteField img 8 4
    let armed := byteField img 12 1 % 2 == 1
    writeUnless off
      [(armed && (base % 4096 != 0 || decide (n < 64) || decide (65536 < n) || decide (base < s.mwinBase)
          || decide (s.mwinBase + s.mwinSize < base + 8 * n)), 2)]
      (fun s => { s with ansBase := base, ansCount := n, ansArmed := armed }) s
  | .control c =>
    let s := s.onCtx c (fun x => { x with key := byteField img 2 2, area := byteField img 8 8 / 65536 * 65536,
                                          timeout := byteField img 24 8, limit := byteField img 32 8 })
    if at_ = 0 then command c (byteField img 0 1) s else s
  | .mailHead =>
    let s := { s with mbox := { s.mbox with tag := byteField img 4 4, vector := byteField img 16 2 } }
    if at_ = 0 ∧ 4 ≤ size ∧ s.mbox.status ≠ 0 then mailCommand (byteField img 0 4) s else s
  | .status => if img = 0 then { s with winStatus := 0 } else s
  | .rotaCtl => if bitField img 1 1 = 1 then rotaRequest s else s
  | .routeCtl =>
    let s := if bitField img 2 1 = 1 then routeValidate s else s
    if bitField img 1 1 = 1 then routeSelect s else s
  | .select => writeUnless off [(decide (64 ≤ img), 2)] (fun s => { s with ctxSel := img }) s
  | .window fn =>
    let w : Bar2 := { ctx := byteField img 0 1, valid := byteField img 1 1 % 2 == 1, base := byteField img 8 8 }
    writeUnless off [(bar2Bad s fn img, 2)] (fun s => { s with bar2 := Tab.put Bar2.zero s.bar2 fn w }) s
  | .tenant t => writeUnless off [(tenantBad img, 2), (pinClash s t img, 7)] (fun s => abandonKeys { s with
      tenants := Tab.upd 0 s.tenants t (tenantPut img) }) s
  | .rota b i => writeUnless off [(bitField img 4 3 != 0, 2), (b == activeBank s || (s.rotaPend && !rotaDue s), 9)] (fun s => { s with
      rota := Tab.put 0 s.rota (128 * b + i) (BitVec.ofNat 8 img) }) s
  | .route v d => writeUnless off [(bitField img 5 11 != 0, 2), (routeState s v != 0, 5)] (fun s => { s with
      routes := Tab.put 0 s.routes (64 * v + d) (BitVec.ofNat 32 img) }) s
  | .marks k => writeUnless off [(decide (bitField img 0 32 < bitField img 32 32), 6)] (fun s => { s with
      marks := Tab.put 0 (Tab.put 0 s.marks (2 * k) (BitVec.ofNat 32 img)) (2 * k + 1) (BitVec.ofNat 32 (img / 2 ^ 32)) }) s
  | .quota p =>
    let entry (t : Nat) : Nat := bitField img (16 * t) 16
    writeUnless off
      [((List.range 16).any (fun t => decide (1536 < entry t)), 2),
       (decide (1536 < ((List.range 16).map entry).sum), 3)]
      (fun s => { s with quotas := (List.range 16).foldl (fun m t =>
        Tab.put 0 m (16 * p + t) (BitVec.ofNat 16 (entry t))) s.quotas }) s
  | .owner p => writeUnless off
      [(bitField img 4 11 != 0 || coreDisabled p, 2), (coreHeld s p, 8)]
      (fun s => { s with owner := Tab.put 0 s.owner p (BitVec.ofNat 16 img) }) s
  | .policy k =>
    if 1 ≤ k ∧ k < 17 then writeUnless off [(decide (8 ≤ img), 2)] (fun s => { s with
      linkPol := Tab.put 0 s.linkPol (k - 1) (BitVec.ofNat 8 img) }) s
    else if 32 ≤ k then { s with eventPol := Tab.put 0 s.eventPol (k - 32) (BitVec.ofNat 8 img) }
    else s
  | .yields => { s with yieldDef := bitField img 0 32 }
  | .counter o => if img = 0 then hostCounterClear o s else s
  | _ => s

/-- A per-context table written with its new image (R342), while its context does not run (cause 1). DESIGN CHOICE (log 73): two contexts
may name one stream thread, and each then runs a thread of its own. -/
def contextPut (off img : Nat) (s : State) : Block → State
  | .sched c => writeUnless off
      [(schedClosed s c, 1),
       (decide (16 ≤ byteField img 0 1) || decide (16 < byteField img 1 1) || decide (64 ≤ byteField img 3 1)
          || byteField img 4 12 != 0, 2), (headBad s c img, 4)]
      (fun s => s.onCtx c (fun x => { x with tenant := byteField img 0 1, split := byteField img 1 1,
                                             aging := byteField img 2 1, thread := byteField img 3 1 })) s
  | .place c k => writeUnless off
      [(schedClosed s c, 1), (bitField img 5 10 != 0 || decide (20 < bitField img 0 5), 2), (placeBad s c k img, 4)]
      (fun s => s.onCtx c (fun x => { x with placement := Tab.put 0 x.placement k (BitVec.ofNat 16 img) })) s
  | .binding c d => writeUnless off
      [(tablesClosed s c, 1), (bitField img 6 9 != 0 || (d == Config.ownDevice.val && bitField img 15 1 == 1), 2)]
      (fun s => s.onCtx c (fun x => { x with binding := Tab.put 0 x.binding d (BitVec.ofNat 16 img) })) s
  | .vector c k => writeUnless off [(tablesClosed s c, 1)]
      (fun s => if 1 ≤ k ∧ k < 12 then
          s.onCtx c (fun x => { x with vectors := Tab.put (BitVec.allOnes 32) x.vectors k (BitVec.ofNat 32 img) })
        else s) s
  | .rank c r => writeUnless off [(tablesClosed s c, 1)]
      (fun s => s.onCtx c (fun x => { x with ranks := Tab.put 0 x.ranks r (BitVec.ofNat 16 img) })) s
  | .region c r =>
    let t := putRegion c r (BitVec.ofNat 128 img) s
    writeUnless off [(tablesClosed s c, 1), (regionBad (s.ctx c) r img || t.isNone, 2)] (fun s => t.getD s) s
  | _ => s

/-- A write of `size` bytes at an offset of a block of `len` bytes. -/
def blockPut (off at_ len size val : Nat) (b : Block) (s : State) : State :=
  match b with
  | .mailData => { s with mboxMem := s.mboxMem.write at_ size val }
  | .counter o => if val % 2 ^ (8 * size) = 0 then hostCounterClear o s else s
  | _ =>
    let img := mergeBytes len (blockImage s b) at_ size val
    match b with
    | .sched _ | .place _ _ | .binding _ _ | .vector _ _ | .rank _ _ | .region _ _ => contextPut off img s b
    | _ => devicePut off at_ size img s b

/-- The block of a function's BAR0 that an offset names. -/
def blockAt (s : State) (fn off : Nat) : Block × Nat × Nat := if fn = 0 then pfBlock s.ctxSel off else vfBlock s fn off

/-- A host write, block by block; `fuel` bounds the blocks. -/
def hostWrite (fn : Nat) : Nat → Nat → Nat → Nat → State → State
  | 0, _, _, _, s => s
  | fuel + 1, off, size, val, s =>
    if size = 0 then s
    else
      let b := blockAt s fn off
      let n := match b.1 with
        | .counter _ => size
        | _ => min size (b.2.2 - b.2.1)
      hostWrite fn fuel (off + n) (size - n) (val / 2 ^ (8 * n)) (blockPut off b.2.1 b.2.2 n val b.1 s)

/-- A host write reaches a block: bring-up is complete and the function enabled, or the module is in recovery and it goes to the mailbox (R358). -/
def writeReaches (s : State) (fn off : Nat) : Bool :=
  (hostUp s && decide (fn ≤ s.vfs)) || (s.bootStep == 2 && fn == 0 && decide (0x10000 ≤ off) && decide (off < 0x20000))

/-- HOST_REGISTER_WRITE (R342): function `fn` (0 the PF, 1 to 16 the VFs) writes `size` bytes of `val` at an offset of its
BAR0. -/
def execHostRegisterWrite (fn off size val : Nat) (s : State) : Host.Outcome State Fault Refusal :=
  happen (fun s => writeReaches s fn off) (hostWrite fn size off size val) s

/-! ### Reads of BAR0 (R339, R342, R343, R358) -/

/-- A byte of the identity block (R358): the step reached, the outcome of bring-up, the part that failed. -/
def identityByte (s : State) (off : Nat) : Nat :=
  let k := Config.identityAt off
  let v := if k.1 = 1 then s.bootStep else if k.1 = 2 then s.bootOut else if k.1 = 3 then s.bootPart else 0
  byteField v k.2 1

/-- The value of a counter of the readout (R327, R339). -/
def hostCounter (s : State) (off : Nat) : Nat :=
  let k := Config.counterAt off
  let link (f : Link → Nat) : Nat := f (Tab.get Link.zero s.links k.2.1)
  if k.1 = 1 then Tab.get 0 (s.ctx k.2.1).bufBytes k.2.2
  else if k.1 = 2 then Tab.get 0 (s.ctx k.2.1).bufStall k.2.2
  else if k.1 = 3 then Tab.get 0 s.conflicts k.2.1
  else if k.1 = 4 then link Link.flits
  else if k.1 = 5 then link Link.replays
  else if k.1 = 6 then link Link.failovers
  else if k.1 = 7 then link Link.retrains
  else if k.1 = 8 then s.discarded
  else if k.1 = 9 then sliceOccupancy s k.2.1 k.2.2
  else 0

/-- The Rota control word as the host reads it (R342): the active bank, and whether the last switch is done. -/
def rotaCtlWord (s : State) : Nat := activeBank s % 2 + (if s.rotaDone || rotaDue s then 4 else 0)

/-- A byte of a block as a host read finds it: a control word's bits that are written to act read zero. -/
def blockByte (s : State) (b : Block) (at_ : Nat) : Nat :=
  match b with
  | .rotaCtl => byteField (rotaCtlWord s) at_ 1
  | .routeCtl => byteField (routeCtlWord s) at_ 1
  | .mailData => s.mboxMem.read at_ 1
  | .counter off => byteField (hostCounter s (off / 8 * 8)) (off % 8) 1
  | b => byteField (blockImage s b) at_ 1

/-- A byte of a function's BAR0 (R339, R343). Reserved offsets read zero, and so does another tenant's block. -/
def hostByte (s : State) (fn off : Nat) : Nat :=
  if fn = 0 ∧ off < 0x1000 then identityByte s off
  else if fn ≠ 0 ∧ off = 0 then vfTenantOf s fn
  else if fn ≠ 0 ∧ 0x2000 ≤ off ∧ off < 0x2010 then byteField (bar2Image (Tab.get Bar2.zero s.bar2 fn)) (off - 0x2000) 1
  else
    let b := blockAt s fn off
    blockByte s b.1 b.2.1

/-- A host read is answered: as a write is, and in recovery from the identity block too (R358). -/
def readReaches (s : State) (fn off : Nat) : Bool := writeReaches s fn off || (s.bootStep == 2 && fn == 0 && decide (off < 0x1000))

/-- An answer to the host. -/
def hostAnswer (fn : Nat) (v : Nat) (bad : Bool) (s : State) : State :=
  { s with replies := s.replies ++ [{ dest := 64 + fn, status := 0, data := BitVec.ofNat 4096 v, poisoned := bad }] }

/-- The host reads `size` bytes, at most 512, at an offset of a function's BAR0. -/
def hostRead (fn off size : Nat) (s : State) : State :=
  if readReaches s fn off && decide (size ≤ 512) then
    hostAnswer fn (gather 8 (fun k => (hostByte s fn (off + k), 0)) size).1 false s
  else s

/-! ### Attestation (R357) -/

/-- The measurements of R357: the boot ROM, the firmware image, the policy registers of R339, the key windows of the tenants. -/
def measurements (s : State) : List Nat :=
  [Config.bootRom, s.firmware, s.yieldDef] ++ (List.range 16).map (fun l => (Tab.get 0 s.linkPol l).toNat)
    ++ (List.range 17).map (fun k => (Tab.get 0 s.eventPol k).toNat)
    ++ (List.range 16).map (fun t => bfld (Tab.get 0 s.tenants t) 84 25)

/-- The device answers a message by DOE (R338, R357). -/
def doeMessage (request : Nat) (s : State) : State :=
  configRequest 0 (fun s =>
    let r := Config.spdmAnswer Config.identityKey (measurements s) s.spdm request
    hostAnswer 0 r.1 false { s with spdm := r.2.1, ide := r.2.2.getD s.ide }) s

/-! ### BAR2 (R341) -/

/-- The address of a host access in the window of its function. -/
def bar2Addr (s : State) (fn off : Nat) : Nat := (Tab.get Bar2.zero s.bar2 fn).base + off

/-- The window of a function shows the management window (R342). -/
def bar2Mgmt (s : State) (fn : Nat) : Bool := fn == 0 && (Tab.get Bar2.zero s.bar2 fn).ctx == 0xFF

/-- A window access is within the window, and the window is valid. -/
def bar2Open (s : State) (fn off size : Nat) : Bool :=
  hostUp s && decide (fn ≤ s.vfs) && (Tab.get Bar2.zero s.bar2 fn).valid && decide (1 ≤ size) && decide (size ≤ 512)
    && decide (off + size ≤ windowSize s fn)

/-- A host access that the current map refuses (R341): Unsupported Request, and a record of kind 14. -/
def refuseAccess (c fn va : Nat) (s : State) : State :=
  postFault { ctxRecord s 14 0 c (BitVec.ofNat 64 fn) with addr := BitVec.ofNat 64 va }
    { s with replies := s.replies ++ [{ dest := 64 + fn, status := 1, data := 0, poisoned := false }] }

/-- The pages of a host access pass the current map of the context. -/
def hostRange (s : State) (c va size : Nat) (w : Want) : Bool := ownRange s c (BitVec.ofNat 64 va) size w && decide (va < 2 ^ 48)

/-- The answer words that a write to the management window covers are to be looked at (R342, R292). -/
def noteAnswers (a size : Nat) (s : State) : State :=
  let hit := (List.range ((a + size - 1) / 8 - a / 8 + 1)).filterMap (fun k =>
    let w := 8 * (a / 8 + k)
    if s.ansBase ≤ w ∧ w < s.ansBase + 8 * s.ansCount then some ((w - s.ansBase) / 8) else none)
  { s with answers := s.answers ++ hit.filter (fun k => !(s.answers.contains k)) }

/-- The device address of an access to the management window, when it lies inside. -/
def mgmtAddr (s : State) (off size : Nat) : Option Nat := if off + size ≤ s.mwinSize then some (s.mwinBase + off) else none

/-- A host access to a range of a context on the host tier goes through its translations (R351). -/
def touchRange (c va size : Nat) (s : State) : State := touchHost c (va + size - 1) (touchHost c va s)

/-- A host load through BAR2: the committed bytes, with live atomics and published fronts. -/
def bar2Load (fn off size : Nat) (s : State) : State :=
  if bar2Mgmt s fn then
    match mgmtAddr s off size with
    | none => s
    | some a => hostAnswer fn (s.mgmtMem.read a size) false s
  else
    let c := (Tab.get Bar2.zero s.bar2 fn).ctx
    let va := bar2Addr s fn off
    if hostRange s c va size .load then hostAnswer fn (memRead s c va size) (rangePoisoned s c va size) (touchRange c va size s)
    else refuseAccess c fn va s

/-- HOST_BAR2_LOAD (R341): function `fn` loads `size` bytes at an offset of its window. -/
def execHostBar2Load (fn off size : Nat) (s : State) : Host.Outcome State Fault Refusal :=
  happen (fun s => bar2Open s fn off size) (bar2Load fn off size) s

/-- The rows a host write covers change for every residency of the context at once (R307). -/
def staleRows (c va size : Nat) (s : State) : State :=
  (List.range ((va + size - 1) / 512 - va / 512 + 1)).foldl (fun t k =>
    staleRow c (t.ctx c).phase.toNat (fun _ => true) ((va / 512 + k) * 512) t) s

/-- A host write through BAR2: live, word by word (R341). -/
def bar2Write (fn off size val : Nat) (s : State) : State :=
  if bar2Mgmt s fn then
    match mgmtAddr s off size with
    | none => s
    | some a => noteAnswers a size { s with mgmtMem := s.mgmtMem.write a size val }
  else
    let c := (Tab.get Bar2.zero s.bar2 fn).ctx
    let va := bar2Addr s fn off
    if hostRange s c va size .live then staleRows c va size (liveBytes c va size val (touchRange c va size s)) else refuseAccess c fn va s

/-- HOST_BAR2_WRITE (R341): function `fn` writes `size` bytes at an offset of its window. -/
def execHostBar2Write (fn off size val : Nat) (s : State) : Host.Outcome State Fault Refusal :=
  happen (fun s => bar2Open s fn off size) (bar2Write fn off size val) s

/-- The value an AtomicOp leaves. -/
def hostOpNew (op : HostOp) (size old x y : Nat) : Nat :=
  match op with
  | .fetchAdd => (old + x) % 2 ^ (8 * size)
  | .swap => x % 2 ^ (8 * size)
  | .cas => if old = y % 2 ^ (8 * size) then x % 2 ^ (8 * size) else old

/-- The sizes of an AtomicOp (R338). -/
def hostOpSize (op : HostOp) (size : Nat) : Bool := size == 4 || size == 8 || (op == .cas && size == 16)

/-- An AtomicOp on a page of the host tier is one that goes there itself (R351): of 64 bits; another waits until the page is promoted. -/
def hostOpWaits (s : State) (c va size : Nat) : Bool := size != 8 && !(hostPage s c va).isEmpty

/-- An AtomicOp of a function on a context's memory is performed (R341), refused by its map, or waits for a page. -/
def hostAtom (k : HostAtom) (s : State) : State :=
  if hostRange s k.ctx k.va k.size .live then
    if hostOpWaits s k.ctx k.va k.size then { s with hostOps := s.hostOps ++ [k] }
    else
      let old := memRead s k.ctx k.va k.size
      hostAnswer k.fn old (rangePoisoned s k.ctx k.va k.size)
        (liveBytes k.ctx k.va k.size (hostOpNew k.op k.size old k.x k.y) (touchRange k.ctx k.va k.size s))
  else refuseAccess k.ctx k.fn k.va s

/-- Every AtomicOp that waits is looked at again, in order. -/
def serveHost (s : State) : State := s.hostOps.foldl (fun t k => hostAtom k t) { s with hostOps := [] }

/-- An AtomicOp through BAR2: one relaxed atomic at the home slice; it answers the old value. -/
def bar2Atomic (fn off : Nat) (op : HostOp) (size x y : Nat) (s : State) : State :=
  if bar2Mgmt s fn then
    match mgmtAddr s off size with
    | none => s
    | some a =>
      let old := s.mgmtMem.read a size
      hostAnswer fn old false (noteAnswers a size { s with mgmtMem := s.mgmtMem.write a size (hostOpNew op size old x y) })
  else
    hostAtom { fn := fn, ctx := (Tab.get Bar2.zero s.bar2 fn).ctx, va := bar2Addr s fn off, op := op, size := size, x := x, y := y } s

/-- HOST_ATOMICOP (R341): function `fn` performs an AtomicOp, naturally aligned, with operand `x` (for CAS, `y` compared). -/
def execHostAtomicop (fn off : Nat) (op : HostOp) (size x y : Nat) (s : State) : Host.Outcome State Fault Refusal :=
  happen (fun s => bar2Open s fn off size && hostOpSize op size && bar2Addr s fn off % size == 0)
    (bar2Atomic fn off op size x y) s

/-! ### ATS (R351) -/

/-- ATS_INVALIDATE (R351): the translation of a host-tier page of backing is dropped, and fetched again before its next
access. -/
def execAtsInvalidate (page : Nat) (s : State) : Host.Outcome State Fault Refusal :=
  happen (fun _ => true) (fun s => { s with ats := s.ats.filter (fun k => k != page) }) s

end Sys2Proof.Machine
end

