-- ==== Sys2Proof/Machine/Fabric.lean ====
section
/-!
DEFINITION. Machine/Fabric.lean: what the device does for packets of other devices (R221, R320), resynchronisation markers
(R331), the flits of the fabric links (R353, R266), routing on the way (R321), lanes and retraining (R354, R356).
-/

namespace Sys2Proof.Machine

/-! ### Packets from other devices (R221, R320) -/

/-- The flow of a packet (R214). -/
def packetFlow (k : Packet) : Nat := flowCode k.dev k.ctx k.core k.chan k.rc k.dst

/-- A packet is refused; a refused ORD packet sets its flow's refusal state (R221). -/
def refusePacket (k : Packet) (status : Nat) (s : State) : State :=
  reply k status 0 false
    { s with flowsOff := if k.rc = 0 then (packetFlow k) :: s.flowsOff.filter (fun f => f != (packetFlow k)) else s.flowsOff }

/-- Why the receiver does not accept a packet (R320): 3 when the named context has ended or stopped, 2 when it is not loaded
or its binding does not name the sender. -/
def notAccepted (s : State) (k : Packet) : Option Nat :=
  let x := s.ctx k.dst
  let b := Tab.get (0 : BitVec 16) x.binding k.dev
  if x.state = 5 ∨ x.state = 6 then some 3
  else if 64 ≤ k.dst ∨ x.state = 0 then some 2
  else if b.getLsbD 15 = true ∧ bfld b 0 6 = k.ctx then none
  else some 2

/-- What the request of a packet wants of the region it names. -/
def kindWant : PacketKind → Want
  | .loadRow => .load
  | .storeRow _ => .store
  | .storeWord _ => .store
  | .atomic .ld _ _ _ => .load
  | .prefetch => .load
  | _ => .live

/-- Why the current map of the context refuses the request (R203, R221). -/
def requestRefused (x : Ctx) (k : Packet) : Option Nat :=
  match mapRefuses x k.va (kindWant k.kind) with
  | some st => some st
  | none =>
    match k.kind with
    | .atomic a _ _ _ => atomRefused x a k.va
    | .admission _ va2 => mapRefuses x va2 .live
    | .engineRow tag _ =>
      if inFront x tag (BitVec.ofNat 64 k.va) then mapRefuses x (backTag x tag (k.va / 512 * 512)) .live else some 2
    | _ => none

/-- A remote store as it is staged (R214). -/
def remoteStage (s : State) (k : Packet) (mask : BitVec 512) (data : Vec) : Stage :=
  { key := keyOf s k.dst (k.va / 512 * 512), va := k.va / 512 * 512, back := sideVa (s.ctx k.dst) false (k.va / 512 * 512),
    writer := 0, flow := packetFlow k + 1, mask := mask, data := data }

/-- A remote store is staged at its home slice, in order of arrival (R214, R221), and in the save record of a saved context (R347). -/
def stageRemote (k : Packet) (mask : BitVec 512) (data : Vec) (s : State) : State :=
  let g := remoteStage s k mask data
  stage k.dst g (if (s.ctx k.dst).state = 3 then appendStaged k.dst g s else s)

/-- The class of order that an SC flag of a packet stands for (R59). -/
def scCode (sc : Bool) : Nat := if sc then 6 else 0

/-- A row of the context `c` is used in its home slice's L2, as the hint of a packet says (R172). -/
def packetLine (k : Packet) (s : State) : State :=
  useRow (s.ctx k.dst).tenant k.alloc (keyOf s k.dst (k.va / 512 * 512)) s

/-- A live word of a packet goes through its ATS translation on the host tier (R351), and uses its L2 line. -/
def packetWord (c va : Nat) (s : State) : State := atomLine c va (touchHost c va s)

/-- A packet that has been accepted takes its effect (R221). -/
def performPacket (k : Packet) (s : State) : State :=
  let c := k.dst
  let row := k.va / 512 * 512
  match k.kind with
  | .loadRow => answerAs Config.ownDevice.val k 0 (memRow s c row) (poisoned s c row) true (packetLine k (touchHost c row s))
  | .storeRow d => reply k 0 0 false (stageRemote k fullMask d (packetLine k s))
  | .storeWord w =>
    let n := k.va % 512 / 8
    reply k 0 0 false (stageRemote k (wordMask n) (setRowWord 0 n w) (packetLine k s))
  | .prefetch => reply k 0 0 false (packetLine k s)
  | .atomic a sc x y =>
    reply k 0 (asVec (memWord s c k.va)) (poisoned s c row)
      (atomAct c a k.va x y false [] (packetWord c k.va (takeTicket (scCode sc) s)))
  | .admission sc va2 =>
    reply k 0 (asVec (admissionResult (memWord s c k.va) (memWord s c va2))) (poisoned s c row || poisoned s c (va2 / 512 * 512))
      (admissionAct c k.va va2 false [] (packetWord c va2 (packetWord c k.va (takeTicket (scCode sc) s))))
  | .engineAdd a x => reply k 0 0 false (atomAct c a k.va x 0 false [] (packetWord c k.va s))
  | .engineRow tag d =>
    let back := backTag (s.ctx c) tag row
    reply k 0 0 false (engineLine c (BitVec.ofNat 64 row) (writeBacking c back d s))
  | .answer _ _ _ _ => s
  | .resync => s
  | .ended => s

/-- The packet operates on a word live. -/
def isLive : PacketKind → Bool
  | .atomic _ _ _ _ => true
  | .admission _ _ => true
  | .engineAdd _ _ => true
  | _ => false

/-- Packets of one flow and one class that keeps order (R214, R224). -/
def sameStream (j k : Packet) : Bool :=
  j.dev == k.dev && j.ctx == k.ctx && j.core == k.core && j.chan == k.chan && j.rc == k.rc && decide (k.rc < 2)

/-- A live packet waits for the promotion of a page (R351), or for one before it that waits for the same page. -/
def packetWaits (s : State) (k : Packet) : Bool :=
  isLive k.kind && (!(packetPages s k).isEmpty || s.waiting.any (fun j => j.dst == k.dst && j.va / 65536 == k.va / 65536))

/-- A packet that has been accepted takes its effect, at once or after the promotion it waits for. -/
def acceptPacket (k : Packet) (s : State) : State :=
  if packetWaits s k then { s with waiting := s.waiting ++ [k] } else performPacket k s

/-- The refusal states of a Carter channel's flows of a remote core are cleared (R331); those of channel 4 stay (R221). -/
def clearFlows (dev c lc ch : Nat) (s : State) : State :=
  if ch < 4 then
    { s with flowsOff := s.flowsOff.filter (fun f => flowChan f != flowChan (flowCode dev c lc ch 0 0)) }
  else s

/-- The refusal states of the channel-4 flows of a remote context that has ended are cleared (R215, R221). -/
def endFlows (dev c : Nat) (s : State) : State :=
  { s with flowsOff := s.flowsOff.filter (fun f =>
      !(flowSender f == dev * 64 + c && flowChan f % 16 == 4)) }

/-- The packet is an add that an engine operation makes at its barrier (R202, R188). -/
def isEngineAdd : PacketKind → Bool
  | .engineAdd _ _ => true
  | _ => false

/-- The flow of the packet refuses it (R221): an ORD packet behind a refused one. The adds of engine operations meet the
statuses 1 to 3 alone (R202). -/
def flowRefuses (s : State) (k : Packet) : Bool :=
  k.rc == 0 && s.flowsOff.contains (packetFlow k) && !isEngineAdd k.kind

/-- A packet is turned away: a prefetch is dropped, and acknowledged (R173); another is refused. -/
def turnAway (k : Packet) (status : Nat) (s : State) : State :=
  if k.kind = .prefetch then reply k 0 0 false s else refusePacket k status s

/-- The target looks at a packet (R221): behind one of its flow that waits, it waits too (R229 note r); what the target would refuse by
itself keeps its own status, also in a flow that refuses. -/
def meetPacket (k : Packet) (s : State) : State :=
  if s.waiting.any (fun j => sameStream j k) then { s with waiting := s.waiting ++ [k] }
  else
    match notAccepted s k with
    | some st => turnAway k st s
    | none =>
      match requestRefused (s.ctx k.dst) k with
      | some st => turnAway k st s
      | none => if flowRefuses s k then turnAway k 6 s else acceptPacket k s

/-- An answer comes back (R221, R225): the oldest unacknowledged packet of its flow is acknowledged. -/
def takeAnswer (k : Packet) (s : State) : State :=
  { s with unacked := s.unacked.eraseP (fun u =>
      u.dev == k.va && u.ctx == k.dst && u.core == k.core && u.chan + 8 == k.chan && u.rc == k.rc) }

/-- The packet is an answer. -/
def isAnswer : PacketKind → Bool
  | .answer _ _ _ _ => true
  | _ => false

/-- A packet arrives at its device. -/
def receivePacket (k : Packet) (s : State) : State :=
  if k.kind = .resync then clearFlows k.dev k.ctx k.core k.chan s
  else if k.kind = .ended then endFlows k.dev k.ctx s
  else if isAnswer k.kind then takeAnswer k s
  else meetPacket k s

/-- Every packet that waits is looked at again, in order of arrival. -/
def serveAll (s : State) : State := s.waiting.foldl (fun t k => meetPacket k t) { s with waiting := [] }

/-- PAGE_PROMOTE (R288): a host-tier page that an atomic waits for goes to LPDDR-6; the packets and the host's
AtomicOps that waited for it act. -/
def execPagePromote (c page : Nat) (s : State) : Host.Outcome State Fault Refusal :=
  happen (fun s => promotionWanted s c page && freeSlot s) (fun s => serveHost (serveAll (promotePage c page s))) s

/-- REMOTE_PACKET_RECEIVE (R320): a packet of another device arrives. -/
def execRemotePacketReceive (k : Packet) (s : State) : Host.Outcome State Fault Refusal :=
  happen (fun _ => true) (receivePacket k) s

/-- RESYNC_MARKER (R331): a resynchronisation marker of channel `ch` of core `lc` of context `c` of device `dev` arrives. -/
def execResyncMarker (dev c lc ch : Nat) (s : State) : Host.Outcome State Fault Refusal :=
  happen (fun _ => true) (clearFlows dev c lc ch) s

/-! ### Links (R353, R266) -/

/-- Link `l`. -/
def State.link (s : State) (l : Nat) : Link := Tab.get Link.zero s.links l

/-- The state with link `l` changed. -/
def State.onLink (s : State) (l : Nat) (f : Link → Link) : State := { s with links := Tab.upd Link.zero s.links l f }

/-- The ack field of a flit with its nak bit. -/
def ackWord (f : Flit) : Nat := f.ack % 4096 + (if f.nak then 2 ^ 15 else 0)

/-- A flit formed on a link: the next sequence number, what has been received, the checks of R353. -/
def formFlit (k : Link) (ty payload : Nat) : Flit :=
  let seq := (k.sendSeq + 1).toNat
  let f : Flit := { seq := seq, ty := ty, ack := k.recvSeq.toNat, nak := k.nakDue, payload := payload, crc := 0, fec := 0 }
  let crc := Config.crc32 seq ty (ackWord f) payload
  { f with crc := crc, fec := Config.fecOf seq ty (ackWord f) payload crc }

/-- A link after a flit has been sent on it: kept until it is acknowledged (R266). -/
def sendFlit (ty payload : Nat) (k : Link) : Link :=
  { k with sendSeq := k.sendSeq + 1, nakDue := false, replay := k.replay ++ [formFlit k ty payload]
           flits := (k.flits + 1) % 2 ^ 48 }

/-- The next stored flit goes out again, unchanged (R353). -/
def resendFlit (k : Link) : Link := { k with resend := k.resend.drop 1, flits := (k.flits + 1) % 2 ^ 48 }

/-- The order of a list that a number names; `fuel` bounds the length. -/
def pickOrder : Nat → Nat → List Nat → List Nat
  | 0, _, _ => []
  | fuel + 1, n, l =>
    let i := n % l.length
    match l[i]? with
    | none => []
    | some d => d :: pickOrder fuel (n / l.length) (l.eraseIdx i)

/-- The seven other places of a row or column, in the order in which links run to them. -/
def linkOrder (order own : Nat) : List Nat := pickOrder 7 order ((List.range 8).filter (fun k => k != own))

/-- The device that a link of this one runs to (R19): links 0 to 6 to each other device of its row, 7 to 13 to each of its column; a
bonded auxiliary link runs with its own, a spare one nowhere. -/
def linkEnd (s : State) (l : Nat) : Option Nat :=
  let own := Config.ownDevice.val
  let far (l : Nat) : Option Nat :=
    if l < 7 then (linkOrder Config.rowOrder (own % 8))[l]?.map (fun k => 8 * (own / 8) + k)
    else if l < 14 then (linkOrder Config.columnOrder (own / 8))[l - 7]?.map (fun k => 8 * k + own % 8)
    else none
  if l < 14 then far l
  else match Tab.get 0 s.aux l with
    | 0 => none
    | n + 1 => far n

/-- The links of a shortest path between two devices (R19). -/
def apart (d e : Nat) : Nat := (if d / 8 = e / 8 then 0 else 1) + (if d % 8 = e % 8 then 0 else 1)

/-- The links that a packet of a class crosses at most (R224). -/
def linkBound (rc : Nat) : Nat := if rc = 0 then 2 else if rc = 1 then 3 else 4

/-- The routing entries of a version let a class take a link toward a device (R321): ORD its own, ADP those of its field, SPR
either. -/
def entryAllows (s : State) (ver rc dest l : Nat) : Bool :=
  let e : W32 := Tab.get 0 s.routes (64 * (ver % 2) + dest)
  let ord : Bool := bfld e 0 4 == l
  let adp : Bool := e.getLsbD (16 + l)
  e.getLsbD 4 && (if rc = 0 then ord else if rc = 1 then adp else ord || adp)

/-- A packet may take a link toward a device, under the table version stamped on it (R224, R321): the links that then remain to be
crossed at least do not pass its class's bound, and one of class SPR comes nearer to the device it heads for. -/
def routeAllows (s : State) (k : Packet) (dest l : Nat) : Bool :=
  match linkEnd s l with
  | none => false
  | some e =>
    let goal := k.via.getD dest
    entryAllows s k.ver k.rc goal l && decide (k.links + 1 + apart e goal + apart goal dest ≤ linkBound k.rc)
      && (decide (k.rc < 2) || decide (apart e goal < apart Config.ownDevice.val goal))

/-- The flow of a packet that the device sends or passes on, to keep its path by. -/
def pathKey (own : Bool) (dest : Nat) (k : Packet) : Nat := 2 * (64 * packetFlow k + dest) + (if own then 0 else 1)

/-- A flow of class ADP may use a link and a table version: those it used last, or any after an idle gap longer than the greatest
skew of its paths (R224, R225). -/
def pathFree (s : State) (own : Bool) (dest l : Nat) (k : Packet) : Bool :=
  k.rc != 1 || (match Tab.find s.paths (pathKey own dest k) with
    | none => true
    | some (m, v, t) => (m == l && v == k.ver) || decide (t + Config.flowSkew < s.cycle))

/-- Another link has not yet sent the whole of an earlier packet of the flow. -/
def flowBusy (s : State) (own : Bool) (dest l : Nat) (k : Packet) : Bool :=
  s.links.any (fun (q : Nat × Link) => q.1 != l && q.2.sending.any (fun j => j.own == own && j.dest == dest && sameStream j.pkt k))

/-- The device's own packet as it is stamped at its injection (R225, R321): the table version selected then, and of class SPR an
intermediate device. -/
def stamped (s : State) (k : Packet) : Packet := { k with ver := s.rsel, via := viaOf s k.rc }

/-- An ORD packet under a new table version waits while an earlier packet of its flow is unacknowledged (R225). -/
def versionWaits (s : State) (k : Packet) : Bool :=
  k.rc == 0 && s.unacked.any (fun u =>
    u.dev == k.dev && u.ctx == k.ctx && u.core == k.core && u.chan == k.chan && u.rc == 0 && u.ver != k.ver)

/-- The Rota slot lets a packet of the device go out (R18): one of the slot's tenant, or an answer (log 39). -/
def slotLets (s : State) (k : Packet) : Bool := isAnswer k.kind || slotOwner s == some (s.ctx k.ctx).tenant

/-- Link `l` may take a packet now, but for the order of its flow. -/
def mayLeave (s : State) (own : Bool) (dest l : Nat) (k : Packet) : Bool :=
  routeAllows s k dest l && pathFree s own dest l k && !flowBusy s own dest l k
    && (!own || (slotLets s k && !versionWaits s k))

/-- The first packet of the device that link `l` may take now and whose first flit, stamped, has a payload: in its flow's order, in a
Rota slot of its tenant (R18, R224, R321). -/
def findOut (s : State) (l payload : Nat) : List Packet → List Packet → Option Packet
  | _, [] => none
  | before, k :: r =>
    if Config.payloadOf (stamped s k) 0 = payload ∧ mayLeave s true k.dev l (stamped s k) = true
        ∧ before.any (fun j => sameStream j k) = false then some k
    else findOut s l payload (before ++ [k]) r

/-- The first packet on its way through the device that link `l` may take now and whose first flit has a payload. -/
def findTransit (s : State) (l payload : Nat) (before : List (Nat × Packet)) : List (Nat × Packet) → Option (Nat × Packet)
  | [] => none
  | k :: r =>
    if Config.payloadOf k.2 0 = payload ∧ mayLeave s false k.1 l k.2 = true
        ∧ before.any (fun j => j.1 == k.1 && sameStream j.2 k.2) = false then some k
    else findTransit s l payload (before ++ [k]) r

/-- A packet of a version has been passed on (R321). -/
def passedOn (ver : Nat) (s : State) : State := { s with rflight := Tab.upd 0 s.rflight (ver % 2) (fun n => n - 1) }

/-- The flits of a packet (R353): three of one that carries a row, else one. -/
def flitsOf (k : Packet) : Nat :=
  match k.kind with
  | .storeRow _ => 3
  | .engineRow _ _ => 3
  | .answer _ _ _ row => if row then 3 else 1
  | _ => 1

/-- A packet of the device is injected (R225, R321): it counts to its version, and as unacknowledged when it is answered. -/
def injected (k : Packet) (s : State) : State :=
  { s with
    rflight := Tab.upd 0 s.rflight (k.ver % 2) (fun n => n + 1)
    unacked := if isAnswered k.kind
      then s.unacked ++ [{ dev := k.dev, ctx := k.ctx, core := k.core, chan := k.chan, rc := k.rc, ver := k.ver }] else s.unacked }

/-- The next flit of a packet goes out on link `l`; the last passes the packet on. -/
def flitGoes (l payload : Nat) (j : Sending) (s : State) : State :=
  let last : Bool := flitsOf j.pkt ≤ j.n + 1
  let s := s.onLink l (fun q => sendFlit 1 payload { q with sending := if last then none else some { j with n := j.n + 1 } })
  let s := if j.pkt.rc = 1 then { s with paths := Tab.set s.paths (pathKey j.own j.dest j.pkt) (l, j.pkt.ver, s.cycle) } else s
  if last then passedOn j.pkt.ver s else s

/-- A packet waits that link `l` may take now. -/
def linkWanted (s : State) (l : Nat) : Bool :=
  s.transit.any (fun k => mayLeave s false k.1 l k.2) || s.out.any (fun k => mayLeave s true k.dev l (stamped s k))

/-- A new flit is formed: the next of the packet that the link is sending, in a Rota slot of its tenant when it is the device's own
(R18); the first of one that then leaves; or an idle flit when no packet may leave. -/
def transmitNew (l payload : Nat) (s : State) : State :=
  match (s.link l).sending with
  | some j =>
    if Config.payloadOf j.pkt j.n = payload ∧ (j.own = false ∨ slotLets s j.pkt = true)
    then flitGoes l payload j s else s
  | none =>
    match findTransit s l payload [] s.transit with
    | some k => flitGoes l payload { own := false, dest := k.1, pkt := k.2, n := 0 } { s with transit := s.transit.erase k }
    | none =>
      match findOut s l payload [] s.out with
      | some k =>
        flitGoes l payload { own := true, dest := k.dev, pkt := stamped s k, n := 0 } (injected (stamped s k) { s with out := s.out.erase k })
      | none => if linkWanted s l then s else s.onLink l (sendFlit (if (s.link l).nakDue then 2 else 0) 0)

/-- The link can carry a flit: it is up and not paused (R354). -/
def linkUp (k : Link) : Bool := k.width != 0 && !k.paused

/-- A flit is sent on link `l` (R353): a stored one while a replay lasts, else a new one while the buffer has room. -/
def transmit (l payload : Nat) (s : State) : State :=
  let k := s.link l
  if k.resend ≠ [] then s.onLink l resendFlit
  else if k.replay.length < 512 then transmitNew l payload s
  else s

/-- FLIT_TRANSMIT (R353): link `l` sends a flit. -/
def execFlitTransmit (l payload : Nat) (s : State) : Host.Outcome State Fault Refusal :=
  happen (fun s => decide (l < 16) && linkUp (s.link l)) (transmit l payload) s

/-- The replay buffer without the flits up to an acknowledged number, when that is one of them. -/
def freeUpTo (ack : Nat) : List Flit → List Flit
  | [] => []
  | f :: r => if f.seq = ack then r else if r.any (fun g => g.seq == ack) then freeUpTo ack r else f :: r

/-- The acknowledgement of a flit that was accepted: cumulative; a nak starts a replay (R353). -/
def takeAck (f : Flit) (k : Link) : Link :=
  let kept := freeUpTo (f.ack % 4096) k.replay
  if f.nak then { k with replay := kept, resend := kept, replays := stopAdd 32 k.replays 1 }
  else { k with replay := kept, resend := k.resend.filter (fun g => kept.any (fun q => q.seq == g.seq)) }

/-- A flit passes its check and is the next expected. -/
def flitGood (k : Link) (f : Flit) : Bool :=
  f.crc == Config.crc32 f.seq f.ty (ackWord f) f.payload && f.seq == (k.recvSeq + 1).toNat

/-- A flit that fails, or is not the next expected, is discarded; the first such is answered with nak. -/
def discardFlit (k : Link) : Link := if k.nakSent then k else { k with nakSent := true, nakDue := true }

/-- A packet for another device (R321): held to be passed on, or refused when its table version is not VALID. -/
def routePacket (l dest : Nat) (k : Packet) (s : State) : State :=
  if routeState s (k.ver % 2) = 1 then
    { s with transit := s.transit ++ [(dest, k)], rflight := Tab.upd 0 s.rflight (k.ver % 2) (fun n => n + 1) }
  else postFault (devRecord s 11 0 0 (BitVec.ofNat 64 (256 * l + k.ver))) (answerAs dest k 3 0 false false s)

/-- A packet that has crossed one more link: the intermediate device of class SPR is reached when it is this one (R321). -/
def crossed (k : Packet) : Packet :=
  { k with links := k.links + 1, via := if k.via = some Config.ownDevice.val then none else k.via }

/-- A data flit joins the payloads of its packet, and delivers the packet when it completes it. -/
def deliverFlit (l : Nat) (f : Flit) (s : State) : State :=
  if f.ty = 1 then
    let got := (s.link l).got ++ [f.payload]
    match Config.packetOf got with
    | none => s.onLink l (fun q => { q with got := got })
    | some k =>
      let s := s.onLink l (fun q => { q with got := [] })
      let j := crossed k.2
      if k.1 = Config.ownDevice.val ∧ j.via = none then receivePacket j s else routePacket l k.1 j s
  else s

/-- A flit arrives on link `l`, corrected first (R353). -/
def receiveFlit (l : Nat) (f : Flit) (s : State) : State :=
  let g := Config.fecCorrect f
  if flitGood (s.link l) g then
    deliverFlit l g (s.onLink l (fun k => takeAck g { k with recvSeq := k.recvSeq + 1, nakSent := false }))
  else s.onLink l discardFlit

/-- FLIT_RECEIVE (R353): the flit `f` arrives on link `l`. -/
def execFlitReceive (l : Nat) (f : Flit) (s : State) : Host.Outcome State Fault Refusal :=
  happen (fun s => decide (l < 16) && (s.link l).width != 0) (receiveFlit l f) s

/-! ### Lanes (R352, R354) -/

/-- The info of a link's fault record: link and lane (R355). -/
def linkInfo (l lane : Nat) : W64 := BitVec.ofNat 64 (256 * l + lane)

/-- The lanes of half `h` hold no failed lane. -/
def halfClean (lanes : BitVec 17) (h : Nat) : Bool := (lanes.toNat / 2 ^ (8 * h)) % 256 == 0

/-- The link carries traffic on a lane: at full width every data lane not replaced, and the spare in use; at half width the
clean half. -/
def laneInUse (k : Link) (lane : Nat) : Bool :=
  if k.width = 16 then (if lane = 16 then k.spare else !k.lanes.getLsbD lane)
  else if k.width = 8 then (let h := if halfClean k.lanes 0 then 0 else 1; decide (lane / 8 = h) && decide (lane < 16))
  else false

/-- The policy register of a link (R352). -/
def linkPolicy (s : State) (l : Nat) : Byte := Tab.get 0 s.linkPol l

/-- A lane of a link fails (R354): by policy the spare takes over, or the clean half goes on, or the link goes down. -/
def laneFails (l lane : Nat) (s : State) : State :=
  let k := s.link l
  let pol := linkPolicy s l
  let lanes := k.lanes ||| (1 <<< lane)
  if !laneInUse k lane then s.onLink l (fun k => { k with lanes := lanes })
  else if k.width = 16 && pol.getLsbD 0 && k.spareOk && !k.spare && lane != 16 && !k.lanes.getLsbD 16 then
    postFault (devRecord s 8 0 0 (linkInfo l lane))
      (s.onLink l (fun k => { k with lanes := lanes, spare := true, paused := true, failovers := stopAdd 32 k.failovers 1 }))
  else if k.width = 16 && pol.getLsbD 1 && (halfClean lanes 0 || halfClean lanes 1) then
    postFault (devRecord s 9 0 0 (linkInfo l lane))
      (s.onLink l (fun k => { k with lanes := lanes, spare := false, width := 8, paused := true,
                                     retrains := stopAdd 32 k.retrains 1 }))
  else
    postFault (devRecord s 10 0 0 (linkInfo l lane))
      (s.onLink l (fun k => { k with lanes := lanes, spare := false, width := 0, paused := true, waitHost := pol.getLsbD 2 }))

/-- LANE_FAILURE (R354): lane `lane` of link `l` (16 the spare) fails. -/
def execLaneFailure (l lane : Nat) (s : State) : Host.Outcome State Fault Refusal :=
  happen (fun _ => decide (l < 16) && decide (lane < 17)) (laneFails l lane) s

/-- The lanes of a link that calibrate healthy, spare included. -/
def healthy (lanes : BitVec 17) : Nat := ((List.range 17).filter (fun i => !lanes.getLsbD i)).length

/-- A link that is down is trained (R354): at x16 on its healthy lanes, spare included, then at x8 where half = 1. -/
def retrainDown (half : Bool) (k : Link) : Link :=
  if 16 ≤ healthy k.lanes then { k with width := 16, spare := k.lanes &&& 0xFFFF != 0, recover := !k.waitHost, waitHost := false }
  else if half && (halfClean k.lanes 0 || halfClean k.lanes 1) then
    { k with width := 8, spare := false, recover := !k.waitHost, waitHost := false }
  else k

/-- A calibration period ends on a link (R354, R356): the spare lane, while not in use, and on a link that is down every
lane; a link that retrains itself tries. Bit i of `lanes` says that lane i does not calibrate. -/
def calibrate (l lanes : Nat) (s : State) : State :=
  let half := (linkPolicy s l).getLsbD 1
  s.onLink l (fun k =>
    let bad := BitVec.ofNat 17 lanes
    if k.width = 0 then
      let k := { k with lanes := bad, spareOk := !bad.getLsbD 16 }
      if k.waitHost then k else retrainDown half k
    else if k.spare then k
    else { k with spareOk := !bad.getLsbD 16, lanes := if bad.getLsbD 16 then k.lanes ||| 0x10000 else k.lanes &&& 0xFFFF })

/-- LINK_CALIBRATION (R356): a calibration of link `l`. -/
def execLinkCalibration (l lanes : Nat) (s : State) : Host.Outcome State Fault Refusal :=
  happen (fun _ => decide (l < 16)) (calibrate l lanes) s

/-- The training of a link has succeeded (R354): it resumes, and the replay starts from the last acknowledged flit. It is one more
replay (R353) unless the flits kept are those of a replay that a nak has asked for and none has gone out of. -/
def retrainDone (l : Nat) (s : State) : State :=
  let k := s.link l
  let s := s.onLink l (fun k => { k with
    paused := false, recover := false, resend := k.replay
    replays := if k.replay = [] ∨ k.resend = k.replay then k.replays else stopAdd 32 k.replays 1 })
  if k.recover then postFault (devRecord s 9 0 0 (linkInfo l 0)) s else s

/-- LINK_RETRAIN_DONE (R354): link `l` has trained, at the width it was to train at. -/
def execLinkRetrainDone (l width : Nat) (s : State) : Host.Outcome State Fault Refusal :=
  happen (fun s => decide (l < 16) && (s.link l).paused && decide (width = (s.link l).width) && width != 0) (retrainDone l) s

/-- HOST_LINK_RETRAIN (R354): the host retrains link `l`, which waits for it. -/
def execHostLinkRetrain (l : Nat) (s : State) : Host.Outcome State Fault Refusal :=
  happen (fun s => hostUp s && decide (l < 16) && (s.link l).width == 0 && (s.link l).waitHost) (fun s =>
    s.onLink l (retrainDown ((linkPolicy s l).getLsbD 1))) s

end Sys2Proof.Machine
end

