-- ==== Sys2Proof/Machine/Object.lean ====
section
/-!
DEFINITION. Machine/Object.lean: a linked MBO file as the loader reads it (R90 to R95): the header, the section headers, the
sections and their records, with every limit that the file alone decides.
-/

namespace Sys2Proof.Machine

/-! ### Fields of the file -/

/-- A little-endian number from bytes (R90). -/
def leNat : List Byte → Nat
  | [] => 0
  | b :: r => b.toNat + 256 * leNat r

/-- The field of `n` bytes at offset `o` of a record. -/
def fileField (f : List Byte) (o n : Nat) : Nat := leNat ((f.drop o).take n)

/-- The records of `n` bytes that a section holds. -/
def fileRecords (n : Nat) (f : List Byte) : List (List Byte) :=
  (List.range (f.length / n)).map (fun k => (f.drop (n * k)).take n)

/-- The 32-bit words that a section holds. -/
def fileWords (f : List Byte) : List W32 := (fileRecords 4 f).map (fun r => BitVec.ofNat 32 (leNat r))

/-- The number that names a record of the file to the host (R99). DESIGN CHOICE (log 41): 0 the header, 1 + k section header k,
type × 2^32 + k record k of the section of a type. -/
def recordNo (ty k : Nat) : Nat := ty * 2 ^ 32 + k

/-- Every item of a list read; the number of the first that breaks a limit. -/
def readAll {α β : Type} (no : Nat → Nat) (f : α → Option β) (l : List α) : Except Nat (List β) :=
  match l.findIdx? (fun r => (f r).isNone) with
  | some k => .error (no k)
  | none => .ok (l.filterMap f)

/-! ### Sections (R91) -/

/-- A section header with the contents it names. -/
structure Section where
  name  : Nat
  ty    : Nat
  align : Nat
  link  : Nat
  place : Nat
  info  : Nat
  bytes : List Byte
  deriving DecidableEq, Repr

/-- The header of the file (R90): a linked image of version 1, its section headers inside the file. -/
def headerOk (f : List Byte) : Bool :=
  decide (32 ≤ f.length) && fileField f 0 4 == 0x1A4F424D && fileField f 4 2 == 1 && fileField f 6 2 == 2
    && fileField f 16 8 % 8 == 0 && fileField f 24 8 == 0 && decide (fileField f 16 8 + 48 * fileField f 8 4 ≤ f.length)

/-- Section header `k` of the file (R91); none when it breaks a limit of its own. -/
def sectionAt (f : List Byte) (k : Nat) : Option Section :=
  let h := (f.drop (fileField f 16 8 + 48 * k)).take 48
  let size := fileField h 8 8
  let off := fileField h 16 8
  let t : Section :=
    { name := fileField h 0 4, ty := fileField h 4 2, align := fileField h 24 4, link := fileField h 28 4, place := fileField h 32 8
      info := fileField h 40 4, bytes := (f.drop off).take size }
  if t.ty = 0 ∨ 12 < t.ty ∨ t.ty = 6 ∨ fileField h 6 2 ≠ 0 ∨ fileField h 44 4 ≠ 0 ∨ f.length < off + size ∨ 16 < t.align
      ∨ (t.ty ≠ 3 ∧ t.place ≠ 0) ∨ (t.ty ≠ 3 ∧ t.ty ≠ 11 ∧ t.info ≠ 0) ∨ (t.ty ≠ 4 ∧ t.link ≠ 0) then none
  else some t

/-- Every section of the file, in order; the first header that breaks a limit of its own. -/
def sectionsOf (f : List Byte) : Except Nat (List Section) := readAll (fun k => 1 + k) (sectionAt f) (List.range (fileField f 8 4))

/-- The sections of a type. -/
def ofType (l : List Section) (ty : Nat) : List Section := l.filter (fun t => t.ty == ty)

/-- The contents of the only section of a type; empty when there is none. -/
def contents (l : List Section) (ty : Nat) : List Byte :=
  match ofType l ty with
  | [] => []
  | t :: _ => t.bytes

/-- Section `k` is of a type. -/
def linksTo (l : List Section) (k ty : Nat) : Bool :=
  match l[k]? with
  | none => false
  | some t => t.ty == ty

/-- The string table (R91): the empty name at 0, a zero byte after each name. -/
def namesOk (b : List Byte) : Bool := b.head? == some 0 && b.getLast? == some 0

/-- A name lies in the string table (R91). -/
def nameIn (l : List Section) (o : Nat) : Bool := decide (o < (contents l 5).length)

/-- The bytes of a record of a section type. -/
def recordUnit (ty : Nat) : Nat :=
  if ty = 1 ∨ ty = 4 then 24 else if ty = 2 then 4 else if ty = 7 ∨ ty = 9 ∨ ty = 10 then 32 else if ty = 8 then 16
  else if ty = 12 then 8 else 1

/-- Section `k` breaks a limit of R91 among the others: a second one of its type, no whole number of records, a name outside the
string table or a string table that is none, a symbol table without its names, live sets without their code. -/
def sectionBad (l : List Section) (k : Nat) : Bool :=
  match l[k]? with
  | none => false
  | some t =>
    (t.ty != 3 && !(ofType (l.take k) t.ty).isEmpty) || t.bytes.length % recordUnit t.ty != 0 || !nameIn l t.name
      || (t.ty == 5 && !namesOk t.bytes) || (t.ty == 4 && !linksTo l t.link 5) || (t.ty == 11 && !linksTo l t.info 1)

/-- What of its sections a linked image breaks (R91); without its CODE or STREAM the whole. -/
def sectionsFault (l : List Section) : Option Nat :=
  if (ofType l 1).isEmpty ∨ (ofType l 2).isEmpty then some 0
  else ((List.range l.length).find? (sectionBad l)).map (fun k => 1 + k)

/-! ### Records (R92, R94, R95) -/

/-- A symbol record within the limits of R92. -/
def symbolRec (l : List Section) (r : List Byte) : Option (List Byte) :=
  let kind := fileField r 4 1
  let sect := fileField r 6 2
  if nameIn l (fileField r 0 4) ∧ kind ≤ 5 ∧ fileField r 5 1 ≤ 1
      ∧ (if kind = 0 ∨ kind = 4 ∨ kind = 5 then sect = 0xFFFF else linksTo l sect kind = true)
      ∧ (kind = 3 ∨ fileField r 16 8 = 0) then some r
  else none

/-- The word index of the `.entry` label (R90, R92): a stream label of the symbol table. -/
def entryOf (f : List Byte) (l : List Section) : Option Nat :=
  match (fileRecords 24 (contents l 4))[fileField f 12 4]? with
  | none => none
  | some r => if fileField r 4 1 = 2 then some (fileField r 8 8) else none

/-- A region record (R94, R85): its base and size. -/
def regionRec (l : List Section) (r : List Byte) : Option (Nat × Nat) :=
  let size := fileField r 8 8
  let base := fileField r 16 8
  if nameIn l (fileField r 0 4) = false ∨ fileField r 4 4 ≠ 0 ∨ fileField r 24 8 ≠ 0 ∨ size = 0 ∨ size % 65536 ≠ 0 ∨ 2 ^ 40 < size ∨ base % 65536 ≠ 0
      ∨ 2 ^ 48 < base + size then none
  else some (base, size)

/-- A map entry record (R94, R85). -/
def mapRec (r : List Byte) : Option MapRec :=
  let m : MapRec :=
    { map := fileField r 0 1, place := fileField r 1 1, entry := fileField r 2 1, access := fileField r 3 1
      region := fileField r 4 4, key := fileField r 8 2, tag := fileField r 10 2
      cow := fileField r 12 1 % 2 == 1, watch := fileField r 12 1 / 2 % 2 == 1 }
  if 15 < m.map ∨ 3 < m.place ∨ 2 < m.entry ∨ 2 < m.access ∨ 4095 < m.key ∨ 4095 < m.tag ∨ 3 < fileField r 12 1
      ∨ fileField r 13 3 ≠ 0 then none
  else some m

/-- A buffer record (R95, R86). -/
def bufRec (r : List Byte) : Option BufRec :=
  let b : BufRec :=
    { tag := fileField r 0 2, published := fileField r 2 2 % 2 == 1, front := fileField r 8 8, back := fileField r 16 8
      size := fileField r 24 8 }
  if 4095 < b.tag ∨ 1 < fileField r 2 2 ∨ fileField r 4 4 ≠ 0 ∨ b.size = 0 ∨ b.size % 512 ≠ 0
      ∨ (b.published = false ∧ b.back ≠ 0) then none
  else some b

/-- A residency record (R95, R87): its format one that a tile has, K within its limits, a handle when it is preloaded, its
charge that of its tile. -/
def resRec (l : List Section) (r : List Byte) : Option ResRec :=
  let flags := fileField r 7 1
  let t : ResRec :=
    { core := fileField r 4 2, fmt := fileField r 6 1, preload := flags % 2 == 1, pin := flags / 2 % 2 == 1
      k := fileField r 8 2, granules := fileField r 10 2, src := fileField r 16 8, handle := fileField r 24 8 }
  if nameIn l (fileField r 0 4) = false ∨ 319 < t.core ∨ [1, 2, 3, 8, 9].contains t.fmt = false ∨ 3 < flags ∨ t.k = 0 ∨ 8192 < t.k ∨ (8 ≤ t.fmt ∧ t.k % 128 ≠ 0)
      ∨ fileField r 12 4 ≠ 0 ∨ (t.pin = true ∧ t.preload = false) ∨ (t.preload = true ∧ t.handle = 0) ∨ t.handle % 8 ≠ 0
      ∨ t.granules ≠ (tileBytes t.fmt t.k + 4095) / 4096 then none
  else some t

/-- The live-set records of R95, one after another from record `i` on; `n` bounds their number. -/
def safePts : Nat → Nat → List Byte → Except Nat (List SafePt)
  | 0, i, f => if f.isEmpty then .ok [] else .error (recordNo 11 i)
  | n + 1, i, f =>
    if f.isEmpty then .ok []
    else
      let k := fileField f 6 2
      let rows := (List.range k).map (fun j => (fileField f (8 + 4 * j) 2, fileField f (10 + 4 * j) 2))
      if f.length < 8 + 4 * k ∨ 64 < k ∨ rows.any (fun q => decide (q.2 < q.1) || decide (8191 < q.2)) then .error (recordNo 11 i)
      else (safePts n (i + 1) (f.drop (8 + 4 * k))).map (fun l =>
        { bundle := fileField f 0 4, banks := fileField f 4 2, rows := rows } :: l)

/-- A rank record (R95, R89): a region and its rank. -/
def rankRec (r : List Byte) : Option (Nat × Nat) :=
  if fileField r 6 2 ≠ 0 then none else some (fileField r 0 4, fileField r 4 2)

/-- A data section as bytes at a virtual address (R91, R92): it lies inside its region. -/
def dataOf (regions : List (Nat × Nat)) (t : Section) : Option (Nat × List Byte) :=
  match regions[t.info]? with
  | none => none
  | some g => if g.2 < t.place + t.bytes.length then none else some (g.1 + t.place, t.bytes)

/-! ### The image -/

/-- The image that a file holds, for a tenant; when the file breaks a limit of R85 to R95, the record that does. -/
def imageOf (tenant : Nat) (f : List Byte) : Except Nat Image := do
  let l ← if headerOk f then sectionsOf f else .error 0
  let table (ty : Nat) : List (List Byte) := fileRecords (recordUnit ty) (contents l ty)
  if let some k := sectionsFault l then .error k
  let _ ← readAll (recordNo 4) (symbolRec l) (table 4)
  let entry ← match entryOf f l with
    | none => .error 0
    | some e => .ok e
  let regions ← readAll (recordNo 7) (regionRec l) (table 7)
  let maps ← readAll (recordNo 8) mapRec (table 8)
  let data ← readAll (recordNo 3) (dataOf regions) (ofType l 3)
  let buffers ← readAll (recordNo 9) bufRec (table 9)
  let resman ← readAll (recordNo 10) (resRec l) (table 10)
  let safept ← safePts (contents l 11).length 0 (contents l 11)
  let profile ← readAll (recordNo 12) rankRec (table 12)
  return { tenant := tenant, entry := entry, code := fileWords (contents l 1), stream := fileWords (contents l 2)
           regions := regions, maps := maps, data := data, buffers := buffers, resman := resman, safept := safept
           profile := profile }

end Sys2Proof.Machine
end

