-- ==== Sys2Proof/Machine/Boot.lean ====
section
/-!
DEFINITION. Machine/Boot.lean: the loader (R97 to R99), bring-up (R358), supply, coolant and CXL events with their policy
(R355), and the background activities (R356).
-/

namespace Sys2Proof.Machine

/-! ### The loader (R97 to R99) -/

/-- The code region of an image (R98): its size, a multiple of 64 KiB. -/
def codeRegionSize (img : Image) : Nat :=
  ((4 * img.code.length + 4095) / 4096 * 4096 + 4 * img.stream.length + 65535) / 65536 * 65536

/-- The region table of an image: its regions by index, then the code region (R98). -/
def loadRegions (img : Image) : Tab (BitVec 128) :=
  img.regions.zipIdx.map (fun k => (k.2, regEntry k.1.1 k.1.2 false false))
    ++ [(img.regions.length, regEntry codeBase (codeRegionSize img) true false)]

/-- The maps of an image (R94, R97 step 5). -/
def loadMaps (l : List MapRec) : Tab (Tab (BitVec 128)) :=
  l.foldl (fun t r => Tab.upd [] t r.map (fun m => Tab.set m r.region (mapEntryOf r))) []

/-- The number of maps of an image: one above the highest numbered; one when there is none. -/
def loadMapCount (l : List MapRec) : Nat := l.foldl (fun n r => max n (r.map + 1)) 1

/-- Two ranges, each a base and a size, overlap. -/
def rangesMeet (a b : Nat × Nat) : Bool := decide (a.1 < b.1 + b.2) && decide (b.1 < a.1 + a.2)

/-- A range of bytes lies wholly inside one region of the image. -/
def insideOne (regions : List (Nat × Nat)) (a n : Nat) : Bool :=
  regions.any (fun k => decide (k.1 ≤ a) && decide (a + n ≤ k.1 + k.2))

/-- The first record of a table of the image that `bad` finds among those before it. -/
def firstBad {α : Type} (ty : Nat) (l : List α) (bad : List α → α → Bool) : Option Nat :=
  (l.zipIdx.find? (fun k => bad (l.take k.2) k.1)).map (fun k => recordNo ty k.2)

/-- The bundle of a live-set record exists and is a safe point (R88). -/
def safeBundle (img : Image) (e : SafePt) : Bool :=
  decide (6 * e.bundle < img.code.length) && headSp (img.code.getD (6 * e.bundle) 0)

/-- What of an image breaks a limit that the loader checks at step 1 beside those of single records (R97, R98, R85 to R89, R96): the
code region and the regions' number, no overlap, maps without a gap that name each of the regions at most once, buffers whose tags
differ and whose sides lie inside one region, handles in a data location, live sets of safe points, one rank for a region. -/
def loadFault (img : Image) : Option Nat :=
  let n := img.regions.length
  [ if img.code.length % 6 ≠ 0 ∨ 0xF0000000 < codeRegionSize img then some (recordNo 1 0) else none,
    if 1024 ≤ n then some (recordNo 7 1023) else none,
    firstBad 7 img.regions (fun l g => l.any (rangesMeet g) || rangesMeet g (codeBase, codeRegionSize img)),
    firstBad 8 img.maps (fun l r => decide (n ≤ r.region) || l.any (fun q => q.map == r.map && q.region == r.region)
      || (r.map != 0 && !(img.maps.any (fun q => q.map == r.map - 1)))),
    firstBad 9 img.buffers (fun l b => l.any (fun q => q.tag == b.tag) || !insideOne img.regions b.front b.size
      || (b.published && !insideOne img.regions b.back b.size)),
    firstBad 10 img.resman (fun _ r => r.handle != 0 && !insideOne img.regions r.handle 8),
    firstBad 11 img.safept (fun _ e => !safeBundle img e),
    firstBad 12 img.profile (fun l r => decide (n ≤ r.1) || l.any (fun q => q.1 == r.1)) ].findSome? id

/-- The image passes step 1. -/
def loadable (img : Image) : Bool := (loadFault img).isNone

/-- The granules that an image names for a logical core (R97 step 2). -/
def granuleSum (img : Image) (lcore : Nat) : Nat :=
  ((img.resman.filter (fun r => r.core == lcore)).map (fun r => r.granules)).sum

/-- The residency record fits the tenant's quota on its physical core, with the others of its core (R97 step 2). DESIGN CHOICE (log 87): a
record of a logical core without a place does not. -/
def granulesOk (s : State) (x : Ctx) (img : Image) (r : ResRec) : Bool :=
  match physOf x r.core with
  | none => false
  | some p => decide (granuleSum img r.core ≤ quotaOf s p img.tenant)

/-- Every core's residencies fit the tenant's quota on its physical core (R97 step 2). -/
def granulesFit (s : State) (x : Ctx) (img : Image) : Bool := img.resman.all (granulesOk s x img)

/-- The context as step 3 to 7 set it up: what the host has written for the number stays (R339). DESIGN CHOICE (log 87): the tenant is the
one that the load is for, whatever the scheduling entry of the number held. -/
def newCtx (s : State) (img : Image) (o : Ctx) : Ctx :=
  { Ctx.zero with
    state := 1, tenant := img.tenant, split := o.split, aging := o.aging, thread := o.thread, placement := o.placement
    binding := o.binding, vectors := o.vectors, key := o.key, area := o.area, limit := o.limit, timeout := s.yieldDef
    code := img.code, stream := img.stream, regions := loadRegions img, maps := loadMaps img.maps
    mapCount := loadMapCount img.maps
    ranks := img.profile.foldl (fun t r => Tab.put 0 t r.1 (BitVec.ofNat 16 r.2)) []
    buffers := img.buffers.foldl (fun t r => Tab.set t r.tag (bufEntryOf r)) []
    safept := img.safept
    thr := { Thread.zero with pc := (img.entry : Int), last := (img.entry : Int), nextAt := s.cycle + 1 } }

/-- A region of map 0 that step 4 places first: NEAR or L2PIN. -/
def placedFirst (x : Ctx) (r : Nat) : Bool := mePlace (mapEntry x 0 r) % 2 == 1

/-- The pages of the regions of one group, in increasing region index, each with its region. -/
def groupPages (x : Ctx) (first : Bool) : List (Nat × Nat) :=
  ((x.regions.filter (fun k => placedFirst x k.1 == first)).map (fun k =>
    (regPages k.2).map (fun g => (k.1, g)))).flatten

/-- Step 4: backing is allocated and placed. -/
def placeAll (c : Nat) (s : State) : Except Nat State :=
  match loadPages c true (groupPages (s.ctx c) true) s with
  | .error r => .error r
  | .ok t => loadPages c false (groupPages (t.ctx c) false) t

/-- Bytes written from a key. -/
def putBytes (m : Memory) (k : Nat) : List Byte → Memory
  | [] => m
  | b :: r => putBytes (m.setByte k b) (k + 1) r

/-- The DATA sections at their places, zero elsewhere (R97 step 4). -/
def loadData (c : Nat) (img : Image) (s : State) : State :=
  let m := s.mem.clear (c * 2 ^ 48) ((c + 1) * 2 ^ 48)
  { s with mem := img.data.foldl (fun m d => putBytes m (c * 2 ^ 48 + d.1) d.2) m }

/-- The first map whose L2PIN regions hold more bytes than the pinned ways of the tenant (R271, R318): step 5 fails with it (log 77). -/
def pinFault (s : State) (x : Ctx) : Option Nat :=
  (List.range x.mapCount).find? (fun m => decide (pinCapacity (Tab.get 0 s.tenants x.tenant)
    < (x.regions.map (fun k => if mePlace (mapEntry x m k.1) = 3 then regSize k.2 else 0)).sum))

/-- The pages of a region have all their lines in pinned ways (R271). -/
def regionPinned (s : State) (c : Nat) (e : BitVec 128) : Bool :=
  (regPages e).all (fun g => allPinned s (pageLines (homeKey (pageHome s c g))))

/-- Step 7: the entry actions of map 0, and the lines of its L2PIN regions in their pinned ways (R277); the first region with a line that
finds no way. -/
def enterMapZero (c : Nat) (s : State) : Except Nat State :=
  let s := (s.ctx c).regions.foldl (fun t k => entryAction c 0 k t) s
  let x := s.ctx c
  let pins := x.regions.filter (fun k => mePlace (mapEntry x 0 k.1) == 3)
  let s := pins.foldl (fun t k => (regPages k.2).foldl (fun t g => pinPage c g t) t) s
  match pins.find? (fun k => !regionPinned s c k.2) with
  | some k => .error k.1
  | none => .ok s

/-- Step 8 for one residency with preload: its contents, its handle in the backing of its place. DESIGN CHOICE (log 87): its slot is the
lowest that is not held. It fails when none is, a row of the tile is not to be read, or the core has not the room: a load evicts nothing
(R310). -/
def preloadOne (c : Nat) (r : ResRec) (s : State) : Option State :=
  match physOf (s.ctx c) r.core with
  | none => none
  | some p =>
    let bytes := tileBytes r.fmt r.k
    let slot := (List.range 1024).find? (fun k => !(resAt (s.ctx c) r.core k).held)
    match slot with
    | none => none
    | some k =>
      let n := granulesOf bytes
      let s := s.onCore p (drainDue s.cycle)
      if !rangeOk s c r.src bytes || rangePoisoned s c r.src bytes || decide (freeGranules (s.core p) < n) then none
      else
        let s := s.onCore p (fun q => leaveCore s.cycle c false { q with granules := q.granules ++
          [{ ctx := c, lcore := r.core, slotIx := k, count := n, drain := false }] })
        let t : Tile := { fmt := r.fmt, k := r.k, bytes := tileRead s p c r.src bytes }
        let s := s.onCtx c (fun x => { x with tiles := Tab.set x.tiles (resKey r.core k) t })
        let s := onRes c r.core k (fun e => { e with
          state := if r.pin then 3 else 2, pin := r.pin, held := true, fmt := r.fmt, k := r.k, charge := r.granules
          src := r.src, loaded := true }) s
        let h := handleOf (resAt (s.ctx c) r.core k) k
        some { s with mem := s.mem.write (c * 2 ^ 48 + r.handle) 8 h.toNat }

/-- Step 8, in RESMAN order from record `i`; the record that fails. -/
def preloadAll (c i : Nat) : List ResRec → State → Except Nat State
  | [], s => .ok s
  | r :: l, s =>
    if r.preload then
      match preloadOne c r s with
      | none => .error i
      | some t => preloadAll c (i + 1) l t
    else preloadAll c (i + 1) l s

/-- The steps of R97 on an image; when one fails, the step and its record: of the file for step 1, of RESMAN for steps 2 and 8, the
region for steps 4 and 7, the map for step 5. -/
def loadImage (c : Nat) (img : Image) (s : State) : Except (Nat × Nat) State :=
  match loadFault img with
  | some r => .error (1, r)
  | none =>
    if granulesFit s (s.ctx c) img = false then
      .error (2, (img.resman.findIdx? (fun r => !granulesOk s (s.ctx c) img r)).getD 0)
    else
      match placeAll c (s.onCtx c (newCtx s img)) with
      | .error r => .error (4, r)
      | .ok t =>
        match pinFault t (t.ctx c) with
        | some m => .error (5, m)
        | none =>
          match enterMapZero c (loadData c img t) with
          | .error r => .error (7, r)
          | .ok t =>
            match preloadAll c 0 img.resman t with
            | .error r => .error (8, r)
            | .ok u => .ok u

/-- The loader on a file (R97, R99): when a step fails nothing of the image stays, and the host is told the step and the
record. -/
def loadFile (c tenant : Nat) (file : List Byte) (s : State) : State :=
  match imageOf tenant file with
  | .error r => { s with loadFail := some (1, r) }
  | .ok img =>
    match loadImage c img s with
    | .error k => { s with loadFail := some k }
    | .ok u => { u with loadFail := none }

/-- A context may be loaded under a number for a tenant, one of 16 (R358, R97, R16): bring-up is complete with its memory trained, and
the number is free. -/
def mayLoad (s : State) (c tenant : Nat) : Bool :=
  hostUp s && s.bootOut == 0 && decide (c < 64) && decide (tenant < 16) && (s.ctx c).state == 0

/-- CONTEXT_LOAD (R97): the loader places the linked image of a file into context `c` of a tenant. -/
def execContextLoad (c tenant : Nat) (file : List Byte) (s : State) : Host.Outcome State Fault Refusal :=
  happen (fun s => mayLoad s c tenant) (loadFile c tenant file) s

/-! ### Bring-up (R358) -/

/-- A link after training (R358 step 4) under its policy (R352), of which the lanes in `bad` fail: at full width on its data lanes, the
spare for one that fails where the policy lets it; on a clean half where it lets that; else down, by itself or until the host
retrains it. The spare is calibrated. -/
def trainedLink (bad : BitVec 17) (pol : Byte) : Link :=
  let k : Link := { Link.zero with lanes := bad, spareOk := !bad.getLsbD 16 }
  if bad &&& 0xFFFF = 0 then k
  else if pol.getLsbD 0 && 16 ≤ healthy bad then { k with spare := true }
  else if pol.getLsbD 1 && (halfClean bad 0 || halfClean bad 1) then { k with width := 8 }
  else { k with width := 0, paused := true, waitHost := pol.getLsbD 2 }

/-- The policy of link `l` as the host has written it before training (R352). -/
def bootPolicy (b : BootOutcome) (l : Nat) : Byte := BitVec.ofNat 8 (b.policy.getD l 0 % 8)

/-- Link `l` as it is trained. -/
def bootLink (b : BootOutcome) (l : Nat) : Link := trainedLink (BitVec.ofNat 17 (b.lanes.getD l 0)) (bootPolicy b l)

/-- Steps 1 to 5: the state after module reset; recovery when the firmware check fails (outcome 1), no context when memory
training fails (outcome 2, with the part); the firmware image that the boot ROM has checked is measured (R357); the auxiliary links and the
link policies as the host has set them (R19, R352); records of kinds 9 and 10 for links at less than full width. The host's memory is
not the device's. -/
def bringUp (b : BootOutcome) (s : State) : State :=
  let t : State := { State.reset with hostMem := s.hostMem, freeCtr := s.freeCtr, agenda := s.agenda }
  if !b.firmware then { t with bootStep := 2, bootOut := 1 }
  else
    let t : State := { t with
      bootStep := 5, bootOut := if b.memory then 0 else 2, bootPart := if b.memory then 0 else b.part, firmware := b.image
      linkPol := ((List.range 16).map (fun l => (l, bootPolicy b l))).filter (fun k => k.2 != 0)
      aux := [(14, b.aux.getD 0 0), (15, b.aux.getD 1 0)].filter (fun k => k.2 != 0)
      links := (List.range 16).map (fun l => (l, bootLink b l)) }
    (List.range 16).foldl (fun t l =>
      let w := (bootLink b l).width
      if w = 16 then t else postFault (devRecord t (if w = 0 then 10 else 9) 0 0 (linkInfo l 0)) t) t

/-- POWER_ON_RESET (R358): the module is powered or reset, and brought up with an outcome. It alone runs on a module without
power. -/
def execPowerOnReset (b : BootOutcome) (s : State) : Host.Outcome State Fault Refusal :=
  .next { bringUp b s with freeCtr := s.freeCtr + 1 }

/-! ### Supply, coolant, CXL (R355, R350) -/

/-- The event policy of a kind (R355). -/
def eventPolicy (s : State) (kind : Nat) : Byte := Tab.get 0 s.eventPol kind

/-- Issue stops on every core (R355): a freeze, after which a core yields at its next safe point (R73, R346). -/
def stopIssue (s : State) : State :=
  { s with stopped := true, cores := Tab.mapVal s.cores (fun (k : Core) => { k with atSafe := false }) }

/-- What the host's policy allows for an event: nothing more than the report when it is 0. -/
def policyAct (kind : Nat) (s : State) : State :=
  let pol := eventPolicy s kind
  if pol = 0 then s
  else if Config.eventAction pol = 1 then stopIssue s
  else if Config.eventAction pol = 2 then { s with powered := false }
  else s

/-- An event outside the rated range is recorded, and its policy acts. -/
def outOfRange (kind source value : Nat) (s : State) : State :=
  policyAct kind (postFault (devRecord s kind 0 0 (BitVec.ofNat 64 (source % 2 ^ 32 * 2 ^ 32 + value % 2 ^ 32))) s)

/-- SUPPLY_OUT_OF_RANGE (R355): rail `rail` is at `mv` millivolts. -/
def execSupplyOutOfRange (rail mv : Nat) (s : State) : Host.Outcome State Fault Refusal :=
  happen (fun _ => true) (outOfRange 12 rail mv) s

/-- COOLANT_OUT_OF_RANGE (R355): sensor `sensor` reads `v`. -/
def execCoolantOutOfRange (sensor v : Nat) (s : State) : Host.Outcome State Fault Refusal :=
  happen (fun _ => true) (outOfRange 13 sensor v) s

/-- HOST_RELEASE_STOP (R355): the host releases the stop of issue. -/
def execHostReleaseStop (s : State) : Host.Outcome State Fault Refusal :=
  happen hostUp (fun s => { s with stopped := false }) s

/-- A row of backing is marked poisoned. -/
def poisonRow (row : Nat) (s : State) : State := { s with poison := row :: s.poison.filter (fun k => k != row) }

/-- The tier of a row of backing. -/
def rowTier (s : State) (row : Nat) : Nat :=
  let key := row * 512
  (placeAt s key).tier

/-- CXL_ERROR (R355, R350): a CXL device or a secured link reports an error; poison it reports marks the row of backing. -/
def execCxlError (src row : Nat) (poison : Bool) (s : State) : Host.Outcome State Fault Refusal :=
  happen (fun _ => true) (fun s =>
    postFault (devRecord s 15 0 0 (BitVec.ofNat 64 src)) (if poison then poisonRow row s else s)) s

/-! ### Background activities (R356) -/

/-- SCRUB (R356, R355): a row of backing is scrubbed; an uncorrectable error is recorded, and the row marked poisoned. -/
def execScrub (row : Nat) (bad : Bool) (s : State) : Host.Outcome State Fault Refusal :=
  happen (fun _ => true) (fun s =>
    if bad then
      postFault (devRecord s 7 0 0 (BitVec.ofNat 64 (rowTier s row * 2 ^ 60 + row * 512 % 2 ^ 60))) (poisonRow row s)
    else s) s

/-- MEMORY_REFRESH (R356): it takes a reserved slot and changes nothing. -/
def execMemoryRefresh (s : State) : Host.Outcome State Fault Refusal := happen (fun _ => true) id s

/-- TELEMETRY_SAMPLE (R356): sensor `sensor` is sampled. -/
def execTelemetrySample (sensor v : Nat) (s : State) : Host.Outcome State Fault Refusal :=
  happen (fun _ => true) (fun s => { s with telemetry := Tab.put 0 s.telemetry (sensor % 64) (v % 2 ^ 64) }) s

end Sys2Proof.Machine
end

