-- ==== Sys2Proof/Machine/Events.lean ====
section
/-!
DEFINITION. Machine/Events.lean: the events of a core's own front end and of its results: the fetch of a bundle (R73), a
drained trap (R154), a result that lands (R70), a loop end (R117), wait cycles (R50).
-/

namespace Sys2Proof.Machine

/-- BUNDLE_FETCH (R73): the bundle that core `p` has missed in its instruction cache is fetched. -/
def execBundleFetch (p : Nat) (s : State) : Host.Outcome State Fault Refusal :=
  happen (fun s => (s.core p).miss) (fun s => s.onCore p (fun c => holdBundle s.freeCtr { c with miss := false })) s

/-- A trap whose drain is over is taken (R154). -/
def drainedTrap (p : Nat) (s : State) : State :=
  match (s.core p).trapPend with
  | none => s
  | some q => if (s.core p).board.isEmpty then takeTrap p q (s.onCore p (landAll s.freeCtr)) else s

/-- PRECISE_TRAP (R154): the trap that core `p` holds back is taken once its outstanding accesses have returned. -/
def execPreciseTrap (p : Nat) (s : State) : Host.Outcome State Fault Refusal :=
  happen (fun s => coreAlive s p) (drainedTrap p) s

/-- Result `i` in flight of core `p` lands, before or at its bound. -/
def landOne (p i : Nat) (s : State) : State :=
  match (s.core p).flights[i]? with
  | none => s
  | some f => s.onCore p (fun c => landFlight s.freeCtr { c with flights := listDrop c.flights i } f)

/-- RESULT_LAND (R70): a bounded result lands. -/
def execResultLand (p i : Nat) (s : State) : Host.Outcome State Fault Refusal :=
  happen (fun s => coreAlive s p) (landOne p i) s

/-- LOOP_END (R117): the loop end of core `p`'s last bundle is resolved. -/
def execLoopEnd (p : Nat) (s : State) : Host.Outcome State Fault Refusal :=
  happen (fun s => (s.core p).lePend) (fun s => s.onCore p (resolveLe s.cycle)) s

/-- WAIT_CYCLES_EXPIRE (R50): the wait cycles of core `p`'s last bundle pass. -/
def execWaitCyclesExpire (p : Nat) (s : State) : Host.Outcome State Fault Refusal :=
  happen (fun s => (s.core p).run == .running) (fun s => passTo (s.core p).nextIssue s) s

end Sys2Proof.Machine
end

