-- ==== Sys2Proof/Machine/Loom.lean ====
section
/-!
DEFINITION. Machine/Loom.lean: LMMA, LMMAZ (R181 to R187) and LMMAR (R188 to R190).
-/

namespace Sys2Proof.Machine

/-- The rows of a window at kofs of a residency with `k` rows (R181): min(D, K − kofs). -/
def windowLen (rate k kofs : Nat) : Nat := min (128 * rate) (k - kofs)

/-- The residency a handle names for the record checks: none when the handle fails, or the slot was never loaded (R184). -/
def recordedRes (x : Ctx) (lcore : Nat) (h : W64) : Option Resid :=
  if (handleCause x lcore h).isSome then none
  else
    let e := resAt x lcore (handleSlot h)
    if e.loaded then some e else none

/-- The handle holds and no RLOAD has named its slot: neither the pair check nor the window check is made (R184). -/
def neverLoaded (x : Ctx) (lcore : Nat) (h : W64) : Bool :=
  (handleCause x lcore h).isNone && !(resAt x lcore (handleSlot h)).loaded

/-- The format pair check (cause 32). -/
def pairFails (q : Option Resid) (h : Shape) : Bool :=
  decide (16 ≤ h.fmt.toNat) || !([1, 2, 3].contains h.code)
    || (match q with
        | none => false
        | some e => pairRate h.code e.fmt == 0)

/-- The window check (cause 34). -/
def windowFails (q : Option Resid) (h : Shape) : Bool :=
  h.inner % 64 != 0
    || (match q with
        | none => false
        | some e => decide (e.k ≤ h.inner))

/-- The residency faults of R184: the handle's, then the state's. -/
def usableFail (s : State) (p : Nat) (hd : W64) : Option Fail :=
  match handleFail s p hd with
  | some f => some f
  | none =>
    let arg := hd.setWidth 32
    match (resAt (s.ctx (s.ctxOf p)) (s.core p).lcore (handleSlot hd)).state with
    | 2 => none
    | 3 => none
    | 4 => some (.trap 4 0 0 arg)
    | 5 => some (.trap 5 0 0 arg)
    | 6 => some (.trap 6 0 0 arg)
    | 7 => some (.trap 7 0 0 arg)
    | _ => some (.trap 5 1 0 arg)

/-- The first activation row that fails the scratchpad checks of R161. -/
def badActivation (s : State) (p : Nat) (h : Shape) : Option W64 :=
  ((List.range h.outer).map h.stepAt).find? (fun a => !spadOk s p (s.ctxOf p) a)

/-- The scale flag (R183): bit 0 of imm, or of the port. -/
def sqOf (i : BitVec 6) (port : W64) : Bool := if i = 63 then port.getLsbD 0 else i.getLsbD 0

/-- The scales an LMMA takes (R184). -/
def scalesNeeded (e : Resid) (h : Shape) : Nat :=
  h.outer * chunks (windowLen (pairRate h.code e.fmt) e.k h.inner)

/-- The checks of R184, by the precedence of R75: within TCAUSE 2 the lowest detail number. -/
def lmmaCheck (s : State) (e : Env) (h : Shape) (i : BitVec 6) (hd row : W64) : Option Fail :=
  let p := e.p
  let x := s.ctx (s.ctxOf p)
  let q := recordedRes x (s.core p).lcore hd
  let sq := sqOf i e.port
  let bare := neverLoaded x (s.core p).lcore hd
  if !bare && pairFails q h then some (.trap 2 32 0 0)
  else if h.outer < 1 ∨ 8191 < row.toNat ∨ 8192 < row.toNat + h.outer then some (.trap 2 33 0 0)
  else if !bare && windowFails q h then some (.trap 2 34 0 0)
  else if sq ∧ h.code ≠ 3 then some (.trap 2 35 0 0)
  else if i = 63 ∧ e.port.toNat / 2 ≠ 0 then some (.trap 2 36 0 0)
  else
    match badActivation s p h with
    | some a => some (.fatal 1 a 0)
    | none =>
      match usableFail s p hd with
      | some f => some f
      | none =>
        let need := scalesNeeded (resAt x (s.core p).lcore (handleSlot hd)) h
        let have_ := scalesFree (s.core p) + e.pushed
        if sq ∧ have_ < need then some (.trap 9 0 0 (BitVec.ofNat 32 (need - have_))) else none

/-- The tile a residency holds. -/
def tileAt (x : Ctx) (lcore slot : Nat) : Tile := Tab.get { fmt := 0, k := 0, bytes := 0 } x.tiles (resKey lcore slot)

/-- An LMMA or LMMAZ issues (R185): record, window and weights are captured, its scales taken from the head of the queue, those that
are outstanding as they come (R259). A row that a V-slot write is
pending to is left undefined, whichever of the two lands last (R194). -/
def startLoom (first : Bool) (s0 : State) (e : Env) (h : Shape) (i : BitVec 6) (hd row : W64) (s : State) : State :=
  let p := e.p
  let c := s0.ctxOf p
  let l := (s0.core p).lcore
  let x := s0.ctx c
  let r := resAt x l (handleSlot hd)
  let sq := sqOf i e.port
  let base := row.toNat
  let n := if sq then scalesNeeded r h else 0
  let inRows (k : Nat) : Bool := decide (base ≤ k) && decide (k < base + h.outer)
  spoilTopk p inRows <| s.onCore p (fun k =>
    let job : LoomJob :=
      { issue := s0.cycle, bundle := BitVec.ofInt 32 (s0.core p).pc, ctx := c, lcore := l, slotIx := handleSlot hd,
        base := base, rows := h.outer, done := 0, kofs := h.inner,
        len := windowLen (pairRate h.code r.fmt) r.k h.inner, fmt := h.code, first := first,
        tile := tileAt x l (handleSlot hd), sq := sq, scales := k.scaleQ.take n, owed := n - k.scaleQ.length, abase := h.base, stride := h.st1,
        acts := (List.range h.outer).map (fun m => spadGet s0 p (h.stepAt m)), flags := 0,
        clash := (k.flights.filterMap (fun f => match f.dest with
          | .acc y => if inRows y then some y else none
          | _ => none)) }
    let k := markTopk inRows (clashAcc k inRows)
    { k with loom := k.loom ++ [job], loomFree := s0.cycle + h.outer + 40, scaleQ := k.scaleQ.drop n, scaleOp := k.scaleOp || sq })

/-- The meaning of LMMAZ and LMMA (R183): `first` when the window's first chunk overwrites. -/
def mLoom (first : Bool) (h : BitVec 2) (s : BitVec 1) (g : BitVec 5) (a b i : BitVec 6) : Meaning :=
  { acts := guardM g
    port := i == 63
    srcs := fun _ => [destS a, destS b]
    ready := fun st e => decide ((st.core e.p).loomFree ≤ st.cycle)
    check := fun st e => lmmaCheck st e (usedShape (st.core e.p) 0 h.toNat s) i (readS st e.p a) (readS st e.p b)
    commit := fun s0 e st =>
      startLoom first s0 e (usedShape (s0.core e.p) 0 h.toNat s) i (readS s0 e.p a) (readS s0 e.p b)
        (st.onCore e.p (exchangeAll 0 s [h.toNat]))
    rank := 1 }

/-- The meaning of LMMA (R183). -/
def mLmma (h : BitVec 2) (s : BitVec 1) (g : BitVec 5) (a b i : BitVec 6) : Meaning := mLoom false h s g a b i

/-- The meaning of LMMAZ (R183). -/
def mLmmaz (h : BitVec 2) (s : BitVec 1) (g : BitVec 5) (a b i : BitVec 6) : Meaning := mLoom true h s g a b i

/-- A row of the oldest Loom instruction of a core lands, once it has its scales; while its reading interval lasts, a store since its issue may
have been seen (R186). -/
def loomRowLand (p : Nat) (s : State) : State :=
  match (s.core p).loom with
  | [] => s
  | j :: _ =>
    let a := j.abase + BitVec.ofNat 64 j.done * j.stride
    let now := if s.cycle ≤ j.issue + j.done + 40 ∧ Config.pick s.freeCtr j.done % 2 = 1
      then some (spadGet s p a) else none
    if j.owed = 0 then s.onCore p (landLoomRow s.freeCtr now) else s

/-- LOOM_ROW_LAND (R186): the next accumulator row of the oldest Loom instruction of core `p` lands. -/
def execLoomRowLand (p : Nat) (s : State) : Host.Outcome State Fault Refusal :=
  happen (fun _ => true) (loomRowLand p) s

/-- The Loom accepts its next instruction (R186): the windows taken by now release revoked granules (R187). -/
def loomAccept (p : Nat) (s : State) : State :=
  if (s.core p).loomFree ≤ s.cycle then s.onCore p (drainDue s.cycle) else s

/-- LOOM_ACCEPT (R186): M + 40 cycles after the last Loom issue of core `p`, the Loom accepts again. -/
def execLoomAccept (p : Nat) (s : State) : Host.Outcome State Fault Refusal :=
  happen (fun _ => true) (loomAccept p) s

/-! ### LMMAR (R188) -/

/-- The checks of R188, by the precedence of R75. -/
def lmmarCheck (s : State) (e : Env) (h : Shape) (hd off : W64) : Option Fail :=
  let p := e.p
  let x := s.ctx (s.ctxOf p)
  let q := recordedRes x (s.core p).lcore hd
  let bare := neverLoaded x (s.core p).lcore hd
  if !bare && pairFails q h then some (.trap 2 32 0 0)
  else if !bare && windowFails q h then some (.trap 2 34 0 0)
  else if !(isRemote h.base && formOk h.base) ∨ 2 < h.rc.toNat then some (.trap 2 37 0 0)
  else if 4096 ≤ h.tag.toNat ∨ published x h.tagNo = false
      ∨ bufRows (Tab.get 0 x.buffers h.tagNo) < off.toNat / 512 + h.outer then some (.trap 2 38 0 0)
  else if lprgState (s.core p).klprg = 1 then some (.trap 2 39 0 0)
  else if !barrierOk s (s.ctxOf p) h.barAt then some (.fatal 1 h.barAt 0)
  else usableFail s p hd

/-- The first row of a run of rows still to be written: 0, or where a stopped run left off (R188). -/
def lmmarFirst (c : Core) (sw : BitVec 1) : Nat := if sw = 0 ∧ lprgState c.klprg = 2 then fld c.klprg 0 14 else 0

/-- An LMMAR issues (R188). -/
def startLmmar (s0 : State) (e : Env) (sw : BitVec 1) (h : Shape) (hd off : W64) (s : State) : State :=
  let p := e.p
  let c := s0.ctxOf p
  let l := (s0.core p).lcore
  let x := s0.ctx c
  let r := resAt x l (handleSlot hd)
  let first := lmmarFirst (s0.core p) sw
  let job : LmmarJob :=
    { issue := s0.cycle, bundle := BitVec.ofInt 32 (s0.core p).pc, ctx := c, base := h.base, stride := h.st1,
      rows := h.outer, kofs := h.inner, len := windowLen (pairRate h.code r.fmt) r.k h.inner, fmt := h.code,
      tile := tileAt x l (handleSlot hd), tag := h.tagNo, off := bufHome (Tab.get 0 x.buffers h.tagNo) + off.toNat / 512 * 512, rc := h.cls,
      bar := h.barAt, landed := List.range first, flags := 0, own := true }
  s.onCore p (fun k =>
    let k := { k with loomFree := s0.cycle + h.outer + 40 }
    if h.outer ≤ first then { k with klprg := lprgWord 3 0 first }
    else { k with klprg := lprgWord 1 0 first, lmmar := k.lmmar ++ [job] })

/-- The meaning of LMMAR (R188). -/
def mLmmar (h : BitVec 2) (s : BitVec 1) (g : BitVec 5) (a b _i : BitVec 6) : Meaning :=
  { acts := guardM g
    srcs := fun _ => [destS a, destS b]
    ready := fun st e => decide ((st.core e.p).loomFree ≤ st.cycle)
    check := fun st e => lmmarCheck st e (usedShape (st.core e.p) 0 h.toNat s) (readS st e.p a) (readS st e.p b)
    commit := fun s0 e st =>
      startLmmar s0 e s (usedShape (s0.core e.p) 0 h.toNat s) (readS s0 e.p a) (readS s0 e.p b)
        (st.onCore e.p (exchangeAll 0 s [h.toNat]))
    rank := 1 }

/-- The rows below which every row is written. -/
def doneRows (l : List Nat) : Nat → Nat → Nat
  | 0, k => k
  | n + 1, k => if l.contains k then doneRows l n (k + 1) else k

/-- KLPRG reports the LMMAR that the core's task has started; one that has outlived its task writes it no more (R188, R178). DESIGN CHOICE
(log 59). -/
def reportLmmar (j : LmmarJob) (w : W64) (k : Core) : Core := if j.own then { k with klprg := w } else k

/-- LMMAR `n` of a core ends: KLPRG takes the state and status, its flags land (R149, R188). DESIGN CHOICE (log 59):
the flags of the rows that a stopped LMMAR has multiplied land as it stops; those of one that has outlived its task as a copy's do
(log 89). -/
def endLmmar (n : Nat) (j : LmmarJob) (state status done : Nat) (k : Core) : Core :=
  landFlags (reportLmmar j (lprgWord state status done) { k with lmmar := listDrop k.lmmar n }) 4 j.flags j.bundle j.issue

/-- `n` adds of a row's 512 bytes to the barrier of an LMMAR (R188). -/
def rowAdds (p : Nat) (j : LmmarJob) (st : Nat) : Nat → State → State
  | 0, s => s
  | n + 1, s => rowAdds p j st n (engineAdd p j.ctx ownFlow j.rc .bara j.bar 512 st s)

/-- A row of LMMAR `n` of a core (R188): fetched from its target, which answers with the row or a refusal; multiplied; written to
the back side. DEDUCED (log 59): the 512 bytes of a row are added to the barrier as the row comes to count in `done`, so
that a resumed run, which starts at `done`, adds those of every row once. A row that the map refuses to let land in the back
side stops the run as a refusal by the target does (log 58). -/
def lmmarRow (p n row : Nat) (r : Reply) (st : Nat) (s : State) : State :=
  match (s.core p).lmmar[n]? with
  | none => s
  | some j =>
    if j.rows ≤ row ∨ j.landed.contains row ∨ startedAt (s.core p) j.issue = false ∨ alive s j.ctx = false ∨ addPages s j.ctx j.bar 0 ≠ [] then s
    else
      let a := j.base + BitVec.ofNat 64 row * j.stride
      let s := sendPacket p j.ctx ownFlow j.rc a .loadRow s
      let done := doneRows j.landed j.rows 0
      if st % 256 ≠ 0 ∨ r.poisoned then s.onCore p (endLmmar n j 2 (if st % 256 ≠ 0 then st % 256 else 4) done)
      else
        let front := j.off + 512 * row
        let back := backTag (s.ctx j.ctx) j.tag front
        match landRefused s j.ctx (BitVec.ofNat 64 front) back with
        | some k => s.onCore p (endLmmar n j 2 k done)
        | none =>
          let y := loomRow j.tile j.fmt j.kofs j.len r.data 0 none row true
          let s := countTag j.ctx j.tag 512 (countTag j.ctx j.tag 512 (writeBacking j.ctx back y.1 s))
          let j := { j with landed := row :: j.landed, flags := j.flags ||| y.2 }
          let now := doneRows j.landed j.rows 0
          let s := if j.bar = 0 then s else rowAdds p j (st / 256) (now - done) s
          if now = j.rows then s.onCore p (endLmmar n j 3 0 now)
          else s.onCore p (fun k => reportLmmar j (lprgWord 1 0 now) { k with lmmar := listUpd k.lmmar n (fun _ => j) })

/-- LMMAR_ROW (R188): row `row` modulo 2^32 of LMMAR `row` / 2^32 of those in flight of core `p`, the oldest first; `st` is the target's
answer in its low 8 bits, the answer of a remote barrier above them. -/
def execLmmarRow (p row : Nat) (r : Reply) (st : Nat) (s : State) : Host.Outcome State Fault Refusal :=
  happen (fun _ => true) (lmmarRow p (row / 2 ^ 32) (row % 2 ^ 32) r st) s

/-- LMMA (R183): streams activation rows through the Loom, accumulating into acc rows. -/
def execLmma (h : BitVec 2) (s : BitVec 1) (g : BitVec 5) (a b i : BitVec 6) (st : State) : Host.Outcome State Fault Refusal :=
  issueOne (.lmma h s g a b i) (mLmma h s g a b i) st

/-- LMMAZ (R183): as LMMA, overwriting acc rows with the first chunk. -/
def execLmmaz (h : BitVec 2) (s : BitVec 1) (g : BitVec 5) (a b i : BitVec 6) (st : State) : Host.Outcome State Fault Refusal :=
  issueOne (.lmmaz h s g a b i) (mLmmaz h s g a b i) st

/-- LMMAR (R188): starts an asynchronous multiply of remote activation rows into a back side. -/
def execLmmar (h : BitVec 2) (s : BitVec 1) (g : BitVec 5) (a b i : BitVec 6) (st : State) : Host.Outcome State Fault Refusal :=
  issueOne (.lmmar h s g a b i) (mLmmar h s g a b i) st

end Sys2Proof.Machine
end

