-- ==== Sys2Proof/Machine/Scalar.lean ====
section
/-!
DEFINITION. Machine/Scalar.lean: scalar arithmetic, immediates, constants, compares and predicates (R105 to R112).
-/

namespace Sys2Proof.Machine

/-- The meaning of ADD (R105). -/
def mAdd (g : BitVec 5) (n : BitVec 1) (d a b : BitVec 6) (w : BitVec 1) : Meaning := mAlu .add g n d a b w

/-- The meaning of SUB (R105). -/
def mSub (g : BitVec 5) (n : BitVec 1) (d a b : BitVec 6) (w : BitVec 1) : Meaning := mAlu .sub g n d a b w

/-- The meaning of AND (R105). -/
def mAnd (g : BitVec 5) (n : BitVec 1) (d a b : BitVec 6) (w : BitVec 1) : Meaning := mAlu .and g n d a b w

/-- The meaning of OR (R105). -/
def mOr (g : BitVec 5) (n : BitVec 1) (d a b : BitVec 6) (w : BitVec 1) : Meaning := mAlu .or g n d a b w

/-- The meaning of XOR (R105). -/
def mXor (g : BitVec 5) (n : BitVec 1) (d a b : BitVec 6) (w : BitVec 1) : Meaning := mAlu .xor g n d a b w

/-- The meaning of ANDN (R105). -/
def mAndn (g : BitVec 5) (n : BitVec 1) (d a b : BitVec 6) (w : BitVec 1) : Meaning := mAlu .andn g n d a b w

/-- The meaning of SHL (R105). -/
def mShl (g : BitVec 5) (n : BitVec 1) (d a b : BitVec 6) (w : BitVec 1) : Meaning := mAlu .shl g n d a b w

/-- The meaning of SHR (R105). -/
def mShr (g : BitVec 5) (n : BitVec 1) (d a b : BitVec 6) (w : BitVec 1) : Meaning := mAlu .shr g n d a b w

/-- The meaning of SRA (R105). -/
def mSra (g : BitVec 5) (n : BitVec 1) (d a b : BitVec 6) (w : BitVec 1) : Meaning := mAlu .sra g n d a b w

/-- The meaning of MUL (R105). -/
def mMul (g : BitVec 5) (n : BitVec 1) (d a b : BitVec 6) (w : BitVec 1) : Meaning := mAlu .mul g n d a b w

/-- The meaning of MULH (R105). -/
def mMulh (g : BitVec 5) (n : BitVec 1) (d a b : BitVec 6) (w : BitVec 1) : Meaning := mAlu .mulh g n d a b w

/-- The meaning of MULHN (R105). -/
def mMulhn (g : BitVec 5) (n : BitVec 1) (d a b : BitVec 6) (w : BitVec 1) : Meaning := mAlu .mulhn g n d a b w

/-- The meaning of DIV (R105). -/
def mDiv (g : BitVec 5) (n : BitVec 1) (d a b : BitVec 6) (w : BitVec 1) : Meaning := mAlu .div g n d a b w

/-- The meaning of DIVN (R105). -/
def mDivn (g : BitVec 5) (n : BitVec 1) (d a b : BitVec 6) (w : BitVec 1) : Meaning := mAlu .divn g n d a b w

/-- The meaning of REM (R105). -/
def mRem (g : BitVec 5) (n : BitVec 1) (d a b : BitVec 6) (w : BitVec 1) : Meaning := mAlu .rem g n d a b w

/-- The meaning of REMN (R105). -/
def mRemn (g : BitVec 5) (n : BitVec 1) (d a b : BitVec 6) (w : BitVec 1) : Meaning := mAlu .remn g n d a b w

/-- The meaning of MIN (R105). -/
def mMin (g : BitVec 5) (n : BitVec 1) (d a b : BitVec 6) (w : BitVec 1) : Meaning := mAlu .min g n d a b w

/-- The meaning of MAX (R105). -/
def mMax (g : BitVec 5) (n : BitVec 1) (d a b : BitVec 6) (w : BitVec 1) : Meaning := mAlu .max g n d a b w

/-- The meaning of MINN (R105). -/
def mMinn (g : BitVec 5) (n : BitVec 1) (d a b : BitVec 6) (w : BitVec 1) : Meaning := mAlu .minn g n d a b w

/-- The meaning of MAXN (R105). -/
def mMaxn (g : BitVec 5) (n : BitVec 1) (d a b : BitVec 6) (w : BitVec 1) : Meaning := mAlu .maxn g n d a b w

/-- The meaning of SEL (R105): g chooses between the operands and does not guard. -/
def mSel (g : BitVec 5) (n : BitVec 1) (d a b : BitVec 6) (w : BitVec 1) : Meaning :=
  scalarWrite (fun _ _ => true) d [a, b] 1 (fun s e =>
    let x := if guardN g n s e.agent then readAS s e.agent a else readAS s e.agent b
    (if w = 0 then x else extend32 false (x.toNat % 2 ^ 32), 0))

/-- The meaning of CLZ (R105). -/
def mClz (g : BitVec 5) (n : BitVec 1) (d a : BitVec 6) (w : BitVec 1) : Meaning := mAlu1 .clz g n d a w

/-- The meaning of POPC (R105). -/
def mPopc (g : BitVec 5) (n : BitVec 1) (d a : BitVec 6) (w : BitVec 1) : Meaning := mAlu1 .popc g n d a w

/-- The meaning of BFX (R106). -/
def mBfx (g : BitVec 5) (n : BitVec 1) (d a b : BitVec 6) (w : BitVec 1) : Meaning := mAlu .bfx g n d a b w

/-- The meaning of ADDI (R108). -/
def mAddi (d a : BitVec 6) (i : BitVec 13) : Meaning := mImm .addi d a i

/-- The meaning of ANDI (R108). -/
def mAndi (d a : BitVec 6) (i : BitVec 13) : Meaning := mImm .andi d a i

/-- The meaning of ORI (R108). -/
def mOri (d a : BitVec 6) (i : BitVec 13) : Meaning := mImm .ori d a i

/-- The meaning of XORI (R108). -/
def mXori (d a : BitVec 6) (i : BitVec 13) : Meaning := mImm .xori d a i

/-- The meaning of SHLI (R108). -/
def mShli (d a : BitVec 6) (i : BitVec 13) : Meaning := mImm .shli d a i

/-- The meaning of SHRI (R108). -/
def mShri (d a : BitVec 6) (i : BitVec 13) : Meaning := mImm .shri d a i

/-- The meaning of SRAI (R108). -/
def mSrai (d a : BitVec 6) (i : BitVec 13) : Meaning := mImm .srai d a i

/-- The meaning of MULI (R108). -/
def mMuli (d a : BitVec 6) (i : BitVec 13) : Meaning := mImm .muli d a i

/-- The meaning of LIU (R109). -/
def mLiu (d : BitVec 6) (i : BitVec 19) : Meaning :=
  scalarWrite (fun _ _ => true) d [] 1 (fun _ _ => (i.setWidth 64, 0))

/-- The meaning of LIH (R109): it reads its own destination. -/
def mLih (d : BitVec 6) (i : BitVec 19) : Meaning :=
  scalarWrite (fun _ _ => true) d [d] 1 (fun s e => (readAS s e.agent d <<< 19 ||| i.setWidth 64, 0))

/-- The meaning of CMPEQ (R110). -/
def mCmpeq (g : BitVec 5) (n : BitVec 1) (p : BitVec 5) (a b : BitVec 6) : Meaning := mCmp .eq g n p a b

/-- The meaning of CMPNE (R110). -/
def mCmpne (g : BitVec 5) (n : BitVec 1) (p : BitVec 5) (a b : BitVec 6) : Meaning := mCmp .ne g n p a b

/-- The meaning of CMPLT (R110). -/
def mCmplt (g : BitVec 5) (n : BitVec 1) (p : BitVec 5) (a b : BitVec 6) : Meaning := mCmp .lt g n p a b

/-- The meaning of CMPLE (R110). -/
def mCmple (g : BitVec 5) (n : BitVec 1) (p : BitVec 5) (a b : BitVec 6) : Meaning := mCmp .le g n p a b

/-- The meaning of CMPLTN (R110). -/
def mCmpltn (g : BitVec 5) (n : BitVec 1) (p : BitVec 5) (a b : BitVec 6) : Meaning := mCmp .ltn g n p a b

/-- The meaning of CMPLEN (R110). -/
def mCmplen (g : BitVec 5) (n : BitVec 1) (p : BitVec 5) (a b : BitVec 6) : Meaning := mCmp .len g n p a b

/-- The meaning of CMPBIT (R110). -/
def mCmpbit (g : BitVec 5) (n : BitVec 1) (p : BitVec 5) (a b : BitVec 6) : Meaning := mCmp .bit g n p a b

/-- The meaning of PLOG (R112). -/
def mPlog (p x y : BitVec 5) (t : BitVec 4) : Meaning :=
  predWrite (fun _ _ => true) p [] (fun s e => plogResult (readAP s e.agent x) (readAP s e.agent y) t)

/-- The meaning of PFROM (R111): lanes 63:0 from s[a], lanes 127:64 from s[b]. -/
def mPfrom (g : BitVec 5) (n : BitVec 1) (p : BitVec 5) (a b : BitVec 6) : Meaning :=
  predWrite (guardN g n) p [a, b] (fun s e =>
    (readAS s e.agent b).setWidth 128 <<< 64 ||| (readAS s e.agent a).setWidth 128)

/-- The meaning of PTO (R111): w selects the half of the predicate. -/
def mPto (g : BitVec 5) (n : BitVec 1) (d a : BitVec 6) (w : BitVec 1) : Meaning :=
  scalarWrite (guardN g n) d [] 1 (fun s e =>
    let x := readAP s e.agent (a.setWidth 5)
    (if w = 0 then x.setWidth 64 else (x >>> 64).setWidth 64, 0))

/-- ADD (R105): scalar add, wrapped to 64 or 32 bits. -/
def execAdd (g : BitVec 5) (n : BitVec 1) (d a b : BitVec 6) (w : BitVec 1) (s : State) : Host.Outcome State Fault Refusal :=
  issueOne (.add g n d a b w) (mAdd g n d a b w) s

/-- SUB (R105): scalar subtract, wrapped to 64 or 32 bits. -/
def execSub (g : BitVec 5) (n : BitVec 1) (d a b : BitVec 6) (w : BitVec 1) (s : State) : Host.Outcome State Fault Refusal :=
  issueOne (.sub g n d a b w) (mSub g n d a b w) s

/-- AND (R105): scalar bitwise AND. -/
def execAnd (g : BitVec 5) (n : BitVec 1) (d a b : BitVec 6) (w : BitVec 1) (s : State) : Host.Outcome State Fault Refusal :=
  issueOne (.and g n d a b w) (mAnd g n d a b w) s

/-- OR (R105): scalar bitwise OR. -/
def execOr (g : BitVec 5) (n : BitVec 1) (d a b : BitVec 6) (w : BitVec 1) (s : State) : Host.Outcome State Fault Refusal :=
  issueOne (.or g n d a b w) (mOr g n d a b w) s

/-- XOR (R105): scalar bitwise XOR. -/
def execXor (g : BitVec 5) (n : BitVec 1) (d a b : BitVec 6) (w : BitVec 1) (s : State) : Host.Outcome State Fault Refusal :=
  issueOne (.xor g n d a b w) (mXor g n d a b w) s

/-- ANDN (R105): scalar x AND NOT y. -/
def execAndn (g : BitVec 5) (n : BitVec 1) (d a b : BitVec 6) (w : BitVec 1) (s : State) : Host.Outcome State Fault Refusal :=
  issueOne (.andn g n d a b w) (mAndn g n d a b w) s

/-- SHL (R105): scalar shift left by y mod W. -/
def execShl (g : BitVec 5) (n : BitVec 1) (d a b : BitVec 6) (w : BitVec 1) (s : State) : Host.Outcome State Fault Refusal :=
  issueOne (.shl g n d a b w) (mShl g n d a b w) s

/-- SHR (R105): scalar logical shift right. -/
def execShr (g : BitVec 5) (n : BitVec 1) (d a b : BitVec 6) (w : BitVec 1) (s : State) : Host.Outcome State Fault Refusal :=
  issueOne (.shr g n d a b w) (mShr g n d a b w) s

/-- SRA (R105): scalar arithmetic shift right. -/
def execSra (g : BitVec 5) (n : BitVec 1) (d a b : BitVec 6) (w : BitVec 1) (s : State) : Host.Outcome State Fault Refusal :=
  issueOne (.sra g n d a b w) (mSra g n d a b w) s

/-- MUL (R105): low W bits of the scalar product. -/
def execMul (g : BitVec 5) (n : BitVec 1) (d a b : BitVec 6) (w : BitVec 1) (s : State) : Host.Outcome State Fault Refusal :=
  issueOne (.mul g n d a b w) (mMul g n d a b w) s

/-- MULH (R105): high W bits of the signed product. -/
def execMulh (g : BitVec 5) (n : BitVec 1) (d a b : BitVec 6) (w : BitVec 1) (s : State) : Host.Outcome State Fault Refusal :=
  issueOne (.mulh g n d a b w) (mMulh g n d a b w) s

/-- MULHN (R105): high W bits of the unsigned product. -/
def execMulhn (g : BitVec 5) (n : BitVec 1) (d a b : BitVec 6) (w : BitVec 1) (s : State) : Host.Outcome State Fault Refusal :=
  issueOne (.mulhn g n d a b w) (mMulhn g n d a b w) s

/-- DIV (R107): signed quotient, with fixed results for zero divisor and overflow. -/
def execDiv (g : BitVec 5) (n : BitVec 1) (d a b : BitVec 6) (w : BitVec 1) (s : State) : Host.Outcome State Fault Refusal :=
  issueOne (.div g n d a b w) (mDiv g n d a b w) s

/-- DIVN (R107): unsigned quotient. -/
def execDivn (g : BitVec 5) (n : BitVec 1) (d a b : BitVec 6) (w : BitVec 1) (s : State) : Host.Outcome State Fault Refusal :=
  issueOne (.divn g n d a b w) (mDivn g n d a b w) s

/-- REM (R107): signed remainder taking the sign of x. -/
def execRem (g : BitVec 5) (n : BitVec 1) (d a b : BitVec 6) (w : BitVec 1) (s : State) : Host.Outcome State Fault Refusal :=
  issueOne (.rem g n d a b w) (mRem g n d a b w) s

/-- REMN (R107): unsigned remainder. -/
def execRemn (g : BitVec 5) (n : BitVec 1) (d a b : BitVec 6) (w : BitVec 1) (s : State) : Host.Outcome State Fault Refusal :=
  issueOne (.remn g n d a b w) (mRemn g n d a b w) s

/-- MIN (R105): signed scalar minimum. -/
def execMin (g : BitVec 5) (n : BitVec 1) (d a b : BitVec 6) (w : BitVec 1) (s : State) : Host.Outcome State Fault Refusal :=
  issueOne (.min g n d a b w) (mMin g n d a b w) s

/-- MAX (R105): signed scalar maximum. -/
def execMax (g : BitVec 5) (n : BitVec 1) (d a b : BitVec 6) (w : BitVec 1) (s : State) : Host.Outcome State Fault Refusal :=
  issueOne (.max g n d a b w) (mMax g n d a b w) s

/-- MINN (R105): unsigned scalar minimum. -/
def execMinn (g : BitVec 5) (n : BitVec 1) (d a b : BitVec 6) (w : BitVec 1) (s : State) : Host.Outcome State Fault Refusal :=
  issueOne (.minn g n d a b w) (mMinn g n d a b w) s

/-- MAXN (R105): unsigned scalar maximum. -/
def execMaxn (g : BitVec 5) (n : BitVec 1) (d a b : BitVec 6) (w : BitVec 1) (s : State) : Host.Outcome State Fault Refusal :=
  issueOne (.maxn g n d a b w) (mMaxn g n d a b w) s

/-- SEL (R105): selects s[a] or s[b] by the predicate. -/
def execSel (g : BitVec 5) (n : BitVec 1) (d a b : BitVec 6) (w : BitVec 1) (s : State) : Host.Outcome State Fault Refusal :=
  issueOne (.sel g n d a b w) (mSel g n d a b w) s

/-- CLZ (R105): counts leading zero bits. -/
def execClz (g : BitVec 5) (n : BitVec 1) (d a : BitVec 6) (w : BitVec 1) (s : State) : Host.Outcome State Fault Refusal :=
  issueOne (.clz g n d a w) (mClz g n d a w) s

/-- POPC (R105): counts one bits. -/
def execPopc (g : BitVec 5) (n : BitVec 1) (d a : BitVec 6) (w : BitVec 1) (s : State) : Host.Outcome State Fault Refusal :=
  issueOne (.popc g n d a w) (mPopc g n d a w) s

/-- BFX (R106): extracts an unsigned bit field. -/
def execBfx (g : BitVec 5) (n : BitVec 1) (d a b : BitVec 6) (w : BitVec 1) (s : State) : Host.Outcome State Fault Refusal :=
  issueOne (.bfx g n d a b w) (mBfx g n d a b w) s

/-- ADDI (R108): adds a signed 13-bit immediate. -/
def execAddi (d a : BitVec 6) (i : BitVec 13) (s : State) : Host.Outcome State Fault Refusal :=
  issueOne (.addi d a i) (mAddi d a i) s

/-- ANDI (R108): aNDs a sign-extended immediate. -/
def execAndi (d a : BitVec 6) (i : BitVec 13) (s : State) : Host.Outcome State Fault Refusal :=
  issueOne (.andi d a i) (mAndi d a i) s

/-- ORI (R108): oRs a sign-extended immediate. -/
def execOri (d a : BitVec 6) (i : BitVec 13) (s : State) : Host.Outcome State Fault Refusal :=
  issueOne (.ori d a i) (mOri d a i) s

/-- XORI (R108): xORs a sign-extended immediate. -/
def execXori (d a : BitVec 6) (i : BitVec 13) (s : State) : Host.Outcome State Fault Refusal :=
  issueOne (.xori d a i) (mXori d a i) s

/-- SHLI (R108): shifts left by an immediate. -/
def execShli (d a : BitVec 6) (i : BitVec 13) (s : State) : Host.Outcome State Fault Refusal :=
  issueOne (.shli d a i) (mShli d a i) s

/-- SHRI (R108): shifts right logically by an immediate. -/
def execShri (d a : BitVec 6) (i : BitVec 13) (s : State) : Host.Outcome State Fault Refusal :=
  issueOne (.shri d a i) (mShri d a i) s

/-- SRAI (R108): shifts right arithmetically by an immediate. -/
def execSrai (d a : BitVec 6) (i : BitVec 13) (s : State) : Host.Outcome State Fault Refusal :=
  issueOne (.srai d a i) (mSrai d a i) s

/-- MULI (R108): multiplies by a signed immediate. -/
def execMuli (d a : BitVec 6) (i : BitVec 13) (s : State) : Host.Outcome State Fault Refusal :=
  issueOne (.muli d a i) (mMuli d a i) s

/-- LIU (R109): loads a zero-extended 19-bit immediate. -/
def execLiu (d : BitVec 6) (i : BitVec 19) (s : State) : Host.Outcome State Fault Refusal :=
  issueOne (.liu d i) (mLiu d i) s

/-- LIH (R109): shifts s[d] left 19 and ORs in an immediate. -/
def execLih (d : BitVec 6) (i : BitVec 19) (s : State) : Host.Outcome State Fault Refusal :=
  issueOne (.lih d i) (mLih d i) s

/-- CMPEQ (R110): writes all predicate lanes with s[a] = s[b]. -/
def execCmpeq (g : BitVec 5) (n : BitVec 1) (p : BitVec 5) (a b : BitVec 6) (s : State) : Host.Outcome State Fault Refusal :=
  issueOne (.cmpeq g n p a b) (mCmpeq g n p a b) s

/-- CMPNE (R110): writes all predicate lanes with s[a] != s[b]. -/
def execCmpne (g : BitVec 5) (n : BitVec 1) (p : BitVec 5) (a b : BitVec 6) (s : State) : Host.Outcome State Fault Refusal :=
  issueOne (.cmpne g n p a b) (mCmpne g n p a b) s

/-- CMPLT (R110): signed less-than compare into a predicate. -/
def execCmplt (g : BitVec 5) (n : BitVec 1) (p : BitVec 5) (a b : BitVec 6) (s : State) : Host.Outcome State Fault Refusal :=
  issueOne (.cmplt g n p a b) (mCmplt g n p a b) s

/-- CMPLE (R110): signed less-or-equal compare into a predicate. -/
def execCmple (g : BitVec 5) (n : BitVec 1) (p : BitVec 5) (a b : BitVec 6) (s : State) : Host.Outcome State Fault Refusal :=
  issueOne (.cmple g n p a b) (mCmple g n p a b) s

/-- CMPLTN (R110): unsigned less-than compare into a predicate. -/
def execCmpltn (g : BitVec 5) (n : BitVec 1) (p : BitVec 5) (a b : BitVec 6) (s : State) : Host.Outcome State Fault Refusal :=
  issueOne (.cmpltn g n p a b) (mCmpltn g n p a b) s

/-- CMPLEN (R110): unsigned less-or-equal compare into a predicate. -/
def execCmplen (g : BitVec 5) (n : BitVec 1) (p : BitVec 5) (a b : BitVec 6) (s : State) : Host.Outcome State Fault Refusal :=
  issueOne (.cmplen g n p a b) (mCmplen g n p a b) s

/-- CMPBIT (R110): tests bit k of s[a] into a predicate. -/
def execCmpbit (g : BitVec 5) (n : BitVec 1) (p : BitVec 5) (a b : BitVec 6) (s : State) : Host.Outcome State Fault Refusal :=
  issueOne (.cmpbit g n p a b) (mCmpbit g n p a b) s

/-- PLOG (R112): combines two predicates lane by lane under a truth table. -/
def execPlog (p x y : BitVec 5) (t : BitVec 4) (s : State) : Host.Outcome State Fault Refusal :=
  issueOne (.plog p x y t) (mPlog p x y t) s

/-- PFROM (R111): builds a predicate from two scalar registers. -/
def execPfrom (g : BitVec 5) (n : BitVec 1) (p : BitVec 5) (a b : BitVec 6) (s : State) : Host.Outcome State Fault Refusal :=
  issueOne (.pfrom g n p a b) (mPfrom g n p a b) s

/-- PTO (R111): moves one half of a predicate into a scalar register. -/
def execPto (g : BitVec 5) (n : BitVec 1) (d a : BitVec 6) (w : BitVec 1) (s : State) : Host.Outcome State Fault Refusal :=
  issueOne (.pto g n d a w) (mPto g n d a w) s

end Sys2Proof.Machine
end

