-- ==== Sys2Proof/Machine/Vector.lean ====
section
/-!
DEFINITION. Machine/Vector.lean: the V slot (R122 to R140) and its access to the accumulator (R191 to R194).
-/

namespace Sys2Proof.Machine

/-- The b operand of an element: the port when the field is 63 (R54, R125). -/
def bElem (s : State) (e : Env) (b : BitVec 6) (f : Nat) : Nat → Nat :=
  if b = 63 then fun _ => portElem f e.port
  else
    let v := readV s e.p b
    fun j => elem v (fmtBits f) j

/-- The sources a b field names: none when it selects the port. -/
def bSrc (c : Core) (b : BitVec 6) : List Dest := if b = 63 then [] else [destV c b]

/-- A V instruction that writes v[d] in the view `f` under the lane guard (R125): every element of a guarded-on lane from
`op`, which sees the state before the bundle. -/
def vecWrite (g : BitVec 5) (d : BitVec 6) (f : Nat) (srcs : Core → List Dest) (port : Bool) (lat : Nat)
    (op : State → Env → Nat → Nat × Flags) : Meaning :=
  { dests := fun c => [destV c d]
    srcs := srcs
    port := port
    commit := fun s0 e s =>
      let r := mapLanes f (readP s0 e.p g) (readV s0 e.p d) (op s0 e)
      emit e.agent e.slot (destV (s0.core e.p) d) r.1 lat r.2 s }

/-- An element-wise instruction on a and b (R125). -/
def mVec2 (g : BitVec 5) (d a b : BitVec 6) (f : BitVec 3) (lat : Nat) (op : Nat → Nat → Nat × Flags) : Meaning :=
  vecWrite g d f.toNat (fun c => destV c a :: bSrc c b) (b == 63) lat (fun s e =>
    let va := readV s e.p a
    let vb := bElem s e b f.toNat
    fun j => op (elem va (fmtBits f.toNat) j) (vb j))

/-- An element-wise instruction on a, b and the old destination (R125). -/
def mVec3 (g : BitVec 5) (d a b : BitVec 6) (f : BitVec 3) (lat : Nat) (op : Nat → Nat → Nat → Nat × Flags) : Meaning :=
  vecWrite g d f.toNat (fun c => destV c d :: destV c a :: bSrc c b) (b == 63) lat (fun s e =>
    let va := readV s e.p a
    let vd := readV s e.p d
    let vb := bElem s e b f.toNat
    fun j => op (elem va (fmtBits f.toNat) j) (vb j) (elem vd (fmtBits f.toNat) j))

/-- An element-wise instruction on a alone (R125). -/
def mVec1 (g : BitVec 5) (d a : BitVec 6) (f : BitVec 3) (lat : Nat) (op : Nat → Nat × Flags) : Meaning :=
  vecWrite g d f.toNat (fun c => [destV c a]) false lat (fun s e =>
    let va := readV s e.p a
    fun j => op (elem va (fmtBits f.toNat) j))

/-- The result of a reduction over the guarded-on elements (R136). -/
def reduceValue (k f : Nat) (g : Pred) (va : Vec) : Nat × Flags :=
  reduceTree k f 9 ((List.range (viewLen f)).map (fun j =>
    if laneBit g (laneOf f j) then elem va (fmtBits f) j else reduceNeutral k f))

/-- A reduction (R136): `k` 0 sum, 1 maximum, 2 minimum. -/
def mReduce (k : Nat) (g : BitVec 5) (d a : BitVec 6) (f : BitVec 3) : Meaning :=
  vecWrite g d f.toNat (fun c => [destV c a]) false 8 (fun s e =>
    let r := reduceValue k f.toNat (readP s e.p g) (readV s e.p a)
    fun _ => r)

/-- The relation of a compare over the elements of one lane (R137). -/
def laneRel (k f : Nat) (va : Vec) (vb : Nat → Nat) (i : Nat) : Bool × Flags :=
  let n := 4 / fmtBytes f
  (List.range n).foldl (fun t q =>
    let r := relOp k f (elem va (fmtBits f) (n * i + q)) (vb (n * i + q))
    (t.1 && r.1, t.2 ||| r.2)) (true, 0)

/-- The predicate a compare writes, and its flags (R137). -/
def compareValue (k f : Nat) (g old : Pred) (va : Vec) (vb : Nat → Nat) : Pred × Flags :=
  let r := gather 1 (fun i =>
    if laneBit g i then
      let x := laneRel k f va vb i
      (if x.1 then 1 else 0, x.2)
    else (if laneBit old i then 1 else 0, 0)) 128
  (BitVec.ofNat 128 r.1, r.2)

/-- A compare (R137): `k` as `relOp`. -/
def mVcmp (k : Nat) (g p : BitVec 5) (a b : BitVec 6) (f : BitVec 3) : Meaning :=
  { dests := fun c => [destP c p]
    srcs := fun c => destV c a :: bSrc c b
    port := b == 63
    commit := fun s0 e s =>
      let r := compareValue k f.toNat (readP s0 e.p g) (readP s0 e.p p) (readV s0 e.p a) (bElem s0 e b f.toNat)
      emit e.agent e.slot (destP (s0.core e.p) p) (asVec r.1) 4 r.2 s }

/-- A conversion within one register (R138, R139): element `j` of the result from element `j + off` of a. -/
def mConv (g : BitVec 5) (d a : BitVec 6) (s t : BitVec 3) (off : Nat) (f : Nat → Nat × Flags) : Meaning :=
  vecWrite g d t.toNat (fun c => [destV c a]) false 4 (fun st e =>
    let va := readV st e.p a
    fun j => f (elem va (fmtBits s.toNat) (j + off)))

/-- The meaning of VADD (R127). -/
def mVadd (g : BitVec 5) (d a b : BitVec 6) (f : BitVec 3) : Meaning :=
  mVec2 g d a b f 4 (fun x y => arithOp 0 f.toNat x y 0)

/-- The meaning of VSUB (R127). -/
def mVsub (g : BitVec 5) (d a b : BitVec 6) (f : BitVec 3) : Meaning :=
  mVec2 g d a b f 4 (fun x y => arithOp 1 f.toNat x y 0)

/-- The meaning of VMUL (R127). -/
def mVmul (g : BitVec 5) (d a b : BitVec 6) (f : BitVec 3) : Meaning :=
  mVec2 g d a b f 4 (fun x y => arithOp 2 f.toNat x y 0)

/-- The meaning of VFMA (R127). -/
def mVfma (g : BitVec 5) (d a b : BitVec 6) (f : BitVec 3) : Meaning :=
  mVec3 g d a b f 4 (fun x y z => arithOp 3 f.toNat x y z)

/-- The meaning of VFMS (R127). -/
def mVfms (g : BitVec 5) (d a b : BitVec 6) (f : BitVec 3) : Meaning :=
  mVec3 g d a b f 4 (fun x y z => arithOp 4 f.toNat x y z)

/-- The meaning of VMIN (R128). -/
def mVmin (g : BitVec 5) (d a b : BitVec 6) (f : BitVec 3) : Meaning :=
  mVec2 g d a b f 4 (minMaxOp false false f.toNat)

/-- The meaning of VMAX (R128). -/
def mVmax (g : BitVec 5) (d a b : BitVec 6) (f : BitVec 3) : Meaning :=
  mVec2 g d a b f 4 (minMaxOp true false f.toNat)

/-- The meaning of VMINN (R128). -/
def mVminn (g : BitVec 5) (d a b : BitVec 6) (f : BitVec 3) : Meaning :=
  mVec2 g d a b f 4 (minMaxOp false true f.toNat)

/-- The meaning of VMAXN (R128). -/
def mVmaxn (g : BitVec 5) (d a b : BitVec 6) (f : BitVec 3) : Meaning :=
  mVec2 g d a b f 4 (minMaxOp true true f.toNat)

/-- The meaning of VABS (R129). -/
def mVabs (g : BitVec 5) (d a : BitVec 6) (f : BitVec 3) : Meaning :=
  mVec1 g d a f 4 (signOp false f.toNat)

/-- The meaning of VNEG (R129). -/
def mVneg (g : BitVec 5) (d a : BitVec 6) (f : BitVec 3) : Meaning :=
  mVec1 g d a f 4 (signOp true f.toNat)

/-- The meaning of VRCP (R131). -/
def mVrcp (g : BitVec 5) (d a : BitVec 6) (f : BitVec 3) : Meaning :=
  mVec1 g d a f 12 (specialOp 0 f.toNat)

/-- The meaning of VRSQ (R131). -/
def mVrsq (g : BitVec 5) (d a : BitVec 6) (f : BitVec 3) : Meaning :=
  mVec1 g d a f 12 (specialOp 1 f.toNat)

/-- The meaning of VEXP2 (R131). -/
def mVexp2 (g : BitVec 5) (d a : BitVec 6) (f : BitVec 3) : Meaning :=
  mVec1 g d a f 12 (specialOp 2 f.toNat)

/-- The meaning of VLOG2 (R131). -/
def mVlog2 (g : BitVec 5) (d a : BitVec 6) (f : BitVec 3) : Meaning :=
  mVec1 g d a f 12 (specialOp 3 f.toNat)

/-- The meaning of VAND (R132). -/
def mVand (g : BitVec 5) (d a b : BitVec 6) (f : BitVec 3) : Meaning :=
  mVec2 g d a b f 4 (fun x y => (x &&& y, 0))

/-- The meaning of VOR (R132). -/
def mVor (g : BitVec 5) (d a b : BitVec 6) (f : BitVec 3) : Meaning :=
  mVec2 g d a b f 4 (fun x y => (x ||| y, 0))

/-- The meaning of VXOR (R132). -/
def mVxor (g : BitVec 5) (d a b : BitVec 6) (f : BitVec 3) : Meaning :=
  mVec2 g d a b f 4 (fun x y => (x ^^^ y, 0))

/-- The meaning of VSHL (R133). -/
def mVshl (g : BitVec 5) (d a b : BitVec 6) (f : BitVec 3) : Meaning :=
  mVec2 g d a b f 4 (shiftOp 0 f.toNat)

/-- The meaning of VSHR (R133). -/
def mVshr (g : BitVec 5) (d a b : BitVec 6) (f : BitVec 3) : Meaning :=
  mVec2 g d a b f 4 (shiftOp 1 f.toNat)

/-- The meaning of VSRA (R133). -/
def mVsra (g : BitVec 5) (d a b : BitVec 6) (f : BitVec 3) : Meaning :=
  mVec2 g d a b f 4 (shiftOp 2 f.toNat)

/-- The meaning of VADDS (R130). -/
def mVadds (g : BitVec 5) (d a b : BitVec 6) (f : BitVec 3) : Meaning :=
  mVec2 g d a b f 4 (satOp false f.toNat)

/-- The meaning of VSUBS (R130). -/
def mVsubs (g : BitVec 5) (d a b : BitVec 6) (f : BitVec 3) : Meaning :=
  mVec2 g d a b f 4 (satOp true f.toNat)

/-- The meaning of VMOV (R132). -/
def mVmov (g : BitVec 5) (d a : BitVec 6) (f : BitVec 3) : Meaning :=
  mVec1 g d a f 4 (fun x => (x, 0))

/-- The meaning of VSEL (R132): the guard chooses the operand, and every element is written. -/
def mVsel (g : BitVec 5) (d a b : BitVec 6) (f : BitVec 3) : Meaning :=
  vecWrite 0 d f.toNat (fun c => destV c a :: bSrc c b) (b == 63) 4 (fun s e =>
    let va := readV s e.p a
    let vb := bElem s e b f.toNat
    let q := readP s e.p g
    fun j => (if laneBit q (laneOf f.toNat j) then elem va (fmtBits f.toNat) j else vb j, 0))

/-- The meaning of VPERM (R134): each element selects an element of a. -/
def mVperm (g : BitVec 5) (d a b : BitVec 6) (f : BitVec 3) : Meaning :=
  vecWrite g d f.toNat (fun c => destV c a :: bSrc c b) (b == 63) 3 (fun s e =>
    let va := readV s e.p a
    let vb := bElem s e b f.toNat
    fun j => (elem va (fmtBits f.toNat) (vb j % viewLen f.toNat), 0))

/-- The meaning of VROTM (R135): a window of a followed by the old destination; the count is 32-bit lane 0 of b, or the
low 32 bits of the port. -/
def mVrotm (g : BitVec 5) (d a b : BitVec 6) (f : BitVec 3) : Meaning :=
  vecWrite g d f.toNat (fun c => destV c d :: destV c a :: bSrc c b) (b == 63) 3 (fun s e =>
    let va := readV s e.p a
    let vd := readV s e.p d
    let n := viewLen f.toNat
    let r := (if b = 63 then e.port.toNat % 2 ^ 32 else elem (readV s e.p b) 32 0) % n
    fun j => (if j + r < n then elem va (fmtBits f.toNat) (j + r) else elem vd (fmtBits f.toNat) (j + r - n), 0))

/-- The meaning of VRSUM (R136). -/
def mVrsum (g : BitVec 5) (d a : BitVec 6) (f : BitVec 3) : Meaning :=
  mReduce 0 g d a f

/-- The meaning of VRMAX (R136). -/
def mVrmax (g : BitVec 5) (d a : BitVec 6) (f : BitVec 3) : Meaning :=
  mReduce 1 g d a f

/-- The meaning of VRMIN (R136). -/
def mVrmin (g : BitVec 5) (d a : BitVec 6) (f : BitVec 3) : Meaning :=
  mReduce 2 g d a f

/-- The meaning of VCEQ (R137). -/
def mVceq (g p : BitVec 5) (a b : BitVec 6) (f : BitVec 3) : Meaning :=
  mVcmp 0 g p a b f

/-- The meaning of VCNE (R137). -/
def mVcne (g p : BitVec 5) (a b : BitVec 6) (f : BitVec 3) : Meaning :=
  mVcmp 1 g p a b f

/-- The meaning of VCLT (R137). -/
def mVclt (g p : BitVec 5) (a b : BitVec 6) (f : BitVec 3) : Meaning :=
  mVcmp 2 g p a b f

/-- The meaning of VCLE (R137). -/
def mVcle (g p : BitVec 5) (a b : BitVec 6) (f : BitVec 3) : Meaning :=
  mVcmp 3 g p a b f

/-- The meaning of VCLTN (R137). -/
def mVcltn (g p : BitVec 5) (a b : BitVec 6) (f : BitVec 3) : Meaning :=
  mVcmp 4 g p a b f

/-- The meaning of VCLEN (R137). -/
def mVclen (g p : BitVec 5) (a b : BitVec 6) (f : BitVec 3) : Meaning :=
  mVcmp 5 g p a b f

/-- The meaning of VCVT (R138). -/
def mVcvt (g : BitVec 5) (d a : BitVec 6) (s t : BitVec 3) (r : BitVec 2) (u : BitVec 1) : Meaning :=
  mConv g d a s t 0 (convertSame s.toNat t.toNat r.toNat (u == 1))

/-- The meaning of VPACK (R139): the old elements move up behind the converted ones. -/
def mVpack (g : BitVec 5) (d a : BitVec 6) (s t : BitVec 3) (r : BitVec 2) (u : BitVec 1) : Meaning :=
  vecWrite g d t.toNat (fun c => [destV c d, destV c a]) false 4 (fun st e =>
    let va := readV st e.p a
    let vd := readV st e.p d
    let n := viewLen s.toNat
    fun j =>
      if j < n then convert s.toNat t.toNat r.toNat (u == 1) (elem va (fmtBits s.toNat) j)
      else (elem vd (fmtBits t.toNat) (j - n), 0))

/-- The meaning of VUNPKL (R139). -/
def mVunpkl (g : BitVec 5) (d a : BitVec 6) (s t : BitVec 3) (r : BitVec 2) (u : BitVec 1) : Meaning :=
  mConv g d a s t 0 (convert s.toNat t.toNat r.toNat (u == 1))

/-- The meaning of VUNPKH (R139). -/
def mVunpkh (g : BitVec 5) (d a : BitVec 6) (s t : BitVec 3) (r : BitVec 2) (u : BitVec 1) : Meaning :=
  mConv g d a s t (viewLen t.toNat) (convert s.toNat t.toNat r.toNat (u == 1))

/-! ### The accumulator from the V slot (R191 to R194) -/

/-- The acc row an s-register names (R191). -/
def accRowOf (x : W64) : Nat := x.toNat % 8192

/-- Column `c` of an accumulator row as VACR gives it in format `df` (R192): to F32 without sat an exact copy of every bit
pattern, else a conversion. -/
def accColumn (df rm : Nat) (sat : Bool) (c : Nat) : Nat × Flags :=
  if df = 0 ∧ sat = false then (c, 0) else convertSame 0 df rm sat c

/-- The meaning of VACR (R192). -/
def mVacr (g : BitVec 5) (d a : BitVec 6) (_ t : BitVec 3) (r : BitVec 2) (u : BitVec 1) : Meaning :=
  vecWrite g d t.toNat (fun _ => [destS a]) false 6 (fun st e =>
    let row := readAcc st e.p (accRowOf (readS st e.p a))
    fun j => if j < 128 then accColumn t.toNat r.toNat (u == 1) (elem row 32 j) else (0, 0))

/-- An acc row with the columns of guarded-on lanes from `op` (R193). -/
def accColumns (g : Pred) (old : Vec) (op : Nat → Nat × Flags) : Vec × Flags := mapLanes 0 g old op

/-- VACW and VACC write one row, and VACC adds (R193). -/
def mAccWrite (add : Bool) (g : BitVec 5) (d a : BitVec 6) (s : BitVec 3) (r : BitVec 2) (u : BitVec 1) : Meaning :=
  { srcs := fun c => [destS d, destV c a]
    commit := fun s0 e st =>
      let row := accRowOf (readS s0 e.p d)
      let old := readAcc s0 e.p row
      let va := readV s0 e.p a
      let x := accColumns (readP s0 e.p g) old (fun n =>
        let c := elem va (fmtBits s.toNat) n
        if add then
          let v := if isFloat s.toNat then fpOf s.toNat c
            else .fin (decide (intOf s.toNat c < 0)) (intOf s.toNat c).natAbs 0
          let t := fpAdd r.toNat (fpOf 0 (elem old 32 n)) v
          let q := fpRound 0 r.toNat (u == 1) t.1
          (q.1, t.2 ||| q.2)
        else convertSame s.toNat 0 r.toNat (u == 1) c)
      spoilTopk e.p (fun k => k == row) (emit e.agent e.slot (.acc row) x.1 6 x.2 st) }

/-- The meaning of VACW (R193). -/
def mVacw (g : BitVec 5) (d a : BitVec 6) (s _t : BitVec 3) (r : BitVec 2) (u : BitVec 1) : Meaning :=
  mAccWrite false g d a s r u

/-- The meaning of VACC (R193). -/
def mVacc (g : BitVec 5) (d a : BitVec 6) (s _t : BitVec 3) (r : BitVec 2) (u : BitVec 1) : Meaning :=
  mAccWrite true g d a s r u

/-- The meaning of VACZ (R193): every row it names is pending, whatever the guard. -/
def mVacz (g : BitVec 5) (d a : BitVec 6) (_s _t : BitVec 3) : Meaning :=
  { srcs := fun _ => [destS d, destS a]
    commit := fun s0 e st =>
      let row := accRowOf (readS s0 e.p d)
      let n := min ((readS s0 e.p a).toNat % 16384) 8192
      let q := readP s0 e.p g
      spoilTopk e.p (fun k => decide ((k + 8192 - row) % 8192 < n)) <| (List.range n).foldl (fun t i =>
        let k := (row + i) % 8192
        emit e.agent e.slot (.acc k) (accColumns q (readAcc s0 e.p k) (fun _ => (0, 0))).1 6 0 t) st }

/-- VADD (R127): element-wise add. -/
def execVadd (g : BitVec 5) (d a b : BitVec 6) (f : BitVec 3) (s : State) : Host.Outcome State Fault Refusal :=
  issueOne (.vadd g d a b f) (mVadd g d a b f) s

/-- VSUB (R127): element-wise subtract. -/
def execVsub (g : BitVec 5) (d a b : BitVec 6) (f : BitVec 3) (s : State) : Host.Outcome State Fault Refusal :=
  issueOne (.vsub g d a b f) (mVsub g d a b f) s

/-- VMUL (R127): element-wise multiply. -/
def execVmul (g : BitVec 5) (d a b : BitVec 6) (f : BitVec 3) (s : State) : Host.Outcome State Fault Refusal :=
  issueOne (.vmul g d a b f) (mVmul g d a b f) s

/-- VFMA (R127): fused a times b plus d. -/
def execVfma (g : BitVec 5) (d a b : BitVec 6) (f : BitVec 3) (s : State) : Host.Outcome State Fault Refusal :=
  issueOne (.vfma g d a b f) (mVfma g d a b f) s

/-- VFMS (R127): fused a times b minus d. -/
def execVfms (g : BitVec 5) (d a b : BitVec 6) (f : BitVec 3) (s : State) : Host.Outcome State Fault Refusal :=
  issueOne (.vfms g d a b f) (mVfms g d a b f) s

/-- VMIN (R128): element-wise minimum. -/
def execVmin (g : BitVec 5) (d a b : BitVec 6) (f : BitVec 3) (s : State) : Host.Outcome State Fault Refusal :=
  issueOne (.vmin g d a b f) (mVmin g d a b f) s

/-- VMAX (R128): element-wise maximum. -/
def execVmax (g : BitVec 5) (d a b : BitVec 6) (f : BitVec 3) (s : State) : Host.Outcome State Fault Refusal :=
  issueOne (.vmax g d a b f) (mVmax g d a b f) s

/-- VABS (R129): element-wise absolute value. -/
def execVabs (g : BitVec 5) (d a : BitVec 6) (f : BitVec 3) (s : State) : Host.Outcome State Fault Refusal :=
  issueOne (.vabs g d a f) (mVabs g d a f) s

/-- VNEG (R129): element-wise negation. -/
def execVneg (g : BitVec 5) (d a : BitVec 6) (f : BitVec 3) (s : State) : Host.Outcome State Fault Refusal :=
  issueOne (.vneg g d a f) (mVneg g d a f) s

/-- VRCP (R131): correctly rounded reciprocal. -/
def execVrcp (g : BitVec 5) (d a : BitVec 6) (f : BitVec 3) (s : State) : Host.Outcome State Fault Refusal :=
  issueOne (.vrcp g d a f) (mVrcp g d a f) s

/-- VRSQ (R131): correctly rounded reciprocal square root. -/
def execVrsq (g : BitVec 5) (d a : BitVec 6) (f : BitVec 3) (s : State) : Host.Outcome State Fault Refusal :=
  issueOne (.vrsq g d a f) (mVrsq g d a f) s

/-- VEXP2 (R131): correctly rounded power of two. -/
def execVexp2 (g : BitVec 5) (d a : BitVec 6) (f : BitVec 3) (s : State) : Host.Outcome State Fault Refusal :=
  issueOne (.vexp2 g d a f) (mVexp2 g d a f) s

/-- VLOG2 (R131): correctly rounded base-2 logarithm. -/
def execVlog2 (g : BitVec 5) (d a : BitVec 6) (f : BitVec 3) (s : State) : Host.Outcome State Fault Refusal :=
  issueOne (.vlog2 g d a f) (mVlog2 g d a f) s

/-- VAND (R132): bitwise AND of vectors. -/
def execVand (g : BitVec 5) (d a b : BitVec 6) (f : BitVec 3) (s : State) : Host.Outcome State Fault Refusal :=
  issueOne (.vand g d a b f) (mVand g d a b f) s

/-- VOR (R132): bitwise OR of vectors. -/
def execVor (g : BitVec 5) (d a b : BitVec 6) (f : BitVec 3) (s : State) : Host.Outcome State Fault Refusal :=
  issueOne (.vor g d a b f) (mVor g d a b f) s

/-- VXOR (R132): bitwise XOR of vectors. -/
def execVxor (g : BitVec 5) (d a b : BitVec 6) (f : BitVec 3) (s : State) : Host.Outcome State Fault Refusal :=
  issueOne (.vxor g d a b f) (mVxor g d a b f) s

/-- VSHL (R133): element-wise shift left. -/
def execVshl (g : BitVec 5) (d a b : BitVec 6) (f : BitVec 3) (s : State) : Host.Outcome State Fault Refusal :=
  issueOne (.vshl g d a b f) (mVshl g d a b f) s

/-- VSHR (R133): element-wise logical shift right. -/
def execVshr (g : BitVec 5) (d a b : BitVec 6) (f : BitVec 3) (s : State) : Host.Outcome State Fault Refusal :=
  issueOne (.vshr g d a b f) (mVshr g d a b f) s

/-- VSRA (R133): element-wise arithmetic shift right. -/
def execVsra (g : BitVec 5) (d a b : BitVec 6) (f : BitVec 3) (s : State) : Host.Outcome State Fault Refusal :=
  issueOne (.vsra g d a b f) (mVsra g d a b f) s

/-- VADDS (R130): saturating element-wise add. -/
def execVadds (g : BitVec 5) (d a b : BitVec 6) (f : BitVec 3) (s : State) : Host.Outcome State Fault Refusal :=
  issueOne (.vadds g d a b f) (mVadds g d a b f) s

/-- VSUBS (R130): saturating element-wise subtract. -/
def execVsubs (g : BitVec 5) (d a b : BitVec 6) (f : BitVec 3) (s : State) : Host.Outcome State Fault Refusal :=
  issueOne (.vsubs g d a b f) (mVsubs g d a b f) s

/-- VMOV (R132): copies a vector register. -/
def execVmov (g : BitVec 5) (d a : BitVec 6) (f : BitVec 3) (s : State) : Host.Outcome State Fault Refusal :=
  issueOne (.vmov g d a f) (mVmov g d a f) s

/-- VSEL (R132): selects a or b per lane by a predicate. -/
def execVsel (g : BitVec 5) (d a b : BitVec 6) (f : BitVec 3) (s : State) : Host.Outcome State Fault Refusal :=
  issueOne (.vsel g d a b f) (mVsel g d a b f) s

/-- VPERM (R134): permutes elements of a by indices in b. -/
def execVperm (g : BitVec 5) (d a b : BitVec 6) (f : BitVec 3) (s : State) : Host.Outcome State Fault Refusal :=
  issueOne (.vperm g d a b f) (mVperm g d a b f) s

/-- VRSUM (R136): pairwise-tree sum reduction. -/
def execVrsum (g : BitVec 5) (d a : BitVec 6) (f : BitVec 3) (s : State) : Host.Outcome State Fault Refusal :=
  issueOne (.vrsum g d a f) (mVrsum g d a f) s

/-- VRMAX (R136): pairwise-tree maximum reduction. -/
def execVrmax (g : BitVec 5) (d a : BitVec 6) (f : BitVec 3) (s : State) : Host.Outcome State Fault Refusal :=
  issueOne (.vrmax g d a f) (mVrmax g d a f) s

/-- VRMIN (R136): pairwise-tree minimum reduction. -/
def execVrmin (g : BitVec 5) (d a : BitVec 6) (f : BitVec 3) (s : State) : Host.Outcome State Fault Refusal :=
  issueOne (.vrmin g d a f) (mVrmin g d a f) s

/-- VMINN (R128): unsigned element-wise minimum. -/
def execVminn (g : BitVec 5) (d a b : BitVec 6) (f : BitVec 3) (s : State) : Host.Outcome State Fault Refusal :=
  issueOne (.vminn g d a b f) (mVminn g d a b f) s

/-- VMAXN (R128): unsigned element-wise maximum. -/
def execVmaxn (g : BitVec 5) (d a b : BitVec 6) (f : BitVec 3) (s : State) : Host.Outcome State Fault Refusal :=
  issueOne (.vmaxn g d a b f) (mVmaxn g d a b f) s

/-- VCEQ (R137): equality compare into predicate lanes. -/
def execVceq (g p : BitVec 5) (a b : BitVec 6) (f : BitVec 3) (s : State) : Host.Outcome State Fault Refusal :=
  issueOne (.vceq g p a b f) (mVceq g p a b f) s

/-- VCNE (R137): inequality compare into predicate lanes. -/
def execVcne (g p : BitVec 5) (a b : BitVec 6) (f : BitVec 3) (s : State) : Host.Outcome State Fault Refusal :=
  issueOne (.vcne g p a b f) (mVcne g p a b f) s

/-- VCLT (R137): less-than compare into predicate lanes. -/
def execVclt (g p : BitVec 5) (a b : BitVec 6) (f : BitVec 3) (s : State) : Host.Outcome State Fault Refusal :=
  issueOne (.vclt g p a b f) (mVclt g p a b f) s

/-- VCLE (R137): less-or-equal compare into predicate lanes. -/
def execVcle (g p : BitVec 5) (a b : BitVec 6) (f : BitVec 3) (s : State) : Host.Outcome State Fault Refusal :=
  issueOne (.vcle g p a b f) (mVcle g p a b f) s

/-- VCLTN (R137): unsigned less-than compare into predicate lanes. -/
def execVcltn (g p : BitVec 5) (a b : BitVec 6) (f : BitVec 3) (s : State) : Host.Outcome State Fault Refusal :=
  issueOne (.vcltn g p a b f) (mVcltn g p a b f) s

/-- VCLEN (R137): unsigned less-or-equal compare into predicate lanes. -/
def execVclen (g p : BitVec 5) (a b : BitVec 6) (f : BitVec 3) (s : State) : Host.Outcome State Fault Refusal :=
  issueOne (.vclen g p a b f) (mVclen g p a b f) s

/-- VCVT (R138): converts elements between formats of equal size. -/
def execVcvt (g : BitVec 5) (d a : BitVec 6) (s t : BitVec 3) (r : BitVec 2) (u : BitVec 1) (st : State) : Host.Outcome State Fault Refusal :=
  issueOne (.vcvt g d a s t r u) (mVcvt g d a s t r u) st

/-- VPACK (R139): narrows elements into the destination, moving old elements up. -/
def execVpack (g : BitVec 5) (d a : BitVec 6) (s t : BitVec 3) (r : BitVec 2) (u : BitVec 1) (st : State) : Host.Outcome State Fault Refusal :=
  issueOne (.vpack g d a s t r u) (mVpack g d a s t r u) st

/-- VUNPKL (R139): widens the low half of the source elements. -/
def execVunpkl (g : BitVec 5) (d a : BitVec 6) (s t : BitVec 3) (r : BitVec 2) (u : BitVec 1) (st : State) : Host.Outcome State Fault Refusal :=
  issueOne (.vunpkl g d a s t r u) (mVunpkl g d a s t r u) st

/-- VUNPKH (R139): widens the high half of the source elements. -/
def execVunpkh (g : BitVec 5) (d a : BitVec 6) (s t : BitVec 3) (r : BitVec 2) (u : BitVec 1) (st : State) : Host.Outcome State Fault Refusal :=
  issueOne (.vunpkh g d a s t r u) (mVunpkh g d a s t r u) st

/-- VROTM (R135): composes a register from a rotated window of a and old d. -/
def execVrotm (g : BitVec 5) (d a b : BitVec 6) (f : BitVec 3) (s : State) : Host.Outcome State Fault Refusal :=
  issueOne (.vrotm g d a b f) (mVrotm g d a b f) s

/-- VACR (R192): reads an accumulator row into a vector register with conversion. -/
def execVacr (g : BitVec 5) (d a : BitVec 6) (s t : BitVec 3) (r : BitVec 2) (u : BitVec 1) (st : State) : Host.Outcome State Fault Refusal :=
  issueOne (.vacr g d a s t r u) (mVacr g d a s t r u) st

/-- VACW (R193): writes an accumulator row from a vector register. -/
def execVacw (g : BitVec 5) (d a : BitVec 6) (s t : BitVec 3) (r : BitVec 2) (u : BitVec 1) (st : State) : Host.Outcome State Fault Refusal :=
  issueOne (.vacw g d a s t r u) (mVacw g d a s t r u) st

/-- VACC (R193): adds a vector into an accumulator row with one rounding. -/
def execVacc (g : BitVec 5) (d a : BitVec 6) (s t : BitVec 3) (r : BitVec 2) (u : BitVec 1) (st : State) : Host.Outcome State Fault Refusal :=
  issueOne (.vacc g d a s t r u) (mVacc g d a s t r u) st

/-- VACZ (R193): zeroes a range of accumulator rows. -/
def execVacz (g : BitVec 5) (d a : BitVec 6) (s t : BitVec 3) (st : State) : Host.Outcome State Fault Refusal :=
  issueOne (.vacz g d a s t) (mVacz g d a s t) st

end Sys2Proof.Machine
end

