-- ==== Sys2Proof/Machine/Meanings.lean ====
section
/-!
DEFINITION. Machine/Meanings.lean: the meaning of each instruction, for the bundles that hold several of them (R49, R74).
The events of the table are no part of a bundle.
-/

namespace Sys2Proof.Machine

/-- What an instruction of a slot does. -/
def meaningOf : Instr → Meaning
  | .nop => mNop
  | .add g n d a b w => mAdd g n d a b w
  | .sub g n d a b w => mSub g n d a b w
  | .and g n d a b w => mAnd g n d a b w
  | .or g n d a b w => mOr g n d a b w
  | .xor g n d a b w => mXor g n d a b w
  | .andn g n d a b w => mAndn g n d a b w
  | .shl g n d a b w => mShl g n d a b w
  | .shr g n d a b w => mShr g n d a b w
  | .sra g n d a b w => mSra g n d a b w
  | .mul g n d a b w => mMul g n d a b w
  | .mulh g n d a b w => mMulh g n d a b w
  | .mulhn g n d a b w => mMulhn g n d a b w
  | .div g n d a b w => mDiv g n d a b w
  | .divn g n d a b w => mDivn g n d a b w
  | .rem g n d a b w => mRem g n d a b w
  | .remn g n d a b w => mRemn g n d a b w
  | .min g n d a b w => mMin g n d a b w
  | .max g n d a b w => mMax g n d a b w
  | .minn g n d a b w => mMinn g n d a b w
  | .maxn g n d a b w => mMaxn g n d a b w
  | .sel g n d a b w => mSel g n d a b w
  | .clz g n d a w => mClz g n d a w
  | .popc g n d a w => mPopc g n d a w
  | .bfx g n d a b w => mBfx g n d a b w
  | .addi d a i => mAddi d a i
  | .andi d a i => mAndi d a i
  | .ori d a i => mOri d a i
  | .xori d a i => mXori d a i
  | .shli d a i => mShli d a i
  | .shri d a i => mShri d a i
  | .srai d a i => mSrai d a i
  | .muli d a i => mMuli d a i
  | .liu d i => mLiu d i
  | .lih d i => mLih d i
  | .cmpeq g n p a b => mCmpeq g n p a b
  | .cmpne g n p a b => mCmpne g n p a b
  | .cmplt g n p a b => mCmplt g n p a b
  | .cmple g n p a b => mCmple g n p a b
  | .cmpltn g n p a b => mCmpltn g n p a b
  | .cmplen g n p a b => mCmplen g n p a b
  | .cmpbit g n p a b => mCmpbit g n p a b
  | .plog p x y t => mPlog p x y t
  | .pfrom g n p a b => mPfrom g n p a b
  | .pto g n d a w => mPto g n d a w
  | .br g n o => mBr g n o
  | .call g n o => mCall g n o
  | .jmp g n a => mJmp g n a
  | .loop a => mLoop a
  | .loopi i => mLoopi i
  | .loops a i => mLoops a i
  | .lidx d i => mLidx d i
  | .lbrk g n => mLbrk g n
  | .halt => mHalt
  | .trap i => mTrap i
  | .tret i => mTret i
  | .krd d k => mKrd d k
  | .kwr a k => mKwr a k
  | .shw e h f a => mShw e h f a
  | .shrd e h f a => mShrd e h f a
  | .exrd d i => mExrd d i
  | .exclr i => mExclr i
  | .cnrd d k => mCnrd d k
  | .cnclr k => mCnclr k
  | .pbeg i => mPbeg i
  | .pbega i => mPbega i
  | .padv => mPadv
  | .pqry d => mPqry d
  | .pub a i => mPub a i
  | .pubd a => mPubd a
  | .pubg a => mPubg a
  | .waym a => mWaym a
  | .keyset a b => mKeyset a b
  | .keykill a => mKeykill a
  | .mapld a i => mMapld a i
  | .launch a b => mLaunch a b
  | .taskw d a i => mTaskw d a i
  | .grun d a i => mGrun d a i
  | .gwait d a i => mGwait d a i
  | .patch a b => mPatch a b
  | .mbxw d a i => mMbxw d a i
  | .vadd g d a b f => mVadd g d a b f
  | .vsub g d a b f => mVsub g d a b f
  | .vmul g d a b f => mVmul g d a b f
  | .vfma g d a b f => mVfma g d a b f
  | .vfms g d a b f => mVfms g d a b f
  | .vmin g d a b f => mVmin g d a b f
  | .vmax g d a b f => mVmax g d a b f
  | .vabs g d a f => mVabs g d a f
  | .vneg g d a f => mVneg g d a f
  | .vrcp g d a f => mVrcp g d a f
  | .vrsq g d a f => mVrsq g d a f
  | .vexp2 g d a f => mVexp2 g d a f
  | .vlog2 g d a f => mVlog2 g d a f
  | .vand g d a b f => mVand g d a b f
  | .vor g d a b f => mVor g d a b f
  | .vxor g d a b f => mVxor g d a b f
  | .vshl g d a b f => mVshl g d a b f
  | .vshr g d a b f => mVshr g d a b f
  | .vsra g d a b f => mVsra g d a b f
  | .vadds g d a b f => mVadds g d a b f
  | .vsubs g d a b f => mVsubs g d a b f
  | .vmov g d a f => mVmov g d a f
  | .vsel g d a b f => mVsel g d a b f
  | .vperm g d a b f => mVperm g d a b f
  | .vrsum g d a f => mVrsum g d a f
  | .vrmax g d a f => mVrmax g d a f
  | .vrmin g d a f => mVrmin g d a f
  | .vminn g d a b f => mVminn g d a b f
  | .vmaxn g d a b f => mVmaxn g d a b f
  | .vceq g p a b f => mVceq g p a b f
  | .vcne g p a b f => mVcne g p a b f
  | .vclt g p a b f => mVclt g p a b f
  | .vcle g p a b f => mVcle g p a b f
  | .vcltn g p a b f => mVcltn g p a b f
  | .vclen g p a b f => mVclen g p a b f
  | .vcvt g d a s t r u => mVcvt g d a s t r u
  | .vpack g d a s t r u => mVpack g d a s t r u
  | .vunpkl g d a s t r u => mVunpkl g d a s t r u
  | .vunpkh g d a s t r u => mVunpkh g d a s t r u
  | .vrotm g d a b f => mVrotm g d a b f
  | .vacr g d a s t r u => mVacr g d a s t r u
  | .vacw g d a s t r u => mVacw g d a s t r u
  | .vacc g d a s t r u => mVacc g d a s t r u
  | .vacz g d a s t => mVacz g d a s t
  | .ldv g v a i e => mLdv g v a i e
  | .stv g v a i e => mStv g v a i e
  | .lds g v a i => mLds g v a i
  | .sts g v a i => mSts g v a i
  | .spl g d o => mSpl g d o
  | .fil g d o => mFil g d o
  | .spls g d o => mSpls g d o
  | .fils g d o => mFils g d o
  | .bacq g a => mBacq g a
  | .brel g a => mBrel g a
  | .ldg g v a i r c => mLdg g v a i r c
  | .stg g v a i r c => mStg g v a i r c
  | .prfg g a i r c => mPrfg g a i r c
  | .ldgs g v a i r c => mLdgs g v a i r c
  | .stgs g v a i r c => mStgs g v a i r c
  | .probe g p a b m => mProbe g p a b m
  | .pstw g v a i => mPstw g v a i
  | .scld g a i => mScld g a i
  | .ald g d a o => mAld g d a o
  | .ast g a b o => mAst g a b o
  | .aadd g d a b o => mAadd g d a b o
  | .amin g d a b o => mAmin g d a b o
  | .amax g d a b o => mAmax g d a b o
  | .aminn g d a b o => mAminn g d a b o
  | .amaxn g d a b o => mAmaxn g d a b o
  | .aand g d a b o => mAand g d a b o
  | .aor g d a b o => mAor g d a b o
  | .axchg g d a b o => mAxchg g d a b o
  | .acas g d a b o => mAcas g d a b o
  | .bara g a b o => mBara g a b o
  | .barw g a b o => mBarw g a b o
  | .fence s c k => mFence s c k
  | .admitEntry g d a b o => mAdmitEntry g d a b o
  | .lmma h s g a b i => mLmma h s g a b i
  | .lmmaz h s g a b i => mLmmaz h s g a b i
  | .lmmar h s g a b i => mLmmar h s g a b i
  | .ccpy h s g a b i => mCcpy h s g a b i
  | .cgth h s g a b i => mCgth h s g a b i
  | .csct h s g a b i => mCsct h s g a b i
  | .ctopk h s g a b i => mCtopk h s g a b i
  | .cdrn g i => mCdrn g i
  | .optu s g a b i => mOptu s g a b i
  | .pushix g a => mPushix g a
  | .shsw h g i => mShsw h g i
  | .ralloc g a b => mRalloc g a b
  | .rload h s g a b i => mRload h s g a b i
  | .rpin h s g a => mRpin h s g a
  | .runpin h s g a => mRunpin h s g a
  | .rrev h s g a => mRrev h s g a
  | .rqry g a b => mRqry g a b
  | .bundleFetch _ => {}
  | .preciseTrap _ => {}
  | .resultLand _ _ => {}
  | .scoreboardArrive _ _ _ => {}
  | .loomRowLand _ => {}
  | .loopEnd _ => {}
  | .waitCyclesExpire _ => {}
  | .safePointYield _ => {}
  | .remoteRefusalReturn _ _ _ => {}
  | .remotePacketReceive _ => {}
  | .resyncMarker _ _ _ _ => {}
  | .scldAppend _ => {}
  | .engineRowLand _ _ _ _ _ _ => {}
  | .engineComplete _ _ _ _ => {}
  | .lmmarRow _ _ _ _ => {}
  | .pstwLand _ _ => {}
  | .rloadComplete _ _ _ _ => {}
  | .rrevDrain _ _ => {}
  | .pubdComplete _ _ => {}
  | .mapldComplete _ _ _ => {}
  | .reeveChunkCopy _ _ _ => {}
  | .phaseCommit _ => {}
  | .pageDemote _ _ => {}
  | .pagePromote _ _ => {}
  | .pageRequest _ _ _ _ => {}
  | .pageAnswer _ => {}
  | .faultRecordWrite => {}
  | .taskDispatch _ => {}
  | .gateOpen _ _ => {}
  | .taskEnd _ _ => {}
  | .bankStall _ => {}
  | .streamThreadHalted _ => {}
  | .saveCommand _ => {}
  | .saveRecordWrite _ => {}
  | .yieldOverdue _ => {}
  | .restoreCommand _ => {}
  | .endCommand _ => {}
  | .contextLoad _ _ _ => {}
  | .mgmtDescribeCxl => {}
  | .mgmtLoadFirmware => {}
  | .mgmtReadTelemetry => {}
  | .mgmtTenantTeardown => {}
  | .mgmtSetMgmtWindow => {}
  | .mgmtBindSharedBase => {}
  | .mgmtUnknownCommand => {}
  | .hostRegisterWrite _ _ _ _ => {}
  | .tableStatusClear => {}
  | .hostCounterClear _ => {}
  | .rotaSwitchRequest => {}
  | .rotaSwitch => {}
  | .routingSelect => {}
  | .routingValidate => {}
  | .routingRetire => {}
  | .hostBar2Load _ _ _ => {}
  | .hostBar2Write _ _ _ _ => {}
  | .hostAtomicop _ _ _ _ _ _ => {}
  | .atsInvalidate _ => {}
  | .flitTransmit _ _ => {}
  | .flitReceive _ _ => {}
  | .laneFailure _ _ => {}
  | .linkRetrainDone _ _ => {}
  | .linkCalibration _ _ => {}
  | .supplyOutOfRange _ _ => {}
  | .coolantOutOfRange _ _ => {}
  | .scrub _ _ => {}
  | .memoryRefresh => {}
  | .telemetrySample _ _ => {}
  | .cxlError _ _ _ => {}
  | .powerOnReset _ => {}
  | .loomAccept _ => {}
  | .acknowledgementReturn _ _ => {}
  | .hostReleaseStop => {}
  | .hostLinkRetrain _ => {}
  | .contextUnload _ => {}

end Sys2Proof.Machine
end

