-- ==== Sys2Proof/Machine/Dispatch.lean ====
section
/-!
DEFINITION. Machine/Dispatch.lean: one arm for each instruction and each event of the opcode table.
-/

namespace Sys2Proof.Machine

def exec (i : Instr) (s : State) : Host.Outcome State Fault Refusal :=
  match i with
  | .nop => Sys2Proof.Machine.execNop s
  | .add g n d a b w => Sys2Proof.Machine.execAdd g n d a b w s
  | .sub g n d a b w => Sys2Proof.Machine.execSub g n d a b w s
  | .and g n d a b w => Sys2Proof.Machine.execAnd g n d a b w s
  | .or g n d a b w => Sys2Proof.Machine.execOr g n d a b w s
  | .xor g n d a b w => Sys2Proof.Machine.execXor g n d a b w s
  | .andn g n d a b w => Sys2Proof.Machine.execAndn g n d a b w s
  | .shl g n d a b w => Sys2Proof.Machine.execShl g n d a b w s
  | .shr g n d a b w => Sys2Proof.Machine.execShr g n d a b w s
  | .sra g n d a b w => Sys2Proof.Machine.execSra g n d a b w s
  | .mul g n d a b w => Sys2Proof.Machine.execMul g n d a b w s
  | .mulh g n d a b w => Sys2Proof.Machine.execMulh g n d a b w s
  | .mulhn g n d a b w => Sys2Proof.Machine.execMulhn g n d a b w s
  | .div g n d a b w => Sys2Proof.Machine.execDiv g n d a b w s
  | .divn g n d a b w => Sys2Proof.Machine.execDivn g n d a b w s
  | .rem g n d a b w => Sys2Proof.Machine.execRem g n d a b w s
  | .remn g n d a b w => Sys2Proof.Machine.execRemn g n d a b w s
  | .min g n d a b w => Sys2Proof.Machine.execMin g n d a b w s
  | .max g n d a b w => Sys2Proof.Machine.execMax g n d a b w s
  | .minn g n d a b w => Sys2Proof.Machine.execMinn g n d a b w s
  | .maxn g n d a b w => Sys2Proof.Machine.execMaxn g n d a b w s
  | .sel g n d a b w => Sys2Proof.Machine.execSel g n d a b w s
  | .clz g n d a w => Sys2Proof.Machine.execClz g n d a w s
  | .popc g n d a w => Sys2Proof.Machine.execPopc g n d a w s
  | .bfx g n d a b w => Sys2Proof.Machine.execBfx g n d a b w s
  | .addi d a n => Sys2Proof.Machine.execAddi d a n s
  | .andi d a n => Sys2Proof.Machine.execAndi d a n s
  | .ori d a n => Sys2Proof.Machine.execOri d a n s
  | .xori d a n => Sys2Proof.Machine.execXori d a n s
  | .shli d a n => Sys2Proof.Machine.execShli d a n s
  | .shri d a n => Sys2Proof.Machine.execShri d a n s
  | .srai d a n => Sys2Proof.Machine.execSrai d a n s
  | .muli d a n => Sys2Proof.Machine.execMuli d a n s
  | .liu d n => Sys2Proof.Machine.execLiu d n s
  | .lih d n => Sys2Proof.Machine.execLih d n s
  | .cmpeq g n p a b => Sys2Proof.Machine.execCmpeq g n p a b s
  | .cmpne g n p a b => Sys2Proof.Machine.execCmpne g n p a b s
  | .cmplt g n p a b => Sys2Proof.Machine.execCmplt g n p a b s
  | .cmple g n p a b => Sys2Proof.Machine.execCmple g n p a b s
  | .cmpltn g n p a b => Sys2Proof.Machine.execCmpltn g n p a b s
  | .cmplen g n p a b => Sys2Proof.Machine.execCmplen g n p a b s
  | .cmpbit g n p a b => Sys2Proof.Machine.execCmpbit g n p a b s
  | .plog p x y t => Sys2Proof.Machine.execPlog p x y t s
  | .pfrom g n p a b => Sys2Proof.Machine.execPfrom g n p a b s
  | .pto g n d a w => Sys2Proof.Machine.execPto g n d a w s
  | .br g n o => Sys2Proof.Machine.execBr g n o s
  | .call g n o => Sys2Proof.Machine.execCall g n o s
  | .jmp g n a => Sys2Proof.Machine.execJmp g n a s
  | .loop a => Sys2Proof.Machine.execLoop a s
  | .loopi n => Sys2Proof.Machine.execLoopi n s
  | .loops a n => Sys2Proof.Machine.execLoops a n s
  | .lidx d n => Sys2Proof.Machine.execLidx d n s
  | .lbrk g n => Sys2Proof.Machine.execLbrk g n s
  | .halt => Sys2Proof.Machine.execHalt s
  | .trap n => Sys2Proof.Machine.execTrap n s
  | .tret n => Sys2Proof.Machine.execTret n s
  | .krd d k => Sys2Proof.Machine.execKrd d k s
  | .kwr a k => Sys2Proof.Machine.execKwr a k s
  | .shw e h f a => Sys2Proof.Machine.execShw e h f a s
  | .shrd e h f a => Sys2Proof.Machine.execShrd e h f a s
  | .exrd d n => Sys2Proof.Machine.execExrd d n s
  | .exclr n => Sys2Proof.Machine.execExclr n s
  | .cnrd d k => Sys2Proof.Machine.execCnrd d k s
  | .cnclr k => Sys2Proof.Machine.execCnclr k s
  | .pbeg n => Sys2Proof.Machine.execPbeg n s
  | .pbega n => Sys2Proof.Machine.execPbega n s
  | .padv => Sys2Proof.Machine.execPadv s
  | .pqry d => Sys2Proof.Machine.execPqry d s
  | .pub a n => Sys2Proof.Machine.execPub a n s
  | .pubd a => Sys2Proof.Machine.execPubd a s
  | .pubg a => Sys2Proof.Machine.execPubg a s
  | .waym a => Sys2Proof.Machine.execWaym a s
  | .keyset a b => Sys2Proof.Machine.execKeyset a b s
  | .keykill a => Sys2Proof.Machine.execKeykill a s
  | .mapld a n => Sys2Proof.Machine.execMapld a n s
  | .launch a b => Sys2Proof.Machine.execLaunch a b s
  | .taskw d a n => Sys2Proof.Machine.execTaskw d a n s
  | .grun d a n => Sys2Proof.Machine.execGrun d a n s
  | .gwait d a n => Sys2Proof.Machine.execGwait d a n s
  | .patch a b => Sys2Proof.Machine.execPatch a b s
  | .mbxw d a n => Sys2Proof.Machine.execMbxw d a n s
  | .vadd g d a b f => Sys2Proof.Machine.execVadd g d a b f s
  | .vsub g d a b f => Sys2Proof.Machine.execVsub g d a b f s
  | .vmul g d a b f => Sys2Proof.Machine.execVmul g d a b f s
  | .vfma g d a b f => Sys2Proof.Machine.execVfma g d a b f s
  | .vfms g d a b f => Sys2Proof.Machine.execVfms g d a b f s
  | .vmin g d a b f => Sys2Proof.Machine.execVmin g d a b f s
  | .vmax g d a b f => Sys2Proof.Machine.execVmax g d a b f s
  | .vabs g d a f => Sys2Proof.Machine.execVabs g d a f s
  | .vneg g d a f => Sys2Proof.Machine.execVneg g d a f s
  | .vrcp g d a f => Sys2Proof.Machine.execVrcp g d a f s
  | .vrsq g d a f => Sys2Proof.Machine.execVrsq g d a f s
  | .vexp2 g d a f => Sys2Proof.Machine.execVexp2 g d a f s
  | .vlog2 g d a f => Sys2Proof.Machine.execVlog2 g d a f s
  | .vand g d a b f => Sys2Proof.Machine.execVand g d a b f s
  | .vor g d a b f => Sys2Proof.Machine.execVor g d a b f s
  | .vxor g d a b f => Sys2Proof.Machine.execVxor g d a b f s
  | .vshl g d a b f => Sys2Proof.Machine.execVshl g d a b f s
  | .vshr g d a b f => Sys2Proof.Machine.execVshr g d a b f s
  | .vsra g d a b f => Sys2Proof.Machine.execVsra g d a b f s
  | .vadds g d a b f => Sys2Proof.Machine.execVadds g d a b f s
  | .vsubs g d a b f => Sys2Proof.Machine.execVsubs g d a b f s
  | .vmov g d a f => Sys2Proof.Machine.execVmov g d a f s
  | .vsel g d a b f => Sys2Proof.Machine.execVsel g d a b f s
  | .vperm g d a b f => Sys2Proof.Machine.execVperm g d a b f s
  | .vrsum g d a f => Sys2Proof.Machine.execVrsum g d a f s
  | .vrmax g d a f => Sys2Proof.Machine.execVrmax g d a f s
  | .vrmin g d a f => Sys2Proof.Machine.execVrmin g d a f s
  | .vminn g d a b f => Sys2Proof.Machine.execVminn g d a b f s
  | .vmaxn g d a b f => Sys2Proof.Machine.execVmaxn g d a b f s
  | .vceq g p a b f => Sys2Proof.Machine.execVceq g p a b f s
  | .vcne g p a b f => Sys2Proof.Machine.execVcne g p a b f s
  | .vclt g p a b f => Sys2Proof.Machine.execVclt g p a b f s
  | .vcle g p a b f => Sys2Proof.Machine.execVcle g p a b f s
  | .vcltn g p a b f => Sys2Proof.Machine.execVcltn g p a b f s
  | .vclen g p a b f => Sys2Proof.Machine.execVclen g p a b f s
  | .vcvt g d a sx t r u => Sys2Proof.Machine.execVcvt g d a sx t r u s
  | .vpack g d a sx t r u => Sys2Proof.Machine.execVpack g d a sx t r u s
  | .vunpkl g d a sx t r u => Sys2Proof.Machine.execVunpkl g d a sx t r u s
  | .vunpkh g d a sx t r u => Sys2Proof.Machine.execVunpkh g d a sx t r u s
  | .vrotm g d a b f => Sys2Proof.Machine.execVrotm g d a b f s
  | .vacr g d a sx t r u => Sys2Proof.Machine.execVacr g d a sx t r u s
  | .vacw g d a sx t r u => Sys2Proof.Machine.execVacw g d a sx t r u s
  | .vacc g d a sx t r u => Sys2Proof.Machine.execVacc g d a sx t r u s
  | .vacz g d a sx t => Sys2Proof.Machine.execVacz g d a sx t s
  | .ldv g v a n e => Sys2Proof.Machine.execLdv g v a n e s
  | .stv g v a n e => Sys2Proof.Machine.execStv g v a n e s
  | .lds g v a n => Sys2Proof.Machine.execLds g v a n s
  | .sts g v a n => Sys2Proof.Machine.execSts g v a n s
  | .spl g d o => Sys2Proof.Machine.execSpl g d o s
  | .fil g d o => Sys2Proof.Machine.execFil g d o s
  | .spls g d o => Sys2Proof.Machine.execSpls g d o s
  | .fils g d o => Sys2Proof.Machine.execFils g d o s
  | .bacq g a => Sys2Proof.Machine.execBacq g a s
  | .brel g a => Sys2Proof.Machine.execBrel g a s
  | .ldg g v a n r c => Sys2Proof.Machine.execLdg g v a n r c s
  | .stg g v a n r c => Sys2Proof.Machine.execStg g v a n r c s
  | .prfg g a n r c => Sys2Proof.Machine.execPrfg g a n r c s
  | .ldgs g v a n r c => Sys2Proof.Machine.execLdgs g v a n r c s
  | .stgs g v a n r c => Sys2Proof.Machine.execStgs g v a n r c s
  | .probe g p a b m => Sys2Proof.Machine.execProbe g p a b m s
  | .pstw g v a n => Sys2Proof.Machine.execPstw g v a n s
  | .scld g a n => Sys2Proof.Machine.execScld g a n s
  | .ald g d a o => Sys2Proof.Machine.execAld g d a o s
  | .ast g a b o => Sys2Proof.Machine.execAst g a b o s
  | .aadd g d a b o => Sys2Proof.Machine.execAadd g d a b o s
  | .amin g d a b o => Sys2Proof.Machine.execAmin g d a b o s
  | .amax g d a b o => Sys2Proof.Machine.execAmax g d a b o s
  | .aminn g d a b o => Sys2Proof.Machine.execAminn g d a b o s
  | .amaxn g d a b o => Sys2Proof.Machine.execAmaxn g d a b o s
  | .aand g d a b o => Sys2Proof.Machine.execAand g d a b o s
  | .aor g d a b o => Sys2Proof.Machine.execAor g d a b o s
  | .axchg g d a b o => Sys2Proof.Machine.execAxchg g d a b o s
  | .acas g d a b o => Sys2Proof.Machine.execAcas g d a b o s
  | .bara g a b o => Sys2Proof.Machine.execBara g a b o s
  | .barw g a b o => Sys2Proof.Machine.execBarw g a b o s
  | .fence sx c k => Sys2Proof.Machine.execFence sx c k s
  | .admitEntry g d a b o => Sys2Proof.Machine.execAdmitEntry g d a b o s
  | .lmma h sx g a b n => Sys2Proof.Machine.execLmma h sx g a b n s
  | .lmmaz h sx g a b n => Sys2Proof.Machine.execLmmaz h sx g a b n s
  | .lmmar h sx g a b n => Sys2Proof.Machine.execLmmar h sx g a b n s
  | .ccpy h sx g a b n => Sys2Proof.Machine.execCcpy h sx g a b n s
  | .cgth h sx g a b n => Sys2Proof.Machine.execCgth h sx g a b n s
  | .csct h sx g a b n => Sys2Proof.Machine.execCsct h sx g a b n s
  | .ctopk h sx g a b n => Sys2Proof.Machine.execCtopk h sx g a b n s
  | .cdrn g n => Sys2Proof.Machine.execCdrn g n s
  | .optu sx g a b n => Sys2Proof.Machine.execOptu sx g a b n s
  | .pushix g a => Sys2Proof.Machine.execPushix g a s
  | .shsw h g n => Sys2Proof.Machine.execShsw h g n s
  | .ralloc g a b => Sys2Proof.Machine.execRalloc g a b s
  | .rload h sx g a b n => Sys2Proof.Machine.execRload h sx g a b n s
  | .rpin h sx g a => Sys2Proof.Machine.execRpin h sx g a s
  | .runpin h sx g a => Sys2Proof.Machine.execRunpin h sx g a s
  | .rrev h sx g a => Sys2Proof.Machine.execRrev h sx g a s
  | .rqry g a b => Sys2Proof.Machine.execRqry g a b s
  | .bundleFetch p => Sys2Proof.Machine.execBundleFetch p s
  | .preciseTrap p => Sys2Proof.Machine.execPreciseTrap p s
  | .resultLand p n => Sys2Proof.Machine.execResultLand p n s
  | .scoreboardArrive p n r => Sys2Proof.Machine.execScoreboardArrive p n r s
  | .loomRowLand p => Sys2Proof.Machine.execLoomRowLand p s
  | .loopEnd p => Sys2Proof.Machine.execLoopEnd p s
  | .waitCyclesExpire p => Sys2Proof.Machine.execWaitCyclesExpire p s
  | .safePointYield p => Sys2Proof.Machine.execSafePointYield p s
  | .remoteRefusalReturn p n st => Sys2Proof.Machine.execRemoteRefusalReturn p n st s
  | .remotePacketReceive k => Sys2Proof.Machine.execRemotePacketReceive k s
  | .resyncMarker dev c lc ch => Sys2Proof.Machine.execResyncMarker dev c lc ch s
  | .scldAppend p => Sys2Proof.Machine.execScldAppend p s
  | .engineRowLand p u j row r st => Sys2Proof.Machine.execEngineRowLand p u j row r st s
  | .engineComplete p u j st => Sys2Proof.Machine.execEngineComplete p u j st s
  | .lmmarRow p row r st => Sys2Proof.Machine.execLmmarRow p row r st s
  | .pstwLand p n => Sys2Proof.Machine.execPstwLand p n s
  | .rloadComplete p slot bad st => Sys2Proof.Machine.execRloadComplete p slot bad st s
  | .rrevDrain p slot => Sys2Proof.Machine.execRrevDrain p slot s
  | .pubdComplete p n => Sys2Proof.Machine.execPubdComplete p n s
  | .mapldComplete c n img => Sys2Proof.Machine.execMapldComplete c n img s
  | .reeveChunkCopy c item chunk => Sys2Proof.Machine.execReeveChunkCopy c item chunk s
  | .phaseCommit c => Sys2Proof.Machine.execPhaseCommit c s
  | .pageDemote tier die => Sys2Proof.Machine.execPageDemote tier die s
  | .pagePromote c page => Sys2Proof.Machine.execPagePromote c page s
  | .pageRequest c item slot pool => Sys2Proof.Machine.execPageRequest c item slot pool s
  | .pageAnswer slot => Sys2Proof.Machine.execPageAnswer slot s
  | .faultRecordWrite => Sys2Proof.Machine.execFaultRecordWrite s
  | .taskDispatch c => Sys2Proof.Machine.execTaskDispatch c s
  | .gateOpen c n => Sys2Proof.Machine.execGateOpen c n s
  | .taskEnd c n => Sys2Proof.Machine.execTaskEnd c n s
  | .bankStall p => Sys2Proof.Machine.execBankStall p s
  | .streamThreadHalted c => Sys2Proof.Machine.execStreamThreadHalted c s
  | .saveCommand c => Sys2Proof.Machine.execSaveCommand c s
  | .saveRecordWrite c => Sys2Proof.Machine.execSaveRecordWrite c s
  | .yieldOverdue c => Sys2Proof.Machine.execYieldOverdue c s
  | .restoreCommand c => Sys2Proof.Machine.execRestoreCommand c s
  | .endCommand c => Sys2Proof.Machine.execEndCommand c s
  | .contextLoad c tenant file => Sys2Proof.Machine.execContextLoad c tenant file s
  | .mgmtDescribeCxl => Sys2Proof.Machine.execMgmtDescribeCxl s
  | .mgmtLoadFirmware => Sys2Proof.Machine.execMgmtLoadFirmware s
  | .mgmtReadTelemetry => Sys2Proof.Machine.execMgmtReadTelemetry s
  | .mgmtTenantTeardown => Sys2Proof.Machine.execMgmtTenantTeardown s
  | .mgmtSetMgmtWindow => Sys2Proof.Machine.execMgmtSetMgmtWindow s
  | .mgmtBindSharedBase => Sys2Proof.Machine.execMgmtBindSharedBase s
  | .mgmtUnknownCommand => Sys2Proof.Machine.execMgmtUnknownCommand s
  | .hostRegisterWrite fn off size val => Sys2Proof.Machine.execHostRegisterWrite fn off size val s
  | .tableStatusClear => Sys2Proof.Machine.execTableStatusClear s
  | .hostCounterClear off => Sys2Proof.Machine.execHostCounterClear off s
  | .rotaSwitchRequest => Sys2Proof.Machine.execRotaSwitchRequest s
  | .rotaSwitch => Sys2Proof.Machine.execRotaSwitch s
  | .routingSelect => Sys2Proof.Machine.execRoutingSelect s
  | .routingValidate => Sys2Proof.Machine.execRoutingValidate s
  | .routingRetire => Sys2Proof.Machine.execRoutingRetire s
  | .hostBar2Load fn off size => Sys2Proof.Machine.execHostBar2Load fn off size s
  | .hostBar2Write fn off size val => Sys2Proof.Machine.execHostBar2Write fn off size val s
  | .hostAtomicop fn off op size x y => Sys2Proof.Machine.execHostAtomicop fn off op size x y s
  | .atsInvalidate page => Sys2Proof.Machine.execAtsInvalidate page s
  | .flitTransmit l payload => Sys2Proof.Machine.execFlitTransmit l payload s
  | .flitReceive l f => Sys2Proof.Machine.execFlitReceive l f s
  | .laneFailure l lane => Sys2Proof.Machine.execLaneFailure l lane s
  | .linkRetrainDone l width => Sys2Proof.Machine.execLinkRetrainDone l width s
  | .linkCalibration l lanes => Sys2Proof.Machine.execLinkCalibration l lanes s
  | .supplyOutOfRange rail mv => Sys2Proof.Machine.execSupplyOutOfRange rail mv s
  | .coolantOutOfRange sensor v => Sys2Proof.Machine.execCoolantOutOfRange sensor v s
  | .scrub row bad => Sys2Proof.Machine.execScrub row bad s
  | .memoryRefresh => Sys2Proof.Machine.execMemoryRefresh s
  | .telemetrySample sensor v => Sys2Proof.Machine.execTelemetrySample sensor v s
  | .cxlError src row poison => Sys2Proof.Machine.execCxlError src row poison s
  | .powerOnReset b => Sys2Proof.Machine.execPowerOnReset b s
  | .loomAccept p => Sys2Proof.Machine.execLoomAccept p s
  | .acknowledgementReturn p n => Sys2Proof.Machine.execAcknowledgementReturn p n s
  | .hostReleaseStop => Sys2Proof.Machine.execHostReleaseStop s
  | .hostLinkRetrain l => Sys2Proof.Machine.execHostLinkRetrain l s
  | .contextUnload c => Sys2Proof.Machine.execContextUnload c s

end Sys2Proof.Machine
end

