-- ==== Sys2Proof/Machine/Turn.lean ====
section
/-!
DEFINITION. Machine/Turn.lean: what a turn of a core or of a stream thread finds before its instruction acts: whose turn it
is, time, what has landed by then, the words at the program counter (R49, R68, R73, R243), and how the bytes of an
instruction stand in code memory.
-/

namespace Sys2Proof.Machine

/-- Whose turn it is: the head of the agenda, else a free choice (log 5). -/
def turnOf (s : State) : Turn :=
  match s.agenda with
  | [] => Config.nextTurn s.freeCtr
  | t :: _ => t

/-- The state with its agenda without its head. -/
def popTurn (s : State) : State := { s with agenda := s.agenda.drop 1 }

/-- A cycle passes. -/
def tick (s : State) : State := passTo (s.cycle + 1) s

/-- A fetch of a running core misses its instruction cache (R73), when the cache does not hold the bundle (R9). A core frozen
in a miss does not yield at the safe point it has passed (R346). -/
def missFetch (p : Nat) (s : State) : State :=
  let k := s.core p
  if k.run = .running ∧ k.pc.toNat ∉ k.icache then s.onCore p (fun c => { c with miss := true, atSafe := false }) else s

/-! ### Cores -/

/-- A core may take a turn: it runs a task of a running context, holds no trap back, waits for no fetch, and its tenant owns
it (R344). -/
def coreReady (s : State) (p : Nat) : Bool :=
  let k := s.core p
  k.ctx.isSome && k.run == .running && (s.ctx (s.ctxOf p)).state == 1 && k.trapPend.isNone && !k.miss
    && ownedBy s p (s.ctx (s.ctxOf p)).tenant

/-- The core's loop end is resolved when one is pending (R117). -/
def settleLe (t : Nat) (k : Core) : Core := if k.lePend then resolveLe t k else k

/-- Time moves to the next cycle in which the core may issue (R50, R73); the loop end before it is resolved, its write of p16
issued with its bundle (R117), and what is due has landed by then. -/
def startTurn (p : Nat) (s : State) : State :=
  let t := max (s.cycle + 1) (s.core p).nextIssue
  (passTo t s).onCore p (fun k => landDue s.freeCtr t (settleLe (t - 1) k))

/-- The bundles of a code section (R49). -/
def bundleCount (x : Ctx) : Nat := x.code.length / 6

/-- Word `k` of the bundle at a bundle index. -/
def bundleWord (x : Ctx) (pc : Int) (k : Nat) : W32 := x.code.getD (6 * pc.toNat + k) 0

/-- The PC lies in the code section. -/
def inCode (x : Ctx) (pc : Int) : Bool := decide (0 ≤ pc) && decide (pc.toNat < bundleCount x)

/-- The slots of a bundle, as decoded: slot k holds word k + 1 (R49). -/
def bundleSlots (x : Ctx) (pc : Int) : List (Nat × Except Nat Instr) :=
  (List.range 5).map (fun k => (k, decodeSlot (slotClass k) (bundleWord x pc (k + 1)).toNat))

/-- A slot that is not a NOP. -/
def filled (w : Nat × Except Nat Instr) : Bool :=
  match w.2 with
  | .ok .nop => false
  | _ => true

/-- The one instruction of a bundle, with its slot, when it holds at most one; an empty bundle holds a NOP. -/
def soleSlot (l : List (Nat × Except Nat Instr)) : Option (Nat × Instr) :=
  match l.filter filled with
  | [] => some (0, .nop)
  | [(k, .ok i)] => some (k, i)
  | _ => none

/-- A slot as the bundle's checks take it. DESIGN CHOICE (log 61): a word that fails decode on its own names no register, no
transfer, no shadow field and no port for the checks of R51 and R52. -/
def slotInOf (w : Nat × Except Nat Instr) : SlotIn :=
  match w.2 with
  | .ok i => slotOf i (meaningOf i) w.1
  | .error d => { k := w.1, bad := some d, m := {} }

/-- The bundle of several instructions at core `p`'s PC (R74). -/
def issueMany (p : Nat) (s : State) : State :=
  let x := s.ctx (s.ctxOf p)
  let pc := (s.core p).pc
  issueCore p (bundleWord x pc 0) ((bundleSlots x pc).filter filled |>.map slotInOf) (s.onCore p (holdBundle s.freeCtr))

/-- A PC outside the code section (R114, R265 cause 4); the address concerned is the one the PC names (R49). -/
def fetchFault (p : Nat) (s : State) : State :=
  fatalCore p 4 (BitVec.ofInt 64 ((codeBase : Int) + 24 * (s.core p).pc)) 0 s

/-- The one instruction that core `p`'s turn is to run, with its slot. -/
def soleAt (s : State) (p : Nat) : Option (Nat × Instr) := soleSlot (bundleSlots (s.ctx (s.ctxOf p)) (s.core p).pc)

/-- The state as `exec` takes it for an instruction in slot `k` of core `p`'s bundle. -/
def atSlot (p k : Nat) (s : State) : State :=
  { s.onCore p (holdBundle s.freeCtr) with
    cur := .core p, slot := k, header := bundleWord (s.ctx (s.ctxOf p)) (s.core p).pc 0 }

/-- What a core's turn does when it runs no single instruction: it yields (R121), or it meets a fetch fault, or it issues a
bundle of several. -/
def otherTurn (p : Nat) (s : State) : State :=
  if mayYield s p then yieldCore p s
  else if inCode (s.ctx (s.ctxOf p)) (s.core p).pc then issueMany p s
  else fetchFault p s

/-- The single instruction of the turn; none when the turn does something else. -/
def turnInstr (s : State) (p : Nat) : Option (Nat × Instr) :=
  if mayYield s p || !inCode (s.ctx (s.ctxOf p)) (s.core p).pc then none else soleAt s p

/-! ### Stream threads -/

/-- A stream thread may take a turn: its context runs, it has not halted (R243, R245), and no page of a newly bound base has still to rise
(log 79). -/
def threadReady (s : State) (c : Nat) : Bool := (s.ctx c).state == 1 && !(s.ctx c).thr.halted && (s.ctx c).rising.isEmpty

/-- Time moves to the next cycle in which the thread may execute a word (R243). -/
def startThread (c : Nat) (s : State) : State := passTo (max (s.cycle + 1) (s.ctx c).thr.nextAt) s

/-- The stream word at the thread's PC, as decoded; none outside the stream section. -/
def threadWord (x : Ctx) : Option (Except Nat Instr) :=
  if 0 ≤ x.thr.pc ∧ x.thr.pc.toNat < x.stream.length then some (decodeWord .scalar (x.stream.getD x.thr.pc.toNat 0).toNat)
  else none

/-- A PC outside the stream section (R243): where the transferring word, info the target. -/
def threadFault (c : Nat) (s : State) : State :=
  fatalThread c 4 0 (BitVec.ofInt 64 (s.ctx c).thr.pc) (BitVec.ofInt 64 (s.ctx c).thr.last) s

/-- What a thread's turn does when its word is no instruction (R244). -/
def badWord (c : Nat) (s : State) : State :=
  match threadWord (s.ctx c) with
  | some (.error d) => issueThread c (some d) {} s
  | _ => threadFault c s

/-- The instruction of the thread's turn. -/
def threadInstr (s : State) (c : Nat) : Option Instr :=
  match threadWord (s.ctx c) with
  | some (.ok i) => some i
  | _ => none

/-- The state as `exec` takes it for a stream word. -/
def atThread (c : Nat) (s : State) : State := { s with cur := .thread c, slot := 0, header := 0 }

/-! ### An instruction laid out where the next turn fetches it -/

/-- The slot that holds an instruction of a class. -/
def slotFor : SlotClass → Nat
  | .scalar => 0
  | .mem => 2
  | .vec => 3
  | .eng => 4

/-- A bundle that holds one word in slot `k`, its header selecting the broadcast port when the instruction needs it. -/
def bundleOf (k : Nat) (be : Bool) (w : Nat) : List W32 :=
  (if be then (BitVec.ofNat 32 (2 ^ 29)) else 0) :: (List.range 5).map (fun j => if j = k then BitVec.ofNat 32 w else 0)

/-- The slot, the port bit and whether the word runs in a stream thread. -/
def placeWord (w : Nat) : Nat × Bool × Bool :=
  match firstClass tableClasses w with
  | some (c, i) => (slotFor c, (meaningOf i).port, i.streamOnly)
  | none => (0, false, false)

/-- Context 0 as a program of one word leaves it. -/
def fetchCtx (w : Nat) (x : Ctx) : Ctx :=
  let k := placeWord w
  { x with
    state := 1
    rising := []
    code := bundleOf k.1 k.2.1 w
    stream := if k.2.2 then [BitVec.ofNat 32 w] else x.stream
    thr := if k.2.2 then { x.thr with pc := 0, halted := false } else x.thr }

/-- Core 0 set to run that program from its first bundle. -/
def fetchCore (k : Core) : Core :=
  { k with ctx := some 0, lcore := 0, run := .running, pc := 0, miss := false, lePend := false, trapPend := none, yieldReq := false }

end Sys2Proof.Machine
end

