-- ==== Sys2Proof/Machine/Step.lean ====
section
/-!
DEFINITION. Machine/Step.lean: one step of the device: one turn of one agent, or one event (log 5).
-/

namespace Sys2Proof.Machine

/-- A turn of core `p`. -/
def stepCore (p : Nat) (s : State) : Host.Outcome State Fault Refusal :=
  if coreReady s p then
    match turnInstr (startTurn p s) p with
    | some (k, i) => exec i (atSlot p k (startTurn p s))
    | none => finish (startTurn p s) (otherTurn p)
  else finish s id

/-- A turn of the stream thread of context `c`. -/
def stepThread (c : Nat) (s : State) : Host.Outcome State Fault Refusal :=
  if threadReady s c then
    match threadInstr (startThread c s) c with
    | some i => exec i (atThread c (startThread c s))
    | none => finish (startThread c s) (badWord c)
  else finish s id

/-- One step: the turn that the agenda names next, or that is chosen. -/
def step (s : State) : Host.Outcome State Fault Refusal :=
  match turnOf s with
  | .core p => stepCore p (popTurn s)
  | .thread c => stepThread c (popTurn s)
  | .tick => finish (popTurn s) tick
  | .miss p => finish (popTurn s) (missFetch p)
  | .hostRead fn off size => finish (popTurn s) (hostRead fn off size)
  | .sizeBar fn k => finish (popTurn s) (sizeBar fn k)
  | .enableVfs n => finish (popTurn s) (enableVfs n)
  | .bindVfs fn gn => finish (popTurn s) (bindVfs fn gn)
  | .doe m => finish (popTurn s) (doeMessage m)
  | .memoryError c va => finish (popTurn s) (memError 6 c (va / 512 * 512))
  | .event e => exec e (popTurn s)

/-- The state with the instruction of a table word as the whole program of context 0, and its core's or thread's turn next
(log 6). -/
def State.withFetchWord (s : State) (nbits w : Nat) : State :=
  let v := w % 2 ^ nbits
  let s := s.onCtx 0 (fetchCtx v)
  let s : State := { s with owner := Tab.put 0 s.owner 0 0x8000 }
  let s := s.onCore 0 fetchCore
  { s with agenda := [if (placeWord v).2.2 then .thread 0 else .core 0] }

end Sys2Proof.Machine
end

