-- ==== Sys2Proof/Safety.lean ====
section
/-!
DEFINITION. Safety.lean: the terms that claims are stated in: when the bundle of one instruction issues (R51, R72, R73),
what it leaves behind (R50, R74), and the invariants of a safe run.
-/

namespace Sys2Proof.Machine

/-! ### The conditions under which a bundle of one instruction issues -/

/-- Core `p` is to issue the bundle of the state, in which slot `k` alone is filled; the module is powered, nothing stops
issue, and the header passes the checks of R51. -/
structure Issues (s : State) (p k : Nat) : Prop where
  powered : s.powered = true
  goes    : s.stopped = false
  cur     : s.cur = .core p
  slot    : s.slot = k
  res     : headRes s.header = 0
  le      : headLe s.header = true → (s.core p).seq.loops ≠ []
  be      : headBe s.header = false → headBs s.header = 0

/-- No scoreboarded write to a register of the list is outstanding (R72). -/
def Settled (s : State) (p : Nat) (l : List Dest) : Prop := ∀ d ∈ l, awaited (s.core p) d = false

/-- The header selects the broadcast port, and its register has no scoreboarded write outstanding (R54, R72). -/
def Ported (s : State) (p : Nat) : Prop :=
  headBe s.header = true ∧ awaited (s.core p) (destS (headBs s.header)) = false

/-- What an instruction alone in slot `k` of core `p`'s bundle sees of its issue (R54, R259). -/
def soleEnv (s : State) (p k pushes : Nat) : Env :=
  { agent := .core p, slot := k, port := portValue s p s.header, pushed := pushes }

/-- The stream thread of context `c` is to run the word of the state. -/
structure Threads (s : State) (c : Nat) : Prop where
  powered : s.powered = true
  goes    : s.stopped = false
  cur     : s.cur = .thread c

/-! ### What a bundle leaves behind -/

/-- The core after its bundle has committed and control falls through: the next bundle, or the loop end of an le bundle
(R74, R117), the wait cycles of the header (R50), its safe point (R121). -/
def advanced (s : State) (k : Core) : Core :=
  let k := { k with nextIssue := s.cycle + 1 + headWc s.header, atSafe := safePoint s.header k, scaleOp := false, lastWord := k.pc,
                    atPadv := false, padvDone := false, padvRetry := false, padvFail := none }
  if headLe s.header then { k with lePend := true } else { k with pc := k.pc + 1 }

/-- The core after its bundle has committed and control goes to a target, whatever its le (R118). -/
def transferred (s : State) (target : Int) (k : Core) : Core :=
  { k with nextIssue := s.cycle + 1 + headWc s.header, atSafe := safePoint s.header k, scaleOp := false, lastWord := k.pc,
           atPadv := false, padvDone := false, padvRetry := false, padvFail := none, pc := target }

/-- The state that a step from `s` leaves when its effects give `t`: the free values of one count are drawn. -/
def drawn (s t : State) : State := { t with freeCtr := s.freeCtr + 1 }

/-- The state after a bundle whose effect is `f` on its own core. -/
def after (s : State) (p : Nat) (f : Core → Core) : State := drawn s (s.onCore p (fun k => advanced s (f k)))

/-- The state after a bundle whose effect is `f` on its own core and whose transfer is taken. -/
def afterTo (s : State) (p : Nat) (target : Int) (f : Core → Core) : State :=
  drawn s (s.onCore p (fun k => transferred s target (f k)))

/-- The state after a bundle whose effect on the whole state has given `t`. -/
def afterAll (s : State) (p : Nat) (t : State) : State := drawn s (t.onCore p (advanced s))

/-- A result of the bundle in flight to a register (R70): its value, its bound, its flags. -/
def flightTo (s : State) (p k : Nat) (d : Dest) (x : Vec) (lat : Nat) (fl : Flags) : Flight :=
  { dest := d, val := x, issue := s.cycle, due := s.cycle + lat, flags := fl, slot := k,
    bundle := BitVec.ofInt 32 (s.core p).pc, late := false, free := false }

/-- A result joins those in flight; nothing joins when the result is discarded and carries no flag (R100). -/
def sends (s : State) (p k : Nat) (d : Dest) (x : Vec) (lat : Nat) (fl : Flags) (c : Core) : Core :=
  if d = .none ∧ fl = 0 then c else { c with flights := c.flights ++ [flightTo s p k d x lat fl] }

/-- The state after a bundle that sends `x` to s[d]. -/
def givesS (s : State) (p k : Nat) (d : BitVec 6) (x : W64) (lat : Nat) (fl : Flags) : State :=
  after s p (sends s p k (destS d) (asVec x) lat fl)

/-- The state after a bundle that sends `x` to the p-register that a name stands for (R103). -/
def givesP (s : State) (p k : Nat) (d : BitVec 5) (x : Pred) (lat : Nat) : State :=
  after s p (sends s p k (destP (s.core p) d) (asVec x) lat 0)

/-- The state after a bundle that sends `x` to the v-register that a name stands for (R103). -/
def givesV (s : State) (p k : Nat) (d : BitVec 6) (x : Vec) (lat : Nat) (fl : Flags) : State :=
  after s p (sends s p k (destV (s.core p) d) x lat fl)

/-- The state after core `p` has taken a precise trap with no access outstanding and the steward flag clear (R154): what was in
flight has landed, the record is written, and nothing of the bundle is done. -/
def trapped (s : State) (p : Nat) (q : TrapReq) : State :=
  drawn s (takeTrap p q (s.onCore p (landAll s.freeCtr)))

/-! ### The fields of an instruction that its bundle's checks read -/

/-- The guard fields of an instruction: its p-register and the bit that turns it off (R53); an instruction of an M, V or X
format acts when bit 0 of p[g] is 1. None for the formats without a guard, for SEL and for the V slot, whose guard acts by
lanes. -/
def guardOf : Instr → Option (BitVec 5 × BitVec 1)
  | .add g n _ _ _ _ | .sub g n _ _ _ _ | .and g n _ _ _ _ | .or g n _ _ _ _ | .xor g n _ _ _ _ | .andn g n _ _ _ _
  | .shl g n _ _ _ _ | .shr g n _ _ _ _ | .sra g n _ _ _ _ | .mul g n _ _ _ _ | .mulh g n _ _ _ _ | .mulhn g n _ _ _ _
  | .div g n _ _ _ _ | .divn g n _ _ _ _ | .rem g n _ _ _ _ | .remn g n _ _ _ _ | .min g n _ _ _ _ | .max g n _ _ _ _
  | .minn g n _ _ _ _ | .maxn g n _ _ _ _ | .bfx g n _ _ _ _ => some (g, n)
  | .clz g n _ _ _ | .popc g n _ _ _ | .pto g n _ _ _ | .pfrom g n _ _ _ => some (g, n)
  | .cmpeq g n _ _ _ | .cmpne g n _ _ _ | .cmplt g n _ _ _ | .cmple g n _ _ _ | .cmpltn g n _ _ _
  | .cmplen g n _ _ _ | .cmpbit g n _ _ _ => some (g, n)
  | .br g n _ | .call g n _ | .jmp g n _ | .lbrk g n => some (g, n)
  | .ldv g _ _ _ _ | .stv g _ _ _ _ | .spl g _ _ | .fil g _ _ | .pstw g _ _ _ => some (g, 0)
  | .ldg g _ _ _ _ _ | .stg g _ _ _ _ _ => some (g, 0)
  | .lds g _ _ _ | .sts g _ _ _ | .spls g _ _ | .fils g _ _ | .bacq g _ | .brel g _ => some (g, 0)
  | .prfg g _ _ _ _ | .ldgs g _ _ _ _ _ | .stgs g _ _ _ _ _ | .probe g _ _ _ _ | .scld g _ _ => some (g, 0)
  | .ald g _ _ _ | .ast g _ _ _ | .bara g _ _ _ | .barw g _ _ _ => some (g, 0)
  | .aadd g _ _ _ _ | .amin g _ _ _ _ | .amax g _ _ _ _ | .aminn g _ _ _ _ | .amaxn g _ _ _ _ | .aand g _ _ _ _
  | .aor g _ _ _ _ | .axchg g _ _ _ _ | .acas g _ _ _ _ | .admitEntry g _ _ _ _ => some (g, 0)
  | .lmma _ _ g _ _ _ | .lmmaz _ _ g _ _ _ | .lmmar _ _ g _ _ _ | .ccpy _ _ g _ _ _ | .cgth _ _ g _ _ _
  | .csct _ _ g _ _ _ | .ctopk _ _ g _ _ _ | .rload _ _ g _ _ _ | .optu _ g _ _ _ => some (g, 0)
  | .cdrn g _ | .pushix g _ | .shsw _ g _ | .ralloc g _ _ | .rqry g _ _ => some (g, 0)
  | .rpin _ _ g _ | .runpin _ _ g _ | .rrev _ _ g _ => some (g, 0)
  | _ => none

/-- A field of the instruction selects the broadcast port (R54): b = 63 in formats VR and VC, imm = 63 in format X. -/
def needsPort : Instr → Bool
  | .vadd _ _ _ b _ | .vsub _ _ _ b _ | .vmul _ _ _ b _ | .vfma _ _ _ b _ | .vfms _ _ _ b _ | .vmin _ _ _ b _
  | .vmax _ _ _ b _ | .vand _ _ _ b _ | .vor _ _ _ b _ | .vxor _ _ _ b _ | .vshl _ _ _ b _ | .vshr _ _ _ b _
  | .vsra _ _ _ b _ | .vadds _ _ _ b _ | .vsubs _ _ _ b _ | .vsel _ _ _ b _ | .vperm _ _ _ b _ | .vminn _ _ _ b _
  | .vmaxn _ _ _ b _ | .vrotm _ _ _ b _ | .vceq _ _ _ b _ | .vcne _ _ _ b _ | .vclt _ _ _ b _ | .vcle _ _ _ b _
  | .vcltn _ _ _ b _ | .vclen _ _ _ b _ => b == 63
  | .lmma _ _ _ _ _ i | .lmmaz _ _ _ _ _ i | .optu _ _ _ _ i => i == 63
  | _ => false

/-- The instruction has a decode check that reads the state of its core (R74 step 2), or one on a register number (R314). -/
def stateChecked : Instr → Bool
  | .tret _ | .krd _ _ | .kwr _ _ | .cnrd _ _ | .cnclr _ | .loop _ | .loopi _ | .loops _ _ | .pubg _ => true
  | _ => false

/-! ### Formulas of the manual on bit vectors -/

/-- A register operation of R105 at the width that `w` selects: 64 bits, or 32 bits with the result extended. -/
def atWidth (w : BitVec 1) (zero : Bool) (f : (n : Nat) → BitVec n → BitVec n → BitVec n) (x y : W64) : W64 :=
  if w = 0 then f 64 x y
  else if zero then (f 32 (x.setWidth 32) (y.setWidth 32)).setWidth 64
  else (f 32 (x.setWidth 32) (y.setWidth 32)).signExtend 64

/-! ### Rounding, over exact magnitudes -/

/-- `m * 2 ^ e` is less than `k * 2 ^ q`. -/
abbrev MagLt (m : Nat) (e : Int) (k : Nat) (q : Int) : Prop :=
  m * 2 ^ (e - min e q).toNat < k * 2 ^ (q - min e q).toNat

/-- `m * 2 ^ e` equals `k * 2 ^ q`. -/
abbrev MagEq (m : Nat) (e : Int) (k : Nat) (q : Int) : Prop :=
  m * 2 ^ (e - min e q).toNat = k * 2 ^ (q - min e q).toNat

/-- R34: under mode `rm`, the value `± m * 2 ^ e` rounds to `k` units of `2 ^ q`: the nearest, ties to the even one; or the next
toward zero, toward +∞, toward −∞. -/
structure RoundsTo (rm : Nat) (neg : Bool) (m : Nat) (e q : Int) (k : Nat) : Prop where
  near : rm = 0 →
    let x := m * 2 ^ (e - min e q).toNat
    let y := 2 ^ (q - min e q).toNat
    2 * (k * y) ≤ 2 * x + y ∧ 2 * x ≤ 2 * (k * y) + y ∧
      (2 * (k * y) = 2 * x + y ∨ 2 * x = 2 * (k * y) + y → k % 2 = 0)
  down : rm = 1 ∨ (rm = 2 ∧ neg = true) ∨ (rm = 3 ∧ neg = false) →
    let x := m * 2 ^ (e - min e q).toNat
    let y := 2 ^ (q - min e q).toNat
    k * y ≤ x ∧ x < (k + 1) * y
  up : (rm = 2 ∧ neg = false) ∨ (rm = 3 ∧ neg = true) →
    let x := m * 2 ^ (e - min e q).toNat
    let y := 2 ^ (q - min e q).toNat
    x ≤ k * y ∧ k * y < x + y

/-- The code `r` of an integer format `f` holds the integer `i` (R27). -/
def HoldsInt (f r : Nat) (i : Int) : Prop := r < 2 ^ fmtBits f ∧ intOf f r = i

/-! ### Bundles of several slots -/

/-- Core `p` takes its turn, yields nothing, and is to issue the bundle with header `h` and the words `w` of its slots, in the
state `u` (R74). -/
structure Bundles (s : State) (p : Nat) (h : W32) (w : Nat → W32) (u : State) : Prop where
  powered : s.powered = true
  turn    : turnOf s = .core p
  ready   : coreReady (popTurn s) p = true
  before  : u = (startTurn p (popTurn s)).onCore p (holdBundle (startTurn p (popTurn s)).freeCtr)
  stays   : mayYield (startTurn p (popTurn s)) p = false
  inside  : 0 ≤ (u.core p).pc ∧ (u.core p).pc.toNat < (u.ctx (u.ctxOf p)).code.length / 6
  head    : (u.ctx (u.ctxOf p)).code.getD (6 * (u.core p).pc.toNat) 0 = h
  words   : ∀ k, k < 5 → (u.ctx (u.ctxOf p)).code.getD (6 * (u.core p).pc.toNat + (k + 1)) 0 = w k

/-- The header fails no check of R51 on a bundle of which no slot selects the port. -/
structure GoodHead (u : State) (p : Nat) (h : W32) : Prop where
  res : headRes h = 0
  be  : headBe h = false → headBs h = 0
  le  : headLe h = true → (u.core p).seq.loops ≠ []

/-- The state after a bundle with header `h` whose effect is `f` on its own core and which falls through. -/
def afterBundle (u : State) (p : Nat) (h : W32) (f : Core → Core) : State :=
  drawn u (u.onCore p (fun k => advanced { u with header := h } (f k)))

/-- The control transfers of R52. -/
def isTransfer : Instr → Bool
  | .br .. | .call .. | .jmp .. | .loop .. | .loopi .. | .loops .. | .lbrk .. | .halt | .trap .. | .tret .. | .padv => true
  | _ => false

/-! ### Vector results, element by element -/

/-- The sources of a b field of formats VR and VC have nothing outstanding: the port for b = 63, else v[b] (R54, R72). -/
def BSettled (s : State) (p : Nat) (b : BitVec 6) : Prop :=
  if b = 63 then Ported s p else awaited (s.core p) (destV (s.core p) b) = false

/-- No scoreboarded write to a v-register of the list, by the names of R103, is outstanding (R72). -/
def SettledV (s : State) (p : Nat) (l : List (BitVec 6)) : Prop := Settled s p (l.map (destV (s.core p)))

/-- Element `j` of the b operand in the view of format `f`: of v[b], or the low bits of the port for b = 63 (R54, R125). -/
def bOf (s : State) (p : Nat) (b : BitVec 6) (f j : Nat) : Nat :=
  if b = 63 then (readS s p (headBs s.header)).toNat % 2 ^ fmtBits f else elem (readV s p b) (fmtBits f) j

/-- R125, R140: `x` holds in each element of a lane that `g` guards on the low bits of what `op` gives, in any other the
element of `old`; `fl` holds a flag exactly when an element of a guarded-on lane raises it. -/
structure Laned (f : Nat) (g : Pred) (old : Vec) (op : Nat → Nat × Flags) (x : Vec) (fl : Flags) : Prop where
  on   : ∀ j, j < 4096 / fmtBits f → g.getLsbD (j * fmtBytes f / 4) = true →
           elem x (fmtBits f) j = (op j).1 % 2 ^ fmtBits f
  off  : ∀ j, j < 4096 / fmtBits f → g.getLsbD (j * fmtBytes f / 4) = false →
           elem x (fmtBits f) j = elem old (fmtBits f) j
  flag : ∀ b, fl.getLsbD b = true ↔
           ∃ j, j < 4096 / fmtBits f ∧ g.getLsbD (j * fmtBytes f / 4) = true ∧ (op j).2.getLsbD b = true

/-- The bundle of `i` sends to v[d], with bound `lat`, the register that `op` gives under the guard `g` (R125). -/
def SendsLanes (i : Instr) (s : State) (p k : Nat) (d : BitVec 6) (f : Nat) (g : Pred) (lat : Nat)
    (op : Nat → Nat × Flags) : Prop :=
  ∃ x fl, Laned f g (readV s p d) op x fl ∧ exec i s = .next (givesV s p k d x lat fl)

/-- An exact value with its flags, rounded once to format `f` under RNE with sat = 0 (R34, R35, R41). -/
def rounded (f : Nat) (x : Fp × Flags) : Nat × Flags :=
  ((fpRound f 0 false x.1).1, x.2 ||| (fpRound f 0 false x.1).2)

/-- The tree of R43: a leaf at level 0, and at each further level the node of two neighbours; the flags of every node. -/
def treeAt (node : Nat → Nat → Nat × Flags) (leaf : Nat → Nat) : Nat → Nat → Nat × Flags
  | 0, j => (leaf j, 0)
  | n + 1, j =>
    let l := treeAt node leaf n (2 * j)
    let r := treeAt node leaf n (2 * j + 1)
    ((node l.1 r.1).1, l.2 ||| r.2 ||| (node l.1 r.1).2)

/-- VMIN and VMAX on one element (R128): integers by value, the first when equal; a NaN gives the canonical NaN. -/
def lesser (big : Bool) (f a b : Nat) : Nat × Flags :=
  if 3 < f then (if (if big then intOf f a < intOf f b else intOf f b < intOf f a) then b else a, 0)
  else if isNan (fpOf f a) || isNan (fpOf f b) then (canonNan f, sigFlag (fpOf f a) ||| sigFlag (fpOf f b))
  else (if fpCmp (fpOf f a) (fpOf f b) = (if big then -1 else 1) then b else a, 0)

/-- A compare of one element (R137): integers by `num`; floating values by value, `nan` when either is a NaN, a signalling one
raising invalid. -/
def related (f : Nat) (num : Nat → Int) (rel : Int → Int → Bool) (nan : Bool) (a b : Nat) : Bool × Flags :=
  if 3 < f then (rel (num a) (num b), 0)
  else
    (if isNan (fpOf f a) || isNan (fpOf f b) then nan else rel (fpCmp (fpOf f a) (fpOf f b)) 0,
      sigFlag (fpOf f a) ||| sigFlag (fpOf f b))

/-- The predicate of a compare (R137, R140): a guarded-on lane holds 1 exactly when every element of it is related, any other
keeps its bit; a flag is raised exactly when a guarded-on element raises it. -/
structure LanesCompared (f : Nat) (g old : Pred) (rel : Nat → Bool × Flags) (x : Pred) (fl : Flags) : Prop where
  on   : ∀ i, i < 128 → g.getLsbD i = true →
           (x.getLsbD i = true ↔ ∀ j, j < 4096 / fmtBits f → j * fmtBytes f / 4 = i → (rel j).1 = true)
  off  : ∀ i, i < 128 → g.getLsbD i = false → x.getLsbD i = old.getLsbD i
  flag : ∀ b, fl.getLsbD b = true ↔
           ∃ j, j < 4096 / fmtBits f ∧ g.getLsbD (j * fmtBytes f / 4) = true ∧ (rel j).2.getLsbD b = true

/-! ### Waits, failures, changed rows -/

/-- The state after a cycle in which core `p` froze with its bundle held (R3, R73). -/
def frozen (s : State) (p : Nat) : State :=
  drawn s (s.onCore p (fun c => { c with nextIssue := s.cycle + 1, atSafe := false }))

/-- The state after core `p` has met a fatal context error at its bundle (R3, R74 step 5). -/
def fatalIn (s : State) (p cause : Nat) (addr info : W64) : State := drawn s (fatalCore p cause addr info s)

/-! ### Checks at issue (R74 step 5, R75) -/

/-- The check fails with a trap of this cause, detail and argument when `c` holds. -/
def trapIf (c : Prop) (cause detail : Nat) (arg : W32 := 0) : Fail → Prop := fun f => c ∧ f = .trap cause detail 0 arg

/-- Of the checks of a list, in their order, the first that fails gives the failure; none when every one passes. -/
def FirstFails : List (Fail → Prop) → Option Fail → Prop
  | [], r => r = none
  | q :: l, r => ((∃ f, q f) → ∃ f, q f ∧ r = some f) ∧ ((¬∃ f, q f) → FirstFails l r)

/-- What core `p` does with the failure of the instruction in slot `k`: its precise trap, or the fatal context error. -/
def Stops (i : Instr) (s : State) (p k : Nat) (r : Option Fail) : Prop :=
  (∀ cause detail addr arg, r = some (.trap cause detail addr arg) → (s.core p).board = [] → (s.core p).steward = false →
    exec i s = .next (trapped s p { cause := cause, mask := 2 ^ k, slot := k, detail := detail, addr := addr, arg := arg,
                                    bundle := BitVec.ofInt 32 (s.core p).pc })) ∧
  (∀ cause addr info, r = some (.fatal cause addr info) → exec i s = .next (fatalIn s p cause addr info))

/-- A local row fails its checks of R161; the target of a remote one decides (R204). -/
def BadRow (s : State) (p : Nat) (w : Want) (a : W64) : Prop :=
  if isSpad a = true then spadOk s p (s.ctxOf p) a = false
  else isRemote a = false ∧ globalOk s (s.ctxOf p) (BitVec.ofNat 64 (a.toNat / 512 * 512)) w = false

/-- A local row of global memory that lies in the front range of no published buffer that the record's tag names (R204). -/
def OffFront (s : State) (p : Nat) (h : Shape) (a : W64) : Prop :=
  isSpad a = false ∧ isRemote a = false ∧ inFront (s.ctx (s.ctxOf p)) (h.tag.toNat % 4096) a = false

/-- The fatal checks of an engine operation (R202, R204): the rows it reads, those it writes, its barrier with the words 8 and 16 above
it. -/
def engineFatals (s : State) (p : Nat) (reads writes : W64 → Prop) (bar : W64) : List (Fail → Prop) :=
  let ok := fun (a : W64) => globalOk s (s.ctxOf p) a .store = true
  [fun f => ∃ a, reads a ∧ BadRow s p .load a ∧ f = .fatal 1 a 0,
   fun f => ∃ a, writes a ∧ BadRow s p .store a ∧ f = .fatal 1 a 0,
   fun f => (bar ≠ 0 ∧ ¬(ok bar ∧ (isRemote bar = true ∨ (ok (bar + 8) ∧ ok (bar + 16))))) ∧ f = .fatal 1 bar 0]

/-- A row count of R204. -/
def Counted (n : Nat) : Prop := 1 ≤ n ∧ n ≤ 2 ^ 24

/-- R204: a format code that no copy admits, reserved bits or class 3 in the record `d` that governs, a pair that is not converted. -/
def CopyRecordBad (x y d : Shape) : Prop :=
  10 ≤ x.fmt.toNat ∨ 10 ≤ y.fmt.toNat ∨ 4096 ≤ d.tag.toNat ∨ 3 ≤ d.rc.toNat ∨
    ¬(x.fmt = y.fmt ∨ (x.fmt.toNat < 8 ∧ y.fmt.toNat < 8 ∧ fmtBytes x.fmt.toNat = fmtBytes y.fmt.toNat))

/-- The handle names a slot of the list that its context holds, under the slot's generation (R301). -/
def HandleGood (r : Resid) (h : W64) : Prop :=
  h.toNat / 2 ^ 16 % 16 = 0 ∧ h.toNat % 2 ^ 16 < 1024 ∧ ¬(r.state = 7 ∧ h.toNat / 2 ^ 20 % 4096 = r.rgen.toNat) ∧ r.held = true ∧
    h.toNat / 2 ^ 20 % 4096 = r.gen.toNat

/-- The residency faults of a Loom instruction (R184, R301), each with the handle. -/
def residencyFaults (r : Resid) (h : W64) : List (Fail → Prop) :=
  let arg := h.setWidth 32
  [trapIf (¬HandleGood r h ∧ h.toNat / 2 ^ 16 % 16 = 0 ∧ h.toNat % 2 ^ 16 < 1024 ∧ r.state = 7 ∧
     h.toNat / 2 ^ 20 % 4096 = r.rgen.toNat) 7 0 arg,
   trapIf (¬HandleGood r h) 8 0 arg,
   trapIf (r.state = 4) 4 0 arg, trapIf (r.state = 5) 5 0 arg, trapIf (r.state = 6) 6 0 arg, trapIf (r.state = 7) 7 0 arg,
   trapIf (r.state ≠ 2 ∧ r.state ≠ 3) 5 1 arg]

/-- R184: the pair of formats is none of R44, against the format that the slot's last RLOAD recorded; not made against a slot held and
never loaded. -/
def PairBad (r : Resid) (h : W64) (d : Shape) : Prop :=
  ¬(HandleGood r h ∧ r.loaded = false) ∧
    (d.fmt.toNat ∉ [1, 2, 3] ∨ (HandleGood r h ∧ pairRate d.fmt.toNat r.fmt = 0))

/-- R184: the window does not start at a multiple of 64 below the recorded K. -/
def WindowBad (r : Resid) (h : W64) (d : Shape) : Prop :=
  ¬(HandleGood r h ∧ r.loaded = false) ∧ (d.inner % 64 ≠ 0 ∨ (HandleGood r h ∧ r.k ≤ d.inner))

/-- `t` is `u` but for row `row` of the scratchpad of core `q`, which holds `r`, with the full-empty bits `fe`. -/
structure RowWritten (t u : State) (q row : Nat) (r : Vec) (fe : W32) : Prop where
  others : ∀ j, j ≠ q → t.core j = u.core j
  same   : t.core q = { u.core q with spad := (t.core q).spad, fullEmpty := (t.core q).fullEmpty }
  rows   : ∀ j, Tab.get 0 (t.core q).spad j = if j = row then r else Tab.get 0 (u.core q).spad j
  bits   : ∀ j, Tab.get 0 (t.core q).fullEmpty j = if j = row then fe else Tab.get 0 (u.core q).fullEmpty j
  rest   : t = { u with cores := t.cores }

/-- The shape register h of engine e that an X instruction uses (R144): the copy the exchange brings in when sw = 1, else the
active one. -/
def shapeIn (s : State) (p e h : Nat) (sw : BitVec 1) : Shape :=
  Tab.get Shape.zero (if sw = 1 then (s.core p).shadow else (s.core p).active) (4 * e + h)

/-- The copies of the registers `hs` of engine `e` are exchanged when sw = 1, and no other (R144). -/
def Exchanged (t s : State) (p e : Nat) (sw : BitVec 1) (hs : List Nat) : Prop :=
  ∀ j, Tab.get Shape.zero (t.core p).active j
        = (if sw = 1 ∧ j ∈ hs.map (4 * e + ·) then Tab.get Shape.zero (s.core p).shadow j
           else Tab.get Shape.zero (s.core p).active j) ∧
      Tab.get Shape.zero (t.core p).shadow j
        = (if sw = 1 ∧ j ∈ hs.map (4 * e + ·) then Tab.get Shape.zero (s.core p).active j
           else Tab.get Shape.zero (s.core p).shadow j)

/-! ### Stream words -/

/-- The scalar instructions and NOP that stream code lets run (R244), and the stream-only ones. -/
def streamRuns : Instr → Bool
  | .nop | .add .. | .sub .. | .and .. | .or .. | .xor .. | .andn .. | .shl .. | .shr .. | .sra .. | .mul .. | .mulh ..
  | .mulhn .. | .div .. | .divn .. | .rem .. | .remn .. | .min .. | .max .. | .minn .. | .maxn .. | .sel .. | .clz ..
  | .popc .. | .bfx .. | .addi .. | .andi .. | .ori .. | .xori .. | .shli .. | .shri .. | .srai .. | .muli .. | .liu ..
  | .lih .. | .cmpeq .. | .cmpne .. | .cmplt .. | .cmple .. | .cmpltn .. | .cmplen .. | .cmpbit .. | .plog .. | .pfrom ..
  | .pto .. | .br .. | .call .. | .jmp .. | .halt | .launch .. | .taskw .. | .grun .. | .gwait .. | .patch ..
  | .mbxw .. => true
  | _ => false

/-- The state after a word of the stream thread whose effect on the thread is `f`: the next word four cycles on (R243). -/
def threadOn (s : State) (c : Nat) (f : Thread → Thread) : State :=
  drawn s (s.onCtx c (fun x => { x with
    started := true, thr := { f x.thr with last := x.thr.pc, nextAt := s.cycle + 4, fixed := none, watch := none } }))

/-- The state after a stream word that puts `v` into s[d]. -/
def threadS (s : State) (c : Nat) (d : BitVec 6) (v : W64) : State :=
  threadOn s c (fun t => { t with s := if d = 0 then t.s else Tab.put 0 t.s d.toNat v, pc := t.pc + 1 })

/-- The state after a stream word that puts `q` into p[d]. -/
def threadP (s : State) (c : Nat) (d : BitVec 5) (q : Pred) : State :=
  threadOn s c (fun t => { t with p := if d = 0 then t.p else Tab.put 0 t.p d.toNat q, pc := t.pc + 1 })

/-- Every address of the context names backing of its own: no published buffer, no bound region, no page made its own. -/
structure Plain (s : State) (c : Nat) : Prop where
  buffers : (s.ctx c).buffers = []
  shared  : (s.ctx c).shared = []
  priv    : (s.ctx c).priv = []

/-! ### Invariants -/

/-- Every memory of the device keeps its canonical form. -/
def State.memOk (s : State) : Prop := s.mem.wf ∧ s.hostMem.wf ∧ s.mgmtMem.wf ∧ s.mboxMem.wf

end Sys2Proof.Machine
end

