-- ==== Sys2Proof/Certificates/Slice0/Obligations.lean ====
section
/-!
DEFINITION. Certificates/Slice0/Obligations.lean: the statements about the model, from the numbered rules of the manual.
-/

open Sys2Proof Sys2Proof.Machine

/-! ### Scalar slots: arithmetic, constants, compares, predicates (R105 to R112) -/

/-- R105. ADD to MAXN but the divisions: alone in a bundle that issues, its guard on, each sends to s[d] the result of its
row, with the bound of R70, raises no flag, and changes nothing else but what every bundle changes.
The model's own here, no rule of the manual: the count of free values that each step advances (log 4). -/
def Obligations.RegisterArithmeticResults : Prop :=
  ∀ (s : State) (p k : Nat) (g : BitVec 5) (n : BitVec 1) (d a b : BitVec 6) (w : BitVec 1),
    Issues s p k → guardN g n s (.core p) = true → Settled s p [destS a, destS b, destS d] →
    let gives := fun (zero : Bool) (lat : Nat) (f : (m : Nat) → BitVec m → BitVec m → BitVec m) =>
      Host.Outcome.next (φ := Fault) (ρ := Refusal)
        (givesS s p k d (atWidth w zero f (readS s p a) (readS s p b)) lat 0)
    exec (.add g n d a b w) s = gives false 1 (fun _ x y => x + y) ∧
    exec (.sub g n d a b w) s = gives false 1 (fun _ x y => x - y) ∧
    exec (.and g n d a b w) s = gives false 1 (fun _ x y => x &&& y) ∧
    exec (.or g n d a b w) s = gives false 1 (fun _ x y => x ||| y) ∧
    exec (.xor g n d a b w) s = gives false 1 (fun _ x y => x ^^^ y) ∧
    exec (.andn g n d a b w) s = gives false 1 (fun _ x y => x &&& ~~~y) ∧
    exec (.shl g n d a b w) s = gives false 1 (fun m x y => x <<< (y.toNat % m)) ∧
    exec (.shr g n d a b w) s = gives false 1 (fun m x y => x >>> (y.toNat % m)) ∧
    exec (.sra g n d a b w) s = gives false 1 (fun m x y => x.sshiftRight (y.toNat % m)) ∧
    exec (.mul g n d a b w) s = gives false 3 (fun _ x y => x * y) ∧
    exec (.mulh g n d a b w) s =
      gives false 3 (fun m x y => ((x.signExtend (2 * m) * y.signExtend (2 * m)) >>> m).setWidth m) ∧
    exec (.mulhn g n d a b w) s =
      gives true 3 (fun m x y => ((x.setWidth (2 * m) * y.setWidth (2 * m)) >>> m).setWidth m) ∧
    exec (.min g n d a b w) s = gives false 1 (fun _ x y => if x.sle y then x else y) ∧
    exec (.max g n d a b w) s = gives false 1 (fun _ x y => if x.sle y then y else x) ∧
    exec (.minn g n d a b w) s = gives true 1 (fun _ x y => if x.ule y then x else y) ∧
    exec (.maxn g n d a b w) s = gives true 1 (fun _ x y => if x.ule y then y else x)

/-- R107. DIV, DIVN, REM, REMN: the quotient truncated toward zero and the remainder with the sign of x; on a zero divisor
−1, all ones, and x, with the divide-by-zero flag; −2^(W−1) by −1 gives −2^(W−1) and 0 without a flag.
R105, R106. SEL chooses by its predicate and is not guarded by it; CLZ and POPC count; BFX extracts len bits from bit
pos, where pos and len − 1 are bits 5:0 and 13:8 of y, or 4:0 and 12:8 of 32-bit values.
The model's own here, no rule of the manual: the count of free values that each step advances (log 4). -/
def Obligations.DivisionAndSelectResults : Prop :=
  (∀ (s : State) (p k : Nat) (g : BitVec 5) (n : BitVec 1) (d a b : BitVec 6) (w : BitVec 1),
     Issues s p k → guardN g n s (.core p) = true → Settled s p [destS a, destS b, destS d] →
     let zeroDivisor : Bool := if w = 0 then readS s p b == 0 else (readS s p b).setWidth 32 == (0 : W32)
     let gives := fun (zero : Bool) (f : (m : Nat) → BitVec m → BitVec m → BitVec m) =>
       Host.Outcome.next (φ := Fault) (ρ := Refusal)
         (givesS s p k d (atWidth w zero f (readS s p a) (readS s p b)) 20 (if zeroDivisor then flagDivZero else 0))
     exec (.div g n d a b w) s = gives false (fun m x y => if y = 0 then BitVec.allOnes m else x.sdiv y) ∧
     exec (.divn g n d a b w) s = gives true (fun m x y => if y = 0 then BitVec.allOnes m else x / y) ∧
     exec (.rem g n d a b w) s = gives false (fun _ x y => if y = 0 then x else x.srem y) ∧
     exec (.remn g n d a b w) s = gives true (fun _ x y => if y = 0 then x else x % y)) ∧
  (∀ (s : State) (p k : Nat) (g : BitVec 5) (n : BitVec 1) (d a b : BitVec 6) (w : BitVec 1),
     Issues s p k →
     (Settled s p [destS a, destS b, destS d] → exec (.sel g n d a b w) s =
       .next (givesS s p k d
         (atWidth w false (fun _ x y => if guardN g n s (.core p) then x else y) (readS s p a) (readS s p b)) 1 0)) ∧
     (guardN g n s (.core p) = true → Settled s p [destS a, destS d] →
       exec (.clz g n d a w) s = .next (givesS s p k d (atWidth w true (fun _ x _ => x.clz) (readS s p a) 0) 1 0) ∧
       exec (.popc g n d a w) s = .next (givesS s p k d (atWidth w true (fun _ x _ => x.cpop) (readS s p a) 0) 1 0)) ∧
     (guardN g n s (.core p) = true → Settled s p [destS a, destS b, destS d] →
       exec (.bfx g n d a b w) s =
         .next (givesS s p k d
           (atWidth w true (fun m x y => (x >>> (y.toNat % m)) &&& BitVec.ofNat m (2 ^ (y.toNat / 256 % m + 1) - 1))
             (readS s p a) (readS s p b)) 1 0)))

/-- R108. The eight immediates: unguarded; the shifts take amounts 0 to 63; MULI has bound 3, the others 1.
R109. LIU sends imm, zero-extended; LIH sends wrap64(s[d] × 2^19) OR imm; both unguarded, bound 1.
The model's own here, no rule of the manual: the count of free values that each step advances (log 4). -/
def Obligations.ImmediateAndConstantResults : Prop :=
  (∀ (s : State) (p k : Nat) (d a : BitVec 6) (i : BitVec 13),
     Issues s p k → Settled s p [destS a, destS d] →
     let gives := fun (lat : Nat) (x : W64) => Host.Outcome.next (φ := Fault) (ρ := Refusal) (givesS s p k d x lat 0)
     let x := readS s p a
     exec (.addi d a i) s = gives 1 (x + i.signExtend 64) ∧
     exec (.andi d a i) s = gives 1 (x &&& i.signExtend 64) ∧
     exec (.ori d a i) s = gives 1 (x ||| i.signExtend 64) ∧
     exec (.xori d a i) s = gives 1 (x ^^^ i.signExtend 64) ∧
     exec (.muli d a i) s = gives 3 (x * i.signExtend 64) ∧
     (i.toNat < 64 →
       exec (.shli d a i) s = gives 1 (x <<< i.toNat) ∧
       exec (.shri d a i) s = gives 1 (x >>> i.toNat) ∧
       exec (.srai d a i) s = gives 1 (x.sshiftRight i.toNat))) ∧
  (∀ (s : State) (p k : Nat) (d : BitVec 6) (i : BitVec 19),
     Issues s p k → Settled s p [destS d] →
     exec (.liu d i) s = .next (givesS s p k d (i.setWidth 64) 1 0) ∧
     exec (.lih d i) s = .next (givesS s p k d (readS s p d * BitVec.ofNat 64 (2 ^ 19) ||| i.setWidth 64) 1 0))

/-- R110. The compares: every lane of p[pd] takes the relation of s[a] and s[b]; bound 1; p0 discards it.
R111, R112. PFROM builds the lanes of p[pd] from s[a] and s[b]; PTO takes the half of p[a] that w selects; PLOG gives
lane i the bit 2 × pa + pb of the truth table.
With a false guard a compare, PFROM and PTO do nothing.
The model's own here, no rule of the manual: the count of free values that each step advances (log 4). -/
def Obligations.ComparesAndPredicates : Prop :=
  (∀ (s : State) (p k : Nat) (g : BitVec 5) (n : BitVec 1) (pd : BitVec 5) (a b : BitVec 6),
     Issues s p k → guardN g n s (.core p) = true → Settled s p [destS a, destS b, destP (s.core p) pd] →
     let gives := fun (r : Bool) =>
       Host.Outcome.next (φ := Fault) (ρ := Refusal) (givesP s p k pd (if r then BitVec.allOnes 128 else 0) 1)
     let x := readS s p a
     let y := readS s p b
     exec (.cmpeq g n pd a b) s = gives (decide (x = y)) ∧
     exec (.cmpne g n pd a b) s = gives (decide (x ≠ y)) ∧
     exec (.cmplt g n pd a b) s = gives (decide (x.toInt < y.toInt)) ∧
     exec (.cmple g n pd a b) s = gives (decide (x.toInt ≤ y.toInt)) ∧
     exec (.cmpltn g n pd a b) s = gives (decide (x.toNat < y.toNat)) ∧
     exec (.cmplen g n pd a b) s = gives (decide (x.toNat ≤ y.toNat)) ∧
     exec (.cmpbit g n pd a b) s = gives (x.getLsbD (y.toNat % 64))) ∧
  (∀ (s : State) (p k : Nat) (g : BitVec 5) (n : BitVec 1) (pd : BitVec 5) (a b d : BitVec 6) (w : BitVec 1)
     (x y : BitVec 5) (t : BitVec 4),
     Issues s p k →
     (guardN g n s (.core p) = true → Settled s p [destS a, destS b, destP (s.core p) pd] →
       exec (.pfrom g n pd a b) s = .next (givesP s p k pd (readS s p b ++ readS s p a) 1)) ∧
     (guardN g n s (.core p) = true → Settled s p [destS d] → a.toNat < 32 →
       exec (.pto g n d a w) s =
         .next (givesS s p k d (BitVec.extractLsb' (if w = 0 then 0 else 64) 64 (readP s p (a.setWidth 5))) 1 0)) ∧
     (Settled s p [destP (s.core p) pd] →
       ∃ q : Pred, exec (.plog pd x y t) s = .next (givesP s p k pd q 1) ∧
         ∀ i, i < 128 → q.getLsbD i = t.getLsbD (2 * ((readP s p x).getLsbD i).toNat + ((readP s p y).getLsbD i).toNat))) ∧
  (∀ (s : State) (p k : Nat) (g : BitVec 5) (n : BitVec 1) (pd : BitVec 5) (a b d : BitVec 6) (w : BitVec 1),
     Issues s p k → guardN g n s (.core p) = false →
     let nothing := fun (i : Instr) => exec i s = .next (after s p id)
     nothing (.cmpeq g n pd a b) ∧ nothing (.cmpne g n pd a b) ∧ nothing (.cmplt g n pd a b) ∧ nothing (.cmple g n pd a b) ∧
     nothing (.cmpltn g n pd a b) ∧ nothing (.cmplen g n pd a b) ∧ nothing (.cmpbit g n pd a b) ∧
     nothing (.pfrom g n pd a b) ∧ (a.toNat < 32 → nothing (.pto g n d a w))) ∧
  (∀ (s : State) (p k : Nat) (r : Pred), givesP s p k 0 r 1 = after s p id) ∧
  (∀ (g : BitVec 5) (n : BitVec 1) (pd : BitVec 5) (a b d : BitVec 6) (w : BitVec 1) (x y : BitVec 5) (t : BitVec 4),
     let op := fun (i : Instr) => encode i / 2 ^ 25
     op (.cmpeq g n pd a b) = 0x34 ∧ op (.cmpne g n pd a b) = 0x35 ∧ op (.cmplt g n pd a b) = 0x36 ∧
     op (.cmple g n pd a b) = 0x37 ∧ op (.cmpltn g n pd a b) = 0x38 ∧ op (.cmplen g n pd a b) = 0x39 ∧
     op (.cmpbit g n pd a b) = 0x3A ∧ op (.plog pd x y t) = 0x3B ∧ op (.pfrom g n pd a b) = 0x3C ∧ op (.pto g n d a w) = 0x3D)

/-! ### Guards and decode checks (R51, R53, R60) -/

/-- R53. An instruction whose guard is false does nothing: its bundle moves on and no other part of the state changes.
`guardOf` reads the guard fields of the formats; SEL, which is not guarded, has none.
The model's own here, no rule of the manual: the count of free values that each step advances (log 4). -/
def Obligations.FalseGuardDoesNothing : Prop :=
  ∀ (s : State) (p k : Nat) (i : Instr) (g : BitVec 5) (n : BitVec 1),
    guardOf i = some (g, n) → i.wf = true → Issues s p k → (needsPort i = true → headBe s.header = true) →
    (readP s p g).getLsbD 0 = (n == 1) →
    exec i s = .next (after s p id)

/-- R60, R75, R153, R154. A word whose used field is out of limits takes the precise trap of an illegal instruction, with
the detail code of the check: nothing of the instruction is done.
R51, R75, R154. A bundle whose header has a reserved bit set, or be = 0 with bs ≠ 0, or le = 1 on an empty loop stack, or
be = 0 while its instruction selects the port, takes the precise trap of an illegal bundle, its detail the first of these.
R67, R60, R153. A word of a slot that is no instruction of the slot: opcode 0 with another bit set gives detail 1, an opcode of no
instruction 2, a word that no operands of its opcode encode to 3, and a stream-only instruction 6; whatever else its bundle
holds as NOP, it traps as an illegal instruction; two such words trap with the lower slot and both bits of TMASK; below a header
with a reserved bit set, as an illegal bundle with bit 5 and the slot's bit.
R52, R75. Two slots with one destination trap with detail 13, two control transfers with 14, two SHW of one field with 17: with the
higher slot, both in TMASK, whatever the guards.
R52, R74. A bundle commits as a whole, its slots reading what stood before it: of ADD in S0 and XOR in S1, with guards of their own,
both results go out, each from the old registers; while an operand of one is awaited both wait; where S1 holds TRAP, ADD is not
done.
R75. Of TRAP in S0 and an instruction in M that fails its own check at issue, the failing cause below TRAP is taken with both slots
in TMASK, and a fatal context error prevails over both.
The model's own here, no rule of the manual: the count of free values that each step advances (log 4); bit 5 alone of TMASK for a
port read without be (log 46); which instructions are held, and the agenda (log 5). -/
def Obligations.BundlesAndDecodeChecks : Prop :=
  (∀ (s : State) (p k : Nat) (i : Instr) (d : Nat),
     i.detail = some d → Issues s p k → (needsPort i = true → headBe s.header = true) →
     (s.core p).board = [] → (s.core p).steward = false →
     exec i s = .next (trapped s p { cause := 2, mask := 2 ^ k, slot := k, detail := d, addr := 0, arg := 0,
                                     bundle := BitVec.ofInt 32 (s.core p).pc })) ∧
  (∀ (s : State) (p k : Nat) (i : Instr),
     i.cls ≠ none → i.wf = true → i.streamOnly = false → s.powered = true → s.cur = .core p → s.slot = k →
     stateChecked i = false →
     (s.core p).board = [] → (s.core p).steward = false →
     let traps := fun (d : Nat) => exec i s = .next 
       (trapped s p { cause := 1, mask := 32, slot := 5, detail := d, addr := 0, arg := 0,
                      bundle := BitVec.ofInt 32 (s.core p).pc })
     let c9 := headRes s.header ≠ 0
     let c10 := headBe s.header = false ∧ headBs s.header ≠ 0
     let c11 := headLe s.header = true ∧ (s.core p).seq.loops = []
     let c12 := headBe s.header = false ∧ needsPort i = true
     (c9 → traps 9) ∧ (¬c9 → c10 → traps 10) ∧ (¬c9 → ¬c10 → c11 → traps 11) ∧ (¬c9 → ¬c10 → ¬c11 → c12 → traps 12)) ∧
  (∀ (c : SlotClass) (w : Nat), w ≠ 0 → w < 2 ^ 32 →
     let top := if c = .scalar then 2 ^ 25 else 2 ^ 26
     (w < top → decodeSlot c w = .error 1) ∧
     (top ≤ w → (∀ i : Instr, i.cls = some c → encode i / top ≠ w / top) → decodeSlot c w = .error 2) ∧
     (top ≤ w → (∃ i : Instr, i.cls = some c ∧ encode i / top = w / top) → (∀ i : Instr, i.cls = some c → encode i ≠ w) →
       decodeSlot c w = .error 3) ∧
     (∀ i : Instr, i.cls = some c → w = encode i → decodeSlot c w = (match i.detail with
       | some d => .error d
       | none => if i.streamOnly then .error 6 else .ok i))) ∧
  (∀ (s u : State) (p : Nat) (h : W32) (w : Nat → W32), Bundles s p h w u → (u.core p).board = [] → (u.core p).steward = false →
     let at_ := BitVec.ofInt 32 (u.core p).pc
     let traps := fun (cause mask slot detail : Nat) => step s = .next
       (trapped u p { cause := cause, mask := mask, slot := slot, detail := detail, addr := 0, arg := 0, bundle := at_ })
     (∀ (k d : Nat), k < 5 → decodeSlot (slotClass k) (w k).toNat = .error d → (∀ j, j < 5 → j ≠ k → w j = 0) →
       (GoodHead u p h → traps 2 (2 ^ k) k d) ∧ (headRes h ≠ 0 → traps 1 (32 + 2 ^ k) 5 9)) ∧
     (∀ (j k d e : Nat), j < k → k < 5 → decodeSlot (slotClass j) (w j).toNat = .error d →
       decodeSlot (slotClass k) (w k).toNat = .error e → (∀ n, n < 5 → n ≠ j → n ≠ k → w n = 0) → GoodHead u p h →
       traps 2 (2 ^ j + 2 ^ k) j d) ∧
     (∀ (j k : Nat) (a b : Instr), j < k → k < 5 → decodeSlot (slotClass j) (w j).toNat = .ok a →
       decodeSlot (slotClass k) (w k).toNat = .ok b → (∀ n, n < 5 → n ≠ j → n ≠ k → w n = 0) → GoodHead u p h →
       (needsPort a = true ∨ needsPort b = true → headBe h = true) →
       let shared := ∃ d, d ≠ Dest.none ∧ d ∈ (meaningOf a).dests (u.core p) ∧ d ∈ (meaningOf b).dests (u.core p)
       (shared → traps 1 (2 ^ j + 2 ^ k) k 13) ∧
       (¬shared → isTransfer a = true → isTransfer b = true → traps 1 (2 ^ j + 2 ^ k) k 14) ∧
       (∀ e g f x y, a = .shw e g f x → b = .shw e g f y → traps 1 (2 ^ j + 2 ^ k) k 17)) ∧
     (∀ (m : BitVec 19) (b : Instr), decodeSlot .scalar (w 0).toNat = .ok (.trap m) → decodeSlot .mem (w 2).toNat = .ok b →
       w 1 = 0 → w 3 = 0 → w 4 = 0 → GoodHead u p h → u.stopped = false →
       let e : Env := { agent := .core p, slot := 2, port := portValue u p h, pushed := (meaningOf b).pushes }
       (meaningOf b).acts u (.core p) = true → Settled u p ((meaningOf b).srcs (u.core p) ++ (meaningOf b).dests (u.core p)) →
       (meaningOf b).ready u e = true →
       (∀ cause detail addr arg, 3 ≤ cause → cause < 10 → (meaningOf b).check u e = some (.trap cause detail addr arg) →
         step s = .next (trapped u p { cause := cause, mask := 5, slot := 2, detail := detail, addr := addr, arg := arg,
                                       bundle := at_ })) ∧
       (∀ cause addr info, (meaningOf b).check u e = some (.fatal cause addr info) →
         step s = .next (fatalIn u p cause addr info)))) ∧
  (∀ (s u : State) (p : Nat) (h : W32) (w : Nat → W32) (g g' : BitVec 5) (n n' : BitVec 1) (d a b d' a' b' : BitVec 6)
     (v v' : BitVec 1), Bundles s p h w u → GoodHead u p h → u.stopped = false →
     decodeSlot .scalar (w 0).toNat = .ok (.add g n d a b v) → (∀ k, 2 ≤ k → k < 5 → w k = 0) →
     (decodeSlot .scalar (w 1).toNat = .ok (.xor g' n' d' a' b' v') → (d = 0 ∨ d ≠ d') →
       Settled u p [destS a', destS b', destS d'] →
       (Settled u p [destS a, destS b, destS d] →
         step s = .next (afterBundle u p h (fun c =>
           let c := if guardN g n u (.core p) = true
             then sends u p 0 (destS d) (asVec (atWidth v false (fun _ x y => x + y) (readS u p a) (readS u p b))) 1 0 c else c
           if guardN g' n' u (.core p) = true
           then sends u p 1 (destS d') (asVec (atWidth v' false (fun _ x y => x ^^^ y) (readS u p a') (readS u p b'))) 1 0 c
           else c))) ∧
       (guardN g n u (.core p) = true → awaited (u.core p) (destS a) = true →
         ∃ t, step s = .next t ∧ t.core p = { u.core p with nextIssue := u.cycle + 1, atSafe := false })) ∧
     (∀ m, decodeSlot .scalar (w 1).toNat = .ok (.trap m) → Settled u p [destS a, destS b, destS d] →
       (u.core p).board = [] → (u.core p).steward = false →
       step s = .next (trapped u p { cause := 10, mask := 2, slot := 1, detail := 0, addr := 0, arg := m.setWidth 32,
                                     bundle := BitVec.ofInt 32 (u.core p).pc })))

/-! ### Control transfers, loops, traps (R113 to R120, R154, R155) -/

/-- R113, R118. A taken BR goes to PC + off, a taken CALL too and sends PC + 1 to s62, a taken JMP to s[a]; le has no
effect.
R115. HALT: its bundle commits, the core issues nothing more, the loop stack and the rotating bases are discarded.
The model's own here, no rule of the manual: the count of free values that each step advances (log 4); what log entry 48 says. -/
def Obligations.TransfersAndHalt : Prop :=
  (∀ (s : State) (p k : Nat) (g : BitVec 5) (n : BitVec 1) (o : BitVec 19) (a : BitVec 6),
     Issues s p k → guardN g n s (.core p) = true →
     let pc := (s.core p).pc
     exec (.br g n o) s = .next (afterTo s p (pc + o.toInt) id) ∧
     (Settled s p [.s 62] →
       exec (.call g n o) s = .next (afterTo s p (pc + o.toInt)
         (sends s p k (.s 62) (asVec ((BitVec.ofInt 32 (pc + 1)).setWidth 64)) 1 0))) ∧
     (Settled s p [destS a] → exec (.jmp g n a) s = .next (afterTo s p (readS s p a).toNat id))) ∧
  (∀ (s : State) (p k : Nat), Issues s p k →
     exec .halt s = .next (afterTo s p ((s.core p).pc + 1)
       (fun c => { c with run := .halted, seq := { loops := [], vrb := 0, prb := 0 } })))

/-- R116. LOOP, LOOPI and LOOPS on a stack of depth below 6 push an entry that starts at the next bundle with index 0;
LOOPS also sends p16, all ones when the count is not 0.
R116, R154. A push onto a stack of depth 6 is a precise illegal-instruction trap with detail 7.
R117. LOOP_END resolves the loop end that core p's last bundle left pending: while index + 1 is below max(count + ep, 1)
the index rises, both bases step down, p16 of a LOOPS loop is written under its name after the rotation, and the PC goes to
start; otherwise the entry is popped and the PC goes on.
R119, R120. A taken LBRK pops the innermost loop and goes on at the next bundle; on an empty stack it is a precise
illegal-instruction trap with detail 8; with a false guard it does nothing. LIDX sends the 33-bit index of a level, or 0 of a
level deeper than the stack; a level above 5 is an illegal-instruction trap.
The model's own here, no rule of the manual: the count of free values that each step advances (log 4); that p16 is a
destination of LOOPS in the check of R52 (log 94). -/
def Obligations.LoopPushesEndsAndBreaks : Prop :=
  (∀ (s : State) (p k : Nat) (a : BitVec 6) (n : BitVec 19) (m : BitVec 13),
     Issues s p k → (s.core p).seq.loops.length < 6 →
     let pc := (s.core p).pc
     let pushes := fun (count : W32) (ep : BitVec 4) (stg : Bool) (c : Core) =>
       ({ c with seq := { c.seq with loops :=
           { start := BitVec.ofInt 32 (pc + 1), count := count, index := 0, ep := ep, stg := stg } :: c.seq.loops } } : Core)
     let count := (readS s p a).setWidth 32
     (Settled s p [destS a] → exec (.loop a) s = .next (afterTo s p (pc + 1) (pushes count 0 false))) ∧
     exec (.loopi n) s = .next (afterTo s p (pc + 1) (pushes (n.setWidth 32) 0 false)) ∧
     (m.toNat < 16 → Settled s p [destS a, destP (s.core p) 16] →
       exec (.loops a m) s = .next (afterTo s p (pc + 1) (fun c =>
         sends s p k (destP (s.core p) 16) (asVec (if count = 0 then (0 : Pred) else BitVec.allOnes 128)) 1 0
           (pushes count (m.setWidth 4) true c))))) ∧
  (∀ (s : State) (p k : Nat) (i : Instr),
     ((∃ a, i = .loop a) ∨ (∃ n, i = .loopi n) ∨ (∃ a m, i = .loops a m ∧ m.toNat < 16)) →
     Issues s p k → 6 ≤ (s.core p).seq.loops.length → (s.core p).board = [] → (s.core p).steward = false →
     exec i s = .next (trapped s p { cause := 2, mask := 2 ^ k, slot := k, detail := 7, addr := 0, arg := 0,
                                     bundle := BitVec.ofInt 32 (s.core p).pc })) ∧
  (∀ (s : State) (p : Nat) (e : LoopEntry) (r : List LoopEntry),
     s.powered = true → (s.core p).lePend = true → (s.core p).seq.loops = e :: r →
     let q := (s.core p).seq
     let turns := e.index.toNat + 1 < max (e.count.toNat + e.ep.toNat) 1
     let p16 : Flight :=
       { dest := .p (16 + (q.prb - 1).toNat)
         val := asVec (if e.index.toNat + 1 < e.count.toNat then BitVec.allOnes 128 else (0 : Pred))
         issue := s.cycle, due := s.cycle + 1, flags := 0, slot := 0
         bundle := BitVec.ofInt 32 (s.core p).pc, late := false, free := false }
     let core := fun (f : Core → Core) =>
       Host.Outcome.next (φ := Fault) (ρ := Refusal) (drawn s (s.onCore p f))
     (turns → e.stg = false → exec (.loopEnd p) s = core (fun c => { c with
       pc := e.start.toNat, lePend := false,
       seq := { loops := { e with index := e.index + 1 } :: r, vrb := q.vrb - 1, prb := q.prb - 1 } })) ∧
     (turns → e.stg = true → exec (.loopEnd p) s = core (fun c => { c with
       pc := e.start.toNat, lePend := false,
       seq := { loops := { e with index := e.index + 1 } :: r, vrb := q.vrb - 1, prb := q.prb - 1 },
       flights := c.flights ++ [p16] })) ∧
     (¬turns → exec (.loopEnd p) s = core (fun c => { c with
       pc := c.pc + 1, lePend := false, seq := { q with loops := r } }))) ∧
  (∀ (s : State) (p k : Nat) (g : BitVec 5) (n : BitVec 1) (d : BitVec 6) (m : BitVec 13),
     Issues s p k →
     (guardN g n s (.core p) = true → (s.core p).seq.loops ≠ [] →
       exec (.lbrk g n) s = .next (afterTo s p ((s.core p).pc + 1)
         (fun c => { c with seq := { c.seq with loops := c.seq.loops.tail } }))) ∧
     (guardN g n s (.core p) = true → (s.core p).seq.loops = [] → (s.core p).board = [] → (s.core p).steward = false →
       exec (.lbrk g n) s = .next (trapped s p { cause := 2, mask := 2 ^ k, slot := k, detail := 8, addr := 0, arg := 0,
                                                 bundle := BitVec.ofInt 32 (s.core p).pc })) ∧
     (m.toNat < 6 → Settled s p [destS d] →
       exec (.lidx d m) s = .next (givesS s p k d
         (match (s.core p).seq.loops[m.toNat]? with
          | some e => e.index.setWidth 64
          | none => 0) 1 0)) ∧
     (guardN g n s (.core p) = false → exec (.lbrk g n) s = .next (after s p id)) ∧
     (6 ≤ m.toNat → (s.core p).board = [] → (s.core p).steward = false →
       exec (.lidx d m) s = .next (trapped s p { cause := 2, mask := 2 ^ k, slot := k, detail := 4, addr := 0, arg := 0,
                                                 bundle := BitVec.ofInt 32 (s.core p).pc })))

/-- R39, R40, R36, R37. Every conversion between the formats 0 to 7, for every code, mode rm and sat, over all inputs. A floating source
to an integer format rounds under rm; within the range that integer is the result, and a zero is 0; outside it, or of an
infinity, the nearer end, with invalid; a NaN gives 0 with invalid; sat changes nothing. An integer source to a floating
format is rounded once under rm, so that I32 16,777,217 becomes F32 16,777,216 under RNE and I16 1,000 overflows AF8 to NaN; to
an integer format that holds it, its value is kept; to another it is clamped with sat = 1, and without it the low bits of its
two's complement form are kept; without a flag.
One rounding to a floating format under rm and sat, of a magnitude m × 2^e that is not zero: with its leading bit kept and the bits of the format's
precision below it, unbounded in exponent, it rounds to k0; when that exceeds the largest finite value it overflows, with the flag,
to the result of its mode, sat and sign (to AF8: NaN, or ±224 with sat); else the code holds the value rounded once at the spacing that
the format has there, subnormals included, and underflow is raised exactly when k0 lies below the smallest normal and the result is
inexact. A NaN gives the canonical NaN, with invalid when it signals; an infinity stays, or is the largest finite with sat; to AF8 it gives
NaN, or ±224 with sat, and raises invalid; a zero keeps its sign. -/
def Obligations.RoundingAndConversions : Prop :=
  (∀ (f rm : Nat) (sat neg : Bool), f < 4 → rm < 4 →
     let w := fracBits f
     let least : Int := 1 - expBias f
     let large := withSign f neg (maxFiniteCode f)
     let m9 := if f = 3 then 14 else 2 ^ (w + 1) - 1
     let e9 : Int := if f = 3 then 4 else expBias f - w
     fpOf f large = .fin neg m9 e9 ∧
     (∀ signals, fpRound f rm sat (.nan signals) = (canonNan f, if signals then flagInvalid else 0)) ∧
     fpRound f rm sat (.inf neg) =
       (if sat then large else if f = 3 then 0x7F else withSign f neg (infCode f), if f = 3 then flagInvalid else 0) ∧
     (∀ e, fpRound f rm sat (.fin neg 0 e) = (withSign f neg 0, 0)) ∧
     (∀ (m : Nat) (e : Int), m ≠ 0 →
       let q0 : Int := (Nat.log2 m : Int) + e - w
       ∃ k0, RoundsTo rm neg m e q0 k0 ∧
         (MagLt m9 e9 k0 q0 → fpRound f rm sat (.fin neg m e) =
           (if sat = true then large
            else if f = 3 then 0x7F
            else if rm = 0 ∨ (rm = 2 ∧ neg = false) ∨ (rm = 3 ∧ neg = true) then withSign f neg (infCode f)
            else large, flagOverflow)) ∧
         (¬MagLt m9 e9 k0 q0 →
           let q := max q0 (least - w)
           ∃ k c m' e', RoundsTo rm neg m e q k ∧
             fpRound f rm sat (.fin neg m e) = (c, if MagLt k0 q0 1 least ∧ ¬MagEq m e k q then flagUnderflow else 0) ∧
             c < 2 ^ fmtBits f ∧ fpOf f c = .fin neg m' e' ∧ MagEq m' e' k q))) ∧
  (∀ (sf df rm : Nat) (sat : Bool) (c : Nat), sf < 8 → df < 8 → rm < 4 → c < 2 ^ fmtBits sf →
     let r := convert sf df rm sat c
     (sf < 4 → df < 4 → r = fpRound df rm sat (fpOf sf c)) ∧
     (sf < 4 → 4 ≤ df →
       (isNan (fpOf sf c) = true → r = (0, flagInvalid)) ∧
       (∀ neg, fpOf sf c = .inf neg → HoldsInt df r.1 (if neg then intMin df else intMax df) ∧ r.2 = flagInvalid) ∧
       (∀ neg m e, fpOf sf c = .fin neg m e → ∃ k, RoundsTo rm neg m e 0 k ∧
         let i : Int := if neg then -(k : Int) else k
         (intMin df ≤ i → i ≤ intMax df → HoldsInt df r.1 i ∧ r.2 = 0) ∧
         (i < intMin df → HoldsInt df r.1 (intMin df) ∧ r.2 = flagInvalid) ∧
         (intMax df < i → HoldsInt df r.1 (intMax df) ∧ r.2 = flagInvalid))) ∧
     (4 ≤ sf → df < 4 → r = fpRound df rm sat (.fin (decide (intOf sf c < 0)) (intOf sf c).natAbs 0)) ∧
     (4 ≤ sf → 4 ≤ df →
       let i := intOf sf c
       r.2 = 0 ∧
       (intMin df ≤ i → i ≤ intMax df → HoldsInt df r.1 i) ∧
       (sat = true → (i < intMin df → HoldsInt df r.1 (intMin df)) ∧ (intMax df < i → HoldsInt df r.1 (intMax df))) ∧
       (sat = false → r.1 < 2 ^ fmtBits df ∧ (r.1 : Int) = i % (2 ^ fmtBits df : Nat)))) ∧
  convert 4 0 0 false 16777217 = (0x4B800000, 0) ∧ convert 5 3 0 false 1000 = (0x7F, flagOverflow)

/-- R155, R154, R153. TRAP always takes a precise trap, TCAUSE 10 with TINFO.arg = imm: the results in flight land, the trap
record is written, the steward flag set, the sequencer copied, and the PC takes the vector of cause 10.
R154 step 5, R3. In steward mode a trap is a fatal context error: the context stops in state 6 with its cores, one record
of kind 1 and cause 3 is made, and no trap record is written.
R155, R118. TRET in steward mode restores the sequencer copy, clears the steward flag and goes to TBUNDLE + imm; when it
skips an le bundle the loop end of that bundle is resolved. Outside steward mode it is an illegal instruction, detail 16.
The model's own here, no rule of the manual: the count of free values that each step advances (log 4); what log entry 17 says. -/
def Obligations.TrapEntryAndReturn : Prop :=
  (∀ (s : State) (p k : Nat) (m : BitVec 19),
     Issues s p k → (s.core p).board = [] → (s.core p).steward = false →
     exec (.trap m) s = .next (drawn s (s.onCore p (fun c =>
       { landAll s.freeCtr c with
         trap := { cause := 10, bundle := (BitVec.ofInt 32 c.pc).setWidth 64, mask := BitVec.ofNat 64 (2 ^ k), addr := 0,
                   info := m.setWidth 64 <<< 32 ||| BitVec.ofNat 64 (k % 256) <<< 24 }
         steward := true, stewSeq := c.seq, trapPend := none, atPadv := false, padvFail := none, nextIssue := s.cycle + 1
         pc := ((Tab.get (BitVec.allOnes 32) (s.ctx (s.ctxOf p)).vectors 10).toNat : Int) })))) ∧
  (∀ (s : State) (p k : Nat) (m : BitVec 19),
     Issues s p k → (s.core p).board = [] → (s.core p).steward = true →
     (s.core p).ctx = some (s.ctxOf p) → (s.ctx (s.ctxOf p)).state = 1 →
     ∃ t, exec (.trap m) s = .next t ∧ (t.ctx (s.ctxOf p)).state = 6 ∧ (t.core p).run = .stopped ∧
       (t.core p).trap = (s.core p).trap ∧ (t.core p).pc = (s.core p).pc ∧
       (s.held.length < 256 → s.faultQ.armed = false → ∃ r, t.held = s.held ++ [r] ∧ r.kind = 1 ∧ r.cause = 3 ∧
         r.ctx = s.ctxOf p)) ∧
  (∀ (s : State) (p k : Nat), Issues s p k →
     let b : Int := ((s.core p).trap.bundle.toNat % 2 ^ 32 : Nat)
     let back := fun (c : Core) => ({ c with seq := c.stewSeq, steward := false } : Core)
     let le := headLe ((s.ctx (s.ctxOf p)).code.getD (6 * ((s.core p).trap.bundle.toNat % 2 ^ 32)) 0)
     ((s.core p).steward = true →
       exec (.tret 0) s = .next (drawn s (s.onCore p (fun c => { transferred s b (back c) with padvRetry := true }))) ∧
       (le = false → exec (.tret 1) s = .next (afterTo s p (b + 1) back)) ∧
       (le = true → exec (.tret 1) s = .next (drawn s (s.onCore p (fun c => { transferred s b (back c) with lePend := true }))))) ∧
     ((s.core p).steward = false → (s.core p).board = [] → ∀ m : BitVec 19, m.toNat < 2 →
       exec (.tret m) s = .next (trapped s p { cause := 2, mask := 2 ^ k, slot := k, detail := 16, addr := 0, arg := 0,
                                               bundle := BitVec.ofInt 32 (s.core p).pc })))

/-! ### Control, shape and sticky registers (R146 to R152) -/

/-- R151, R152. KRD sends the control register that k names, with bound 4, in either mode; a number outside the table is an
illegal instruction with detail 15.
R151, R152, R189. KWR writes the trap record in steward mode, and KLPRG in either mode unless an LMMAR runs; outside
steward mode a write of the trap record, and in either mode a write of any other number, is an illegal instruction with
detail 15.
The model's own here, no rule of the manual: the count of free values that each step advances (log 4); what log entry 78 says of the reserved bits of
TINFO. -/
def Obligations.ControlRegisters : Prop :=
  (∀ (s : State) (p k : Nat) (d : BitVec 6) (m : BitVec 13),
     Issues s p k → Settled s p [destS d] →
     let c := s.core p
     let x := s.ctx (s.ctxOf p)
     let gives := fun (v : W64) => exec (.krd d m) s = .next (givesS s p k d v 4 0)
     (m.toNat = 0x00 → gives (if c.steward then 1 else 0)) ∧
     (m.toNat = 0x01 → c.lcore < 320 → gives (BitVec.ofNat 64 (c.lcore + c.lcore / 4 * 2 ^ 16))) ∧
     (m.toNat = 0x02 → s.ctxOf p < 64 → x.tenant < 16 → gives (BitVec.ofNat 64 (s.ctxOf p + x.tenant * 2 ^ 8))) ∧
     (m.toNat = 0x10 → gives c.trap.cause) ∧ (m.toNat = 0x11 → gives c.trap.bundle) ∧
     (m.toNat = 0x12 → gives c.trap.mask) ∧ (m.toNat = 0x13 → gives c.trap.addr) ∧
     (m.toNat = 0x14 → gives c.trap.info) ∧ (m.toNat = 0x20 → gives c.klprg) ∧
     (m.toNat ∉ [0x00, 0x01, 0x02, 0x10, 0x11, 0x12, 0x13, 0x14, 0x20] → c.board = [] → c.steward = false →
       exec (.krd d m) s = .next (trapped s p { cause := 2, mask := 2 ^ k, slot := k, detail := 15, addr := 0, arg := 0,
                                                bundle := BitVec.ofInt 32 c.pc }))) ∧
  (∀ (s : State) (p k : Nat) (a : BitVec 6) (m : BitVec 13),
     Issues s p k → Settled s p [destS a] →
     let c := s.core p
     let v := readS s p a
     let sets := fun (f : Core → Core) => exec (.kwr a m) s = .next (after s p f)
     (c.steward = true →
       (m.toNat = 0x10 → sets (fun c => { c with trap := { c.trap with cause := v } })) ∧
       (m.toNat = 0x11 → sets (fun c => { c with trap := { c.trap with bundle := v } })) ∧
       (m.toNat = 0x12 → sets (fun c => { c with trap := { c.trap with mask := v } })) ∧
       (m.toNat = 0x13 → sets (fun c => { c with trap := { c.trap with addr := v } })) ∧
       (m.toNat = 0x14 → sets (fun c => { c with trap := { c.trap with info := v &&& ~~~(0xFF0000 : W64) } }))) ∧
     (m.toNat = 0x20 → c.klprg.toNat / 2 ^ 62 = 1 → sets id) ∧
     (m.toNat = 0x20 → c.klprg.toNat / 2 ^ 62 ≠ 1 → sets (fun c => { c with klprg := v &&& 0xC0FF000000003FFF })) ∧
     (c.steward = false → c.board = [] → m.toNat ≠ 0x20 →
       exec (.kwr a m) s = .next (trapped s p { cause := 2, mask := 2 ^ k, slot := k, detail := 15, addr := 0, arg := 0,
                                                bundle := BitVec.ofInt 32 c.pc })))

/-- R146, R147. SHW writes one shadow field; SHRD sends one active field; SHSW exchanges the copies of one register. Engine e
has its registers 4e to 4e + 3.
R148, R150. EXRD sends the record of slot imm: addr, count, flags; EXCLR sets the record of slot imm to zero, or, with
imm = 5, all five.
The model's own here, no rule of the manual: the count of free values that each step advances (log 4). -/
def Obligations.ShapesAndStickyRecords : Prop :=
  (∀ (s : State) (p k : Nat) (e h : BitVec 2) (f : BitVec 3) (a : BitVec 6) (g : BitVec 5) (m : BitVec 6),
     Issues s p k →
     let act := fun (c : Core) (j : Nat) => Tab.get Shape.zero c.active j
     let shd := fun (c : Core) (j : Nat) => Tab.get Shape.zero c.shadow j
     (e ≠ 3 → Settled s p [destS a] →
       ∃ t, exec (.shw e h f a) s = .next t ∧
         (shd (t.core p) (4 * e.toNat + h.toNat)).field f.toNat = readS s p a ∧
         (∀ f', f' < 8 → f' ≠ f.toNat →
           (shd (t.core p) (4 * e.toNat + h.toNat)).field f' = (shd (s.core p) (4 * e.toNat + h.toNat)).field f') ∧
         (∀ j, j ≠ 4 * e.toNat + h.toNat → shd (t.core p) j = shd (s.core p) j) ∧
         t = after s p (fun c => { c with shadow := (t.core p).shadow })) ∧
     (e ≠ 3 → Settled s p [destS a] →
       exec (.shrd e h f a) s = .next (givesS s p k a ((act (s.core p) (4 * e.toNat + h.toNat)).field f.toNat) 1 0)) ∧
     (m.toNat < 3 → (readP s p g).getLsbD 0 = true →
       ∃ t, exec (.shsw h g m) s = .next t ∧
         act (t.core p) (4 * m.toNat + h.toNat) = shd (s.core p) (4 * m.toNat + h.toNat) ∧
         shd (t.core p) (4 * m.toNat + h.toNat) = act (s.core p) (4 * m.toNat + h.toNat) ∧
         (∀ j, j ≠ 4 * m.toNat + h.toNat → act (t.core p) j = act (s.core p) j ∧ shd (t.core p) j = shd (s.core p) j) ∧
         t = after s p (fun c => { c with active := (t.core p).active, shadow := (t.core p).shadow }))) ∧
  (∀ (s : State) (p k : Nat) (d : BitVec 6) (m : BitVec 13),
     Issues s p k →
     let rec_ := fun (c : Core) (j : Nat) => Tab.get Sticky.zero c.sticky j
     (m.toNat < 5 → Settled s p [destS d] →
       exec (.exrd d m) s = .next (givesS s p k d
         ((rec_ (s.core p) m.toNat).addr ++ ((rec_ (s.core p) m.toNat).count ++ (0 : BitVec 4)
           ++ (rec_ (s.core p) m.toNat).flags)) 1 0)) ∧
     (m.toNat < 6 → ∃ t, exec (.exclr m) s = .next t ∧
       (∀ j, j < 5 → rec_ (t.core p) j = if m.toNat = 5 ∨ j = m.toNat then Sticky.zero else rec_ (s.core p) j) ∧
       t = after s p (fun c => { c with sticky := (t.core p).sticky })))

/-! ### Counters (R329, R330) -/

/-- R329, R330. CNRD sends the counter that k names as it stands, zero-extended, with bound 4; CNCYC is the cycle of issue.
R329, R330, R331. CNCLR sets a context or core counter, or CNL2FIL, to zero, and CHF0 to CHF3 in steward mode; it is an
illegal instruction with detail 15 for a number outside the table, for CNCYC, CNTICK and CNL2OCC, and for CHF0 to CHF3
outside steward mode.
The model's own here, no rule of the manual: the count of free values that each step advances (log 4); what the log entries 20,
26 say. -/
def Obligations.Counters : Prop :=
  (∀ (s : State) (p k : Nat) (d : BitVec 6) (m : BitVec 13),
     Issues s p k → Settled s p [destS d] →
     let c := s.ctxOf p
     let x := s.ctx c
     let l := (s.core p).lcore
     let gives := fun (v : W64) => exec (.cnrd d m) s = .next (givesS s p k d v 4 0)
     (0x800 ≤ m.toNat → m.toNat ≤ 0x803 → gives (Tab.get 0 x.chf (4 * l + (m.toNat - 0x800)))) ∧
     (m.toNat = 0x810 → gives (BitVec.ofNat 64 s.cycle)) ∧
     (m.toNat = 0x811 → gives (BitVec.ofNat 64 s.tickets)) ∧
     (0x820 ≤ m.toNat → m.toNat ≤ 0x825 → gives (BitVec.ofNat 64 (Tab.get 0 x.ctr m.toNat))) ∧
     (m.toNat = 0x830 → gives (BitVec.ofNat 64 ((s.l2.filter (fun e => e.2.tenant == x.tenant)).length))) ∧
     (m.toNat = 0x831 → gives (BitVec.ofNat 64 (Tab.get 0 s.l2fill x.tenant))) ∧
     (0x840 ≤ m.toNat → m.toNat ≤ 0x844 → gives (BitVec.ofNat 64 (Tab.get 0 x.coreCtr (16 * l + (m.toNat - 0x840)))))) ∧
  (∀ (s : State) (p k : Nat) (m : BitVec 13),
     Issues s p k →
     let c := s.ctxOf p
     let l := (s.core p).lcore
     (0x820 ≤ m.toNat → m.toNat ≤ 0x825 → ∃ t, exec (.cnclr m) s = .next t ∧
       Tab.get 0 (t.ctx c).ctr m.toNat = 0 ∧ (∀ j, j ≠ m.toNat → Tab.get 0 (t.ctx c).ctr j = Tab.get 0 (s.ctx c).ctr j) ∧
       t = afterAll s p (s.onCtx c (fun x => { x with ctr := (t.ctx c).ctr }))) ∧
     (m.toNat = 0x831 → ∃ t, exec (.cnclr m) s = .next t ∧ Tab.get 0 t.l2fill (s.ctx c).tenant = 0 ∧
       (∀ j, j ≠ (s.ctx c).tenant → Tab.get 0 t.l2fill j = Tab.get 0 s.l2fill j) ∧
       t = afterAll s p { s with l2fill := t.l2fill }) ∧
     (0x840 ≤ m.toNat → m.toNat ≤ 0x844 → ∃ t, exec (.cnclr m) s = .next t ∧
       Tab.get 0 (t.ctx c).coreCtr (16 * l + (m.toNat - 0x840)) = 0 ∧
       (∀ j, j ≠ 16 * l + (m.toNat - 0x840) → Tab.get 0 (t.ctx c).coreCtr j = Tab.get 0 (s.ctx c).coreCtr j) ∧
       t = afterAll s p (s.onCtx c (fun x => { x with coreCtr := (t.ctx c).coreCtr }))) ∧
     (0x800 ≤ m.toNat → m.toNat ≤ 0x803 → (s.core p).steward = true → (s.ctx c).refused = [] →
       ∃ t, exec (.cnclr m) s = .next t ∧ Tab.get 0 (t.ctx c).chf (4 * l + (m.toNat - 0x800)) = 0 ∧
         (∀ j, j ≠ 4 * l + (m.toNat - 0x800) → Tab.get 0 (t.ctx c).chf j = Tab.get 0 (s.ctx c).chf j) ∧
         t = afterAll s p (s.onCtx c (fun x => { x with chf := (t.ctx c).chf }))) ∧
     (m.toNat ∉ [0x820, 0x821, 0x822, 0x823, 0x824, 0x825, 0x831, 0x840, 0x841, 0x842, 0x843, 0x844] →
       (s.core p).steward = false → (s.core p).board = [] →
       exec (.cnclr m) s = .next (trapped s p { cause := 2, mask := 2 ^ k, slot := k, detail := 15, addr := 0, arg := 0,
                                                bundle := BitVec.ofInt 32 (s.core p).pc })))

/-! ### Phases (R276 to R286) -/

/-- R276, R280. PBEG and PBEGA name a target: the phase register plus imm, mod 16, or imm; a target below the map count becomes
pending, fail and ready clear, the answers to requests for an old target will be discarded, and the comparison of the maps begins
unless a MAPLD still writes the target: a piece of work that the old target had begun keeps what is done of it, and lines that no map
asks for any more are unpinned; any other target is TCAUSE 2 with detail 49.
R277, R272, R275. The comparison takes each page of each valid region that holds no code, by its entries in the two maps. Toward ZERO or UNDEF a page is
allocated in its placement unless it stands there, and nothing is copied; toward L2PIN from another placement it is copied to HBM4E when
it lies elsewhere, and its lines are loaded; toward NEAR it is copied to HBM4E when it lies elsewhere; toward WIDE it is brought up
when it lies on storage; a page that stays off the package, or on storage, is re-encrypted when its key slot changes; any other page
makes no work.
R279, R284. PADV commits with its bundle once the commit has passed it; while neither that nor a failure has come it
freezes, arrived, with its PC where it was, and a yielded core of its context runs on (R293); on a transition that failed while it
waited, or before, it takes the trap of cause 11 with the target, the failure's address and its reason; as the retry after that trap it
begins the transition anew toward the same target.
The model's own here, no rule of the manual: the count of free values that each step advances (log 4); what log entry 47 says; that a
yielded core runs on (log 66); that a dropped request stays listed until its answer (log 82). -/
def Obligations.PhaseBeginAndAdvance : Prop :=
  (∀ (s : State) (p k : Nat) (m : BitVec 13) (i : Instr) (t : Nat),
     Issues s p k → m.toNat < 16 →
     let c := s.ctxOf p
     (i = .pbeg m ∧ t = ((s.ctx c).phase.toNat + m.toNat) % 16) ∨ (i = .pbega m ∧ t = m.toNat) →
     (t < (s.ctx c).mapCount →
       let u : State := { s with reqs := s.reqs.map (fun r => if r.ctx = c ∧ r.kind = 1 then { r with dead := true } else r) }
       let old := (s.ctx c).tr.work.map (fun (w : WorkItem) => { w with wait := 0 })
       let busy := (s.ctx c).mapld.any (fun j => j.map == t)
       let v := u.onCtx c (fun x => { x with tr := { x.tr with
         pend := true, fail := false, ready := false, tgt := BitVec.ofNat 4 t, failAddr := 0, failWhy := 0
         work := if busy = true then old else (compareMaps u c t).map (keptWork old) } })
       exec i s = .next (afterAll s p (if busy = true then v else unpinIdle v))) ∧
     ((s.ctx c).mapCount ≤ t → (s.core p).board = [] → (s.core p).steward = false →
       exec i s = .next (trapped s p { cause := 2, mask := 2 ^ k, slot := k, detail := 49, addr := 0, arg := 0,
                                       bundle := BitVec.ofInt 32 (s.core p).pc }))) ∧
  (∀ (s : State) (p k : Nat), Issues s p k →
     let tr := (s.ctx (s.ctxOf p)).tr
     let waits := fun (s : State) =>
       let t := s.onCore p (fun c => { c with atPadv := true, padvRetry := false })
       ({ t with cores := Tab.mapVal t.cores (runOn (s.ctxOf p)) } : State).onCore p
         (fun c => { c with atSafe := false, nextIssue := s.cycle + 1 })
     let traps := fun (why : Nat) (ad : W64) (tgt : W32) => (s.core p).board = [] → (s.core p).steward = false →
       exec .padv s = .next (trapped s p { cause := 11, mask := 2 ^ k, slot := k, detail := why, addr := ad, arg := tgt,
                                           bundle := BitVec.ofInt 32 (s.core p).pc })
     ((s.core p).padvDone = true → exec .padv s = .next (after s p id)) ∧
     ((s.core p).padvDone = false → (s.core p).padvFail = none → tr.fail = false → exec .padv s = .next (drawn s (waits s))) ∧
     ((s.core p).padvDone = false → (s.core p).padvFail = none → tr.fail = true → (s.core p).padvRetry = true →
       exec .padv s = .next (drawn s (waits (beginTo (s.ctxOf p) tr.tgt.toNat s)))) ∧
     ((s.core p).padvDone = false → (s.core p).padvFail = none → tr.fail = true → (s.core p).padvRetry = false →
       traps tr.failWhy tr.failAddr (tr.tgt.setWidth 32)) ∧
     (∀ why ad tgt, (s.core p).padvDone = false → (s.core p).padvFail = some (why, ad, tgt) →
       traps why ad (BitVec.ofNat 32 tgt))) ∧
  (∀ (s : State) (c t : Nat) (w : WorkItem),
     w ∈ compareMaps s c t ↔ ∃ r e page, (r, e) ∈ (s.ctx c).regions ∧ regValid e = true ∧ regCode e = false ∧ page ∈ regPages e ∧
       w ∈ pageWork s c r (mapEntry (s.ctx c) (s.ctx c).phase.toNat r) (mapEntry (s.ctx c) t r) page) ∧
  (∀ (s : State) (c r page : Nat) (cur next : BitVec 128),
     let l := placeOf s c page
     let at_ := fun (e : BitVec 128) => (e.extractLsb' 66 2).toNat
     let key := (next.extractLsb' 84 12).toNat
     let afresh := next.extractLsb' 68 2 = 1 ∨ next.extractLsb' 68 2 = 2
     let item := fun (wide copy pin : Bool) =>
       ({ region := r, page := page, tier := 0, die := 0, wide := wide, alloc := false, copy := copy, pin := pin, resealed := false
          key := key, done := if copy || pin then 0 else BitVec.allOnes 16, marks := 0, wait := 0 } : WorkItem)
     let work := pageWork s c r cur next page
     let rest := work = (if l.key = key ∨ l.tier < 2 then []
       else if l.tier = 4 then [{ item true true false with resealed := true }]
       else [{ item false true false with resealed := true, tier := l.tier, die := l.die, spot := l.spot, alloc := true }])
     (at_ next = 0 → rest) ∧
     (at_ next = 1 → afresh → work = (if l.tier = 0 then [] else [{ item false false false with fresh := true }])) ∧
     (at_ next = 2 → afresh → work = (if l.tier < 2 then [] else [{ item true false false with fresh := true }])) ∧
     (at_ next = 3 → afresh → work = (if at_ cur = 3 then [] else [{ item false false true with fresh := true }])) ∧
     (at_ next = 1 → ¬afresh → (l.tier ≠ 0 → work = [item false true false]) ∧ (l.tier = 0 → rest)) ∧
     (at_ next = 2 → ¬afresh → (l.tier = 4 → work = [item true true false]) ∧ (l.tier ≠ 4 → rest)) ∧
     (at_ next = 3 → ¬afresh → (at_ cur ≠ 3 → work = [item false (l.tier != 0) true]) ∧ (at_ cur = 3 → rest)))

/-- R285. PQRY sends the transition state, with bound 4: pend, fail, ready, mfail in bits 63 to 60, left in 39:16, which is 0 while a
MAPLD still writes the target (R276), the map count in 12:8, the pending target in 7:4, the phase in 3:0, and zeros elsewhere.
R286. MAPLD at an aligned address that passes the checks of an LDG starts the load of map imm; of one on another device it asks
for the row of the image's header, as an LDG of class ORD; the checks fail in their order: imm above the map count (detail 50), the current phase or a pending target (51), a misaligned address (52); an address that fails the checks of R161 is a fatal context error of cause 1.
The model's own here, no rule of the manual: the count of free values that each step advances (log 4); the packets of a remote image
(log 84); info 0 of the fatal error (log 17). -/
def Obligations.PhaseQueryAndMapLoad : Prop :=
  (∀ (s : State) (p k : Nat) (d : BitVec 6),
     Issues s p k → Settled s p [destS d] → (s.ctx (s.ctxOf p)).mapCount ≤ 16 →
     let x := s.ctx (s.ctxOf p)
     ∃ w : W64, exec (.pqry d) s = .next (givesS s p k d w 4 0) ∧
       w.getLsbD 63 = x.tr.pend ∧ w.getLsbD 62 = x.tr.fail ∧ w.getLsbD 61 = x.tr.ready ∧ w.getLsbD 60 = x.tr.mfail ∧
       w.extractLsb' 40 20 = 0 ∧ w.extractLsb' 13 3 = 0 ∧
       (w.extractLsb' 16 24).toNat = (if x.tr.pend = true ∧ (∀ j ∈ x.mapld, j.map ≠ x.tr.tgt.toNat) then min ((x.tr.work.map WorkItem.left).sum) 0xFFFFFF else 0) ∧
       (w.extractLsb' 8 5).toNat = x.mapCount ∧
       w.extractLsb' 4 4 = (if x.tr.pend then x.tr.tgt else 0) ∧ w.extractLsb' 0 4 = x.phase) ∧
  (∀ (s : State) (p k : Nat) (a : BitVec 6) (m : BitVec 13),
     Issues s p k → Settled s p [destS a] → m.toNat < 16 →
     let c := s.ctxOf p
     let x := s.ctx c
     let ad := readS s p a
     let c50 := x.mapCount < m.toNat
     let c51 := m.toNat = x.phase.toNat ∨ (x.tr.pend = true ∧ m.toNat = x.tr.tgt.toNat)
     let c52 := ad.toNat % 16 ≠ 0
     let traps := fun (d : Nat) => (s.core p).board = [] → (s.core p).steward = false → exec (.mapld a m) s = .next
       (trapped s p { cause := 2, mask := 2 ^ k, slot := k, detail := d, addr := 0, arg := 0,
                      bundle := BitVec.ofInt 32 (s.core p).pc })
     (c50 → traps 50) ∧ (¬c50 → c51 → traps 51) ∧ (¬c50 → ¬c51 → c52 → traps 52) ∧
     (¬c50 → ¬c51 → ¬c52 → globalOk s c ad .load = false → exec (.mapld a m) s = .next (fatalIn s p 1 ad 0)) ∧
     (¬c50 → ¬c51 → ¬c52 → globalOk s c ad .load = true →
       let begun := s.onCtx c (fun x => { x with mapld :=
         x.mapld ++ [{ core := p, map := m.toNat, addr := ad, issue := s.cycle, bundle := BitVec.ofInt 32 (s.core p).pc }] })
       (isRemote ad = false → exec (.mapld a m) s = .next (afterAll s p begun)) ∧
       (isRemote ad = true → ∃ pkt : Packet, exec (.mapld a m) s = .next (afterAll s p { begun with out := s.out ++ [pkt] }) ∧
         pkt.dev = devOf ad ∧ pkt.ctx = c ∧ pkt.core = lcoreAt s p c ∧ pkt.chan = 4 ∧ pkt.rc = 0 ∧ pkt.kind = .loadRow ∧
         pkt.va = vaOf ad / 512 * 512)))

/-! ### Publication (R313 to R315) -/

/-- R312, R313. PUB of a valid published buffer whose core has nothing outstanding inverts the buffer's swapped bit for every
observer at once, and no other entry of the buffer table; with an earlier access outstanding it waits on the board; a tag
that is out of range or names no valid published buffer is TCAUSE 2 with detail 58.
R314. PUBG with nothing earlier outstanding, at a local guard that its context may change live and that no host-tier page holds
(R351): on a zero guard every buffer of the group is swapped and the word at the guard + 8 rises by 1, on any other none is swapped and the
word at the guard + 16 rises by 1; no other byte of memory changes; an odd a field is detail 59, a tag that names no valid published buffer
58, a remote guard 63.
R315, R314. PUBD of a group of valid published buffers starts the copy of their fronts into their backs, and changes
nothing else at issue; a tag that names none is TCAUSE 2 with detail 58.
The model's own here, no rule of the manual: the count of free values that each step advances (log 4); what log entry 19 says. -/
def Obligations.Publications : Prop :=
  (∀ (s : State) (p k : Nat) (a : BitVec 6) (m : BitVec 13),
     Issues s p k → Settled s p [destS a] →
     let c := s.ctxOf p
     let tag := (readS s p a + m.signExtend 64).toNat
     let entry := fun (t : State) (j : Nat) => Tab.get (0 : BitVec 256) (t.ctx c).buffers j
     let ok := tag < 4096 ∧ (entry s tag).getLsbD 0 = true ∧ (entry s tag).getLsbD 1 = true
     (ok → (s.core p).board = [] → (s.core p).pubds = [] →
       ∃ t, exec (.pub a m) s = .next t ∧
         entry t tag = entry s tag ^^^ 4 ∧ (∀ j, j ≠ tag → entry t j = entry s j) ∧
         (t.core p).pc = ((after s p id).core p).pc ∧ (t.core p).s = (s.core p).s ∧ (t.core p).flights = (s.core p).flights ∧
         t.mem = s.mem) ∧
     (ok → (∃ e ∈ (s.core p).board, e.kind = .store ∧ e.issue < s.cycle) →
       ∃ t e, exec (.pub a m) s = .next t ∧ (∀ j, entry t j = entry s j) ∧
         (t.core p).board = (s.core p).board ++ [e] ∧ e.kind = .pub ∧ e.x = BitVec.ofNat 64 tag ∧ e.y = 1 ∧ e.dest = .none) ∧
     (¬ok → (s.core p).board = [] → (s.core p).steward = false →
       exec (.pub a m) s = .next (trapped s p { cause := 2, mask := 2 ^ k, slot := k, detail := 58, addr := 0, arg := 0,
                                                bundle := BitVec.ofInt 32 (s.core p).pc }))) ∧
  (∀ (s : State) (p k : Nat) (a : BitVec 6),
     Issues s p k → Settled s p [destS a, destS (a + 1)] →
     let c := s.ctxOf p
     let gd := readS s p a
     let w := readS s p (a + 1)
     let t0 := w.toNat % 4096
     let n := w.toNat / 4096 % 4096 + 1
     let entry := fun (t : State) (j : Nat) => Tab.get (0 : BitVec 256) (t.ctx c).buffers j
     let ok := ∀ j, t0 ≤ j → j < t0 + n → j < 4096 ∧ (entry s j).getLsbD 0 = true ∧ (entry s j).getLsbD 1 = true
     let traps := fun (d : Nat) => (s.core p).board = [] → (s.core p).steward = false → exec (.pubg a) s = .next
       (trapped s p { cause := 2, mask := 2 ^ k, slot := k, detail := d, addr := 0, arg := 0,
                      bundle := BitVec.ofInt 32 (s.core p).pc })
     (a.toNat % 2 = 1 → traps 59) ∧
     (a.toNat % 2 = 0 → ¬ok → traps 58) ∧
     (a.toNat % 2 = 0 → ok → isRemote gd = true → traps 63) ∧
     (a.toNat % 2 = 0 → ok → isRemote gd = false → globalOk s c gd .live = true → poisoned s c (rowVa gd) = false →
       (placeOf s c (sideVa (s.ctx c) false (vaOf gd) / 65536)).tier ≠ 3 → (s.core p).board = [] → (s.core p).pubds = [] →
       ∃ t, exec (.pubg a) s = .next t ∧
         (∀ j, entry t j =
           if memWord s c (vaOf gd) = 0 ∧ t0 ≤ j ∧ j < t0 + n then entry s j ^^^ 4 else entry s j) ∧
         let u := s.onCtx c (fun x => { x with buffers := (t.ctx c).buffers })
         let count := (vaOf gd / 8 * 8 + (if memWord s c (vaOf gd) = 0 then 8 else 16)) % 2 ^ 48
         t.mem = s.mem.write (keyOf u c count) 8 (memWord u c count + 1).toNat)) ∧
  (∀ (s : State) (p k : Nat) (a : BitVec 6),
     Issues s p k → Settled s p [destS a] →
     let c := s.ctxOf p
     let w := readS s p a
     let t0 := w.toNat % 4096
     let n := w.toNat / 4096 % 4096 + 1
     let ok := ∀ j, t0 ≤ j → j < t0 + n → j < 4096 ∧ (Tab.get (0 : BitVec 256) (s.ctx c).buffers j).getLsbD 0 = true ∧
       (Tab.get (0 : BitVec 256) (s.ctx c).buffers j).getLsbD 1 = true
     (ok → exec (.pubd a) s = .next (after s p (fun q => { q with pubds := q.pubds ++ [
       { ctx := c, tag := t0, n := n, issue := s.cycle }] }))) ∧
     (¬ok → (s.core p).board = [] → (s.core p).steward = false →
       exec (.pubd a) s = .next (trapped s p { cause := 2, mask := 2 ^ k, slot := k, detail := 58, addr := 0, arg := 0,
                                               bundle := BitVec.ofInt 32 (s.core p).pc })))

/-! ### Tenants and keys (R319, R323) -/

/-- R319. WAYM sets the fill mask of its context's tenant to bits 15:0 of s[a] AND allowed, and no other bit of a tenant entry.
In a tenant entry allowed is bits 15:0 and mask is bits 47:32.
R322, R323. KEYSET of a slot k in the tenant's window that is not LIVE makes it LIVE for the tenant: with a key of the
device's source when s[b] = 0, else with the 32 bytes at s[b], read as an LDG of its core reads the row or rows that hold them; those of
another device it asks for with one access for each row, and each row that returns puts its bytes into the key. KEYKILL makes a LIVE slot
KILLED with key 0 and leaves any other alone, and a transition's transfers out of the package under a slot that its tenant may not use
are abandoned (`abandonKeys`): the page stays where it is, its work is done anew, and the target map is not true meanwhile; a slot outside the
window is detail 60, a LIVE one under KEYSET detail 61. In a tenant entry kbase is bits 95:84 and kcount bits 108:96.
The model's own here, no rule of the manual: the count of free values that each step advances (log 4); what log entry 8 says; that a remote
KEYSET is LIVE from its commit and takes its rows as they return (log 20). -/
def Obligations.FillMaskAndKeySlots : Prop :=
  (∀ (s : State) (p k : Nat) (a : BitVec 6),
     Issues s p k → Settled s p [destS a] →
     let n := (s.ctx (s.ctxOf p)).tenant
     let e := fun (t : State) (j : Nat) => Tab.get (0 : BitVec 128) t.tenants j
     ∃ t, exec (.waym a) s = .next t ∧
       (e t n).extractLsb' 32 16 = (readS s p a).setWidth 16 &&& (e s n).setWidth 16 ∧
       (∀ b, b < 32 ∨ 48 ≤ b → (e t n).getLsbD b = (e s n).getLsbD b) ∧ (∀ j, j ≠ n → e t j = e s j) ∧
       t = afterAll s p { s with tenants := t.tenants }) ∧
  (∀ (s : State) (p k : Nat) (a b : BitVec 6),
     Issues s p k → Settled s p [destS a] →
     let n := (s.ctx (s.ctxOf p)).tenant
     let te := Tab.get (0 : BitVec 128) s.tenants n
     let q := (readS s p a).toNat % 4096
     let slot := fun (t : State) (j : Nat) => Tab.get KeySlot.zero t.keys j
     let inside := (te.extractLsb' 84 12).toNat ≤ q ∧ q < (te.extractLsb' 84 12).toNat + (te.extractLsb' 96 13).toNat
     let traps := fun (i : Instr) (d : Nat) => (s.core p).board = [] → (s.core p).steward = false → exec i s = .next
       (trapped s p { cause := 2, mask := 2 ^ k, slot := k, detail := d, addr := 0, arg := 0,
                      bundle := BitVec.ofInt 32 (s.core p).pc })
     (¬inside → traps (.keykill a) 60) ∧
     (¬inside → Settled s p [destS b] → traps (.keyset a b) 60) ∧
     (inside → (slot s q).state = 1 → Settled s p [destS b] → traps (.keyset a b) 61) ∧
     (inside → (slot s q).state ≠ 1 → Settled s p [destS b] →
       let y := readS s p b
       let off := vaOf y % 512
       let local_ := isRemote y = false ∧ globalOk s (s.ctxOf p) y .load = true ∧ poisoned s (s.ctxOf p) (rowVa y) = false ∧
         (480 < off → poisoned s (s.ctxOf p) (rowVa y + 512) = false)
       let takes := fun (t : State) => exec (.keyset a b) s = .next t ∧ (slot t q).state = 1 ∧ (slot t q).tenant = n ∧
         (∀ j, j ≠ q → slot t j = slot s j)
       (y = 0 → ∃ t, takes t ∧ (slot t q).key = Config.randomKey (2 * s.freeCtr + k % 2) ∧
         t = afterAll s p { s with keys := t.keys }) ∧
       (y ≠ 0 → local_ → ∃ t, takes t ∧ t = afterAll s p { s with keys := t.keys } ∧
         ∀ i, i < 256 → (slot t q).key.getLsbD i =
           (loadRow s p (s.ctxOf p) (rowVa y + 512 * ((8 * off + i) / 4096))).getLsbD ((8 * off + i) % 4096)) ∧
       (y ≠ 0 → isRemote y = true → globalOk s (s.ctxOf p) y .load = true →
         ∃ t l, takes t ∧ (t.core p).board = (s.core p).board ++ l ∧ l.length = (if 480 < off then 2 else 1) ∧
           ∀ e ∈ l, e.kind = .keyset ∧ e.remote = true ∧ e.dest = .none ∧ e.x = BitVec.ofNat 64 q ∧ e.addr2 = y)) ∧
     (inside → ∃ t, exec (.keykill a) s = .next t ∧
       ((slot s q).state = 1 → (slot t q).state = 2 ∧ (slot t q).key = 0) ∧
       ((slot s q).state ≠ 1 → slot t q = slot s q) ∧
       (∀ j, j ≠ q → slot t j = slot s j) ∧ t = afterAll s p (abandonKeys { s with keys := t.keys }))) ∧
  (∀ (s : State) (c : Nat),
     let x := s.ctx c
     let y := (abandonKeys s).ctx c
     let lost := fun (w : WorkItem) => w.alloc = true ∧ 2 ≤ w.tier ∧ keyUsable s x.tenant w.key = false
     y.tr.work.length = x.tr.work.length ∧
     (∀ (i : Nat) (w : WorkItem), x.tr.work[i]? = some w → ∃ v, y.tr.work[i]? = some v ∧ (¬lost w → v = w) ∧
       (lost w → v = { w with alloc := !w.wide, got := 0, done := if w.copy = true ∨ w.pin = true then 0 else w.done, marks := 0 })) ∧
     (y.tr.work ≠ x.tr.work → y.tr.ready = false) ∧ y = { x with tr := { x.tr with work := y.tr.work, ready := y.tr.ready } }) ∧
  (∀ (s : State) (p i : Nat) (e : Access) (r : Reply),
     s.powered = true → coreAlive s p = true → (s.core p).board[i]? = some e → e.kind = .keyset → e.remote = true →
     e.sent = true → r.poisoned = false → (rowVa e.addr = rowVa e.addr2 ∨ rowVa e.addr = (rowVa e.addr2 + 512) % 2 ^ 48) →
     let slot := fun (t : State) (j : Nat) => Tab.get KeySlot.zero t.keys j
     let off := vaOf e.addr2 % 512
     ∃ t, exec (.scoreboardArrive p i r) s = .next t ∧ (t.core p).board = (s.core p).board.eraseIdx i ∧
       (∀ j, j ≠ e.x.toNat → slot t j = slot s j) ∧
       ((slot s e.x.toNat).state = 1 → (slot s e.x.toNat).epoch = e.y.toNat →
         ∀ b, b < 256 → (slot t e.x.toNat).key.getLsbD b =
           if rowVa e.addr = rowVa e.addr2
           then (if 8 * off + b < 4096 then r.data.getLsbD (8 * off + b) else (slot s e.x.toNat).key.getLsbD b)
           else (if 8 * off + b < 4096 then (slot s e.x.toNat).key.getLsbD b else r.data.getLsbD (8 * off + b - 4096))))

/-! ### Vector slot (R125 to R140, R192, R193) -/

/-- R127, R128, R129, R130, R133. The element-wise arithmetic, minimum, maximum, sign, saturating and shift instructions: each
element of a guarded-on lane takes the result of its row, floating results rounded once to the format, integer results
wrapped or clamped; bound 4; the flags of guarded-on elements only.
The model's own here, no rule of the manual: the count of free values that each step advances (log 4). -/
def Obligations.VectorArithmetic : Prop :=
  ∀ (s : State) (p k : Nat) (g : BitVec 5) (d a b : BitVec 6) (f : BitVec 3),
    Issues s p k → SettledV s p [a, d] →
    let n := f.toNat
    let z := 2 ^ fmtBits n
    let x := elem (readV s p a) (fmtBits n)
    let y := bOf s p b n
    let w := elem (readV s p d) (fmtBits n)
    let q := fun (c : Nat) => fpOf n c
    let gives := fun (i : Instr) (op : Nat → Nat × Flags) => SendsLanes i s p k d n (readP s p g) 4 op
    (BSettled s p b → f ≠ 3 →
      gives (.vadd g d a b f) (fun j => if n < 4 then rounded n (fpAdd 0 (q (x j)) (q (y j))) else ((x j + y j) % z, 0)) ∧
      gives (.vsub g d a b f) (fun j =>
        if n < 4 then rounded n (fpAdd 0 (q (x j)) (fpNeg (q (y j)))) else ((x j + (z - y j)) % z, 0)) ∧
      gives (.vmul g d a b f) (fun j => if n < 4 then rounded n (fpMul (q (x j)) (q (y j))) else ((x j * y j) % z, 0)) ∧
      gives (.vfma g d a b f) (fun j =>
        if n < 4 then
          let m := fpMul (q (x j)) (q (y j))
          let t := fpAdd 0 m.1 (q (w j))
          rounded n (t.1, m.2 ||| t.2)
        else ((x j * y j + w j) % z, 0)) ∧
      gives (.vfms g d a b f) (fun j =>
        if n < 4 then
          let m := fpMul (q (x j)) (q (y j))
          let t := fpAdd 0 m.1 (fpNeg (q (w j)))
          rounded n (t.1, m.2 ||| t.2)
        else ((x j * y j + (z - w j)) % z, 0)) ∧
      gives (.vmin g d a b f) (fun j => lesser false n (x j) (y j)) ∧
      gives (.vmax g d a b f) (fun j => lesser true n (x j) (y j))) ∧
    (f ≠ 3 → f ≠ 7 →
      gives (.vneg g d a f) (fun j =>
        if n < 4 then
          if isNan (q (x j)) then (canonNan n, sigFlag (q (x j))) else ((x j + z / 2) % z, 0)
        else ((z - x j) % z, 0)) ∧
      gives (.vabs g d a f) (fun j =>
        if n < 4 then
          if isNan (q (x j)) then (canonNan n, sigFlag (q (x j))) else (x j % (z / 2), 0)
        else (if x j < z / 2 then x j else z - x j, 0))) ∧
    (BSettled s p b → 4 ≤ n →
      gives (.vminn g d a b f) (fun j => (min (x j) (y j), 0)) ∧
      gives (.vmaxn g d a b f) (fun j => (max (x j) (y j), 0)) ∧
      gives (.vadds g d a b f) (fun j =>
        (intCode n (max (intMin n) (min (intMax n) (intOf n (x j) + intOf n (y j)))), 0)) ∧
      gives (.vsubs g d a b f) (fun j =>
        (intCode n (max (intMin n) (min (intMax n) (intOf n (x j) - intOf n (y j)))), 0)) ∧
      gives (.vshl g d a b f) (fun j => (x j * 2 ^ (y j % fmtBits n) % z, 0)) ∧
      gives (.vshr g d a b f) (fun j => (x j / 2 ^ (y j % fmtBits n), 0)) ∧
      gives (.vsra g d a b f) (fun j =>
        (x j / 2 ^ (y j % fmtBits n) + (if x j < z / 2 then 0 else z - z / 2 ^ (y j % fmtBits n)), 0)))

/-- R132, R134, R135. The instructions that carry patterns: VAND, VOR, VXOR, VMOV; VSEL, which its predicate does not guard;
VPERM; VROTM, whose count is 32-bit lane 0 of v[b] or the low half of the port. None raises a flag.
The model's own here, no rule of the manual: the count of free values that each step advances (log 4). -/
def Obligations.VectorPatterns : Prop :=
  ∀ (s : State) (p k : Nat) (g : BitVec 5) (d a b : BitVec 6) (f : BitVec 3),
    Issues s p k → SettledV s p [a, d] → BSettled s p b →
    let n := f.toNat
    let e := 4096 / fmtBits n
    let x := elem (readV s p a) (fmtBits n)
    let y := bOf s p b n
    let w := elem (readV s p d) (fmtBits n)
    let q := readP s p g
    let gives := fun (i : Instr) (guard : Pred) (lat : Nat) (op : Nat → Nat) =>
      SendsLanes i s p k d n guard lat (fun j => (op j, 0))
    gives (.vand g d a b f) q 4 (fun j => x j &&& y j) ∧
    gives (.vor g d a b f) q 4 (fun j => x j ||| y j) ∧
    gives (.vxor g d a b f) q 4 (fun j => x j ^^^ y j) ∧
    gives (.vmov g d a f) q 4 x ∧
    gives (.vsel g d a b f) (BitVec.allOnes 128) 4
      (fun j => if q.getLsbD (j * fmtBytes n / 4) = true then x j else y j) ∧
    (n ≠ 3 → n < 6 → gives (.vperm g d a b f) q 3 (fun j => x (y j % e))) ∧
    gives (.vrotm g d a b f) q 3 (fun j => if j + bOf s p b 0 0 % e < e then x (j + bOf s p b 0 0 % e) else w (j + bOf s p b 0 0 % e - e))

/-- R131, R136. The four functions, rounded once to the format, with bound 12; and the reductions in the tree of R43, an element
of a guarded-off lane entering as the neutral value, the one result going to every element of a guarded-on lane, with
bound 8.
The model's own here, no rule of the manual: the count of free values that each step advances (log 4); what log entry 45 says. -/
def Obligations.VectorFunctionsAndReductions : Prop :=
  ∀ (s : State) (p k : Nat) (g : BitVec 5) (d a : BitVec 6) (f : BitVec 3),
    Issues s p k → SettledV s p [a, d] →
    let n := f.toNat
    let x := elem (readV s p a) (fmtBits n)
    let q := readP s p g
    let levels := if fmtBytes n = 4 then 7 else if fmtBytes n = 2 then 8 else 9
    let leaf := fun (neutral : Nat) (j : Nat) => if q.getLsbD (j * fmtBytes n / 4) = true then x j else neutral
    let gives := fun (i : Instr) (lat : Nat) (op : Nat → Nat × Flags) => SendsLanes i s p k d n q lat op
    (n < 3 →
      gives (.vrcp g d a f) 12 (fun j => rounded n (fpRcp (fpOf n (x j)))) ∧
      gives (.vrsq g d a f) 12 (fun j => rounded n (fpRsq (fpOf n (x j)))) ∧
      gives (.vexp2 g d a f) 12 (fun j => rounded n (fpExp2 (fpOf n (x j)))) ∧
      gives (.vlog2 g d a f) 12 (fun j => rounded n (fpLog2 (fpOf n (x j))))) ∧
    (n ≠ 3 →
      gives (.vrsum g d a f) 8 (fun _ =>
        treeAt (fun u v => if n < 4 then rounded n (fpAdd 0 (fpOf n u) (fpOf n v)) else ((u + v) % 2 ^ fmtBits n, 0))
          (leaf (if n < 4 then 2 ^ (fmtBits n - 1) else 0)) levels 0) ∧
      gives (.vrmax g d a f) 8 (fun _ =>
        treeAt (lesser true n)
          (leaf (if n < 4 then 2 ^ (fmtBits n - 1) + infCode n else if n = 7 then 0 else 2 ^ (fmtBits n - 1))) levels 0) ∧
      gives (.vrmin g d a f) 8 (fun _ =>
        treeAt (lesser false n)
          (leaf (if n < 4 then infCode n else if n = 7 then 255 else 2 ^ (fmtBits n - 1) - 1)) levels 0))

/-- R137. The vector compares: a lane of p[pd] that p[g] guards on becomes 1 when the relation holds for every element of the
lane, else 0; other lanes stay; NaNs and unsigned relations as in the table; bound 4.
The model's own here, no rule of the manual: the count of free values that each step advances (log 4). -/
def Obligations.VectorCompares : Prop :=
  ∀ (s : State) (p k : Nat) (g pd : BitVec 5) (a b : BitVec 6) (f : BitVec 3),
    Issues s p k → SettledV s p [a] → BSettled s p b → Settled s p [destP (s.core p) pd] →
    let n := f.toNat
    let x := elem (readV s p a) (fmtBits n)
    let y := bOf s p b n
    let gives := fun (i : Instr) (num : Nat → Int) (rel : Int → Int → Bool) (nan : Bool) =>
      ∃ r fl, LanesCompared n (readP s p g) (readP s p pd) (fun j => related n num rel nan (x j) (y j)) r fl ∧
        exec i s = .next (after s p (sends s p k (destP (s.core p) pd) (asVec r) 4 fl))
    gives (.vceq g pd a b f) (intOf n) (fun u v => u == v) false ∧
    gives (.vcne g pd a b f) (intOf n) (fun u v => u != v) true ∧
    gives (.vclt g pd a b f) (intOf n) (fun u v => decide (u < v)) false ∧
    gives (.vcle g pd a b f) (intOf n) (fun u v => decide (u ≤ v)) false ∧
    (4 ≤ n → gives (.vcltn g pd a b f) (fun c => (c : Int)) (fun u v => decide (u < v)) false ∧
      gives (.vclen g pd a b f) (fun c => (c : Int)) (fun u v => decide (u ≤ v)) false)

/-- R138, R139, R192. The conversions build their result from the source elements that R139 names, converted once under rm and
sat; VPACK moves the old elements up; VACR converts the 128 columns of an accumulator row, to F32 without sat copying every
bit pattern, and gives zeros beyond them. Bound 4, VACR 6; only elements of guarded-on lanes of the result's view raise
flags.
The model's own here, no rule of the manual: the count of free values that each step advances (log 4); that VACR to F32 with sat = 1
clamps an infinity as VCVT does (log 56). -/
def Obligations.VectorConversions : Prop :=
  ∀ (s : State) (p k : Nat) (g : BitVec 5) (d a : BitVec 6) (sf df : BitVec 3) (r : BitVec 2) (u : BitVec 1),
    Issues s p k → SettledV s p [d] →
    let x := elem (readV s p a) (fmtBits sf.toNat)
    let w := elem (readV s p d) (fmtBits df.toNat)
    let ed := 4096 / fmtBits df.toNat
    let es := 4096 / fmtBits sf.toNat
    let cvt := fun (c : Nat) => convert sf.toNat df.toNat r.toNat (u == 1) c
    let same := fun (c : Nat) => convertSame sf.toNat df.toNat r.toNat (u == 1) c
    let gives := fun (i : Instr) (lat : Nat) (op : Nat → Nat × Flags) =>
      SendsLanes i s p k d df.toNat (readP s p g) lat op
    (SettledV s p [a] →
      (fmtBytes sf.toNat = fmtBytes df.toNat → gives (.vcvt g d a sf df r u) 4 (fun j => same (x j))) ∧
      (fmtBytes sf.toNat = 2 * fmtBytes df.toNat ∨ fmtBytes sf.toNat = 4 * fmtBytes df.toNat →
        gives (.vpack g d a sf df r u) 4 (fun j => if j < es then cvt (x j) else (w (j - es), 0))) ∧
      (fmtBytes df.toNat = 2 * fmtBytes sf.toNat →
        gives (.vunpkl g d a sf df r u) 4 (fun j => cvt (x j)) ∧
        gives (.vunpkh g d a sf df r u) 4 (fun j => cvt (x (j + ed))))) ∧
    (sf = 0 → Settled s p [destS a] →
      gives (.vacr g d a sf df r u) 6 (fun j =>
        let c := elem (readAcc s p ((readS s p a).toNat % 8192)) 32 j
        if 128 ≤ j then (0, 0) else if df = 0 ∧ u = 0 then (c, 0) else same c))

/-- R191, R193. VACW and VACC write column n of the accumulator row that s[d] names where lane n of the guard is on: the
converted element n of v[a], or its sum with the column, rounded once under rm and sat; VACZ clears the
guarded-on columns of min(bits 13:0 of s[a], 8192) rows from s[d] on, modulo 8192. Bound 6. What a CTOPK under way has of the
rows written is spoilt (R208).
The model's own here, no rule of the manual: the count of free values that each step advances (log 4). -/
def Obligations.AccumulatorWrites : Prop :=
  ∀ (s : State) (p k : Nat) (g : BitVec 5) (d a : BitVec 6) (sf : BitVec 3) (r : BitVec 2) (u : BitVec 1),
    Issues s p k → Settled s p [destS d] →
    let row := (readS s p d).toNat % 8192
    let old := readAcc s p row
    let v := elem (readV s p a) (fmtBits sf.toNat)
    let writes := fun (i : Instr) (op : Nat → Nat × Flags) =>
      ∃ x fl, Laned 0 (readP s p g) old op x fl ∧
        exec i s = .next (afterAll s p (spoilTopk p (fun q => q == row)
          (s.onCore p (fun c => addFlight c (flightTo s p k (.acc row) x 6 fl)))))
    let value := fun (c : Nat) => if sf.toNat < 4 then fpOf sf.toNat c
      else Fp.fin (decide (intOf sf.toNat c < 0)) (intOf sf.toNat c).natAbs 0
    (SettledV s p [a] →
      writes (.vacw g d a sf 0 r u) (fun n => convertSame sf.toNat 0 r.toNat (u == 1) (v n)) ∧
      writes (.vacc g d a sf 0 r u) (fun n =>
        let t := fpAdd r.toNat (fpOf 0 (elem old 32 n)) (value (v n))
        ((fpRound 0 r.toNat (u == 1) t.1).1, t.2 ||| (fpRound 0 r.toNat (u == 1) t.1).2))) ∧
    (Settled s p [destS a] → ∃ x : Nat → Vec,
      let n := min ((readS s p a).toNat % 16384) 8192
      (∀ i, Laned 0 (readP s p g) (readAcc s p ((row + i) % 8192)) (fun _ => (0, 0)) (x i) 0) ∧
      exec (.vacz g d a 0 0) s = .next (afterAll s p (spoilTopk p (fun q => decide ((q + 8192 - row) % 8192 < n))
        ((List.range n).foldl (fun t i =>
          t.onCore p (fun c => addFlight c (flightTo s p k (.acc ((row + i) % 8192)) (x i) 6 0))) s))))

/-! ### M slot: scratchpad, spill memory, banks (R160 to R168) -/

/-- R160, R161, R167, R168. LDV, STV, LDS, STS at s[a] + imm × 512, an address whose checks pass: the row or word goes to the
register with bound 4, or 12 from another core's bank; a store changes its row or word alone; fe 1 and 2 of LDV wait for a full
row, and 2 empties it; fe 1 of STV fills it. For each of the four an address that fails is a fatal context error of cause 1, and an
acquiring atomic still out freezes the core (R229).
The model's own here, no rule of the manual: the count of free values that each step advances (log 4); the info word 0 of the
fatal error (log 17); what the log entries 13, 15 say. -/
def Obligations.ScratchpadAccesses : Prop :=
  ∀ (s : State) (p k : Nat) (g : BitVec 5) (v a : BitVec 6) (i : BitVec 7) (f : BitVec 2),
    Issues s p k → guardM g s (.core p) = true → Settled s p [destS a] →
    let ea := readS s p a + i.signExtend 64 * 512
    let owner := spadPhys p ea
    let lat := if owner = p then 4 else 12
    let ok := spadOk s p (s.ctxOf p) ea
    let row := spadGet s p ea
    let fe := spadFe s p ea
    let word := fun (r : Vec) (w : Nat) => r.extractLsb' (64 * w) 64
    let fails := fun (inst : Instr) =>
      (acquireOpen (s.core p) = false → ok = false → exec inst s = .next (fatalIn s p 1 ea 0)) ∧
      (acquireOpen (s.core p) = true → exec inst s = .next (frozen s p))
    (SettledV s p [v] → f.toNat < 3 → fails (.ldv g v a i f)) ∧
    (SettledV s p [v] → f.toNat < 2 → fails (.stv g v a i f)) ∧
    (Settled s p [destS v] → fails (.lds g v a i) ∧ fails (.sts g v a i)) ∧
    (acquireOpen (s.core p) = false → SettledV s p [v] → f.toNat < 3 →
      (ok = true → f ≠ 0 → fe ≠ BitVec.allOnes 32 → exec (.ldv g v a i f) s = .next (frozen s p)) ∧
      (ok = true → f = 0 ∨ (f = 1 ∧ fe = BitVec.allOnes 32) →
        exec (.ldv g v a i f) s = .next (givesV s p k v row lat 0)) ∧
      (ok = true → f = 2 → fe = BitVec.allOnes 32 →
        ∃ t, exec (.ldv g v a i f) s = .next t ∧ RowWritten t (givesV s p k v row lat 0) owner (spadRow ea) row 0)) ∧
    (acquireOpen (s.core p) = false → SettledV s p [v] → ok = true → f.toNat < 2 →
      ∃ t, exec (.stv g v a i f) s = .next t ∧
        RowWritten t (after s p id) owner (spadRow ea) (readV s p v) (if f = 1 then BitVec.allOnes 32 else fe)) ∧
    (acquireOpen (s.core p) = false → Settled s p [destS v] → ok = true →
      exec (.lds g v a i) s = .next (givesS s p k v (word row (wordIx ea)) lat 0)) ∧
    (acquireOpen (s.core p) = false → Settled s p [destS v] → ok = true →
      ∃ t r, exec (.sts g v a i) s = .next t ∧ RowWritten t (after s p id) owner (spadRow ea) r fe ∧
        ∀ w, w < 64 → word r w = if w = wordIx ea then readS s p v else word row w)

/-- R162. SPL and SPLS write a row or a word of spill memory, FIL and FILS send it to a register with bound 1: row offset / 64,
word offset mod 64; no other row or word changes.
R164, R165. BACQ of banks below the split that are each FREE or already the task's makes them OWNED, each newly acquired one
with its full-empty bits empty and, when another context held it last, its rows zero; else the core freezes. BREL makes the
named banks that the task owns RELEASING while an engine of the cluster may still write a row into them, else FREE; banks
RELEASING before become FREE in the same way.
The model's own here, no rule of the manual: the count of free values that each step advances (log 4). -/
def Obligations.SpillAndBanks : Prop :=
  (∀ (s : State) (p k : Nat) (g : BitVec 5) (d : BitVec 6) (o : BitVec 15),
     Issues s p k → guardM g s (.core p) = true → o.toNat < 8192 →
     let row := fun (t : State) (j : Nat) => Tab.get (0 : Vec) (t.core p).spill j
     let word := fun (t : State) (j w : Nat) => (row t j).extractLsb' (64 * w) 64
     let r := o.toNat / 64
     (SettledV s p [d] →
       (∃ t, exec (.spl g d o) s = .next t ∧ row t r = readV s p d ∧ (∀ j, j ≠ r → row t j = row s j) ∧
         t = after s p (fun c => { c with spill := (t.core p).spill })) ∧
       exec (.fil g d o) s = .next (givesV s p k d (row s r) 1 0)) ∧
     (Settled s p [destS d] →
       (∃ t, exec (.spls g d o) s = .next t ∧ (∀ j, j ≠ r → row t j = row s j) ∧
         (∀ w, w < 64 → word t r w = if w = o.toNat % 64 then readS s p d else word s r w) ∧
         t = after s p (fun c => { c with spill := (t.core p).spill })) ∧
       exec (.fils g d o) s = .next (givesS s p k d (word s r (o.toNat % 64)) 1 0))) ∧
  (∀ (s : State) (p k : Nat) (g : BitVec 5) (a : BitVec 6),
     Issues s p k → guardM g s (.core p) = true → Settled s p [destS a] →
     let m := readS s p a
     let bank := fun (t : State) (b : Nat) => Tab.get Bank.zero (t.core p).banks b
     let named := fun (b : Nat) => b < 16 ∧ b < (s.ctx (s.ctxOf p)).split ∧ m.getLsbD b = true
     let mine : Bank := { state := .owned, task := (s.core p).task, held := s.ctxOf p + 1 }
     let open_ := ∀ b, named b → (bank s b).state = .free ∨ bank s b = mine
     (open_ →
       ∃ t, exec (.bacq g a) s = .next t ∧
         (∀ b, bank t b = if named b ∧ (bank s b).state = .free then mine else bank s b) ∧
         (∀ j, Tab.get 0 (t.core p).fullEmpty j =
           if named (j / 512) ∧ (bank s (j / 512)).state = .free then 0 else Tab.get 0 (s.core p).fullEmpty j) ∧
         (∀ j, Tab.get 0 (t.core p).spad j =
           if named (j / 512) ∧ (bank s (j / 512)).state = .free ∧ (bank s (j / 512)).held ≠ s.ctxOf p + 1 then 0
           else Tab.get 0 (s.core p).spad j) ∧
         t = after s p (fun c => { c with stallSeen := false, banks := (t.core p).banks,
                                          fullEmpty := (t.core p).fullEmpty, spad := (t.core p).spad })) ∧
     (¬open_ → exec (.bacq g a) s = .next (frozen s p)) ∧
     (∃ t, exec (.brel g a) s = .next t ∧
       (∀ b, (named b ∧ bank s b = mine) ∨ (bank s b).state = .releasing →
         bank t b = (if engineInto s p b then { bank s b with state := .releasing }
           else { bank s b with state := .free, task := 0 }) ∧
         ((∀ q, q < 4 → (s.core (p / 4 * 4 + q)).chans = []) → (bank t b).state = .free)) ∧
       (∀ b, bank s b ≠ mine ∨ ¬named b → (bank s b).state ≠ .releasing → bank t b = bank s b) ∧
       t = after s p (fun c => { c with banks := (t.core p).banks })))

/-! ### M slot: global memory (R173, R213 to R217) -/

/-- R72, R173, R221. LDG and LDGS of a local address that the current map lets load leave one outstanding access with that
destination and address and change nothing else; of a remote one with nothing outstanding, the access is also injected, as one
packet of its class for the device, which may allocate in the partner's L2 with the hints NORM and BY (R172). An address that fails R161 is
a fatal context error of cause 1.
The model's own here, no rule of the manual: the count of free values that each step advances (log 4); what the log entries 14,
17 say. -/
def Obligations.GlobalLoads : Prop :=
  ∀ (s : State) (p k : Nat) (g : BitVec 5) (v a : BitVec 6) (m : BitVec 5) (r c : BitVec 2),
    Issues s p k → guardM g s (.core p) = true → Settled s p [destS a] → r ≠ 3 →
    let ea := readS s p a + m.signExtend 64 * 512
    let loads := fun (i : Instr) (d : Dest) (kind : AccKind) => awaited (s.core p) d = false →
      (globalOk s (s.ctxOf p) ea .load = false → exec i s = .next (fatalIn s p 1 ea 0)) ∧
      (globalOk s (s.ctxOf p) ea .load = true → isRemote ea = false →
        ∃ e, e.kind = kind ∧ e.dest = d ∧ e.addr = ea ∧ e.remote = false ∧ e.issue = s.cycle ∧
          exec i s = .next (after s p (fun q => { q with board := q.board ++ [e] }))) ∧
      (globalOk s (s.ctxOf p) ea .load = true → isRemote ea = true → (s.core p).board = [] →
        ∃ t e pkt, exec i s = .next t ∧ (t.core p).board = [e] ∧ e.kind = kind ∧ e.dest = d ∧ e.addr = ea ∧ e.sent = true ∧
          t.out = s.out ++ [pkt] ∧ pkt.dev = devOf ea ∧ pkt.va = vaOf ea ∧ pkt.rc = r.toNat ∧ pkt.kind = .loadRow ∧
          pkt.chan = 4 ∧ (pkt.alloc = true ↔ c = 0 ∨ c = 2) ∧ t.mem = s.mem ∧ (t.core p).flights = (s.core p).flights)
    loads (.ldg g v a m r c) (destV (s.core p) v) .ldg ∧ loads (.ldgs g v a m r c) (destS v) .ldgs

/-- R214, R173. STG and STGS to a local address the current map lets store stage the row, or the word's eight bytes, under the
core as writer; memory does not change, nor the registers of the core. To a remote one with nothing outstanding they leave one outstanding
access and go to the device as one packet of their class, with the row or the word, that may allocate in the partner's L2 with the hints NORM and BY
(R172). An address that fails R161 is a fatal context error of cause 1.
R172, R173, R213. PRFG writes no register and no memory, whatever its address; with NORM or BY at a remote address that passes the
checks it asks the partner for the prefetch, in its class, and changes nothing here; PSTW whose pair passes its checks leaves the two
rows to land.
The model's own here, no rule of the manual: the count of free values that each step advances (log 4); what log entry 26 says; info 0 of the
fatal error (log 17). -/
def Obligations.GlobalStoresAndPrefetch : Prop :=
  (∀ (s : State) (p k : Nat) (g : BitVec 5) (v a : BitVec 6) (m : BitVec 5) (r c : BitVec 2),
     Issues s p k → guardM g s (.core p) = true → Settled s p [destS a] → r ≠ 3 →
     let ea := readS s p a + m.signExtend 64 * 512
     let x := s.ctxOf p
     let stages := fun (i : Instr) (mask : BitVec 512) (word : Option W64) =>
       globalOk s x ea .store = true → isRemote ea = false →
       ∃ t gd, exec i s = .next t ∧ (t.ctx x).staged = (s.ctx x).staged ++ [gd] ∧
         gd.key = keyOf s x (rowVa ea) ∧ gd.writer = (s.core p).lcore + 1 ∧ gd.mask = mask ∧
         (match word with
          | none => gd.data = readV s p v
          | some w => gd.data.extractLsb' (64 * wordIx ea) 64 = w) ∧
         t.mem = s.mem ∧ (t.core p).s = (s.core p).s ∧ (t.core p).v = (s.core p).v ∧ (t.core p).p = (s.core p).p ∧
         (t.core p).pc = ((after s p id).core p).pc ∧ (t.core p).board = (s.core p).board
     let goes := fun (i : Instr) (kind : PacketKind) =>
       (globalOk s x ea .store = false → exec i s = .next (fatalIn s p 1 ea 0)) ∧
       (globalOk s x ea .store = true → isRemote ea = true → (s.core p).board = [] →
         ∃ t e pkt, exec i s = .next t ∧ (t.core p).board = [e] ∧ e.kind = .store ∧ e.dest = .none ∧ e.addr = ea ∧ e.sent = true ∧
           t.out = s.out ++ [pkt] ∧ pkt.dev = devOf ea ∧ pkt.va = vaOf ea ∧ pkt.rc = r.toNat ∧ pkt.kind = kind ∧ pkt.chan = 4 ∧
           (pkt.alloc = true ↔ c = 0 ∨ c = 2) ∧ t.mem = s.mem ∧ (t.ctx x).staged = (s.ctx x).staged ∧
           (t.core p).flights = (s.core p).flights)
     (SettledV s p [v] → stages (.stg g v a m r c) (BitVec.allOnes 512) none ∧ goes (.stg g v a m r c) (.storeRow (readV s p v))) ∧
     (Settled s p [destS v] → stages (.stgs g v a m r c) ((0xFF : BitVec 512) <<< (8 * wordIx ea)) (some (readS s p v)) ∧
       goes (.stgs g v a m r c) (.storeWord (readS s p v)))) ∧
  (∀ (s : State) (p k : Nat) (g : BitVec 5) (v a : BitVec 6) (m : BitVec 5) (i : BitVec 7) (r c : BitVec 2),
     Issues s p k → guardM g s (.core p) = true →
     (Settled s p [destS a] → r ≠ 3 →
       let ea := readS s p a + m.signExtend 64 * 512
       let asks := globalOk s (s.ctxOf p) ea .load = true ∧ isRemote ea = true ∧ (c = 0 ∨ c = 2)
       (¬asks → ∃ t, exec (.prfg g a m r c) s = .next t ∧
         t = { after s p (fun q => { q with l1 := (t.core p).l1 }) with l2 := t.l2, l2fill := t.l2fill }) ∧
       (asks → ∃ pkt : Packet, exec (.prfg g a m r c) s = .next (afterAll s p { s with out := s.out ++ [pkt] }) ∧
         pkt.dev = devOf ea ∧ pkt.va = vaOf ea ∧ pkt.rc = r.toNat ∧ pkt.kind = .prefetch ∧ pkt.chan = 4 ∧ pkt.alloc = true)) ∧
     (Settled s p [destS a, destS (a ||| 1)] → SettledV s p [v] →
       let pa := readS s p a + i.signExtend 64 * 512
       let ta := readS s p (a ||| 1)
       (a.getLsbD 0 = true → (s.core p).board = [] → (s.core p).steward = false →
         exec (.pstw g v a i) s = .next (trapped s p { cause := 2, mask := 2 ^ k, slot := k, detail := 47, addr := 0, arg := 0,
                                                       bundle := BitVec.ofInt 32 (s.core p).pc })) ∧
       (pstwCheck s p a pa ta = none → exec (.pstw g v a i) s = .next (after s p (fun q => { q with pstw := q.pstw ++ [
         { ctx := s.ctxOf p, pa := pa, ta := ta, x := readV s p v, issue := s.cycle }] })))))

/-! ### M slot: atomics, barriers, waits, probes (R218 to R237, R259, R287, R334) -/

/-- R232, R235, R334. The atomics, BARA and ADMIT at a local word that the context may store to, ALD at one it may read: one
outstanding access holds the operation, its operand, for ACAS also s[d] as the expected value, its order and its destination;
nothing else changes until it acts. At a remote word, with nothing outstanding, the access also goes to the device as one packet
that holds the operation, in the class that oc names, ORD for an ordered one (R224). An address that fails R161 is a fatal context
error of cause 1; an ADMIT of two pages is an illegal instruction, detail 62.
The model's own here, no rule of the manual: the count of free values that each step advances (log 4); what log entry 27 says; info 0 of the
fatal error (log 17). -/
def Obligations.AtomicIssue : Prop :=
  ∀ (s : State) (p k : Nat) (g : BitVec 5) (d a b : BitVec 6) (o : BitVec 3),
    Issues s p k → guardM g s (.core p) = true → Settled s p [destS a, destS b, destS d] →
    let ad := readS s p a
    let c := s.ctxOf p
    let near := fun (i : Instr) (kind : AccKind) (dest : Dest) (x y : W64) => isRemote ad = false →
      ∃ e, e.kind = kind ∧ e.dest = dest ∧ e.addr = ad ∧ e.x = x ∧ e.y = y ∧ e.oc = o.toNat ∧ e.issue = s.cycle ∧
        exec i s = .next (after s p (fun q => { q with board := q.board ++ [e] }))
    let far := fun (i : Instr) (kind : AccKind) (dest : Dest) (pk : PacketKind) =>
      isRemote ad = true → (s.core p).board = [] → (s.core p).pubds = [] →
      ∃ t e pkt, exec i s = .next t ∧ (t.core p).board = [e] ∧ e.kind = kind ∧ e.dest = dest ∧ e.addr = ad ∧ e.oc = o.toNat ∧
        e.sent = true ∧ t.out = s.out ++ [pkt] ∧ pkt.dev = devOf ad ∧ pkt.va = vaOf ad ∧ pkt.kind = pk ∧ pkt.chan = 4 ∧
        pkt.rc = (if o.toNat < 3 then o.toNat else 0) ∧ t.mem = s.mem ∧ (t.core p).flights = (s.core p).flights
    let does := fun (w : Want) (i : Instr) (kind : AtomKind) (dest : Dest) (x y : W64) =>
      (globalOk s c ad w = false → exec i s = .next (fatalIn s p 1 ad 0)) ∧
      (globalOk s c ad w = true → near i (.word kind) dest x y ∧ far i (.word kind) dest (.atomic kind (o.toNat == 6) x y))
    let rmw := fun (i : Instr) (kind : AtomKind) (y : W64) => does .store i kind (destS d) (readS s p b) y
    (o.toNat < 4 ∨ o.toNat = 6 → does .load (.ald g d a o) .ld (destS d) 0 0) ∧
    (o.toNat < 3 ∨ o.toNat = 4 ∨ o.toNat = 6 → does .store (.ast g a b o) .st .none (readS s p b) 0) ∧
    (o.toNat ≠ 3 → o.toNat ≠ 7 → does .store (.bara g a b o) .bara .none (readS s p b) 0) ∧
    (o.toNat < 7 →
      rmw (.aadd g d a b o) .add 0 ∧ rmw (.amin g d a b o) .min 0 ∧ rmw (.amax g d a b o) .max 0 ∧
      rmw (.aminn g d a b o) .minn 0 ∧ rmw (.amaxn g d a b o) .maxn 0 ∧ rmw (.aand g d a b o) .and 0 ∧
      rmw (.aor g d a b o) .or 0 ∧ rmw (.axchg g d a b o) .xchg 0 ∧ rmw (.acas g d a b o) .cas (readS s p d)) ∧
    (o.toNat < 7 → ad.toNat / 4096 = (readS s p b).toNat / 4096 →
      (globalOk s c ad .store = false → exec (.admitEntry g d a b o) s = .next (fatalIn s p 1 ad 0)) ∧
      (globalOk s c ad .store = true → globalOk s c (readS s p b) .store = true →
        (isRemote ad = false → ∃ e, e.kind = .admission ∧ e.dest = destS d ∧ e.addr = ad ∧ e.addr2 = readS s p b ∧ e.oc = o.toNat ∧
          exec (.admitEntry g d a b o) s = .next (after s p (fun q => { q with board := q.board ++ [e] }))) ∧
        far (.admitEntry g d a b o) .admission (destS d) (.admission (o.toNat == 6) (vaOf (readS s p b))))) ∧
    (o.toNat < 7 → ad.toNat / 4096 ≠ (readS s p b).toNat / 4096 → (s.core p).board = [] → (s.core p).steward = false →
      exec (.admitEntry g d a b o) s = .next (trapped s p
        { cause := 2, mask := 2 ^ k, slot := k, detail := 62, addr := 0, arg := 0, bundle := BitVec.ofInt 32 (s.core p).pc }))

/-- R233, R236, R237. BARW passes once bit 63 of its word differs from bit 0 of s[b], and freezes its core while it does not; at
a remote address it is an illegal instruction, detail 48. FENCE passes when it covers nothing or nothing is outstanding, and
freezes its core while a covered local store is; it passes when no engine operation, access or packet of an engine, and no packet
whose acceptance is not known, of the core is outstanding (R223).
The model's own here, no rule of the manual: the count of free values that each step advances (log 4); what log entry 51 says. -/
def Obligations.Waits : Prop :=
  ∀ (s : State) (p k : Nat) (g : BitVec 5) (a b : BitVec 6) (o sc cm : BitVec 3) (km : BitVec 4),
    Issues s p k →
    (guardM g s (.core p) = true → Settled s p [destS a, destS b] → o = 0 ∨ o = 3 →
      let ad := readS s p a
      let c := s.ctxOf p
      (isRemote ad = true → (s.core p).board = [] → (s.core p).steward = false →
        exec (.barw g a b o) s = .next (trapped s p
          { cause := 2, mask := 2 ^ k, slot := k, detail := 48, addr := 0, arg := 0, bundle := BitVec.ofInt 32 (s.core p).pc })) ∧
      (isRemote ad = false → globalOk s c ad .load = true → (s.core p).board = [] →
        ((memWord s c (vaOf ad)).getLsbD 63 = (readS s p b).getLsbD 0 → exec (.barw g a b o) s = .next (frozen s p)) ∧
        ((memWord s c (vaOf ad)).getLsbD 63 ≠ (readS s p b).getLsbD 0 → o = 0 →
          exec (.barw g a b o) s = .next (after s p id)) ∧
        ((memWord s c (vaOf ad)).getLsbD 63 ≠ (readS s p b).getLsbD 0 → o = 3 →
          ∃ seen, exec (.barw g a b o) s = .next (after s p (fun q => { q with seen := seen }))))) ∧
    (sc.toNat < 4 →
      (cm = 0 ∨ km = 0 ∨ ((s.core p).board = [] ∧ (s.core p).pubds = [] ∧ (s.core p).chans = [] ∧ (s.core p).optu = none ∧
          (s.core p).pstw = [] ∧ (s.core p).lmmar = [] ∧ (s.core p).rloads = [] ∧
          (∀ q ∈ s.out, q.ctx = s.ctxOf p → q.core = (s.core p).lcore → q.chan ≠ 5 ∧ 4 ≤ q.chan) ∧
          (∀ q ∈ s.unacked, q.ctx = s.ctxOf p → q.core = (s.core p).lcore → q.chan ≠ 5 ∧ 4 ≤ q.chan)) →
        exec (.fence sc cm km) s = .next (after s p id)) ∧
      (cm ≠ 0 → km.getLsbD 1 = true → (∃ e ∈ (s.core p).board, e.kind = .store ∧ e.remote = false) →
        exec (.fence sc cm km) s = .next (frozen s p)))

/-- R259, R287. SCLD at a scratchpad address whose checks pass takes the 16 scales of its granule on their way to the queue, and
freezes its core while more than 48 are queued or on their way; an address that fails is a fatal context error of cause 1. PROBE writes all ones to p[pd] when its range passes, with
bound 4; a failing range makes all zeros with quiet = 1, and a trap of cause 3 with the failing address, the region and the
reason with quiet = 0.
The model's own here, no rule of the manual: the count of free values that each step advances (log 4); info 0 of the fatal error (log 17);
what the log entries 14, 46 say. -/
def Obligations.ScalesAndProbes : Prop :=
  ∀ (s : State) (p k : Nat) (g pd : BitVec 5) (a b : BitVec 6) (i : BitVec 7) (m : BitVec 4),
    Issues s p k → guardM g s (.core p) = true →
    (Settled s p [destS a] →
      let ea := readS s p a + i.signExtend 64 * 512
      let used := (s.core p).scaleQ.length + 16 * (s.core p).sclds.length
      (48 < used → exec (.scld g a i) s = .next (frozen s p)) ∧
      (used ≤ 48 → spadOk s p (s.ctxOf p) ea = true →
        ∃ j : ScldJob, j.scales.length = 16 ∧ j.issue = s.cycle ∧
          (∀ q, q < 16 → j.scales[q]? = some ((spadGet s p ea).extractLsb' (256 * (ea.toNat / 32 % 16) + 16 * q) 16)) ∧
          exec (.scld g a i) s = .next (after s p (fun c => { c with scaleOp := true, sclds := c.sclds ++ [j] }))) ∧
      (used ≤ 48 → spadOk s p (s.ctxOf p) ea = false → exec (.scld g a i) s = .next (fatalIn s p 1 ea 0))) ∧
    (Settled s p [destS a, destS b, destP (s.core p) pd] → m.toNat < 8 → m.toNat % 4 ≠ 0 →
      let fails := probeFail (s.ctx (s.ctxOf p)) (m.getLsbD 1) (readS s p a) (readS s p b)
      (fails = none → exec (.probe g pd a b m) s = .next (givesP s p k pd (BitVec.allOnes 128) 4)) ∧
      (∀ c ad r, fails = some (c, ad, r) →
        (m.getLsbD 2 = true → exec (.probe g pd a b m) s = .next (givesP s p k pd 0 4)) ∧
        (m.getLsbD 2 = false → (s.core p).board = [] → (s.core p).steward = false →
          exec (.probe g pd a b m) s = .next (trapped s p
            { cause := 3, mask := 2 ^ k, slot := k, detail := c, addr := ad, arg := r,
              bundle := BitVec.ofInt 32 (s.core p).pc }))))

/-! ### X slot: the Loom (R183 to R188) -/

/-- R144, R183 to R186, R259. LMMA and LMMAZ whose checks pass, the Loom accepting: the h register is exchanged when sw = 1; one
Loom operation holds the captured record, window, tile and activation rows, overwriting first for LMMAZ; the Loom accepts again
M + 40 cycles later; with sq it takes its scales from the head of the queue, and those of an SCLD still on their way as they come; without
sq no scale leaves the queue. Results of the V slot still on their way to one of its rows become
undefined, and that row (R194); what a CTOPK under way has of its rows is spoilt (R208). A Loom not yet accepting freezes the core.
R144, R188. LMMAR whose checks pass starts its run: KLPRG becomes RUNNING with status 0 and the rows done so far, the operation
joins those of the core with the captured record and window, and the Loom accepts again M + 40 cycles later; with no row left KLPRG
is DONE at once.
R184, R188, R75. The checks, in their order: TCAUSE 2 with the details 32 (pair), 33 (accumulator rows), 34 (window), 35 (sq), 36 (port), 37 and 38 (LMMAR's
record), 39 (KLPRG RUNNING); the fatal errors of an activation row or a barrier; the residency faults 7 and 8 of the handle and 4 to 7 of the
state, with the handle; TCAUSE 9 with the scales that lack. The first that fails is taken, and nothing is done.
The model's own here, no rule of the manual: the count of free values that each step advances (log 4); what log entry 28 says; info 0 of the
fatal errors (log 17). -/
def Obligations.LoomAndResultStream : Prop :=
  (∀ (s : State) (p k : Nat) (h : BitVec 2) (w : BitVec 1) (g : BitVec 5) (a b i : BitVec 6) (inst : Instr) (z : Bool),
     Issues s p k → guardM g s (.core p) = true → Settled s p [destS a, destS b] →
     i.toNat < 2 ∨ (i = 63 ∧ Ported s p) →
     (inst = .lmma h w g a b i ∧ z = false) ∨ (inst = .lmmaz h w g a b i ∧ z = true) →
     let sh := shapeIn s p 0 h.toNat w
     let x := s.ctx (s.ctxOf p)
     let r := resAt x (s.core p).lcore (handleSlot (readS s p a))
     let sq := if i = 63 then (readS s p (headBs s.header)).getLsbD 0 else i.getLsbD 0
     let base := (readS s p b).toNat
     let inRows := fun (q : Nat) => decide (base ≤ q) && decide (q < base + sh.outer)
     let hd := readS s p a
     let port := if i = 63 then readS s p (headBs s.header) else 0
     let need := sh.outer * ((min (128 * pairRate sh.fmt.toNat r.fmt) (r.k - sh.inner) + 63) / 64)
     let have_ := (s.core p).scaleQ.length + 16 * (s.core p).sclds.length - ((s.core p).loom.map LoomJob.owed).sum
     let check := lmmaCheck s (soleEnv s p k 0) sh i hd (readS s p b)
     (s.cycle < (s.core p).loomFree → exec inst s = .next (frozen s p)) ∧
     FirstFails ([trapIf (PairBad r hd sh) 2 32, trapIf (sh.outer < 1 ∨ 8191 < base ∨ 8192 < base + sh.outer) 2 33,
         trapIf (WindowBad r hd sh) 2 34, trapIf (sq = true ∧ sh.fmt ≠ 3) 2 35, trapIf (port.toNat / 2 ≠ 0) 2 36,
         fun f => ∃ m, m < sh.outer ∧ spadOk s p (s.ctxOf p) (sh.base + BitVec.ofNat 64 m * sh.st1) = false ∧
           f = .fatal 1 (sh.base + BitVec.ofNat 64 m * sh.st1) 0]
       ++ residencyFaults r hd ++ [trapIf (sq = true ∧ have_ < need) 9 0 (BitVec.ofNat 32 (need - have_))]) check ∧
     ((s.core p).loomFree ≤ s.cycle → Stops inst s p k check) ∧
     ((s.core p).loomFree ≤ s.cycle → check = none →
       ∃ t j, exec inst s = .next t ∧ (t.core p).loom = (s.core p).loom ++ [j] ∧
         j.issue = s.cycle ∧ j.first = z ∧ j.base = base ∧ j.rows = sh.outer ∧ j.done = 0 ∧
         j.kofs = sh.inner ∧ j.len = min (128 * pairRate sh.fmt.toNat r.fmt) (r.k - sh.inner) ∧ j.fmt = sh.fmt.toNat ∧ j.sq = sq ∧
         j.tile = tileAt x (s.core p).lcore (handleSlot (readS s p a)) ∧
         (∀ m, m < sh.outer → j.acts[m]? = some (spadGet s p (sh.base + BitVec.ofNat 64 m * sh.st1))) ∧
         (t.core p).loomFree = s.cycle + sh.outer + 40 ∧ Exchanged t s p 0 w [h.toNat] ∧
         (sq = false → (t.core p).scaleQ = (s.core p).scaleQ ∧ j.scales = [] ∧ j.owed = 0) ∧
         (sq = true → (t.core p).scaleQ = (s.core p).scaleQ.drop need ∧ j.scales = (s.core p).scaleQ.take need ∧
           j.owed = need - (s.core p).scaleQ.length) ∧
         (∀ q, q ∈ j.clash ↔ inRows q = true ∧ ∃ f ∈ (s.core p).flights, f.dest = .acc q) ∧
         (t.core p).flights = (s.core p).flights.map (fun f =>
           { f with free := f.free || (List.range 8192).any (fun q => inRows q && decide (f.dest = .acc q)) }) ∧
         t = afterAll s p (spoilTopk p inRows (s.onCore p (fun c =>
           { c with loom := (t.core p).loom, loomFree := (t.core p).loomFree, flights := (t.core p).flights,
                    chans := (markTopk inRows c).chans, scaleQ := (t.core p).scaleQ, scaleOp := c.scaleOp || sq,
                    active := (t.core p).active, shadow := (t.core p).shadow }))))) ∧
  (∀ (s : State) (p k : Nat) (h : BitVec 2) (w : BitVec 1) (g : BitVec 5) (a b : BitVec 6),
     Issues s p k → guardM g s (.core p) = true → Settled s p [destS a, destS b] →
     let sh := shapeIn s p 0 h.toNat w
     let first := if w = 0 ∧ (s.core p).klprg.toNat / 2 ^ 62 = 2 then (s.core p).klprg.toNat % 2 ^ 14 else 0
     let x := s.ctx (s.ctxOf p)
     let hd := readS s p a
     let r := resAt x (s.core p).lcore (handleSlot hd)
     let bar := sh.bar &&& ~~~7
     let buf := Tab.get (0 : BitVec 256) x.buffers (sh.tag.toNat % 4096)
     let ok := fun (a : W64) => globalOk s (s.ctxOf p) a .store = true
     let check := lmmarCheck s (soleEnv s p k 0) sh hd (readS s p b)
     (s.cycle < (s.core p).loomFree → exec (.lmmar h w g a b 0) s = .next (frozen s p)) ∧
     FirstFails ([trapIf (PairBad r hd sh) 2 32, trapIf (WindowBad r hd sh) 2 34,
         trapIf (¬(isRemote sh.base = true ∧ formOk sh.base = true) ∨ 2 < sh.rc.toNat) 2 37,
         trapIf (4096 ≤ sh.tag.toNat ∨ buf.getLsbD 0 = false ∨ buf.getLsbD 1 = false ∨
           (buf.extractLsb' 224 32).toNat < (readS s p b).toNat / 512 + sh.outer) 2 38,
         trapIf ((s.core p).klprg.toNat / 2 ^ 62 = 1) 2 39,
         fun f => (bar ≠ 0 ∧ ¬(ok bar ∧ (isRemote bar = true ∨ (ok (bar + 8) ∧ ok (bar + 16))))) ∧ f = .fatal 1 bar 0]
       ++ residencyFaults r hd) check ∧
     ((s.core p).loomFree ≤ s.cycle → Stops (.lmmar h w g a b 0) s p k check) ∧
     ((s.core p).loomFree ≤ s.cycle → check = none →
     (sh.outer ≤ first → ∃ t, exec (.lmmar h w g a b 0) s = .next t ∧ (t.core p).klprg = BitVec.ofNat 64 (3 * 2 ^ 62 + first) ∧
       (t.core p).loomFree = s.cycle + sh.outer + 40 ∧ Exchanged t s p 0 w [h.toNat] ∧
       t = after s p (fun c => { c with klprg := (t.core p).klprg, loomFree := (t.core p).loomFree,
                                        active := (t.core p).active, shadow := (t.core p).shadow })) ∧
     (first < sh.outer →
     ∃ t j, exec (.lmmar h w g a b 0) s = .next t ∧ (t.core p).lmmar = (s.core p).lmmar ++ [j] ∧ j.own = true ∧ j.bar = bar ∧
       (t.core p).klprg = BitVec.ofNat 64 (2 ^ 62 + first) ∧ j.base = sh.base ∧ j.stride = sh.st1 ∧ j.rows = sh.outer ∧
       j.kofs = sh.inner ∧ (∀ m, m ∈ j.landed ↔ m < first) ∧ j.rc = sh.rc.toNat % 4 ∧ j.issue = s.cycle ∧
       (t.core p).loomFree = s.cycle + sh.outer + 40 ∧ Exchanged t s p 0 w [h.toNat] ∧
       t = after s p (fun c => { c with lmmar := (t.core p).lmmar, klprg := (t.core p).klprg, loomFree := (t.core p).loomFree,
                                        active := (t.core p).active, shadow := (t.core p).shadow }))))

/-! ### X slot: the Carter and the update engine (R198 to R212, R261, R262) -/

/-- R144, R198, R205 to R208, R262. A Carter instruction whose channel holds fewer than 16 copies and whose checks pass joins the
tail of its channel, imm bits 1:0, with the records it captured after any exchange; the other channels, and all else of the core,
stay. With 16 copies in the channel the core freezes.
R204, R75. The checks, in their order: TCAUSE 2 with the details 40 (formats, tag and class), 41 (row counts), 42 (a local row outside the front of
the buffer that the tag names), 44 (CTOPK's limits), 46 (OPTU's); then the fatal errors of a local row read, a local row
written, the barrier. The first that fails is taken, and nothing is done.
R209, R211, R212, R261. CDRN passes once its channel is empty and freezes its core before; PUSHIX appends the low half of s[a]
to the address queue while it holds fewer than 64 entries, and freezes its core when it is full; OPTU, with no other running and
its checks passed, starts with the four shapes and the five scalars it captured.
The model's own here, no rule of the manual: the count of free values that each step advances (log 4); info 0 of the fatal errors (log 17). -/
def Obligations.CopyAndUpdateIssue : Prop :=
  (∀ (s : State) (p k : Nat) (h : BitVec 2) (w : BitVec 1) (g : BitVec 5) (a b i : BitVec 6),
     Issues s p k → guardM g s (.core p) = true → Settled s p [destS a, destS b] →
     let h2 := (h ^^^ 1).toNat
     let s1 := shapeIn s p 1 h.toNat w
     let s2 := shapeIn s p 1 h2 w
     let off := readS s p b
     let u := i.toNat % 4
     let ch := fun (t : State) (n : Nat) => Tab.get [] (t.core p).chans n
     let accepts := fun (inst : Instr) (check : Option Fail) (hs : List Nat) (q : Copy → Prop) =>
       (16 ≤ (ch s u).length → exec inst s = .next (frozen s p)) ∧
       ((ch s u).length < 16 → Stops inst s p k check) ∧
       ((ch s u).length < 16 → check = none →
         ∃ t j, exec inst s = .next t ∧ ch t u = ch s u ++ [j] ∧ (∀ n, n ≠ u → ch t n = ch s n) ∧ q j ∧ j.issue = s.cycle ∧
           j.done = [] ∧ j.idx = [] ∧ j.told = 0 ∧ Exchanged t s p 1 w hs ∧
           t = after s p (fun c => { c with chans := (t.core p).chans, active := (t.core p).active,
                                            shadow := (t.core p).shadow }))
     let m2 : Shape := { s2 with base := s2.base + off }
     let m1 : Shape := { s1 with base := s1.base + off }
     let n := (readS s p a).toNat % 2 ^ 32
     let all := fun (d : Shape) (n : Nat) (a : W64) => ∃ j, j < n ∧ a = d.rowAt j
     let ends := fun (d : Shape) (a : W64) => a = d.stepAt 0 ∨ a = d.stepAt (d.inner - 1)
     let bar := fun (d : Shape) => d.bar &&& ~~~(7 : W64)
     let indexed := fun (x y table dense d : Shape) (reads writes : W64 → Prop) (check : Option Fail) =>
       FirstFails ([trapIf (CopyRecordBad x y d) 2 40,
         trapIf (¬Counted n ∨ ¬Counted (dense.outer * dense.inner) ∨ dense.outer * dense.inner < n ∨ table.outer ≠ 1 ∨
           ¬Counted table.inner) 2 41,
         trapIf (∃ a, writes a ∧ OffFront s p d a) 2 42] ++ engineFatals s p reads writes (bar d)) check
     (i.toNat < 8 → (4 ≤ i.toNat ∨ a = 0) →
       let mm := i.getLsbD 2
       let writes := all m2 (if mm = true then s1.outer * s1.inner else s2.outer * s2.inner)
       FirstFails ([trapIf (CopyRecordBad s1 s2 s2) 2 40,
         trapIf (¬Counted (s1.outer * s1.inner) ∨ ¬Counted (s2.outer * s2.inner) ∨
           (mm = true ∧ s2.outer * s2.inner < s1.outer * s1.inner) ∨ (mm = false ∧ s2.outer * s2.inner ≠ s1.outer * s1.inner)) 2 41,
         trapIf (∃ a, writes a ∧ OffFront s p s2 a) 2 42]
         ++ engineFatals s p (fun q => all s1 (s1.outer * s1.inner) q ∨
             (mm = true ∧ ∃ j, 4096 * j < s1.outer * s1.inner ∧ q = readS s p a + BitVec.ofNat 64 (512 * j))) writes (bar s2))
         (ccpyCheck s p s1 m2 mm (readS s p a))) ∧
     (i.toNat < 4 →
       indexed s1 s2 s1 s2 s2 (ends s1) (all m2 n) (indexedCheck s p false s1 m2 n) ∧
       indexed s1 s2 s2 s1 s2 (all m1 n) (ends s2) (indexedCheck s p true m1 s2 n)) ∧
     (i.getLsbD 2 = false →
       let a0 := (readS s p a).toNat % 8192
       let rows := fun (a : W64) => ∃ j, j < (s1.outer + 7) / 8 ∧ a = s1.stepAt j
       FirstFails ([trapIf (s1.fmt ≠ 0 ∨ 4096 ≤ s1.tag.toNat ∨ 3 ≤ s1.rc.toNat) 2 40, trapIf (¬Counted s1.outer) 2 41,
         trapIf (∃ a, rows a ∧ OffFront s p s1 a) 2 42,
         trapIf (8192 < a0 + s1.outer ∨ s1.inner < 1 ∨ 128 < s1.inner ∨ isSpad s1.base = false) 2 44]
         ++ engineFatals s p (fun _ => False) rows (bar s1)) (ctopkCheck s p s1 a0)) ∧
     (i.toNat < 8 → (4 ≤ i.toNat ∨ a = 0) →
       accepts (.ccpy h w g a b i)
         (ccpyCheck s p s1 { s2 with base := s2.base + off } (i.getLsbD 2) (readS s p a)) [h.toNat, h2]
         (fun j => j.kind = .ccpy ∧ j.src = s1 ∧ j.dst = { s2 with base := s2.base + off } ∧ j.rows = s1.outer * s1.inner ∧
           j.masked = i.getLsbD 2 ∧ j.maskAt = readS s p a)) ∧
     (i.toNat < 4 →
       accepts (.cgth h w g a b i)
         (indexedCheck s p false s1 { s2 with base := s2.base + off } ((readS s p a).toNat % 2 ^ 32)) [h.toNat, h2]
         (fun j => j.kind = .cgth ∧ j.src = s1 ∧ j.dst = { s2 with base := s2.base + off } ∧
           j.rows = (readS s p a).toNat % 2 ^ 32) ∧
       accepts (.csct h w g a b i)
         (indexedCheck s p true { s1 with base := s1.base + off } s2 ((readS s p a).toNat % 2 ^ 32)) [h.toNat, h2]
         (fun j => j.kind = .csct ∧ j.src = { s1 with base := s1.base + off } ∧ j.dst = s2 ∧
           j.rows = (readS s p a).toNat % 2 ^ 32)) ∧
     (i.getLsbD 2 = false →
       accepts (.ctopk h w g a b i) (ctopkCheck s p s1 ((readS s p a).toNat % 8192)) [h.toNat]
         (fun j => j.kind = .ctopk ∧ j.dst = s1 ∧ j.rows = (s1.outer + 7) / 8 ∧
           j.off = BitVec.ofNat 64 ((readS s p a).toNat % 8192) ∧ j.base = off.setWidth 32 ∧ j.best = i.toNat / 8 + 1))) ∧
  (∀ (s : State) (p k : Nat) (g : BitVec 5) (a b i : BitVec 6) (w : BitVec 1),
     Issues s p k → guardM g s (.core p) = true →
     let c := s.core p
     (i.toNat < 4 →
       (Tab.get [] c.chans i.toNat = [] → exec (.cdrn g i) s = .next (after s p id)) ∧
       (Tab.get [] c.chans i.toNat ≠ [] → exec (.cdrn g i) s = .next (frozen s p))) ∧
     (Settled s p [destS a] →
       (c.addrQ.length < 64 → exec (.pushix g a) s =
         .next (after s p (fun c => { c with addrQ := c.addrQ ++ [(readS s p a).setWidth 32] }))) ∧
       (64 ≤ c.addrQ.length → exec (.pushix g a) s = .next (frozen s p))) ∧
     (Settled s p [destS a, destS b] → i = 0 ∨ (i = 63 ∧ Ported s p) →
       let w_ := shapeIn s p 2 0 w
       let g_ := shapeIn s p 2 1 w
       let m_ := shapeIn s p 2 2 w
       let v_ := shapeIn s p 2 3 w
       let check := optuCheck s p w_ g_ m_ v_
       let rows := fun (d : Shape) (a : W64) => ∃ j, j < (w_.inner * fmtBytes d.fmt.toNat + 511) / 512 ∧
         a = BitVec.ofNat 64 (d.base.toNat / 512 * 512) + BitVec.ofNat 64 (512 * j)
       let off := fun (d : Shape) => isRemote d.base = false ∧ ∃ a, rows d a ∧
         (isSpad a = true ∨ inFront (s.ctx (s.ctxOf p)) (d.tag.toNat % 4096) a = false)
       FirstFails ([trapIf (2 ≤ w_.fmt.toNat ∨ 2 ≤ g_.fmt.toNat ∨ 2 ≤ m_.fmt.toNat ∨ 2 ≤ v_.fmt.toNat ∨ 4096 ≤ w_.tag.toNat ∨
             3 ≤ w_.rc.toNat ∨ 4096 ≤ m_.tag.toNat ∨ 4096 ≤ v_.tag.toNat) 2 40,
           trapIf (off w_ ∨ off m_ ∨ off v_) 2 42,
           trapIf (w_.inner < 256 ∨ 2 ^ 31 < w_.inner ∨ w_.inner % 256 ≠ 0 ∨ isRemote w_.base = true ∨ isRemote g_.base = true ∨
             isRemote m_.base = true ∨ isRemote v_.base = true) 2 46]
         ++ engineFatals s p (rows g_) (fun a => rows w_ a ∨ rows m_ a ∨ rows v_ a) (w_.bar &&& ~~~7)) check ∧
       (c.optu = none → Stops (.optu w g a b i) s p k check) ∧
       (c.optu ≠ none → exec (.optu w g a b i) s = .next (frozen s p)) ∧
       (c.optu = none → check = none →
         ∃ t j, exec (.optu w g a b i) s = .next t ∧ (t.core p).optu = some j ∧
           j.w = shapeIn s p 2 0 w ∧ j.g = shapeIn s p 2 1 w ∧ j.m = shapeIn s p 2 2 w ∧ j.v = shapeIn s p 2 3 w ∧
           j.lr = (readS s p a).setWidth 32 ∧ j.b1 = (readS s p a).extractLsb' 32 32 ∧
           j.b2 = (readS s p b).setWidth 32 ∧ j.eps = (readS s p b).extractLsb' 32 32 ∧
           j.wd = (if i = 63 then (readS s p (headBs s.header)).setWidth 32 else 0) ∧ j.done = [] ∧
           Exchanged t s p 2 w [0, 1, 2, 3] ∧
           t = after s p (fun c => { c with optu := (t.core p).optu, active := (t.core p).active,
                                            shadow := (t.core p).shadow }))))

/-! ### X slot: residencies, and the empty slots (R66, R302 to R306) -/

/-- R66, R302, R306. NOP and an empty slot do nothing. RQRY leaves one outstanding request with its operand and destination.
RALLOC allocates at its commit and leaves its result to arrive: a charge outside 1 to 1,536 gives …03; within the quota the
lowest slot never allocated or revoked and drained becomes HELD with that charge, and the result is its handle, or …01 with no
such slot; beyond the quota, with no other context's granules to evict, …02.
R144, R301, R303 to R305. RPIN, RUNPIN and RREV on a held slot: RPIN sets pin and makes RESIDENT PINNED, RUNPIN clears it and
makes PINNED RESIDENT, RREV makes the slot REVOKED, not held, under the next generation, wrapping from 4095 to 1; no other slot
changes. RLOAD whose checks pass makes the slot LOADING with its format, rows and source, or FAULTED with status 1 when the
range is refused. For each of the four a handle that fails the check of R301 is a trap with the handle as argument: cause 7 for
the generation of a revoked slot, else cause 8 (bits 19:16 not zero, an index above 1,023, a slot not held, another
generation).
The model's own here, no rule of the manual: the count of free values that each step advances (log 4); what the log entries 15,
29 say. -/
def Obligations.Residencies : Prop :=
  (∀ (s : State) (p k : Nat) (g : BitVec 5) (a b : BitVec 6), Issues s p k →
     exec .nop s = .next (after s p id) ∧
     (guardM g s (.core p) = true → Settled s p [destS a, destS b] →
       (let n := (readS s p b).toNat
        let c := s.ctxOf p
        let l := (s.core p).lcore
        let entry := fun (t : State) (q : Nat) => Tab.get Resid.zero (t.ctx c).res (l * 1024 + q)
        let u := s.onCore p (drainDue s.cycle)
        let fits := chargeOf u p c l + n ≤ quotaOf s p (s.ctx c).tenant
        let open_ := fun (q : Nat) => ((entry s q).state = 0 ∧ (entry s q).held = false) ∨
          ((entry s q).state = 7 ∧ draining (u.core p) c l q = false)
        ∃ e t, e.kind = .ralloc ∧ e.dest = destS a ∧ e.x = readS s p b ∧ e.issue = s.cycle ∧
          exec (.ralloc g a b) s = .next (afterAll s p (t.onCore p (fun q => { q with board := q.board ++ [e] }))) ∧
          (n < 1 ∨ 1536 < n → e.y = 0x8000000000000003 ∧ t = s) ∧
          (1 ≤ n → n ≤ 1536 → ¬fits → (u.core p).left = [] → e.y = 0x8000000000000002 ∧ t = u) ∧
          (1 ≤ n → n ≤ 1536 → fits → (∀ q, q < 1024 → ¬open_ q) → e.y = 0x8000000000000001 ∧ t = u) ∧
          (∀ q, 1 ≤ n → n ≤ 1536 → fits → q < 1024 → open_ q → (∀ j, j < q → ¬open_ j) →
            e.y = BitVec.ofNat 64 ((entry s q).gen.toNat * 2 ^ 20 + q) ∧
            (entry t q).held = true ∧ (entry t q).state = 0 ∧ (entry t q).charge = n ∧ (entry t q).pin = false ∧
            (entry t q).gen = (entry s q).gen ∧ (entry t q).status = 0 ∧ (entry t q).loaded = false ∧
            (entry t q).rgen = (if (entry s q).state = 7 then 0 else (entry s q).rgen) ∧ (∀ j, j ≠ q → entry t j = entry s j) ∧
            t = { u with ctxs := t.ctxs })) ∧
       (∃ e, e.kind = .rqry ∧ e.dest = destS a ∧ e.x = readS s p b ∧ e.issue = s.cycle ∧
         exec (.rqry g a b) s = .next (after s p (fun q => { q with board := q.board ++ [e] }))))) ∧
  (∀ (s : State) (p k : Nat) (h : BitVec 2) (w : BitVec 1) (g : BitVec 5) (a b i : BitVec 6),
     Issues s p k → guardM g s (.core p) = true → Settled s p [destS a] →
     let c := s.ctxOf p
     let l := (s.core p).lcore
     let hd := readS s p a
     let q := hd.toNat % 2 ^ 16
     let gen := hd.toNat / 2 ^ 20 % 4096
     let entry := fun (t : State) (j : Nat) => Tab.get Resid.zero (t.ctx c).res j
     let e := entry s (l * 1024 + q)
     let stale : Option Nat :=
       if hd.toNat / 2 ^ 16 % 16 ≠ 0 ∨ 1024 ≤ q then some 8
       else if e.state = 7 ∧ gen = e.rgen.toNat then some 7
       else if e.held = false ∨ gen ≠ e.gen.toNat then some 8
       else none
     let traps := fun (inst : Instr) => ∀ cause, stale = some cause → (s.core p).board = [] → (s.core p).steward = false →
       exec inst s = .next (trapped s p
         { cause := cause, mask := 2 ^ k, slot := k, detail := 0, addr := 0, arg := hd.setWidth 32,
           bundle := BitVec.ofInt 32 (s.core p).pc })
     let becomes := fun (inst : Instr) (r : Resid) =>
       ∃ t, exec inst s = .next t ∧ entry t (l * 1024 + q) = r ∧ (∀ j, j ≠ l * 1024 + q → entry t j = entry s j) ∧
         t.mem = s.mem ∧ (t.core p).s = (s.core p).s ∧ (t.core p).v = (s.core p).v ∧ Exchanged t s p 0 w [h.toNat]
     (stale = none →
       becomes (.rpin h w g a) { e with pin := true, state := if e.state = 2 then 3 else e.state } ∧
       becomes (.runpin h w g a) { e with pin := false, state := if e.state = 3 then 2 else e.state } ∧
       becomes (.rrev h w g a)
         { e with rgen := e.gen, gen := if e.gen = 4095 then 1 else e.gen + 1, state := 7, pin := false, held := false }) ∧
     traps (.rpin h w g a) ∧ traps (.runpin h w g a) ∧ traps (.rrev h w g a) ∧
     (Settled s p [destS b] → i.toNat < 2 → (s.core p).rloads.length < 4 →
       tileShapeFail (shapeIn s p 0 h.toNat w) = none →
       ((shapeIn s p 0 h.toNat w).base + readS s p b).toNat < 2 ^ 48 → barrierOk s c (shapeIn s p 0 h.toNat w).barAt = true →
       traps (.rload h w g a b i)) ∧
     (Settled s p [destS b] → i.toNat < 2 → (s.core p).rloads.length < 4 →
       rloadCheck s p (shapeIn s p 0 h.toNat w) hd (readS s p b) = none →
       let sh := shapeIn s p 0 h.toNat w
       let src := (sh.base + readS s p b).toNat % 2 ^ 48
       let ok := rangeOk s c src (tileBytes sh.fmt.toNat sh.inner)
       ∃ t, exec (.rload h w g a b i) s = .next t ∧
         (entry t (l * 1024 + q)).state = (if ok then 1 else 6) ∧ (entry t (l * 1024 + q)).status = (if ok then 0 else 1) ∧
         (entry t (l * 1024 + q)).fmt = sh.fmt.toNat ∧ (entry t (l * 1024 + q)).k = sh.inner ∧
         (entry t (l * 1024 + q)).src = src ∧ (entry t (l * 1024 + q)).pin = (e.pin || i.getLsbD 0) ∧
         (entry t (l * 1024 + q)).gen = e.gen ∧ t.mem = s.mem ∧ (t.core p).s = (s.core p).s ∧
         (t.core p).rloads.length = (s.core p).rloads.length + 1))

/-! ### Stream threads (R243 to R245, R247, R248, R255 to R258, R359) -/

/-- R243, R244, R245. A scalar word that stream code lets run does in the thread what it does in a core, on the thread's own
registers: its result is in place before the next word, four cycles on; no flag is kept; HALT stops the thread. A false guard
does nothing. A word with a field out of limits is a fatal context error of cause 6 with the lowest detail of its word, one that
stream code does not let run one with detail 18.
The model's own here, no rule of the manual: the count of free values that each step advances (log 4). -/
def Obligations.StreamScalarWords : Prop :=
  ∀ (s : State) (c : Nat) (g : BitVec 5) (n : BitVec 1) (d a b : BitVec 6) (w : BitVec 1) (o : BitVec 19) (m : BitVec 13)
    (pd pa pb : BitVec 5) (tt : BitVec 4) (j : Instr),
    Threads s c →
    let x := readAS s (.thread c) a
    let y := readAS s (.thread c) b
    let pc := (s.ctx c).thr.pc
    let on := guardN g n s (.thread c) = true
    let gives := fun (i : Instr) (v : W64) => exec i s = .next (threadS s c d v)
    let row := fun (i : Instr) (zero : Bool) (f : (k : Nat) → BitVec k → BitVec k → BitVec k) => gives i (atWidth w zero f x y)
    let sets := fun (i : Instr) (q : Pred) => exec i s = .next (threadP s c pd q)
    let holds := fun (i : Instr) (r : Bool) => sets i (if r then BitVec.allOnes 128 else 0)
    (on →
      row (.add g n d a b w) false (fun _ x y => x + y) ∧ row (.sub g n d a b w) false (fun _ x y => x - y) ∧
      row (.and g n d a b w) false (fun _ x y => x &&& y) ∧ row (.or g n d a b w) false (fun _ x y => x ||| y) ∧
      row (.xor g n d a b w) false (fun _ x y => x ^^^ y) ∧ row (.andn g n d a b w) false (fun _ x y => x &&& ~~~y) ∧
      row (.shl g n d a b w) false (fun k x y => x <<< (y.toNat % k)) ∧
      row (.shr g n d a b w) false (fun k x y => x >>> (y.toNat % k)) ∧
      row (.sra g n d a b w) false (fun k x y => x.sshiftRight (y.toNat % k)) ∧
      row (.mul g n d a b w) false (fun _ x y => x * y) ∧
      row (.mulh g n d a b w) false (fun k x y => ((x.signExtend (2 * k) * y.signExtend (2 * k)) >>> k).setWidth k) ∧
      row (.mulhn g n d a b w) true (fun k x y => ((x.setWidth (2 * k) * y.setWidth (2 * k)) >>> k).setWidth k) ∧
      row (.div g n d a b w) false (fun k x y => if y = 0 then BitVec.allOnes k else x.sdiv y) ∧
      row (.divn g n d a b w) true (fun k x y => if y = 0 then BitVec.allOnes k else x / y) ∧
      row (.rem g n d a b w) false (fun _ x y => if y = 0 then x else x.srem y) ∧
      row (.remn g n d a b w) true (fun _ x y => if y = 0 then x else x % y) ∧
      row (.min g n d a b w) false (fun _ x y => if x.sle y then x else y) ∧
      row (.max g n d a b w) false (fun _ x y => if x.sle y then y else x) ∧
      row (.minn g n d a b w) true (fun _ x y => if x.ule y then x else y) ∧
      row (.maxn g n d a b w) true (fun _ x y => if x.ule y then y else x) ∧
      row (.clz g n d a w) true (fun _ x _ => x.clz) ∧ row (.popc g n d a w) true (fun _ x _ => x.cpop) ∧
      row (.bfx g n d a b w) true
        (fun k x y => (x >>> (y.toNat % k)) &&& BitVec.ofNat k (2 ^ (y.toNat / 256 % k + 1) - 1))) ∧
    row (.sel g n d a b w) false (fun _ x y => if guardN g n s (.thread c) then x else y) ∧
    (gives (.addi d a m) (x + m.signExtend 64) ∧ gives (.andi d a m) (x &&& m.signExtend 64) ∧
      gives (.ori d a m) (x ||| m.signExtend 64) ∧ gives (.xori d a m) (x ^^^ m.signExtend 64) ∧
      gives (.muli d a m) (x * m.signExtend 64) ∧
      (m.toNat < 64 → gives (.shli d a m) (x <<< m.toNat) ∧ gives (.shri d a m) (x >>> m.toNat) ∧
        gives (.srai d a m) (x.sshiftRight m.toNat)) ∧
      gives (.liu d o) (o.setWidth 64) ∧
      gives (.lih d o) (readAS s (.thread c) d * BitVec.ofNat 64 (2 ^ 19) ||| o.setWidth 64)) ∧
    (on →
      holds (.cmpeq g n pd a b) (decide (x = y)) ∧ holds (.cmpne g n pd a b) (decide (x ≠ y)) ∧
      holds (.cmplt g n pd a b) (decide (x.toInt < y.toInt)) ∧ holds (.cmple g n pd a b) (decide (x.toInt ≤ y.toInt)) ∧
      holds (.cmpltn g n pd a b) (decide (x.toNat < y.toNat)) ∧ holds (.cmplen g n pd a b) (decide (x.toNat ≤ y.toNat)) ∧
      holds (.cmpbit g n pd a b) (x.getLsbD (y.toNat % 64)) ∧ sets (.pfrom g n pd a b) (y ++ x) ∧
      (a.toNat < 32 → gives (.pto g n d a w)
        (BitVec.extractLsb' (if w = 0 then 0 else 64) 64 (readAP s (.thread c) (a.setWidth 5))))) ∧
    (∃ q : Pred, sets (.plog pd pa pb tt) q ∧ ∀ k, k < 128 → q.getLsbD k =
      tt.getLsbD (2 * ((readAP s (.thread c) pa).getLsbD k).toNat + ((readAP s (.thread c) pb).getLsbD k).toNat)) ∧
    (on →
      exec (.br g n o) s = .next (threadOn s c (fun r => { r with pc := pc + o.toInt })) ∧
      exec (.call g n o) s = .next (threadOn s c (fun r =>
        { r with s := Tab.put 0 r.s 62 ((BitVec.ofInt 32 (pc + 1)).setWidth 64), pc := pc + o.toInt })) ∧
      exec (.jmp g n a) s = .next (threadOn s c (fun r => { r with pc := x.toNat }))) ∧
    exec .halt s = .next (threadOn s c (fun r => { r with halted := true, haltAt := pc.toNat })) ∧
    exec .nop s = .next (threadOn s c (fun r => { r with pc := pc + 1 })) ∧
    (guardOf j = some (g, n) → j.detail = none → streamRuns j = true → (readAP s (.thread c) g).getLsbD 0 = (n == 1) →
      exec j s = .next (threadOn s c (fun r => { r with pc := pc + 1 }))) ∧
    (j.cls = some .scalar →
      (∀ k, j.detail = some k → exec j s = .next (drawn s (fatalThread c 6 0 (BitVec.ofNat 64 k) (BitVec.ofInt 64 pc) s))) ∧
      (j.detail = none → streamRuns j = false →
        exec j s = .next (drawn s (fatalThread c 6 0 18 (BitVec.ofInt 64 pc) s))))

/-- R247, R248, R359. LAUNCH of a record whose checks pass, the task queue holding fewer than 64: it joins the queue with the
record's fields and args, s[b] instead when that is not 0, and issued rises by 1; with 64 queued the thread waits. TASKW sends
done once it has reached the value that issued had when the wait began, and waits until then. A failed check is a fatal
context error at the word.
The model's own here, no rule of the manual: the count of free values that each step advances (log 4); what log entry 21 says. -/
def Obligations.TaskLaunches : Prop :=
  ∀ (s : State) (c : Nat) (d a b : BitVec 6), Threads s c →
    let r := readAS s (.thread c) a
    let y := readAS s (.thread c) b
    let pc := (s.ctx c).thr.pc
    let word := objWord s c r
    let fatal := fun (i : Instr) (f : Fail) => ∀ cause ad info, f = .fatal cause ad info →
      exec i s = .next (drawn s (fatalThread c cause ad info (BitVec.ofInt 64 pc) s))
    (r.toNat % 8 ≠ 0 → fatal (.launch a b) (.fatal 7 r 1) ∧ fatal (.taskw d a 0) (.fatal 7 r 1)) ∧
    (∀ f, recordFail s c r = some f → fatal (.launch a b) f) ∧
    (∀ f, objectFail s c r 64 .load = some f → fatal (.taskw d a 0) f) ∧
    (recordFail s c r = none → 64 ≤ (s.ctx c).queue.length →
      exec (.launch a b) s = .next (drawn s (s.onCtx c (fun x => { x with started := true })))) ∧
    (recordFail s c r = none → (s.ctx c).queue.length < 64 →
      ∃ t, exec (.launch a b) s = .next t ∧
        (t.ctx c).queue = (s.ctx c).queue ++ [
          { record := vaOf r, args := if y = 0 then word 1 else y, prio := (word 0).toNat / 2 ^ 32 % 8,
            clusters := word 3 ++ word 2, gate := word 4, entry := (word 0).setWidth 32, enq := s.cycle,
            opened := decide (word 4 = 0), acq := [], graph := none }] ∧
        (t.ctx c).thr = { (s.ctx c).thr with last := pc, nextAt := s.cycle + 4, fixed := none, watch := none, pc := pc + 1 } ∧
        t.mem.read (keyOf s c (vaOf r + 40)) 8 = (word 5 + 1).toNat ∧
        (∀ k, k < keyOf s c (vaOf r + 40) ∨ keyOf s c (vaOf r + 40) + 8 ≤ k → t.mem.byte k = s.mem.byte k) ∧
        t.cores = s.cores) ∧
    (objectFail s c r 64 .load = none →
      let goal := ((s.ctx c).thr.fixed).getD (word 5)
      (goal.toNat ≤ (word 6).toNat → exec (.taskw d a 0) s = .next (threadS s c d (word 6))) ∧
      ((word 6).toNat < goal.toNat → exec (.taskw d a 0) s =
        .next (drawn s (s.onCtx c (fun x => { x with started := true, thr := { x.thr with fixed := some goal } })))))

/-- R256, R257, R258. In a context without published buffers and bound regions: PATCH, its back block free, gives that block the
front's bytes when it is stale and then the source's bytes at o, and clears stale; GRUN, the back block free and the queue not
full, makes the back block the front, busy, the other stale, counts the replay and the launch, and queues the record with the
block's address; each waits otherwise. GWAIT waits for ended as TASKW does for done. MBXW sends the mailbox word once it
differs from s[d], or, with imm = 1, once it is not 0, and then clears it; a thread that waits in it wakes at the end of the cycle in
which its word has changed, with that value.
The model's own here, no rule of the manual: the count of free values that each step advances (log 4); what log entry 21 says. -/
def Obligations.GraphsAndMailboxes : Prop :=
  ∀ (s : State) (c : Nat) (d a b : BitVec 6), Threads s c → Plain s c →
    let r := readAS s (.thread c) a
    let q := readAS s (.thread c) d
    let pc := (s.ctx c).thr.pc
    let key := fun (va : Nat) => c * 2 ^ 48 + va
    let moved := fun (t : State) =>
      (t.ctx c).thr = { (s.ctx c).thr with last := pc, nextAt := s.cycle + 4, fixed := none, watch := none, pc := pc + 1 } ∧ t.cores = s.cores
    let waits := fun (i : Instr) => exec i s = .next (drawn s (s.onCtx c (fun x => { x with started := true })))
    let fatal := fun (i : Instr) (f : Fail) => ∀ cause ad info, f = .fatal cause ad info →
      exec i s = .next (drawn s (fatalThread c cause ad info (BitVec.ofInt 64 pc) s))
    (∀ f, patchFail s c r (readAS s (.thread c) b) = some f → fatal (.patch a b) f) ∧
    (patchFail s c r (readAS s (.thread c) b) = none →
      let g := patchGraph s c r
      let k := graphBack s c g
      let n := graphSize s c g
      let src := vaOf (patchSource s c r (readAS s (.thread c) b))
      let o := patchOff s c r
      let z := patchSize s c r
      let back := graphBlock s c g k
      (graphBusy s c g k = true → waits (.patch a b)) ∧
      (graphBusy s c g k = false → src + z ≤ vaOf g ∨ vaOf g + 64 + 2 * n ≤ src →
        ∃ t, exec (.patch a b) s = .next t ∧ moved t ∧ (t.ctx c).queue = (s.ctx c).queue ∧
          (∀ j, j < n → t.mem.byte (key (back + j)) =
            if o ≤ j ∧ j < o + z then memByte s c (src + (j - o))
            else if graphStale s c g = true then s.mem.byte (key (graphBlock s c g (1 - k) + j))
            else s.mem.byte (key (back + j))) ∧
          t.mem.read (key (vaOf g)) 8 =
            n + (if graphStale s c g = true then graphState s c g - 2 else graphState s c g) * 2 ^ 32 ∧
          (∀ j, j < key (vaOf g) ∨ key (vaOf g) + 8 ≤ j → j < key back ∨ key back + n ≤ j →
            t.mem.byte j = s.mem.byte j))) ∧
    (∀ f, firstOf [graphFail s c r, recordFail s c q] = some f → fatal (.grun d a 0) f) ∧
    (graphFail s c r = none → recordFail s c q = none →
      let k := graphBack s c r
      let n := graphSize s c r
      let back := graphBlock s c r k
      (graphBusy s c r k = true ∨ 64 ≤ (s.ctx c).queue.length → waits (.grun d a 0)) ∧
      (graphBusy s c r k = false → (s.ctx c).queue.length < 64 → vaOf q + 64 ≤ vaOf r ∨ vaOf r + 64 + 2 * n ≤ vaOf q →
        ∃ t e, exec (.grun d a 0) s = .next t ∧ moved t ∧ (t.ctx c).queue = (s.ctx c).queue ++ [e] ∧
          e.record = vaOf q ∧ e.args = BitVec.ofNat 64 back ∧ e.graph = some (vaOf r, k) ∧ e.enq = (s.cycle : Int) ∧
          ((objWord s c q 3 ++ objWord s c q 2 : BitVec 128)) = e.clusters ∧ e.gate = objWord s c q 4 ∧
          e.entry = (objWord s c q 0).setWidth 32 ∧ e.prio = (objWord s c q 0).toNat / 2 ^ 32 % 8 ∧
          t.mem.read (key (vaOf r)) 8 = n + ((1 - k) + 2 + 4 * (graphState s c r / 4 % 4 ||| 2 ^ k)) * 2 ^ 32 ∧
          t.mem.read (key (vaOf r + 8)) 8 = (objWord s c r 1 + 1).toNat ∧
          t.mem.read (key (vaOf q + 40)) 8 = (objWord s c q 5 + 1).toNat ∧
          (∀ j, j < n → t.mem.byte (key (back + j)) =
            if graphStale s c r = true then s.mem.byte (key (graphBlock s c r (1 - k) + j)) else s.mem.byte (key (back + j))))) ∧
    (objectFail s c r 64 .load = none →
      let goal := ((s.ctx c).thr.fixed).getD (objWord s c r 1)
      let ended := objWord s c r 2
      (goal.toNat ≤ ended.toNat → exec (.gwait d a 0) s = .next (threadS s c d ended)) ∧
      (ended.toNat < goal.toNat → exec (.gwait d a 0) s =
        .next (drawn s (s.onCtx c (fun x => { x with started := true, thr := { x.thr with fixed := some goal } }))))) ∧
    (∀ f, objectFail s c r 8 .live = some f → ∀ m : BitVec 13, m.toNat < 2 → fatal (.mbxw d a m) f) ∧
    (objectFail s c r 8 .live = none →
      let w := objWord s c r 0
      (w ≠ q → exec (.mbxw d a 0) s = .next (threadS s c d w)) ∧
      let watches := fun (i : Instr) (take : Bool) => exec i s = .next (drawn s (s.onCtx c (fun x =>
        { x with started := true, thr := { x.thr with watch := some (d, r, take) } })))
      (w = q → watches (.mbxw d a 0) false) ∧
      (w = 0 → watches (.mbxw d a 1) true) ∧
      (w ≠ 0 → ∃ t, exec (.mbxw d a 1) s = .next t ∧ (t.ctx c).thr = ((threadS s c d w).ctx c).thr ∧
        t.mem.read (key (vaOf r)) 8 = 0 ∧
        (∀ k, k < key (vaOf r) ∨ key (vaOf r) + 8 ≤ k → t.mem.byte k = s.mem.byte k) ∧ t.cores = s.cores) ∧
      (∀ take, (s.ctx c).thr.watch = some (d, r, take) → (s.ctx c).state = 1 → (s.ctx c).queue = [] → s.ctxs.map Prod.fst = [c] →
        let away := if take = true then 0 else q
        (w = away → endCycle s = s) ∧
        (w ≠ away → ((endCycle s).ctx c).thr = ((threadS s c d w).ctx c).thr ∧ (endCycle s).cores = s.cores ∧
          (∀ k, (endCycle s).mem.byte k =
            if take = true ∧ key (vaOf r) ≤ k ∧ k < key (vaOf r) + 8 then 0 else s.mem.byte k) ∧
          (take = false → endCycle s = { threadS s c d w with freeCtr := s.freeCtr }))))

/-! ### Events of the cores: fetches, waits, results, answers, yields (R50, R70 to R73, R121, R154, R221, R223, R232, R259) -/

/-- R9, R50, R73, R121, R154, R259. BUNDLE_FETCH ends the miss of a core, whose instruction cache holds the bundle from then on;
WAIT_CYCLES_EXPIRE lets the wait cycles of a running core pass, each a cycle for the dispatcher and the waiting threads too; SAFE_POINT_YIELD lets a core whose conditions hold yield, its results landed; PRECISE_TRAP takes the trap a core holds
back once no access of it is outstanding; SCLD_APPEND gives the scales of the oldest SCLD, whose row is as it was, to the Loom instruction that has
still to take some, and puts the others at the tail of the queue. Where its condition does not hold, each changes nothing.
R70, R48, R148. RESULT_LAND puts result i in flight, not overtaken, into the register it named at issue and its flags into the
record of its slot: they join those there, the count rises by one up to its maximum, and the address is that of the bundle issued
first; no other record or register changes, and the result is in flight no more.
The model's own here, no rule of the manual: the count of free values that each step advances (log 4); what the log entries 11,
12 say. -/
def Obligations.CoreEventsAndResults : Prop :=
  (∀ (s : State) (p : Nat), s.powered = true →
     let c := s.core p
     let nothing := fun (i : Instr) => exec i s = .next (drawn s s)
     (c.miss = true → ∃ t, exec (.bundleFetch p) s = .next t ∧ c.pc.toNat ∈ (t.core p).icache ∧
       (∀ b ∈ (t.core p).icache, b = c.pc.toNat ∨ b ∈ c.icache) ∧
       (c.icache.length < 262144 / 24 → ∀ b ∈ c.icache, b ∈ (t.core p).icache) ∧
       t = drawn s (s.onCore p (fun c => { c with miss := false, icache := (t.core p).icache }))) ∧
     (c.miss = false → nothing (.bundleFetch p)) ∧
     (c.run = .running → c.nextIssue ≤ s.cycle → nothing (.waitCyclesExpire p)) ∧
     (c.run = .running → s.cycle < c.nextIssue →
       exec (.waitCyclesExpire p) s = .next (drawn s (passCycles (c.nextIssue - s.cycle) s)) ∧
       (c.nextIssue = s.cycle + 1 →
         exec (.waitCyclesExpire p) s = .next (drawn s { endCycle s with cycle := c.nextIssue })) ∧
       ((∀ x ∈ s.ctxs, (s.ctx x.1).queue = [] ∧ (s.ctx x.1).thr.watch = none) →
         exec (.waitCyclesExpire p) s = .next (drawn s { s with cycle := c.nextIssue }))) ∧
     (c.run ≠ .running → nothing (.waitCyclesExpire p)) ∧
     (mayYield s p = true → exec (.safePointYield p) s =
       .next (drawn s (s.onCore p (fun k => { landAll s.freeCtr k with run := .yielded, yieldReq := false })))) ∧
     (c.atSafe = false ∨ c.yieldReq = false ∨ c.steward = true ∨ c.board ≠ [] ∨ c.miss = true ∨ s.stopped = true → nothing (.safePointYield p)) ∧
     (∀ q, coreAlive s p = true → c.trapPend = some q → c.board = [] →
       exec (.preciseTrap p) s = .next (trapped s p q)) ∧
     (c.trapPend = none ∨ c.board ≠ [] → nothing (.preciseTrap p)) ∧
     (∀ j r, coreAlive s p = true → c.sclds = j :: r →
       (∀ q, q < 16 → j.scales[q]? = some ((Tab.get 0 (s.core j.owner).spad j.row).extractLsb' (256 * j.gran + 16 * q) 16)) →
       j.scales.length = 16 →
       (c.loom = [] →
         exec (.scldAppend p) s = .next (drawn s (s.onCore p (fun c => { c with sclds := r, scaleQ := c.scaleQ ++ j.scales })))) ∧
       (∀ q l, c.loom = q :: l → (∀ x ∈ l, x.owed = 0) →
         exec (.scldAppend p) s = .next (drawn s (s.onCore p (fun c => { c with
           sclds := r, scaleQ := c.scaleQ ++ j.scales.drop q.owed
           loom := { q with scales := q.scales ++ j.scales.take q.owed, owed := q.owed - 16 } :: l }))))) ∧
     (c.sclds = [] → nothing (.scldAppend p))) ∧
  (∀ (s : State) (p i : Nat) (f : Flight), s.powered = true → coreAlive s p = true →
     (s.core p).flights[i]? = some f → f.late = false → f.free = false →
     ∃ t, exec (.resultLand p i) s = .next t ∧
       (∀ k, Tab.get 0 (t.core p).s k = if f.dest = .s k then f.val.setWidth 64 else Tab.get 0 (s.core p).s k) ∧
       (∀ k, Tab.get 0 (t.core p).p k = if f.dest = .p k then f.val.setWidth 128 else Tab.get 0 (s.core p).p k) ∧
       (∀ k, Tab.get 0 (t.core p).v k = if f.dest = .v k then f.val else Tab.get 0 (s.core p).v k) ∧
       (∀ k, Tab.get 0 (t.core p).acc k = if f.dest = .acc k then f.val else Tab.get 0 (s.core p).acc k) ∧
       (∀ k, k ≠ f.slot ∨ f.flags = 0 → Tab.get Sticky.zero (t.core p).sticky k = Tab.get Sticky.zero (s.core p).sticky k) ∧
       (f.flags ≠ 0 →
         let old := Tab.get Sticky.zero (s.core p).sticky f.slot
         let new := Tab.get Sticky.zero (t.core p).sticky f.slot
         new.flags = old.flags ||| f.flags ∧
         new.count.toNat = min (old.count.toNat + 1) (2 ^ 24 - 1) ∧
         (old.count = 0 ∨ f.issue < old.stamp → new.addr = f.bundle ∧ new.stamp = f.issue) ∧
         (old.count ≠ 0 → old.stamp ≤ f.issue → new.addr = old.addr ∧ new.stamp = old.stamp)) ∧
       (t.core p).flights.length + 1 = (s.core p).flights.length ∧
       t = drawn s (s.onCore p (fun c => { c with
         s := (t.core p).s, p := (t.core p).p, v := (t.core p).v, acc := (t.core p).acc,
         sticky := (t.core p).sticky, flights := (t.core p).flights })))

/-- R72, R221, R223, R232, R235. SCOREBOARD_ARRIVE of the oldest access of a core: a load takes its row or word, an atomic that
its region does not refuse and that need not wait for the host tier acts once on its word of memory and its register takes the
old value; ACKNOWLEDGEMENT_RETURN performs AST and BARA. Memory changes in that word alone. REMOTE_REFUSAL_RETURN of an injected access is a fatal context error of cause 5.
R232, R234. The word that each atomic leaves: signed and unsigned minimum and maximum, sums that wrap, bitwise AND and OR, the
operand of AXCHG and AST, and that of ACAS where the word equals the value expected.
The model's own here, no rule of the manual: the count of free values that each step advances (log 4); that the record of cause 5 holds
info 0 (log 17); what the log entries 14, 23 say. -/
def Obligations.AccessesAndAtomicsReturn : Prop :=
  (∀ (s : State) (p : Nat) (a : Access) (l : List Access) (r : Reply),
     s.powered = true → coreAlive s p = true → (s.core p).board = a :: l →
     let c := s.ctxOf p
     let va := vaOf a.addr
     let key := keyOf s c (va / 8 * 8)
     let acts := a.remote = false ∧ accessRefused s c a = none ∧ hostTierWaits s c a = false ∧
       (∀ j ∈ (s.core p).pubds, a.issue ≤ j.issue)
     let home := acts ∧ r.poisoned = false ∧ poisoned s c (rowVa a.addr) = false
     let word := fun (t : State) (w : W64) => t.mem.read key 8 = w.toNat ∧
       (∀ k, k < key ∨ key + 8 ≤ k → t.mem.byte k = s.mem.byte k)
     let unstored := (if loadKey s p c (rowVa a.addr) = a.key then a.mask else a.mask2) = 0
     let gone := fun (t : State) => (t.core p).board = l ∧ (t.core p).pc = (s.core p).pc
     (∀ k n, a.kind = .word k → k ≠ .st → k ≠ .bara → a.dest = .s n → home →
       ∃ t, exec (.scoreboardArrive p 0 r) s = .next t ∧ gone t ∧ Tab.get 0 (t.core p).s n = memWord s c va ∧
         (k = .ld → t.mem = s.mem) ∧ (k ≠ .ld → word t (atomNew k (memWord s c va) a.x a.y)) ∧
         t.tickets = s.tickets + (if a.oc = 6 then 1 else 0)) ∧
     (∀ k n, a.kind = .word k → k ≠ .st → k ≠ .bara → a.dest = .s n → a.remote = true → a.sent = true → r.poisoned = false →
       ∃ t, exec (.scoreboardArrive p 0 r) s = .next t ∧ gone t ∧
         Tab.get 0 (t.core p).s n = r.data.setWidth 64 ∧ t.mem = s.mem) ∧
     (∀ k, a.kind = .word k → k = .st ∨ k = .bara → acts →
       ∃ t, exec (.acknowledgementReturn p 0) s = .next t ∧ gone t ∧ (t.core p).s = (s.core p).s ∧
         word t (atomNew k (memWord s c va) a.x a.y)) ∧
     (∀ n, a.kind = .ldg → a.dest = .v n → unstored → home → Plain s c → (s.ctx c).live = [] →
       globalOk s c a.addr .load = true →
       ∃ t, exec (.scoreboardArrive p 0 r) s = .next t ∧ gone t ∧ Tab.get 0 (t.core p).v n = memRow s c (rowVa a.addr) ∧
         t.mem = s.mem) ∧
     (∀ n, a.kind = .ldgs → a.dest = .s n → unstored → home → Plain s c → (s.ctx c).live = [] →
       globalOk s c a.addr .load = true →
       ∃ t, exec (.scoreboardArrive p 0 r) s = .next t ∧ gone t ∧ Tab.get 0 (t.core p).s n = memWord s c va ∧ t.mem = s.mem) ∧
     (∀ n, a.kind = .ldg → a.dest = .v n → a.remote = true → a.sent = true → r.poisoned = false →
       ∃ t, exec (.scoreboardArrive p 0 r) s = .next t ∧ gone t ∧ Tab.get 0 (t.core p).v n = r.data ∧ t.mem = s.mem) ∧
     (a.kind = .store → a.remote = true → a.sent = true →
       exec (.acknowledgementReturn p 0) s = .next (drawn s (s.onCore p (fun c => { c with board := l })))) ∧
     (a.remote = true → a.sent = true → ∀ st, 0 < st → exec (.remoteRefusalReturn p 0 st) s =
       .next (drawn s (fatalAt p 5 a.addr 0 a.bundle (s.onCore p (fun c => { c with board := l })))))) ∧
  (∀ (w x y : W64),
     atomNew .ld w x y = w ∧ atomNew .st w x y = x ∧ atomNew .xchg w x y = x ∧
     (atomNew .add w x y).toNat = (w.toNat + x.toNat) % 2 ^ 64 ∧
     (∀ k, k < 64 → (atomNew .and w x y).getLsbD k = (w.getLsbD k && x.getLsbD k) ∧
       (atomNew .or w x y).getLsbD k = (w.getLsbD k || x.getLsbD k)) ∧
     (atomNew .min w x y).toInt = min w.toInt x.toInt ∧ (atomNew .max w x y).toInt = max w.toInt x.toInt ∧
     (atomNew .minn w x y).toNat = min w.toNat x.toNat ∧ (atomNew .maxn w x y).toNat = max w.toNat x.toNat ∧
     (w = y → atomNew .cas w x y = x) ∧ (w ≠ y → atomNew .cas w x y = w))

/-! ### Events of the engines (R185, R186, R188, R200 to R203, R205, R212, R213, R304, R305, R315) -/

/-- R200 to R203, R205 to R208. ENGINE_ROW_LAND of a row of the oldest copy of a channel, rows of one
format. A masked CCPY first reads its mask; a row with bit 0 moves nothing, one with bit 1 goes to the
destination row that counts the selected rows before it. CGTH and CSCT take their indices in order from the address queue, none
while an earlier gather or scatter of the core still takes some; an index at or beyond the extent refuses its row with status
bit 5; CGTH reads the table row of the index and lands its rows in order, CSCT lands in the table row, but not over a
later row of the same index. CTOPK makes of eight accumulator rows their records: the best columns in order, value and
index, then filler.
The first event of a row reads it at its bank, the second lands it: in a scratchpad with every granule full, in global
memory in the side that the front does not name. A row that a remote target refuses to read, or that the map refuses to let
land, is done, not counted, and leaves its status bit. A row done or beyond it moves nothing.
ENGINE_COMPLETE of a copy whose rows are all done, no packet of it unanswered, leaves its channel and adds its bytes to its
barrier.
R212. The elements of OPTU: m1, v1, d, e, q and w1 are each the manual's exact expression, rounded once to F32; a result
is rounded again where its stream stores another format; the exact sum, product, quotient and square root of finite values.
R212, R213, R274. Without a memory error a block of OPTU is done: a row with a poisoned source is not written (status
bit 4), one that the map refuses is not written, each other counts 512 bytes; ENGINE_COMPLETE of the OPTU whose blocks are
all done frees the engine. PSTW_LAND lands both rows of the oldest pair, the second with the block transposed, in the sides that
the fronts do not name.
The model's own: the count of free values of each step (log 4); that a back row is held to the map, a pair with a refused
row not written (log 58); log entries 11 and 25. -/
def Obligations.EngineEvents : Prop :=
  (∀ (s : State) (p u row st : Nat) (r : Reply) (j : Copy) (l : List Copy), s.powered = true → u < 4 →
     Tab.get [] (s.core p).chans u = j :: l →
     let ch := fun (t : State) => Tab.get [] (t.core p).chans u
     let goes := alive s j.ctx = true ∧ (∀ a ∈ (s.core p).board, j.issue ≤ a.issue) ∧
       (∀ d ∈ (s.core p).pubds, j.issue ≤ d.issue)
     let index := (j.idx.getD row 0).toNat
     let indexed := j.kind = .cgth ∨ j.kind = .csct
     let place := match j.mask with
       | none => row
       | some x => ((List.range row).filter (fun q => x.testBit q)).length
     let plainCopy := (j.kind = .ctopk ∨ j.src.fmt = j.dst.fmt) ∧
       (j.mask = none → j.masked = false) ∧ (∀ x, j.mask = some x → j.kind = .ccpy ∧ x.testBit row = true) ∧
       (indexed → row < j.idx.length)
     let sa := if j.kind = .cgth then j.src.base + BitVec.ofNat 64 index * j.src.st1 else j.src.rowAt row
     let da := if j.kind = .csct then j.dst.base + BitVec.ofNat 64 index * j.dst.st1
       else if j.kind = .ctopk then j.dst.base + BitVec.ofNat 64 row * j.dst.st1 else j.dst.rowAt place
     let inTurn := (j.kind = .cgth → ∀ q, q < row → q ∈ j.done) ∧ (j.kind = .ctopk → j.free = [])
     let later := j.kind = .csct ∧ ∃ q, q ∈ j.done ∧ row < q ∧ q ∉ j.refused ∧ j.idx.getD q 0 = j.idx.getD row 0
     let maskRow := j.maskAt + BitVec.ofNat 64 (512 * j.maskGot.length)
     let b := Tab.get (0 : BitVec 256) (s.ctx j.ctx).buffers j.tag
     let away := if bufSwapped b = true then rowVa da else bufAlt b + (rowVa da - bufHome b)
     let back := backKey s j.ctx away
     let rest := fun (t : State) => (∀ q, (t.core q).s = (s.core q).s ∧ (t.core q).v = (s.core q).v ∧
       (t.core q).p = (s.core q).p ∧ (t.core q).acc = (s.core q).acc ∧ (t.core q).pc = (s.core q).pc)
     (goes → j.kind = .ccpy → j.masked = true → j.mask = none → row < j.rows → row ∉ j.done → isRemote maskRow = false →
       (isSpad maskRow = true → bankGone s p j.ctx maskRow = false) →
       (isSpad maskRow = false → r.poisoned = false ∧ poisoned s j.ctx (rowVa maskRow) = false) →
       let got := j.maskGot ++ [if isSpad maskRow = true then spadGet s p maskRow else loadRow s p j.ctx (rowVa maskRow)]
       ∃ t k, exec (.engineRowLand p u 0 row r st) s = .next t ∧ ch t = k :: l ∧ k.maskGot = got ∧ k.done = j.done ∧
         k.read = j.read ∧ (got.length < (j.rows + 4095) / 4096 → k.mask = none) ∧
         ((j.rows + 4095) / 4096 ≤ got.length → ∃ x, k.mask = some x ∧
           ∀ n, n < 4096 * got.length → x.testBit n = (got.getD (n / 4096) 0).getLsbD (n % 4096)) ∧
         t.mem = s.mem ∧ (∀ q, (t.core q).spad = (s.core q).spad) ∧ rest t) ∧
     (∀ x, goes → j.mask = some x → x.testBit row = false → row < j.rows → row ∉ j.done →
       ∃ t k, exec (.engineRowLand p u 0 row r st) s = .next t ∧ ch t = k :: l ∧ k.done = row :: j.done ∧
         k.landed = j.landed ∧ k.status = j.status ∧ t.mem = s.mem ∧ (∀ q, (t.core q).spad = (s.core q).spad) ∧ rest t) ∧
     (goes → indexed → j.masked = false → j.mask = none → row < j.rows → row ∉ j.done → j.idx.length ≤ row →
       let earlier := ∃ e ∈ (s.core p).chans, ∃ k ∈ e.2, (k.kind = .cgth ∨ k.kind = .csct) ∧ k.order < j.order ∧
         k.idx.length < k.rows
       ((s.core p).addrQ = [] ∨ j.idx.length < row ∨ earlier → exec (.engineRowLand p u 0 row r st) s = .next (drawn s s)) ∧
       (∀ x q, (s.core p).addrQ = x :: q → j.idx.length = row → ¬earlier →
         let beyond := (if j.kind = .csct then j.dst.inner else j.src.inner) ≤ x.toNat
         ∃ t k, exec (.engineRowLand p u 0 row r st) s = .next t ∧ ch t = k :: l ∧ (t.core p).addrQ = q ∧
           k.idx = j.idx ++ [x] ∧ k.landed = j.landed ∧ k.done = (if beyond then row :: j.done else j.done) ∧
           k.status = (if beyond then j.status ||| 32 else j.status) ∧
           t.mem = s.mem ∧ (∀ q, (t.core q).spad = (s.core q).spad) ∧ rest t)) ∧
     (goes → j.kind = .ctopk → j.mask = none → j.masked = false → row < j.rows → row ∉ j.done → Tab.find j.read row = none →
       j.best ≤ 8 →
       let value := fun (m n : Nat) => elem (Tab.get 0 (s.core p).acc (j.off.toNat + m)) 32 n
       let above := fun (x y : Nat) => isNan (fpOf 0 x) = false ∧ (isNan (fpOf 0 y) = true ∨ 0 < fpCmp (fpOf 0 x) (fpOf 0 y))
       ∃ t k v, exec (.engineRowLand p u 0 row r st) s = .next t ∧ ch t = k :: l ∧ Tab.find k.read row = some v ∧
         k.done = j.done ∧ t.mem = s.mem ∧ (∀ q, (t.core q).spad = (s.core q).spad) ∧ rest t ∧
         ∀ m, m < 8 →
           let pair := fun (i : Nat) => elem v 64 (8 * m + i)
           (j.dst.outer ≤ 8 * row + m → ∀ i, i < 8 → pair i = 0xFF800000 + 0xFFFFFFFF * 2 ^ 32) ∧
           (8 * row + m < j.dst.outer → ∃ cols : List Nat, cols.length = min j.best j.dst.inner ∧ cols.Nodup ∧
             (∀ n, n ∈ cols → n < j.dst.inner) ∧
             (∀ i n, i < cols.length → n < j.dst.inner → n ∉ cols.take (i + 1) →
               let b := cols.getD i 0
               ¬above (value (8 * row + m) n) (value (8 * row + m) b) ∧
               (¬above (value (8 * row + m) b) (value (8 * row + m) n) → b < n)) ∧
             (∀ i, i < cols.length →
               pair i = value (8 * row + m) (cols.getD i 0) + (j.base + BitVec.ofNat 32 (cols.getD i 0)).toNat * 2 ^ 32) ∧
             (∀ i, cols.length ≤ i → i < 8 → pair i = 0xFF800000 + 0xFFFFFFFF * 2 ^ 32))) ∧
     (goes → plainCopy → j.kind ≠ .ctopk → row < j.rows → row ∉ j.done → Tab.find j.read row = none → isSpad sa = true →
       bankGone s p j.ctx sa = false →
       ∃ t k, exec (.engineRowLand p u 0 row r st) s = .next t ∧ ch t = k :: l ∧ Tab.find k.read row = some (spadGet s p sa) ∧
         k.done = j.done ∧ t.mem = s.mem ∧ (∀ q, (t.core q).spad = (s.core q).spad) ∧ rest t) ∧
     (goes → plainCopy → j.kind ≠ .ctopk → row < j.rows → row ∉ j.done → Tab.find j.read row = none → isRemote sa = true →
       st % 256 ≠ 0 →
       ∃ t k, exec (.engineRowLand p u 0 row r st) s = .next t ∧ ch t = k :: l ∧ k.done = row :: j.done ∧
         k.landed = j.landed ∧ k.status = j.status ||| 2 ^ (st % 256) ∧ Tab.find k.read row = none ∧
         t.mem = s.mem ∧ (∀ q, (t.core q).spad = (s.core q).spad) ∧ rest t) ∧
     (∀ v, goes → plainCopy → row < j.rows → row ∉ j.done → Tab.find j.read row = some v →
       (j.kind = .cgth → ∃ q, q < row ∧ q ∉ j.done) → j.kind = .cgth →
       exec (.engineRowLand p u 0 row r st) s = .next (drawn s s)) ∧
     (∀ v, goes → plainCopy → row < j.rows → row ∉ j.done → Tab.find j.read row = some v → later → isRemote da = true ∨ isSpad da = true →
       ∃ t k, exec (.engineRowLand p u 0 row r st) s = .next t ∧ ch t = k :: l ∧ k.done = row :: j.done ∧
         k.landed = j.landed + 1 ∧ t.mem = s.mem ∧ (∀ q, (t.core q).spad = (s.core q).spad) ∧ rest t) ∧
     (∀ v, goes → plainCopy → inTurn → ¬later → row < j.rows → row ∉ j.done → Tab.find j.read row = some v → isSpad da = true →
       ∃ t k, exec (.engineRowLand p u 0 row r st) s = .next t ∧ ch t = k :: l ∧ k.done = row :: j.done ∧
         k.landed = j.landed + 1 ∧ t.mem = s.mem ∧ rest t ∧
         (∀ q m, Tab.get 0 (t.core q).spad m =
           if q = spadPhys p da ∧ m = spadRow da then v else Tab.get 0 (s.core q).spad m) ∧
         (∀ q m, Tab.get 0 (t.core q).fullEmpty m =
           if q = spadPhys p da ∧ m = spadRow da then BitVec.allOnes 32 else Tab.get 0 (s.core q).fullEmpty m)) ∧
     (∀ v, goes → plainCopy → inTurn → ¬later → row < j.rows → row ∉ j.done → Tab.find j.read row = some v → isSpad da = false →
       isRemote da = false →
       (∀ q, landRefused s j.ctx da away = some q →
         ∃ t k, exec (.engineRowLand p u 0 row r st) s = .next t ∧ ch t = k :: l ∧ k.done = row :: j.done ∧
           k.landed = j.landed ∧ k.status = j.status ||| 2 ^ q ∧ t.mem = s.mem ∧
           (∀ q, (t.core q).spad = (s.core q).spad) ∧ rest t) ∧
       (landRefused s j.ctx da away = none →
       ∃ t k, exec (.engineRowLand p u 0 row r st) s = .next t ∧ ch t = k :: l ∧ k.done = row :: j.done ∧
         k.landed = j.landed + 1 ∧ t.mem.read back 512 = v.toNat ∧
         (∀ m, m < back ∨ back + 512 ≤ m → t.mem.byte m = s.mem.byte m) ∧
         (∀ q, (t.core q).spad = (s.core q).spad) ∧ rest t)) ∧
     (j.rows ≤ row ∨ row ∈ j.done → exec (.engineRowLand p u 0 row r st) s = .next (drawn s s)) ∧
     (alive s j.ctx = true → j.told = 0 → j.masked = false → j.done.length = j.rows → j.status = 0 →
       (j.remote = true → flowOpen s j.ctx (lcoreAt s p j.ctx) u = false) →
       (j.bar = 0 → ∃ t, exec (.engineComplete p u 0 st) s = .next t ∧ ch t = l ∧ t.mem = s.mem ∧ rest t) ∧
       (j.bar ≠ 0 → isRemote j.bar = false → rowRefused s j.ctx j.bar = none → hostPage s j.ctx (vaOf j.bar) = [] →
         let key := keyOf s j.ctx (vaOf j.bar / 8 * 8)
         ∃ t, exec (.engineComplete p u 0 st) s = .next t ∧ ch t = l ∧ rest t ∧
           t.mem.read key 8 = (barrierNew (memWord s j.ctx (vaOf j.bar)) (512 * j.landed % 2 ^ 40)).toNat ∧
           (∀ m, m < key ∨ key + 8 ≤ m → t.mem.byte m = s.mem.byte m)))) ∧
  (∀ (s : State) (p blk st : Nat) (r : Reply), s.powered = true → r.poisoned = false →
     let nothing := fun (i : Instr) => exec i s = .next (drawn s s)
     (∀ j, (s.core p).optu = some j → alive s j.ctx = true → (∀ a ∈ (s.core p).board, j.issue ≤ a.issue) →
       (∀ d ∈ (s.core p).pubds, j.issue ≤ d.issue) → (∀ d ∈ [j.w, j.g, j.m, j.v], d.code < 2) →
       let rows := blockRows j.w blk ++ blockRows j.g blk ++ blockRows j.m blk ++ blockRows j.v blk
       let foul := fun (a : W64) => enginePoison s j.ctx a { data := 0, poisoned := false }
       let lands := fun (d : Shape) => ((List.range (blockRows d blk).length).filter (fun q =>
         !(blockMeets j.w d blk q ++ blockMeets j.g d blk q ++ blockMeets j.m d blk q ++ blockMeets j.v d blk q).any foul)).length
       let refused := fun (d : Shape) (a : W64) => (landRefused s j.ctx a (backTag (s.ctx j.ctx) d.tagNo (rowVa a))).isSome
       (blk < j.n / 256 → blk ∉ j.done →
         ∃ t k, exec (.engineRowLand p 4 0 blk r st) s = .next t ∧ (t.core p).optu = some k ∧ k.done = blk :: j.done ∧
           ((∀ d ∈ [j.w, j.m, j.v], ∀ a ∈ blockRows d blk, refused d a = false) →
             k.status = (if rows.any foul = true then j.status ||| 16 else j.status) ∧
             k.landed = j.landed + 512 * (lands j.w + lands j.m + lands j.v)) ∧
           (rows.any foul = false → (∀ d ∈ [j.w, j.m, j.v], ∀ a ∈ blockRows d blk, refused d a = false) →
             k.landed = j.landed + 256 * (fmtBytes j.w.code + fmtBytes j.m.code + fmtBytes j.v.code)) ∧
           ((∀ d ∈ [j.w, j.m, j.v], ∀ a ∈ blockRows d blk, refused d a = true) → k.landed = j.landed ∧ t.mem = s.mem)) ∧
       (j.n / 256 ≤ blk ∨ blk ∈ j.done → nothing (.engineRowLand p 4 0 blk r st)) ∧
       (j.done.length = j.n / 256 → j.w.barAt = 0 → j.told = 0 →
         ∃ t, exec (.engineComplete p 4 0 st) s = .next t ∧ (t.core p).optu = none ∧ t.mem = s.mem ∧
           (t.core p).s = (s.core p).s ∧ (t.core p).v = (s.core p).v)) ∧
     (∀ (j : OptuJob) (w g m v : Fp),
       let f := fun (c : Nat) => (fpOf 0 c, (0 : Flags))
       let k := fun (x : W32) => (fpOf 0 x.toNat, (0 : Flags))
       let plus := fun (x y : Fp × Flags) => ((fpAdd 0 x.1 y.1).1, x.2 ||| y.2 ||| (fpAdd 0 x.1 y.1).2)
       let less := fun (x y : Fp × Flags) => plus x (fpNeg y.1, y.2)
       let times := fun (x y : Fp × Flags) => ((fpMul x.1 y.1).1, x.2 ||| y.2 ||| (fpMul x.1 y.1).2)
       let one : Fp × Flags := (.fin false 1 0, 0)
       let c1 := rounded 0 (less one (k j.b1))
       let c2 := rounded 0 (less one (k j.b2))
       let m1 := rounded 0 (plus (times (k j.b1) (m, 0)) (times (f c1.1) (g, 0)))
       let v1 := rounded 0 (plus (times (k j.b2) (v, 0)) (times (times (f c2.1) (g, 0)) (g, 0)))
       let d := rounded 0 (fpSqrt (fpOf 0 v1.1))
       let e := rounded 0 (plus (f d.1) (k j.eps))
       let q := rounded 0 (fpDiv (fpOf 0 m1.1) (fpOf 0 e.1))
       let w1 := rounded 0 (less (less (w, 0) (times (k j.lr) (f q.1))) (times (times (k j.lr) (k j.wd)) (w, 0)))
       optuElem j w g m v = (w1.1, m1.1, v1.1, m1.2 ||| v1.2 ||| d.2 ||| e.2 ||| q.2 ||| w1.2)) ∧
     (∀ c, storeAs 0 c = (c, 0) ∧ storeAs 1 c = rounded 1 (fpOf 0 c, 0)) ∧
     (∀ (a b : Bool) (m k : Nat) (e g : Int),
       fpMul (.fin a m e) (.fin b k g) = (.fin (a != b) (m * k) (e + g), 0) ∧
       (∃ n x, fpAdd 0 (.fin a m e) (.fin b k g) = (.fin n x (min e g), 0) ∧
         signed n x = signed a (m * 2 ^ (e - min e g).toNat) + signed b (k * 2 ^ (g - min e g).toNat)) ∧
       (m ≠ 0 → k ≠ 0 → ∃ n x, fpDiv (.fin a m e) (.fin b k g) = (.fin (a != b) n x, 0) ∧
         ∀ c q, e - g - ((Nat.log2 k : Int) + 65) ≤ q →
           (MagLt n x c q ↔ MagLt m e (c * k) (q + g)) ∧ (MagEq n x c q ↔ MagEq m e (c * k) (q + g))) ∧
       (m = 0 → k = 0 → fpDiv (.fin a m e) (.fin b k g) = (.nan false, flagInvalid)) ∧
       (m ≠ 0 → k = 0 → fpDiv (.fin a m e) (.fin b k g) = (.inf (a != b), flagDivZero)) ∧
       (m ≠ 0 → ∃ n x, fpSqrt (.fin false m e) = (.fin false n x, 0) ∧
         ∀ c q, (e - 128) / 2 ≤ q →
           (MagLt n x c q ↔ MagLt m e (c * c) (2 * q)) ∧ (MagEq n x c q ↔ MagEq m e (c * c) (2 * q))) ∧
       (m ≠ 0 → fpSqrt (.fin true m e) = (.nan false, flagInvalid)) ∧ fpSqrt (.fin a 0 e) = (.fin a 0 e, 0)) ∧
     ((s.core p).optu = none → nothing (.engineRowLand p 4 0 blk r st) ∧ nothing (.engineComplete p 4 0 st)) ∧
     ((s.core p).pstw = [] → nothing (.pstwLand p 0)) ∧
     (∀ j l, (s.core p).pstw = j :: l → alive s j.ctx = true → (∀ a ∈ (s.core p).board, j.issue ≤ a.issue) →
       (∀ d ∈ (s.core p).pubds, j.issue ≤ d.issue) → isSpad j.pa = false → isSpad j.ta = false →
       let away := fun (a : W64) => backOf (s.ctx j.ctx) (rowVa a)
       let side := fun (a : W64) => backKey s j.ctx (away a)
       (landRefused s j.ctx j.pa (away j.pa) ≠ none ∨ landRefused s j.ctx j.ta (away j.ta) ≠ none →
         exec (.pstwLand p 0) s = .next (drawn s (s.onCore p (fun c => { c with pstw := l })))) ∧
       (landRefused s j.ctx j.pa (away j.pa) = none → landRefused s j.ctx j.ta (away j.ta) = none →
       side j.pa + 512 ≤ side j.ta ∨ side j.ta + 512 ≤ side j.pa →
       ∃ (t : State) (y : Vec), exec (.pstwLand p 0) s = .next t ∧ (t.core p).pstw = l ∧
         t.mem.read (side j.pa) 512 = j.x.toNat ∧ t.mem.read (side j.ta) 512 = y.toNat ∧
         (∀ k m, k < 16 → m < 16 → y.extractLsb' (16 * (16 * k + m)) 16 = j.x.extractLsb' (16 * (16 * m + k)) 16) ∧
         (∀ m, m < side j.pa ∨ side j.pa + 512 ≤ m → m < side j.ta ∨ side j.ta + 512 ≤ m → t.mem.byte m = s.mem.byte m) ∧
         (t.core p).s = (s.core p).s ∧ (t.core p).v = (s.core p).v)))

/-- R45, R46, R44, R28 to R33. An accumulator row of the Loom, element by element: over the chunks of 64 rows of the window in order, u is the exact
sum of the products of the chunk times its scale, the block scale and that of the queue joined, rounded once to F32; the first chunk of LMMAZ
overwrites, every other is added and rounded. The sum of finite products is exact, whatever their order; the weights and block scales
are those of the tile's bytes.
R185, R186, R188. LOOM_ROW_LAND lands the next accumulator row of the oldest Loom instruction, its scales there and its activation row not
changed since issue, and no other row; LOOM_ACCEPT before its time changes nothing. LMMAR_ROW with the row its target
answered writes one row of the back side; the done count of KLPRG is the rows below which every row has been written, each new
one adds 512 bytes to the barrier, and the run ends, KLPRG DONE, only when every row has been written; a refusal, by the target
or by the map, stops the run with its status and the done count.
R304, R305, R315, R355. RLOAD_COMPLETE of a load not revoked makes its slot RESIDENT, PINNED or STALE with the tile read from
its range, or FAULTED with status 2 when a row is poisoned or meets a memory error, a row of the range poisoned from then on; a
revoked load leaves every slot as it is. RREV_DRAIN frees the
granules of the revoked slots of its number. PUBD_COMPLETE copies the front of the buffer of a discard of one tag into its
back, but for back rows that the map refuses.
The model's own here, no rule of the manual: the count of free values that each step advances (log 4); that back rows are held
to the map (log 58), when an LMMAR adds its bytes (log 59); what the log entries 11, 19, 24, 29 say. -/
def Obligations.LoomAndResidencyEvents : Prop :=
  (∀ (tile : Tile) (fa kofs len m : Nat) (row acc : Vec) (scales : Option (List (BitVec 16))) (first : Bool) (n : Nat), n < 128 →
     let c := (len + 63) / 64
     let sum := fun (j : Nat) => chunkTotal tile fa kofs row n (64 * j) (min 64 (len - 64 * j))
     let factor := fun (j : Nat) =>
       let f := tile.scale (kofs + 64 * j) n
       match scales with
       | none => f
       | some l => ((fpMul f.1 (fpOf 1 (l.getD (m * c + j) 0).toNat)).1, f.2 ||| (fpMul f.1 (fpOf 1 (l.getD (m * c + j) 0).toNat)).2)
     let u := fun (j : Nat) => (rounded 0 (fpMul (sum j).1 (factor j).1)).1
     ∃ a : Nat → Nat, a 0 = elem acc 32 n ∧
       (∀ j, j < c → a (j + 1) = if first = true ∧ j = 0 then u 0 else (rounded 0 (fpAdd 0 (fpOf 0 (a j)) (fpOf 0 (u j)))).1) ∧
       elem (loomRow tile fa kofs len row acc scales m first).1 32 n = a c % 2 ^ 32) ∧
  (∀ (tile : Tile) (fa kofs n e0 c : Nat) (row : Vec) (q : Int) (z : Nat → Int),
     (∀ e, e < c → ∃ neg m x,
       fpMul (fpOf fa (elem row (fmtBits fa) (e0 + e))) (tile.weight (kofs + e0 + e) n) = (.fin neg m x, 0) ∧ q ≤ x ∧
         z e = signed neg (m * 2 ^ (x - q).toNat)) →
     ∃ neg m x, chunkTotal tile fa kofs row n e0 c = (.fin neg m x, 0) ∧
       signed neg (m * 2 ^ (x - min x q).toNat) = ((List.range c).map z).sum * 2 ^ (q - min x q).toNat) ∧
  (∀ (tile : Tile) (k n : Nat), n < 128 →
     let byte := fun (i : Nat) => tile.bytes / 2 ^ (8 * i) % 256
     let blk := k / 64 * 128 + n
     let e := k % 64
     let value := [0, 23, 47, 73, 102, 135, 176, 256]
     (tile.fmt = 8 →
       let at_ := 8464 * (blk / 256)
       let code := byte (at_ + 32 * (blk % 256) + e / 2) / 16 ^ (e % 2) % 16
       (∃ neg, tile.weight k n = .fin neg (value.getD (code % 8) 0) (-8) ∧ (neg = true ↔ 8 < code)) ∧
       tile.scale k n = fpMul (.fin false (byte (at_ + 8192 + blk % 256)) (-8)) (fpOf 0 (tile.bytes / 2 ^ (8 * (at_ + 8448)) % 2 ^ 32))) ∧
     (tile.fmt = 9 →
       let at_ := 12560 * (blk / 256)
       let bit := fun (i : Nat) => byte (at_ + 48 * (blk % 256) + (6 * e + i) / 8) / 2 ^ ((6 * e + i) % 8) % 2
       let q : Int := (bit 0 + 2 * bit 1 + 4 * bit 2 + 8 * bit 3 + 16 * bit 4 : Nat) - 32 * (bit 5 : Int)
       tile.weight k n = .fin (decide (q < 0)) q.natAbs (-5) ∧
       tile.scale k n = fpMul (.fin false (byte (at_ + 12288 + blk % 256)) (-8)) (fpOf 0 (tile.bytes / 2 ^ (8 * (at_ + 12544)) % 2 ^ 32))) ∧
     (tile.fmt < 4 →
       tile.weight k n = fpOf tile.fmt (tile.bytes / 2 ^ (8 * (fmtBytes tile.fmt * (128 * k + n))) % 2 ^ fmtBits tile.fmt) ∧
       tile.scale k n = (.fin false 1 0, 0))) ∧
  (∀ (s : State) (p : Nat), s.powered = true →
     (∀ j l, (s.core p).loom = j :: l → j.owed = 0 → j.done < j.rows → j.base + j.done ∉ j.clash →
       j.acts.getD j.done 0 = spadGet s p (j.abase + BitVec.ofNat 64 j.done * j.stride) →
       let row := loomRow j.tile j.fmt j.kofs j.len (j.acts.getD j.done 0) (Tab.get 0 (s.core p).acc (j.base + j.done))
         (if j.sq = true then some j.scales else none) j.done j.first
       ∃ t, exec (.loomRowLand p) s = .next t ∧
         (∀ k, Tab.get 0 (t.core p).acc k = if k = j.base + j.done then row.1 else Tab.get 0 (s.core p).acc k) ∧
         (t.core p).loom = (if j.done + 1 = j.rows then l
           else { j with done := j.done + 1, flags := j.flags ||| row.2 } :: l) ∧
         (j.done + 1 < j.rows → (t.core p).sticky = (s.core p).sticky) ∧
         (j.done + 1 = j.rows → (Tab.get Sticky.zero (t.core p).sticky 4).flags =
           (Tab.get Sticky.zero (s.core p).sticky 4).flags ||| j.flags ||| row.2) ∧
         t = drawn s (s.onCore p (fun c => { c with
           acc := (t.core p).acc, loom := (t.core p).loom, sticky := (t.core p).sticky }))) ∧
     ((s.core p).loom = [] ∨ (∃ j l, (s.core p).loom = j :: l ∧ j.owed ≠ 0) → exec (.loomRowLand p) s = .next (drawn s s)) ∧
     (s.cycle < (s.core p).loomFree → exec (.loomAccept p) s = .next (drawn s s)) ∧
     ((s.core p).loomFree ≤ s.cycle → ∃ t, exec (.loomAccept p) s = .next t ∧
       (∀ g, g ∈ (t.core p).granules ↔ g ∈ (s.core p).granules ∧
         (g.drain = false ∨ ∃ j ∈ (s.core p).loom, j.ctx = g.ctx ∧ j.lcore = g.lcore ∧ j.slotIx = g.slotIx ∧
           s.cycle < j.issue + j.rows + 40)) ∧
       t = drawn s (s.onCore p (fun c => { c with granules := (t.core p).granules }))) ∧
     (∀ j n row r st, (s.core p).lmmar[n]? = some j → row < 2 ^ 32 → alive s j.ctx = true → (∀ a ∈ (s.core p).board, j.issue ≤ a.issue) →
       (∀ d ∈ (s.core p).pubds, j.issue ≤ d.issue) → addPages s j.ctx j.bar 0 = [] → row < j.rows → row ∉ j.landed →
       let y := loomRow j.tile j.fmt j.kofs j.len r.data 0 none row true
       let front := j.off + 512 * row
       let b := Tab.get (0 : BitVec 256) (s.ctx j.ctx).buffers j.tag
       let away := if bufSwapped b = true then front else bufAlt b + (front - bufHome b)
       let back := backKey s j.ctx away
       let refused := landRefused s j.ctx (BitVec.ofNat 64 front) away
       let had := doneRows j.landed j.rows 0
       let has := doneRows (row :: j.landed) j.rows 0
       let lprg := fun (t : State) (state status done : Nat) =>
         (j.own = true → (t.core p).klprg.toNat / 2 ^ 62 = state ∧
           (t.core p).klprg.toNat / 2 ^ 48 % 2 ^ 8 = status ∧ (t.core p).klprg.toNat % 2 ^ 14 = done % 2 ^ 14) ∧
         (j.own = false → (t.core p).klprg = (s.core p).klprg)
       let without := fun (t : State) => (t.core p).lmmar = (s.core p).lmmar.take n ++ (s.core p).lmmar.drop (n + 1)
       let stops := fun (status : Nat) => ∃ t, exec (.lmmarRow p (n * 2 ^ 32 + row) r st) s = .next t ∧ without t ∧
         lprg t 2 (status % 256) had ∧ t.mem = s.mem ∧ (t.core p).acc = (s.core p).acc
       let bar := keyOf s j.ctx (vaOf j.bar / 8 * 8)
       (st = 0 → r.poisoned = false → refused = none →
         ∃ t, exec (.lmmarRow p (n * 2 ^ 32 + row) r st) s = .next t ∧ (t.core p).acc = (s.core p).acc ∧
           (has < j.rows → (∃ k, (t.core p).lmmar = (s.core p).lmmar.set n k ∧ k.landed = row :: j.landed) ∧ lprg t 1 0 has) ∧
           (j.rows ≤ has → without t ∧ lprg t 3 0 has) ∧
           (j.bar = 0 ∨ isRemote j.bar = true → t.mem.read back 512 = y.1.toNat ∧
             (∀ m, m < back ∨ back + 512 ≤ m → t.mem.byte m = s.mem.byte m)) ∧
           (j.bar ≠ 0 → isRemote j.bar = false → rowRefused s j.ctx j.bar = none → bar + 8 ≤ back ∨ back + 512 ≤ bar →
             t.mem.read back 512 = y.1.toNat ∧
             t.mem.read bar 8 = ((List.range (has - had)).foldl (fun w _ => barrierNew w 512) (memWord s j.ctx (vaOf j.bar))).toNat ∧
             (∀ m, m < back ∨ back + 512 ≤ m → m < bar ∨ bar + 8 ≤ m → t.mem.byte m = s.mem.byte m))) ∧
       (∀ q, st = 0 → r.poisoned = false → refused = some q → stops q) ∧
       (0 < st → st < 256 → stops st) ∧
       (st = 0 → r.poisoned = true → stops 4))) ∧
  (∀ (l : List Nat) (n : Nat), doneRows l n 0 ≤ n ∧ (∀ m, m < doneRows l n 0 → m ∈ l) ∧
     (doneRows l n 0 < n → doneRows l n 0 ∉ l)) ∧
  (∀ (s : State) (p slot st : Nat) (bad : Bool), s.powered = true →
     (∀ j, (s.core p).rloads.find? (fun j => j.slotIx == slot) = some j → alive s j.ctx = true →
       (∀ a ∈ (s.core p).board, j.issue ≤ a.issue) → (∀ d ∈ (s.core p).pubds, j.issue ≤ d.issue) → j.bar = 0 →
       let entry := fun (t : State) (k : Nat) => Tab.get Resid.zero (t.ctx j.ctx).res k
       let key := j.lcore * 1024 + j.slotIx
       let e := entry s key
       let fails := bad = true ∨ rangePoisoned s j.ctx j.src j.bytes = true
       ∃ t, exec (.rloadComplete p slot bad st) s = .next t ∧ (t.core p).rloads = (s.core p).rloads.erase j ∧ t.mem = s.mem ∧
         (∀ k, k ≠ key → entry t k = entry s k) ∧
         (j.revoked = true ∨ j.failed = true → entry t key = e ∧ (t.ctx j.ctx).tiles = (s.ctx j.ctx).tiles) ∧
         (j.revoked = false → j.failed = false → fails → entry t key = { e with state := 6, status := 2 }) ∧
         (j.revoked = false → j.failed = false → bad = true → ∃ m, j.src / 512 ≤ m ∧ m ≤ (j.src + j.bytes - 1) / 512 ∧
           keyOf s j.ctx (512 * m) / 512 ∈ t.poison) ∧
         (j.revoked = false → j.failed = false → ¬fails →
           entry t key = { e with state := if j.stale = true then 4 else if e.pin = true then 3 else 2 } ∧
           Tab.get { fmt := 0, k := 0, bytes := 0 } (t.ctx j.ctx).tiles key =
             { fmt := j.fmt, k := j.k, bytes := tileRead s p j.ctx j.src j.bytes })) ∧
     (∃ t, exec (.rrevDrain p slot) s = .next t ∧
       (∀ g, g ∈ (t.core p).granules ↔ g ∈ (s.core p).granules ∧ ¬(g.drain = true ∧ g.slotIx = slot)) ∧
       t = drawn s (s.onCore p (fun c => { c with granules := (t.core p).granules }))) ∧
     (∀ j l, (s.core p).pubds = j :: l → alive s j.ctx = true → (∀ a ∈ (s.core p).board, j.issue ≤ a.issue) →
       (∀ d ∈ l, j.issue ≤ d.issue) → j.n = 1 →
       let b := Tab.get (0 : BitVec 256) (s.ctx j.ctx).buffers j.tag
       let front := fun (k i : Nat) => keyOf s j.ctx (bufHome b + 512 * k + i)
       let away := fun (k : Nat) => if bufSwapped b = true then bufHome b + 512 * k else bufAlt b + 512 * k
       let back := fun (k : Nat) => backKey s j.ctx (away k)
       let lands := fun (k : Nat) => mapRefuses (s.ctx j.ctx) (away k) .live = none
       (∀ k m i, k < bufRows b → m < bufRows b → i < 512 → front k i < back m ∨ back m + 512 ≤ front k i) →
       (∀ k m, k < bufRows b → m < bufRows b → k ≠ m → back k + 512 ≤ back m ∨ back m + 512 ≤ back k) →
       ∃ t, exec (.pubdComplete p 0) s = .next t ∧ (t.core p).pubds = l ∧
         (∀ k, k < bufRows b → lands k → t.mem.read (back k) 512 = (memRow s j.ctx (bufHome b + 512 * k)).toNat) ∧
         (∀ m, (∀ k, k < bufRows b → lands k → m < back k ∨ back k + 512 ≤ m) → t.mem.byte m = s.mem.byte m) ∧
         (t.ctx j.ctx).buffers = (s.ctx j.ctx).buffers))

/-! ### Events of the dispatcher (R100, R245, R250 to R253, R257) -/

/-- R100, R251, R252. TASK_DISPATCH with one open task queued, its clusters free: it leaves the queue and runs, and each of its
cores starts at the entry with s1 the arguments, s2 its logical number, s3 its rank and every other register zero. With two
such tasks that share a cluster, the one of the higher effective priority runs, the earlier one when they are equal. A task
whose gate is closed stays; one whose barrier has left the phase waited away from is open in that cycle (R250) and starts. A
context that is not running, or is being saved, dispatches nothing.
R245, R250, R252, R253, R257. GATE_OPEN opens the gate of a queued task whose barrier differs in bit 63 from the phase it
waits away from, and nothing else. TASK_END of a task whose cores have all halted and landed releases them and adds 1 to done;
where the task is a replay, its block is no longer busy and ended rises by 1 first. STREAM_THREAD_HALTED, nothing queued or
running, and BANK_STALL make their record, once.
The model's own here, no rule of the manual: the count of free values that each step advances (log 4); what log entry 11 says. -/
def Obligations.TaskDispatchAndEnd : Prop :=
  (∀ (s : State) (c : Nat), s.powered = true →
     let x := s.ctx c
     let ready := fun (e : QEntry) => e.opened = true ∧ e.prio < 8 ∧
       ∀ k, k < 80 → e.clusters.getLsbD k = true → clusterFree s c k = true
     let eff := fun (e : QEntry) => if x.aging = 0 then e.prio else min 7 (e.prio + ((s.cycle : Int) - e.enq).toNat / (1024 * x.aging))
     let runs := fun (t : State) (e : QEntry) => (t.ctx c).nextTask = x.nextTask + 1 ∧
       (t.ctx c).tasks = x.tasks ++ [{ id := x.nextTask, record := e.record, clusters := e.clusters, graph := e.graph }]
     (x.state ≠ 1 ∨ x.saveAt ≠ 0 → exec (.taskDispatch c) s = .next (drawn s s)) ∧
     (x.state = 1 → x.saveAt = 0 →
       (∀ e, x.queue = [e] → ready e →
         ∃ t, exec (.taskDispatch c) s = .next t ∧ (t.ctx c).queue = [] ∧ runs t e ∧ t.mem = s.mem ∧
           (∀ p l r, (p, l, r) ∈ taskCores x e.clusters →
             (∀ l' r', (p, l', r') ∈ taskCores x e.clusters → l' = l ∧ r' = r) →
             (t.core p).run = .running ∧ (t.core p).ctx = some c ∧ (t.core p).lcore = l ∧ (t.core p).task = x.nextTask ∧
             (t.core p).pc = e.entry.toNat ∧ (t.core p).seq = { loops := [], vrb := 0, prb := 0 } ∧
             (t.core p).steward = false ∧ (t.core p).scaleQ = [] ∧
             (∀ k, Tab.get 0 (t.core p).s k = if k = 1 then e.args else if k = 2 then BitVec.ofNat 64 l
               else if k = 3 then BitVec.ofNat 64 r else 0) ∧
             (∀ k, Tab.get 0 (t.core p).p k = 0) ∧ (∀ k, Tab.get 0 (t.core p).v k = 0) ∧
             (t.core p).spad = (s.core p).spad) ∧
           (∀ p, (∀ l r, (p, l, r) ∉ taskCores x e.clusters) → t.core p = s.core p)) ∧
       (∀ e, x.queue = [e] → e.opened = false →
         let bit := (memWord s c (vaOf (e.gate &&& ~~~7))).getLsbD 63
         (bit = e.gate.getLsbD 0 → exec (.taskDispatch c) s = .next (drawn s s)) ∧
         (bit ≠ e.gate.getLsbD 0 →
           ((∃ k, k < 80 ∧ e.clusters.getLsbD k = true ∧ clusterFree s c k = false) →
             ∃ t a, exec (.taskDispatch c) s = .next t ∧ (t.ctx c).queue = [{ e with opened := true, acq := a }] ∧
               t.cores = s.cores ∧ t.mem = s.mem) ∧
           (e.prio < 8 → (∀ k, k < 80 → e.clusters.getLsbD k = true → clusterFree s c k = true) →
             ∃ t, exec (.taskDispatch c) s = .next t ∧ (t.ctx c).queue = [] ∧ runs t e ∧ t.mem = s.mem))) ∧
       (∀ e f, x.queue = [e, f] → ready e → ready f →
         (∃ k, k < 80 ∧ e.clusters.getLsbD k = true ∧ f.clusters.getLsbD k = true) →
         ∃ t, exec (.taskDispatch c) s = .next t ∧
           (eff f ≤ eff e → (t.ctx c).queue = [f] ∧ runs t e) ∧ (eff e < eff f → (t.ctx c).queue = [e] ∧ runs t f)))) ∧
  (∀ (s : State) (c i p : Nat), s.powered = true →
     let x := s.ctx c
     let nothing := fun (i : Instr) => exec i s = .next (drawn s s)
     let word := fun (va : Nat) => memWord s c va
     (∀ e, x.state = 1 → x.queue[i]? = some e → e.opened = true → nothing (.gateOpen c i)) ∧
     (∀ e, x.state = 1 → x.queue[i]? = some e → e.opened = false →
       ((word (vaOf (e.gate &&& ~~~7))).getLsbD 63 = e.gate.getLsbD 0 → nothing (.gateOpen c i)) ∧
       ((word (vaOf (e.gate &&& ~~~7))).getLsbD 63 ≠ e.gate.getLsbD 0 →
         ∃ t a, exec (.gateOpen c i) s = .next t ∧ (t.ctx c).queue = x.queue.set i { e with opened := true, acq := a } ∧
           t = drawn s (s.onCtx c (fun y => { y with queue := (t.ctx c).queue })))) ∧
     (x.state ≠ 1 → nothing (.gateOpen c i) ∧ nothing (.taskEnd c i) ∧ nothing (.streamThreadHalted c)) ∧
     (∀ k, x.state = 1 → x.tasks[i]? = some k →
       let ended := ∀ q l r, (q, l, r) ∈ taskCores x k.clusters →
         (s.core q).ctx = some c ∧ (s.core q).task = k.id ∧ (s.core q).run = .halted ∧ settled s q = true
       let key := fun (va : Nat) => keyOf s c (va / 8 * 8)
       (¬ended → nothing (.taskEnd c i)) ∧
       (ended → k.graph = none →
         ∃ t, exec (.taskEnd c i) s = .next t ∧ (t.ctx c).tasks = x.tasks.eraseIdx i ∧
           (∀ q l r, (q, l, r) ∈ taskCores x k.clusters → (t.core q).run = .idle ∧ (t.core q).spad = (s.core q).spad) ∧
           t.mem.read (key (k.record + 48)) 8 = (word (k.record + 48) + 1).toNat ∧
           (∀ m, m < key (k.record + 48) ∨ key (k.record + 48) + 8 ≤ m → t.mem.byte m = s.mem.byte m)) ∧
       (∀ g f, ended → k.graph = some (g, f) → Plain s c → g + 64 ≤ 2 ^ 48 → g % 8 = 0 → k.record % 8 = 0 → f < 2 →
         k.record + 56 ≤ g ∨ g + 64 ≤ k.record →
         (word g).toNat / 2 ^ (34 + f) % 2 = 1 →
         ∃ t, exec (.taskEnd c i) s = .next t ∧
           t.mem.read (c * 2 ^ 48 + g) 8 = (word g).toNat - 2 ^ (34 + f) ∧
           t.mem.read (c * 2 ^ 48 + g + 16) 8 = (word (g + 16) + 1).toNat ∧
           t.mem.read (c * 2 ^ 48 + k.record + 48) 8 = (word (k.record + 48) + 1).toNat)) ∧
     (x.state = 1 → x.thr.halted = true → x.queue = [] → x.tasks = [] → x.haltRec = false →
       ∃ t, exec (.streamThreadHalted c) s = .next t ∧ (t.ctx c).haltRec = true ∧
         (s.faultQ.armed = false → s.held.length < 256 → t.held = s.held ++ [
           { kind := 3, cause := 0, ctx := c, tenant := x.tenant, core := 0xFFFF, phys := 0, addr := 0, info := 0,
             at_ := BitVec.ofNat 64 x.thr.haltAt, time := s.cycle }])) ∧
     (x.queue ≠ [] ∨ x.tasks ≠ [] ∨ x.thr.halted = false ∨ x.haltRec = true → nothing (.streamThreadHalted c)) ∧
     ((s.core p).stallSeen = true ∨ stalledOn s p = none → nothing (.bankStall p)) ∧
     (∀ m, coreAlive s p = true → stalledOn s p = some m → (s.core p).stallSeen = false →
       ∃ t, exec (.bankStall p) s = .next t ∧ (t.core p).stallSeen = true ∧
         Tab.get 0 (t.ctx (s.ctxOf p)).ctr 0x822 = min (Tab.get 0 (s.ctx (s.ctxOf p)).ctr 0x822 + 1) (2 ^ 32 - 1) ∧
         (s.faultQ.armed = false → s.held.length < 256 → ∃ r, t.held = s.held ++ [r] ∧ r.kind = 2 ∧ r.core = (s.core p).lcore ∧
           r.phys = p / 84 * 512 + p % 84 / 4 * 16 + p % 4)))

/-! ### Events of the phases, the pages and the fault queue (R217, R263 to R265, R276 to R286, R288, R292) -/

/-- R277, R278, R283, R286, R291. MAPLD_COMPLETE of an image that passes its checks replaces its map whole, a region in no entry
becoming ABSENT, counts a new map, and clears mfail; any other image sets mfail and changes no map; another device's image is
what that device answers, and where its header says that there are more rows, these are asked for first; an image on the device
with a row that the map refuses to let load, or one anywhere with a row that is poisoned, stops the
context. REEVE_CHUNK_COPY, in a slot that no tenant owns, gives a piece of work its page where the map admits one, or does one
chunk of it, and the transition is ready when every piece has its page, is done and unmarked; a chunk of an L2PIN page is done when its
lines stand in pinned ways. With no place for a page and no
victim on any tier that would do, or a page that would be sealed under a key slot not usable (R322), it fails with cause 2, with a page
that fails authentication with cause 3.
The model's own here, no rule of the manual: the count of free values that each step advances (log 4); that a MAPLD whose row
cannot be read ends the context (log 67); that the rows of a remote image are asked for in two steps (log 84); what the log entries 30, 31
say. -/
def Obligations.MapAndReeveEvents : Prop :=
  ∀ (s : State) (c i : Nat), s.powered = true →
    let x := s.ctx c
    (∀ j img, alive s c = true → x.mapld[i]? = some j → (∀ a ∈ (s.core j.core).board, j.issue ≤ a.issue) →
      (∀ d ∈ (s.core j.core).pubds, j.issue ≤ d.issue) →
      let va := vaOf j.addr
      let n := if isRemote j.addr = true then img.header.toNat else (imageWord s j.core c va).toNat
      let l := if isRemote j.addr = true then img.entries
        else (List.range (min n 1024)).map (fun k => imageWord s j.core c (va + 16 + 16 * k))
      let unread := (isRemote j.addr = true ∧ img.poison ≠ none) ∨ (isRemote j.addr = false ∧
        (imageFault s c va 0 ≠ none ∨ (n ≤ 1024 ∧ imageFault s c va n ≠ none)))
      let more := isRemote j.addr = true ∧ img.poison = none ∧ img.status = 0 ∧ n ≤ 1024 ∧ j.asked = false ∧
        va / 512 < (va + 16 + 16 * n - 1) / 512
      let good := (isRemote j.addr = true → img.status = 0) ∧ n ≤ 1024 ∧ l.length = n ∧ imageOk s c l = true
      let map := fun (t : State) (m : Nat) => Tab.get [] (t.ctx c).maps m
      (unread → ∃ t, exec (.mapldComplete c i img) s = .next t ∧ (t.ctx c).state = 6 ∧ (t.ctx c).maps = x.maps ∧
        (t.ctx c).mapCount = x.mapCount ∧ t.mem = s.mem ∧ (s.faultQ.armed = false → s.held.length < 256 →
          ∃ r, t.held = s.held ++ [r] ∧ r.kind = 1 ∧ (r.cause = 1 ∨ r.cause = 2) ∧ r.ctx = c ∧
            (∀ a, isRemote j.addr = true → img.poison = some a → r.cause = 2 ∧ r.addr = BitVec.ofNat 64 a) ∧
            r.at_ = j.bundle.setWidth 64)) ∧
      (more → ∃ t, exec (.mapldComplete c i img) s = .next t ∧ (t.ctx c).mapld = x.mapld.set i { j with asked := true } ∧
        (t.ctx c).maps = x.maps ∧ (t.ctx c).mapCount = x.mapCount ∧ (t.ctx c).tr = x.tr ∧ t.mem = s.mem ∧ t.cores = s.cores ∧
        t.out.length = s.out.length + ((va + 16 + 16 * n - 1) / 512 - va / 512) ∧
        ∀ q ∈ t.out.drop s.out.length, q.dev = devOf j.addr ∧ q.ctx = c ∧ q.chan = 4 ∧ q.rc = 0 ∧ q.kind = .loadRow) ∧
      (¬unread → ¬more → good → ∃ t, exec (.mapldComplete c i img) s = .next t ∧ (t.ctx c).mapld = x.mapld.eraseIdx i ∧
        (∀ r, Tab.get 0 (map t j.map) r = (l.find? (fun e => e.toNat % 1024 == r)).getD 0) ∧
        (∀ m, m ≠ j.map → map t m = map s m) ∧
        (t.ctx c).mapCount = (if j.map = x.mapCount then x.mapCount + 1 else x.mapCount) ∧ (t.ctx c).tr.mfail = false ∧
        t.mem = s.mem ∧ t.cores = s.cores) ∧
      (¬unread → ¬more → ¬good → ∃ t, exec (.mapldComplete c i img) s = .next t ∧ (t.ctx c).mapld = x.mapld.eraseIdx i ∧
        (t.ctx c).maps = x.maps ∧ (t.ctx c).mapCount = x.mapCount ∧ (t.ctx c).tr.mfail = true ∧
        t.mem = s.mem ∧ t.cores = s.cores)) ∧
    (∀ item chunk, freeSlot s = false ∨ reeveServes s c = false → exec (.reeveChunkCopy c item chunk) s = .next (drawn s s)) ∧
    (∀ item chunk w, freeSlot s = true → alive s c = true → x.tr.pend = true → x.tr.fail = false →
      (∀ j ∈ x.mapld, j.map ≠ x.tr.tgt.toNat) → x.tr.work[item]? = some w →
      let l := placeOf s c w.page
      let whole := fun (v : WorkItem) => v.alloc == true && v.wait == 0 && v.done == BitVec.allOnes 16 && v.marks == 0
      let becomes := fun (t : State) (v : WorkItem) =>
        let work := x.tr.work.set item v
        t = { drawn s (s.onCtx c (fun y => { y with tr := { y.tr with work := work, ready := y.tr.ready || work.all whole } }))
              with l2 := t.l2, l2fill := t.l2fill }
      let fails := fun (why : Nat) (at_ : W64) => ∃ t, exec (.reeveChunkCopy c item chunk) s = .next t ∧
        (t.ctx c).tr.fail = true ∧ (t.ctx c).tr.ready = false ∧ (t.ctx c).tr.failWhy = why ∧ (t.ctx c).tr.failAddr = at_ ∧
        (t.ctx c).tr.work = [] ∧ (t.ctx c).pages = x.pages ∧ t.mem = s.mem ∧
        (∀ p, (s.core p).ctx = some c → (s.core p).atPadv = true →
          (t.core p).padvFail = some (why, at_, x.tr.tgt.toNat))
      (w.alloc = false →
        (∀ tier die spot, workPlace s c w = some (tier, die, spot) →
          (w.pin = true → tier = 0) ∧
          (w.pin = false → choosePlace s x.tenant w.wide w.page w.key = some (tier, die) ∧ spot = 0) ∧
          ∃ t, exec (.reeveChunkCopy c item chunk) s = .next t ∧
            becomes t { w with
              tier := tier, die := die, spot := spot, alloc := true
              copy := w.copy || (w.pin && !w.fresh && !(l.tier == tier && l.die == die && l.spot == spot))
              got := if w.die = die ∧ w.spot = spot then w.got else 0 } ∧ t.l2 = s.l2 ∧ t.l2fill = s.l2fill) ∧
        (workPlace s c w = none →
          ((∀ q ∈ placesFor s x.tenant w.wide w.page w.key, anyVictim s q.1 q.2 = false) → fails 2 0) ∧
          ((∃ q ∈ placesFor s x.tenant w.wide w.page w.key, anyVictim s q.1 q.2 = true) →
            exec (.reeveChunkCopy c item chunk) s = .next (drawn s s)))) ∧
      (w.alloc = true → chunk < 16 → w.wait = 0 → w.copy = true → l.tier ≠ 4 → sealBroken s l = true →
        fails 3 (BitVec.ofNat 64 (w.page * 65536))) ∧
      (w.alloc = true → chunk < 16 → w.wait = 0 → (w.copy = true → l.tier ≠ 4 ∧ sealBroken s l = false) →
        w.resealed = true → keyUsable s x.tenant w.key = false → fails 2 0) ∧
      (w.alloc = true → chunk < 16 → w.wait = 0 → (w.copy = true → l.tier ≠ 4 ∧ sealBroken s l = false) →
        (w.resealed = true → keyUsable s x.tenant w.key = true) →
        let bit : BitVec 16 := 1 <<< chunk
        ∃ t, exec (.reeveChunkCopy c item chunk) s = .next t ∧
          becomes t { w with
            got := if w.copy = true then w.got ||| bit else w.got
            done := if w.pin = true ∧ allPinned t (chunkLines (homeKey (pageHome s c w.page)) chunk) = false then w.done else w.done ||| bit
            marks := w.marks &&& ~~~bit } ∧
          (w.pin = false → t.l2 = s.l2 ∧ t.l2fill = s.l2fill)))

/-- R217, R272, R279. PHASE_COMMIT waits until every condition of R279 holds. Then, in one step, the phase becomes the pending
target, nothing is pending and nothing staged, the phase counter rises, and the cores in PADV go on. Every byte of memory is
what the staged stores that name it leave, applied in the order of their writers, by arrival for those of other devices, then
by core number, each core's in program order, later ones over earlier ones; where no region has an entry action and no store
makes a page of its own, nothing else changes. A region entered under ZERO reads zero, and under either entry action the rest of
memory stays; where a swapped buffer has a side in the region, it is the rows that its addresses name that read zero.
The model's own here, no rule of the manual: the count of free values that each step advances (log 4); the marks by which a core
that has arrived and one that has passed are told apart (log 47); what log entry 11 says. -/
def Obligations.PhaseCommit : Prop :=
  ∀ (s : State) (c : Nat), s.powered = true →
    let x := s.ctx c
    let ready := alive s c = true ∧ commitReady s c = true
    let m := if x.tr.pend = true then x.tr.tgt else x.phase
    let entry := fun (r : Nat) => meEntry (mapEntry x m.toNat r)
    (¬ready → exec (.phaseCommit c) s = .next (drawn s s)) ∧
    (x.mapld ≠ [] ∨ x.tr.fail = true ∨ (x.tr.pend = true ∧ x.tr.ready = false) → commitReady s c = false) ∧
    (∀ p, (p, s.core p) ∈ s.cores → (s.core p).ctx = some c → (s.core p).run ≠ .idle → (s.core p).run ≠ .halted →
      (s.core p).atPadv = false → commitReady s c = false) ∧
    (ready → ∃ t, exec (.phaseCommit c) s = .next t ∧
      (t.ctx c).phase = m ∧ (t.ctx c).staged = [] ∧ (t.ctx c).live = [] ∧
      (t.ctx c).tr.pend = false ∧ (t.ctx c).tr.ready = false ∧ (t.ctx c).tr.work = [] ∧
      Tab.get 0 (t.ctx c).ctr 0x820 = (Tab.get 0 x.ctr 0x820 + 1) % 2 ^ 32 ∧
      (∀ p, (s.core p).ctx = some c → (s.core p).atPadv = true →
        (t.core p).padvDone = true ∧ (t.core p).atPadv = false) ∧
      (∀ p, (t.core p).s = (s.core p).s ∧ (t.core p).v = (s.core p).v ∧ (t.core p).pc = (s.core p).pc)) ∧
    (ready → (x.tr.pend = true → ∀ k ∈ x.regions, entry k.1 ≠ 1 ∧ entry k.1 ≠ 2) →
      (∀ g ∈ x.staged, ∀ r e, regionAt x g.back = some (r, e) → regShared e = false ∨ g.back / 65536 ∈ x.priv) →
      let key := fun (g : Stage) => backKey s c g.back
      let order := ((List.range 321).map (fun w => x.staged.filter (fun g => g.writer == w))).flatten
      ∃ t, exec (.phaseCommit c) s = .next t ∧
        ∀ b, t.mem.byte b = order.foldl (fun v g =>
          if key g ≤ b ∧ b < key g + 512 ∧ g.mask.getLsbD (b - key g) = true
          then g.data.extractLsb' (8 * (b - key g)) 8 else v) (s.mem.byte b)) ∧
    (∀ r e, ready → x.tr.pend = true → x.staged = [] → x.regions = [(r, e)] → regValid e = true → regCode e = false →
      regShared e = false → mePlace (mapEntry x m.toNat r) ≠ 0 → entry r = 1 → swappedIn x e = true → s.mem.undef = [] →
      let row := fun (k : Nat) => keyOf s c (regBase e + 512 * k)
      ∃ t, exec (.phaseCommit c) s = .next t ∧
        (∀ k n, k < regSize e / 512 → n < 512 → t.mem.byte (row k + n) = 0) ∧
        (∀ b, (∀ k, k < regSize e / 512 → b < row k ∨ row k + 512 ≤ b) → t.mem.byte b = s.mem.byte b)) ∧
    (∀ r e, ready → x.tr.pend = true → x.staged = [] → x.regions = [(r, e)] → regValid e = true → regCode e = false →
      regShared e = false → mePlace (mapEntry x m.toNat r) ≠ 0 → entry r = 1 ∨ entry r = 2 → swappedIn x e = false →
      let lo := c * 2 ^ 48 + regBase e
      ∃ t, exec (.phaseCommit c) s = .next t ∧
        (∀ b, b < lo ∨ lo + regSize e ≤ b → t.mem.byte b = s.mem.byte b) ∧
        (entry r = 1 → (∀ u ∈ s.mem.undef, (lo ≤ u.lo ∧ u.hi ≤ lo + regSize e) ∨ u.hi ≤ lo ∨ lo + regSize e ≤ u.lo) →
          ∀ b, lo ≤ b → b < lo + regSize e → t.mem.byte b = 0) ∧
        (∀ b, lo ≤ 512 * b → 512 * b < lo + regSize e → b ∉ t.poison))

/-- R18, R264, R288, R291, R292. PAGE_DEMOTE, in a slot that no tenant owns, of a tier above its high watermark moves its first
victim one tier down, past CXL where none is attached, sealed under its region's key slot as it leaves the package; PAGE_PROMOTE
moves a host-tier page that an atomic waits for to a die of LPDDR-6 that holds one more. PAGE_REQUEST writes the answer word,
the record and the request of a page on storage, or nothing where the queue, the slot or the pool is not free. PAGE_ANSWER acts
on an answer of the outstanding generation, and discards and counts any other: a page comes in, its image authentic, where its
work has its place, in a slot that no tenant owns; a page that did not come fails the transition, but one of a newly bound base is
asked for again; a page written out is on
storage, and one the host could not write out is passed over. The answer to a request whose transition has failed or begun anew is
discarded and counted, and only then are its slot and pool page free.
R263, R265. FAULT_RECORD_WRITE puts the oldest record of the holding area into its ring, its fields where R265 lays them,
then advances the producer and raises the vector; while the ring is full or not armed it does nothing.
The model's own here, no rule of the manual: the count of free values that each step advances (log 4); what the log entries 11,
16, 30, 31, 82 say. -/
def Obligations.PageAndFaultEvents : Prop :=
  (∀ (s : State) (c page tier die slot item pool : Nat), s.powered = true →
     let x := s.ctx c
     let nothing := fun (i : Instr) => exec i s = .next (drawn s s)
     let engine := tier < 4 ∧ die < (if tier < 2 then 4 else 1)
     (¬engine ∨ freeSlot s = false ∨ highMark s tier die < lowMark s tier die → nothing (.pageDemote tier die)) ∧
     (∀ v, tier < 3 → engine → freeSlot s = true → lowMark s tier die ≤ highMark s tier die → highMark s tier die < usedPages s tier die →
       firstVictim s tier die = some v →
       let b := v.2.1
       let number := v.2.2
       let place := fun (t : State) => Tab.get Place.zero (t.ctx b).pages number
       let below := if tier = 1 ∧ (s.cxl.map (fun d => d / 2 ^ 96 % 2 ^ 64)).sum / 65536 = 0 then 3 else tier + 1
       (∀ d, (diesFor below (number % 2 ^ 32)).find? (fun d => fits s below d) = some d →
         ∃ t, exec (.pageDemote tier die) s = .next t ∧ (place t).tier = below ∧ (place t).die = d ∧
           (tier = 1 → (place t).key = pageKey (s.ctx b) (number % 2 ^ 32) ∧ (place t).writes = (place s).writes + 1 ∧
             (place t).epoch = (Tab.get KeySlot.zero s.keys (place t).key).epoch) ∧
           (tier ≠ 1 → (place t).key = (place s).key ∧ (place t).writes = (place s).writes) ∧
           t.mem = s.mem ∧ t.cores = s.cores) ∧
       ((diesFor below (number % 2 ^ 32)).find? (fun d => fits s below d) = none →
         ∃ t, exec (.pageDemote tier die) s = .next t ∧ t.ctxs = s.ctxs ∧ t.mem = s.mem ∧ t.cores = s.cores)) ∧
     (promotionWanted s c page = true → freeSlot s = true → s.waiting = [] → s.hostOps = [] →
       (∀ d, (diesFor 1 page).find? (fun d => fits s 1 d) = some d →
         ∃ t, exec (.pagePromote c page) s = .next t ∧ (placeOf t c page).tier = 1 ∧ (placeOf t c page).die = d ∧
           t.mem = s.mem ∧ t.cores = s.cores) ∧
       ((diesFor 1 page).find? (fun d => fits s 1 d) = none → nothing (.pagePromote c page))) ∧
     (promotionWanted s c page = false ∨ freeSlot s = false → nothing (.pagePromote c page)) ∧
     (canRequest s slot pool = false → nothing (.pageRequest c item slot pool)) ∧
     (∀ w, alive s c = true → x.tr.pend = true → x.tr.fail = false → x.tr.work[item]? = some w → w.wait = 0 →
       w.alloc = true → w.copy = true → w.done ≠ BitVec.allOnes 16 → (placeOf s c w.page).tier = 4 → canRequest s slot pool = true →
       let gen := Tab.get 0 s.reqGens slot + 1
       ∃ t, exec (.pageRequest c item slot pool) s = .next t ∧
         t.reqs = s.reqs ++ [{ slot := slot, gen := gen, ctx := c, kind := 1, page := w.page, pool := pool }] ∧
         t.mgmtMem.read (s.ansBase + 8 * slot) 8 = gen.toNat * 2 ^ 32 ∧
         t.pageQ = { s.pageQ with producer := s.pageQ.producer + 1 } ∧ t.msix = s.msix ++ [s.pageQ.vector] ∧
         t.hostMem.read (s.pageQ.base + s.pageQ.producer.toNat % 2 ^ s.pageQ.m * 32) 4 = gen.toNat ∧
         t.hostMem.read (s.pageQ.base + s.pageQ.producer.toNat % 2 ^ s.pageQ.m * 32 + 8) 8 = w.page % 2 ^ 32 * 65536 ∧
         (t.ctx c).tr.work = x.tr.work.set item { w with wait := slot + 1 } ∧
         Tab.get 0 (t.ctx c).ctr 0x823 = (Tab.get 0 x.ctr 0x823 + 1) % 2 ^ 32) ∧
     (slot ∉ s.answers → nothing (.pageAnswer slot)) ∧
     (freeSlot s = false → (∃ q ∈ s.reqs, q.slot = slot ∧ q.kind = 1 ∧ q.dead = false) → nothing (.pageAnswer slot)) ∧
     (slot ∈ s.answers → freeSlot s = true ∨ (∀ q ∈ s.reqs, q.slot = slot → q.kind ≠ 1 ∨ q.dead = true) →
       let w := s.mgmtMem.read (s.ansBase + 8 * slot) 8
       let seen : State := { s with answers := s.answers.filter (fun k => k != slot) }
       let discards := ∃ t, exec (.pageAnswer slot) s = .next t ∧ t.discarded = min (s.discarded + 1) (2 ^ 32 - 1) ∧
         t.reqs = s.reqs ∧ t.cores = s.cores ∧ t.mem = s.mem
       (s.reqs.find? (fun q => q.slot == slot) = none → discards) ∧
       (∀ q, s.reqs.find? (fun q => q.slot == slot) = some q →
         (w / 2 ^ 32 ≠ q.gen.toNat ∨ w / 2 ^ 8 % 2 ^ 24 ≠ 0 ∨ 2 < w % 2 ^ 8 → discards) ∧
         (w = q.gen.toNat * 2 ^ 32 → exec (.pageAnswer slot) s = .next (drawn s seen)) ∧
         (w = q.gen.toNat * 2 ^ 32 + 1 ∨ w = q.gen.toNat * 2 ^ 32 + 2 → q.dead = true → ∃ t, exec (.pageAnswer slot) s = .next t ∧
           t.reqs = s.reqs.filter (fun r => r.slot != slot) ∧ t.discarded = min (s.discarded + 1) (2 ^ 32 - 1) ∧
           t.cores = s.cores ∧ t.mem = s.mem) ∧
         (w = q.gen.toNat * 2 ^ 32 + 2 → q.kind = 1 → q.dead = false → (q.page, q.slot + 1) ∈ (s.ctx q.ctx).rising →
           ∃ t, exec (.pageAnswer slot) s = .next t ∧ (∀ r ∈ t.reqs, r.slot ≠ slot) ∧ (t.ctx q.ctx).tr = (s.ctx q.ctx).tr ∧
             (t.ctx q.ctx).rising = (s.ctx q.ctx).rising.map (fun g => if g.1 = q.page then (g.1, 0) else g)) ∧
         (w = q.gen.toNat * 2 ^ 32 + 2 → q.kind = 1 → q.dead = false → (q.page, q.slot + 1) ∉ (s.ctx q.ctx).rising → ∃ t, exec (.pageAnswer slot) s = .next t ∧
           (∀ r ∈ t.reqs, r.slot ≠ slot) ∧ (t.ctx q.ctx).tr.fail = true ∧ (t.ctx q.ctx).tr.failWhy = 1 ∧
           (t.ctx q.ctx).tr.failAddr = BitVec.ofNat 64 (q.page * 65536) ∧ (t.ctx q.ctx).tr.work = []) ∧
         (w = q.gen.toNat * 2 ^ 32 + 2 → q.kind = 2 → q.dead = false → exec (.pageAnswer slot) s = .next (drawn s
           { seen with reqs := s.reqs.filter (fun r => r.slot != slot), passed := (q.ctx, q.page) :: s.passed })) ∧
         (∀ v, w = q.gen.toNat * 2 ^ 32 + 1 → q.kind = 1 → q.dead = false →
           (s.ctx q.ctx).tr.work.find? (fun v => v.page == q.page && v.wait == q.slot + 1) = some v → v.alloc = true →
           let l := placeOf s q.ctx q.page
           let home := pageHome s q.ctx q.page
           let image := s.hostMem.read (s.poolBase + 65536 * q.pool) 65536
           (sealBroken s l = true → ∃ t, exec (.pageAnswer slot) s = .next t ∧ (t.ctx q.ctx).tr.fail = true ∧
             (t.ctx q.ctx).tr.failWhy = 3 ∧ (t.ctx q.ctx).tr.failAddr = BitVec.ofNat 64 (q.page * 65536)) ∧
           (sealBroken s l = false → image = pageImage s home l → ∃ t, exec (.pageAnswer slot) s = .next t ∧
             (∀ r ∈ t.reqs, r.slot ≠ slot) ∧ (placeOf t q.ctx q.page).tier = v.tier ∧ (placeOf t q.ctx q.page).die = v.die ∧
             (placeOf t q.ctx q.page).spot = v.spot ∧
             (∀ m, t.mem.byte m = s.mem.byte m) ∧ (t.ctx q.ctx).tr.work = (s.ctx q.ctx).tr.work.map (fun u =>
               if u.page = q.page then
                 { u with tier := v.tier, die := v.die, spot := v.spot, alloc := true, wait := 0, got := BitVec.allOnes 16,
                          done := if u.pin then u.done else BitVec.allOnes 16 }
               else u))) ∧
         (w = q.gen.toNat * 2 ^ 32 + 1 → q.kind = 2 → q.dead = false →
           (victimRank s 3 q.ctx q.page).isSome = true →
           (Tab.get Place.zero (s.ctx q.ctx).pages q.page).tier = 3 → ∃ t, exec (.pageAnswer slot) s = .next t ∧
             (∀ r ∈ t.reqs, r.slot ≠ slot) ∧ (Tab.get Place.zero (t.ctx q.ctx).pages q.page).tier = 4 ∧ t.mem = s.mem)))) ∧
  (∀ (s : State), s.powered = true →
     let full := (s.faultQ.producer - s.faultQ.consumer).toNat = 2 ^ s.faultQ.m
     (s.held = [] ∨ s.faultQ.armed = false ∨ full → exec .faultRecordWrite s = .next (drawn s s)) ∧
     (∀ r l, s.held = r :: l → s.faultQ.armed = true → (s.faultQ.producer - s.faultQ.consumer).toNat < 2 ^ s.faultQ.m →
       r.kind < 2 ^ 16 → r.cause < 2 ^ 16 → r.ctx < 2 ^ 8 → r.tenant < 2 ^ 8 → r.core < 2 ^ 16 → r.phys < 2 ^ 32 →
       let at_ := s.faultQ.base + s.faultQ.producer.toNat % 2 ^ s.faultQ.m * 64
       ∃ t, exec .faultRecordWrite s = .next t ∧
         (∀ k n, (k, n) ∈ [(0, 2, r.kind), (2, 2, r.cause), (4, 1, r.ctx), (5, 1, r.tenant), (6, 2, r.core), (8, 4, r.phys),
           (12, 4, s.lost % 2 ^ 32), (16, 8, r.addr.toNat), (24, 8, r.info.toNat), (32, 8, r.at_.toNat),
           (40, 8, r.time % 2 ^ 64), (48, 16, 0)] → t.hostMem.read (at_ + k) n.1 = n.2) ∧
         (∀ m, m < at_ ∨ at_ + 64 ≤ m → t.hostMem.byte m = s.hostMem.byte m) ∧
         t = drawn s { s with faultQ := { s.faultQ with producer := s.faultQ.producer + 1 }, hostMem := t.hostMem, held := l,
                              lost := 0, msix := s.msix ++ [s.faultQ.vector] }))

/-! ### Events of contexts (R97 to R99, R340, R345 to R349) -/

/-- R345, R346, R347. SAVE_COMMAND on a running context asks each of its cores to yield; on one whose save stopped for want of room it
lets the record be written again; on any other it is refused with result 5 and changes no state. YIELD_OVERDUE reports once that
cores still run after the timeout. SAVE_RECORD_WRITE, every core having yielded and none frozen in PADV, saves the context in
state 3 with the registers, the sequencer, the PC, the records and the OWNED banks of every core that yielded, its residency
tables, phase, queue with the ages of its entries, thread and staged stores, writes the header of its record (magic, version,
context, tenant, size, count of sections, key slot) at the save area and nothing outside the record, and releases its cores; a
record above the limit leaves state 2 and result 6; while an engine of any core works for the context nothing is written.
R104, R299. A loop entry is saved in the layout of R104, its start, count, index with bit 32, epilogue stages, stage flag and valid bit in
their places and the reserved bits zero, and a residency table entry in that of R299, field by field; each is read back as it was.
The model's own here, no rule of the manual: the count of free values that each step advances (log 4); what the log entries 11,
32, 63 say. -/
def Obligations.SavingAContext : Prop :=
  ∀ (s : State) (c : Nat), s.powered = true →
    let x := s.ctx c
    let nothing := fun (i : Instr) => exec i s = .next (drawn s s)
    (s.bootStep ≠ 5 → nothing (.saveCommand c)) ∧
    (s.bootStep = 5 → x.state = 1 → ∃ t, exec (.saveCommand c) s = .next t ∧ (t.ctx c).state = 1 ∧
      (t.ctx c).saveAt = s.cycle + 1 ∧ (t.ctx c).cmd = 0 ∧ t.mem = s.mem ∧
      ∀ p, t.core p = if (s.core p).ctx = some c then { s.core p with yieldReq := true } else s.core p) ∧
    (s.bootStep = 5 → x.state = 2 → x.short = true →
      exec (.saveCommand c) s = .next (drawn s (s.onCtx c (fun y => { y with cmd := 0, result := 0, short := false })))) ∧
    (s.bootStep = 5 → x.state ≠ 1 → ¬(x.state = 2 ∧ x.short = true) →
      ∃ t, exec (.saveCommand c) s = .next t ∧ (t.ctx c).state = x.state ∧ (t.ctx c).result = 5 ∧
        (t.ctx c).short = x.short ∧ t.cores = s.cores ∧ t.mem = s.mem) ∧
    (x.state = 1 → 0 < x.saveAt → 0 < x.timeout → x.overdue = false → x.saveAt - 1 + x.timeout * 1024 ≤ s.cycle →
      0 < stillRunning s c →
      ∃ t, exec (.yieldOverdue c) s = .next t ∧ (t.ctx c).overdue = true ∧ t.cores = s.cores ∧
        (s.faultQ.armed = false → s.held.length < 256 → ∃ r, t.held = s.held ++ [r] ∧ r.kind = 5 ∧ r.ctx = c ∧
          r.info = BitVec.ofNat 64 (stillRunning s c))) ∧
    (x.state ≠ 1 ∨ x.saveAt = 0 ∨ x.timeout = 0 ∨ x.overdue = true ∨ stillRunning s c = 0 → nothing (.yieldOverdue c)) ∧
    (saveReady s c = false → nothing (.saveRecordWrite c)) ∧
    (∀ p, (p, s.core p) ∈ s.cores → (s.core p).ctx = some c → (s.core p).run = .running ∨ (s.core p).atPadv = true →
      saveReady s c = false) ∧
    (∀ p, (p, s.core p) ∈ s.cores →
      ((∃ e ∈ (s.core p).chans, ∃ j ∈ e.2, j.ctx = c) ∨ (∃ j ∈ (s.core p).lmmar, j.ctx = c) ∨ (∃ j ∈ (s.core p).rloads, j.ctx = c) ∨
        (∃ j ∈ (s.core p).pstw, j.ctx = c) ∨ (∃ j, (s.core p).optu = some j ∧ j.ctx = c)) → saveReady s c = false) ∧
    (saveReady s c = true → x.limit < recordSize s c →
      ∃ t, exec (.saveRecordWrite c) s = .next t ∧ (t.ctx c).state = 2 ∧ (t.ctx c).result = 6 ∧ (t.ctx c).short = true ∧
        (t.ctx c).size = recordSize s c ∧ t.cores = s.cores ∧ t.mgmtMem = s.mgmtMem) ∧
    (saveReady s c = true → recordSize s c ≤ x.limit →
      ∃ t r, exec (.saveRecordWrite c) s = .next t ∧ (t.ctx c).state = 3 ∧ (t.ctx c).size = recordSize s c ∧
        (t.ctx c).record = some r ∧ r.area = x.area ∧ r.size = recordSize s c ∧ t.mem = s.mem ∧
        (let at_ := fun (off n : Nat) => t.mgmtMem.read (x.area + off) n
         at_ 0 4 = 0x1A525653 ∧ at_ 4 2 = 1 ∧ at_ 6 1 = c % 2 ^ 8 ∧ at_ 7 1 = x.tenant % 2 ^ 8 ∧
         at_ 8 8 = recordSize s c % 2 ^ 64 ∧ at_ 16 4 = (sectionsNow s c).length % 2 ^ 32 ∧ at_ 20 2 = x.key % 2 ^ 16 ∧
         at_ 22 2 = 0) ∧
        (∀ k, k < x.area ∨ x.area + recordSize s c ≤ k → t.mgmtMem.byte k = s.mgmtMem.byte k) ∧
        r.lists = savedLists x ∧ r.rest = savedRest s.cycle x ∧
        (t.ctx c).queue = x.queue.map (fun e => { e with enq := (s.cycle : Int) - e.enq }) ∧
        (t.ctx c).staged = x.staged ∧ (t.ctx c).res = x.res ∧ (t.ctx c).phase = x.phase ∧ (t.ctx c).tr.work = [] ∧
        (t.ctx c).tr.pend = x.tr.pend ∧ (t.ctx c).tr.tgt = x.tr.tgt ∧
        (∀ p, (s.core p).ctx = some c → (t.core p).ctx = none ∧ (t.core p).run = .idle) ∧
        (∀ p, (s.core p).ctx ≠ some c → t.core p = freeBanks c (s.core p)) ∧
        (∀ p, (p, s.core p) ∈ s.cores → (s.core p).ctx = some c → (s.core p).run = .yielded →
          ∃ w ∈ r.cores, w.lcore = (s.core p).lcore ∧ w.task = (s.core p).task ∧ w.pc = (s.core p).pc ∧
            w.loops = (s.core p).seq.loops.map loopWord ∧ w.vrb = (s.core p).seq.vrb ∧ w.prb = (s.core p).seq.prb ∧
            w.s = (s.core p).s ∧ w.p = (s.core p).p ∧ w.v = (s.core p).v ∧ w.owned = ownedMask c (s.core p) ∧
            w.spill = (s.core p).spill ∧ w.active = (s.core p).active ∧ w.shadow = (s.core p).shadow ∧
            w.sticky = (s.core p).sticky ∧ w.trap = (s.core p).trap ∧ w.klprg = (s.core p).klprg)) ∧
    (∀ e : LoopEntry, loopOf (loopWord e) = some e ∧
      (loopWord e).extractLsb' 0 32 = e.start ∧ (loopWord e).extractLsb' 32 32 = e.count ∧
      (loopWord e).extractLsb' 64 32 = e.index.extractLsb' 0 32 ∧ (loopWord e).extractLsb' 96 4 = e.ep ∧
      (loopWord e).getLsbD 100 = e.stg ∧ (loopWord e).getLsbD 101 = e.index.getLsbD 32 ∧
      (loopWord e).extractLsb' 102 25 = 0 ∧ (loopWord e).getLsbD 127 = true) ∧
    (∀ e : Resid, e.src < 2 ^ 48 → e.status < 256 → e.charge < 2 ^ 11 → e.k < 2 ^ 14 → e.fmt < 16 → e.state < 16 →
      ((residWord e).extractLsb' 0 48).toNat = e.src ∧ (residWord e).extractLsb' 48 8 = 0 ∧
      ((residWord e).extractLsb' 56 8).toNat = e.status ∧ ((residWord e).extractLsb' 64 11).toNat = e.charge ∧
      ((residWord e).extractLsb' 75 14).toNat = e.k ∧ ((residWord e).extractLsb' 89 4).toNat = e.fmt ∧
      (residWord e).extractLsb' 93 12 = e.rgen ∧ (residWord e).extractLsb' 105 12 = e.gen ∧
      (residWord e).extractLsb' 117 5 = 0 ∧ (residWord e).getLsbD 122 = e.held ∧ (residWord e).getLsbD 123 = e.pin ∧
      ((residWord e).extractLsb' 124 4).toNat = e.state) ∧
    (∀ e : Resid, e.src < 2 ^ 48 → e.status < 256 → e.charge < 2 ^ 11 → e.k < 2 ^ 14 → e.fmt < 16 → e.state < 16 →
      residOf (residWord e) = { e with loaded := e.state != 0 })

/-- R348, R349. RESTORE_COMMAND on a saved context whose record authenticates and whose checks pass, its cores and banks free, gives
every core of the record that has a task or banks back what the record keeps, leaves every other core as it is, and lets the context run,
the entries of its queue with the ages they had;
it waits while a core is busy, or pages of a newly bound base have still to rise, and is refused with the result of the check that failed: 5 in another state, 3 without an
authentic record, before any other. END_COMMAND ends a running, saving, saved or fatal context and releases its cores; on any
other it is refused. CONTEXT_UNLOAD frees the number of an ended context, and its memory; no core keeps a bank or accumulator
rows in its name.
R16, R90, R97, R98, R99. CONTEXT_LOAD of a file under a free number for one of 16 tenants, bring-up being complete: when every
step succeeds the context runs, its tenant as given, its code, stream and entry those of the file, every register of its thread
zero, its phase 0; when a step fails nothing changes but the report of the step and its record. A file without a header of
version 1 and kind 2 fails at step 1; an image without regions and residencies that passes the checks loads when its code region finds
its place, and fails at step 4 when it does not; a DATA section
lies at its place with zero elsewhere. Bytes are put where they are put and nowhere else.
The model's own here, no rule of the manual: the count of free values that each step advances (log 4); what the log entries 11,
21, 33, 34, 41, 42, 64, 77, 79, 87 say. -/
def Obligations.RestoringLoadingEnding : Prop :=
  (∀ (s : State) (c : Nat), s.powered = true → s.bootStep = 5 →
     let x := s.ctx c
     (∀ k, restoreRefused s c = some k → ∃ t, exec (.restoreCommand c) s = .next t ∧ (t.ctx c).result = k ∧
       (t.ctx c).state = x.state ∧ t.cores = s.cores ∧ t.mem = s.mem) ∧
     (x.state ≠ 3 → restoreRefused s c = some 5) ∧
     (x.state = 3 → restoreRecord s c = none → restoreRefused s c = some 3) ∧
     (∀ r foreign, restoreRefused s c = none → restoreRecord s c = some (r, foreign) → restoreFree s c r = false ∨ x.rising ≠ [] →
       exec (.restoreCommand c) s = .next (drawn s (s.onCtx c (fun y => { y with cmd := 2 })))) ∧
     (∀ r, restoreRefused s c = none → restoreRecord s c = some (r, false) → restoreFree s c r = true → x.rising = [] →
       let placed := fun (w : SavedCore) => w.inTask = true ∨ w.owned ≠ 0
       ∃ t, exec (.restoreCommand c) s = .next t ∧ (t.ctx c).state = 1 ∧ (t.ctx c).record = none ∧ t.mem = s.mem ∧
         (t.ctx c).queue = x.queue.map (fun e => { e with enq := (s.cycle : Int) - e.enq }) ∧ (t.ctx c).phase = x.phase ∧
         (∀ p, (∀ w ∈ r.cores, placed w → physOf x w.lcore ≠ some p) →
           (t.core p).ctx = (s.core p).ctx ∧ (t.core p).run = (s.core p).run ∧ (t.core p).s = (s.core p).s ∧
           (t.core p).spad = (s.core p).spad ∧ (t.core p).acc = (s.core p).acc ∧ (t.core p).banks = (s.core p).banks) ∧
         (∀ w ∈ r.cores, placed w → ∀ p, physOf x w.lcore = some p →
           (∀ w' ∈ r.cores, placed w' → physOf x w'.lcore = some p → w' = w) →
           (t.core p).ctx = some c ∧ (t.core p).lcore = w.lcore ∧ (t.core p).task = w.task ∧ (t.core p).pc = w.pc ∧
           (t.core p).seq = { loops := loopsOf w.loops, vrb := w.vrb, prb := w.prb } ∧ (t.core p).s = w.s ∧ (t.core p).p = w.p ∧ (t.core p).v = w.v ∧ (t.core p).acc = w.acc ∧
           (t.core p).spill = w.spill ∧ (t.core p).active = w.active ∧ (t.core p).shadow = w.shadow ∧
           (t.core p).sticky = Tab.mapVal w.sticky (fun y => { y with stamp := min y.stamp s.cycle }) ∧
           (t.core p).trap = w.trap ∧ (t.core p).klprg = w.klprg ∧
           (t.core p).run = (if w.halted = true then .halted else if w.inTask = true then .running else .idle))) ∧
     (x.state = 1 ∨ x.state = 2 ∨ x.state = 3 ∨ x.state = 6 →
       ∃ t, exec (.endCommand c) s = .next t ∧ (t.ctx c).state = 5 ∧ (t.ctx c).queue = [] ∧ (t.ctx c).tasks = [] ∧
         (t.ctx c).staged = [] ∧ (∀ p, (s.core p).ctx = some c → (t.core p).ctx = none ∧ (t.core p).run = .idle ∧
           (t.core p).board = [] ∧ (t.core p).flights = []) ∧ t.mem = s.mem) ∧
     (x.state = 0 ∨ x.state = 5 → ∃ t, exec (.endCommand c) s = .next t ∧ (t.ctx c).state = x.state ∧ (t.ctx c).result = 5 ∧
       t.cores = s.cores) ∧
     (x.state ≠ 5 ∨ baseInUse s c = true → exec (.contextUnload c) s = .next (drawn s s)) ∧
     (x.state = 5 → baseInUse s c = false → ∃ t, exec (.contextUnload c) s = .next t ∧
       (t.ctx c).state = 0 ∧ (∀ d, d ≠ c → t.ctx d = s.ctx d) ∧
       (∀ p, t.core p = forgetCtx c (s.core p)) ∧ (∀ p, (t.core p).accCtx ≠ some c) ∧
       (s.mem.undef = [] → ∀ k, k / 2 ^ 48 = c ∨ k / 2 ^ 48 = 256 + c → t.mem.byte k = 0) ∧
       (∀ k, k / 2 ^ 48 ≠ c → k / 2 ^ 48 ≠ 256 + c → Tab.find t.mem.cells k = Tab.find s.mem.cells k))) ∧
  (∀ (s : State) (c tenant : Nat) (file : List Byte), s.powered = true →
     (s.bootStep ≠ 5 ∨ s.bootOut ≠ 0 ∨ 64 ≤ c ∨ 16 ≤ tenant ∨ (s.ctx c).state ≠ 0 →
       exec (.contextLoad c tenant file) s = .next (drawn s s)) ∧
     (s.bootStep = 5 → s.bootOut = 0 → c < 64 → tenant < 16 → (s.ctx c).state = 0 →
       let fails := fun (k : Nat × Nat) => exec (.contextLoad c tenant file) s = .next (drawn s { s with loadFail := some k })
       (∀ r, imageOf tenant file = .error r → fails (1, r)) ∧
       (file.length < 32 ∨ fileField file 4 2 ≠ 1 ∨ fileField file 6 2 ≠ 2 → imageOf tenant file = .error 0) ∧
       (∀ img, imageOf tenant file = .ok img →
         (∀ r, loadFault img = some r → fails (1, r)) ∧
         (loadable img = true → granulesFit s (s.ctx c) img = false → ∃ r, fails (2, r)) ∧
         (∀ k, loadImage c img s = .error k → fails k) ∧
         (∀ u, loadImage c img s = .ok u → exec (.contextLoad c tenant file) s = .next (drawn s { u with loadFail := none }) ∧
           (u.ctx c).state = 1 ∧ (u.ctx c).tenant = tenant ∧ (u.ctx c).code = img.code ∧ (u.ctx c).stream = img.stream ∧
           (u.ctx c).phase = 0 ∧ (u.ctx c).thr.pc = img.entry ∧ (u.ctx c).thr.s = [] ∧ (u.ctx c).thr.p = [] ∧
           (u.ctx c).thr.halted = false ∧ (u.ctx c).placement = (s.ctx c).placement ∧
           (u.ctx c).vectors = (s.ctx c).vectors ∧ (u.ctx c).timeout = s.yieldDef ∧ (u.ctx c).queue = [] ∧
           (∀ d, d ≠ c → (u.ctx d).state = (s.ctx d).state)) ∧
         (loadable img = true → img.regions = [] → img.resman = [] →
           (∃ t, placeAll c (s.onCtx c (newCtx s img)) = .ok t) → ∃ u, loadImage c img s = .ok u ∧ u.cores = s.cores) ∧
         (∀ r, loadable img = true → granulesFit s (s.ctx c) img = true →
           placeAll c (s.onCtx c (newCtx s img)) = .error r → fails (4, r)) ∧
         (∀ u a l, loadImage c img s = .ok u → img.maps = [] → img.resman = [] → img.data = [(a, l)] →
           (∀ k b, l[k]? = some b → u.mem.byte (c * 2 ^ 48 + a + k) = b) ∧
           (s.mem.undef = [] → ∀ k, k < 2 ^ 48 → k < a ∨ a + l.length ≤ k → u.mem.byte (c * 2 ^ 48 + k) = 0))))) ∧
  (∀ (m : Memory) (l : List Byte) (a : Nat),
     (∀ k b, l[k]? = some b → (putBytes m a l).byte (a + k) = b) ∧
     (∀ k, k < a ∨ a + l.length ≤ k → (putBytes m a l).byte k = m.byte k))

/-! ### Events of the host port (R316 to R318, R321, R324, R339 to R343, R351, R355) -/

/-- R343, R358. A request of the management mailbox is answered once: the response stands in the data, the tag is copied, the
status says done, refused or unknown, and the vector, one of the PF's 2,048 (R338), is raised; requests 1, 3, 4, 5 and 6 have the
effect of R343, or are refused in its cases; request 2 is done in recovery only; while a request is answered nothing is.
A teardown clears every slot of the tenant that is not EMPTY, answers their count and changes nothing else; a binding shares
both regions, names the base, releases the target's backing, and changes no other memory and no other context.
R342. The management window is a range of whole pages.
The model's own here, no rule of the manual: the count of free values that each step advances (log 4); that request 5 is refused for a
window that R342 does not admit or LPDDR-6 cannot hold, where R343 lists an armed queue alone (log 83); what the log entries 8, 11, 36,
79, 81 say. -/
def Obligations.ManagementRequests : Prop :=
  ∀ (s : State), s.powered = true →
    let field := fun (off n : Nat) => s.mboxMem.read (64 + off) n
    let answers := fun (i : Instr) (status : Nat) (u : State) (response : Memory → Prop) =>
      ∃ t, exec i s = .next t ∧ response t.mboxMem ∧
        t = drawn s { u with mboxMem := t.mboxMem, mbox := { s.mbox with status := status, rtag := s.mbox.tag },
                             msix := if s.mbox.vector < 2048 then s.msix ++ [s.mbox.vector] else s.msix }
    let done := fun (i : Instr) (u : State) => answers i 1 u (fun m => m = s.mboxMem)
    let refused := fun (i : Instr) => answers i 2 s (fun m => m = s.mboxMem)
    let nothing := fun (i : Instr) => exec i s = .next (drawn s s)
    (s.mbox.status = 0 ∨ s.bootStep ≠ 5 →
      nothing .mgmtDescribeCxl ∧ nothing .mgmtReadTelemetry ∧ nothing .mgmtTenantTeardown ∧ nothing .mgmtSetMgmtWindow ∧
      nothing .mgmtBindSharedBase ∧ nothing .mgmtUnknownCommand) ∧
    (s.mbox.status ≠ 0 → s.bootStep = 2 →
      let image := s.hostMem.read (field 8 8) (field 0 8)
      answers .mgmtLoadFirmware 1 { s with firmware := image } (fun m =>
        m.read 64 4 = (Config.firmwareCode (field 0 8) image).toNat ∧ ∀ k, k < 64 ∨ 68 ≤ k → m.byte k = s.mboxMem.byte k)) ∧
    (s.mbox.status = 0 → nothing .mgmtLoadFirmware) ∧
    (s.mbox.status ≠ 0 → s.bootStep = 5 →
      refused .mgmtLoadFirmware ∧
      (field 0 8 ≤ 8 → done .mgmtDescribeCxl { s with cxl := (List.range (field 0 8)).map (fun k => field (8 + 32 * k) 32) }) ∧
      (8 < field 0 8 → refused .mgmtDescribeCxl) ∧
      ((∀ k, Tab.get 0 s.telemetry k < 2 ^ 64) → answers .mgmtReadTelemetry 1 s (fun m =>
        ∀ j k, ((List.range 64).filter (fun k => field 0 8 / 2 ^ k % 2 == 1))[j]? = some k →
          m.read (64 + 8 * j) 8 = Tab.get 0 s.telemetry k)) ∧
      ((∃ c, (s.ctx c).tenant = field 0 1 ∧ (s.ctx c).state ≠ 0 ∧ (s.ctx c).state ≠ 5 ∧ (c, s.ctx c) ∈ s.ctxs) →
        refused .mgmtTenantTeardown) ∧
      ((∀ k ∈ s.ctxs, k.2.tenant = field 0 1 → k.2.state = 0 ∨ k.2.state = 5) →
        ∃ t, exec .mgmtTenantTeardown s = .next t ∧
          answers .mgmtTenantTeardown 1 { s with keys := t.keys } (fun m =>
            m.read 64 4 = (s.keys.filter (fun k => k.2.state != 0 && k.2.tenant == field 0 1)).length % 2 ^ 32 ∧
            ∀ k, k < 64 ∨ 68 ≤ k → m.byte k = s.mboxMem.byte k) ∧
          (∀ k, let e := Tab.get KeySlot.zero s.keys k
            (e.state ≠ 0 → e.tenant = field 0 1 → (Tab.get KeySlot.zero t.keys k).state = 0 ∧
              (Tab.get KeySlot.zero t.keys k).key = 0) ∧
            (e.state = 0 ∨ e.tenant ≠ field 0 1 → Tab.get KeySlot.zero t.keys k = e))) ∧
      (s.pageQ.armed = true ∨ field 0 8 % 65536 ≠ 0 ∨ field 8 8 % 65536 ≠ 0 ∨ windowBad s (field 0 8) (field 8 8) = true →
        refused .mgmtSetMgmtWindow) ∧
      (s.pageQ.armed = false → windowBad s (field 0 8) (field 8 8) = false →
        done .mgmtSetMgmtWindow { s with mwinBase := field 0 8, mwinSize := field 8 8 }) ∧
      (bindOk s (field 0 1) (field 1 1) (field 4 2) (field 6 2) = false → refused .mgmtBindSharedBase) ∧
      (bindOk s (field 0 1) (field 1 1) (field 4 2) (field 6 2) = true →
        let src := field 0 1
        let dst := field 1 1
        let e := Tab.get 0 (s.ctx dst).regions (field 6 2)
        ∃ t, exec .mgmtBindSharedBase s = .next t ∧
          t.mbox = { s.mbox with status := 1, rtag := s.mbox.tag } ∧ t.mboxMem = s.mboxMem ∧
          t.msix = (if s.mbox.vector < 2048 then s.msix ++ [s.mbox.vector] else s.msix) ∧
          t.cores = s.cores ∧ t.keys = s.keys ∧ t.tenants = s.tenants ∧ t.owner = s.owner ∧ t.quotas = s.quotas ∧
          t.held = s.held ∧ t.mgmtMem = s.mgmtMem ∧
          (∀ d, d ≠ src → d ≠ dst → t.ctx d = s.ctx d) ∧
          (t.ctx dst).state = (s.ctx dst).state ∧ (t.ctx dst).phase = (s.ctx dst).phase ∧ (t.ctx dst).maps = (s.ctx dst).maps ∧
          (∀ k, (∀ c, c = dst ∨ c = 256 + dst → k < c * 2 ^ 48 + regBase e ∨ c * 2 ^ 48 + regBase e + regSize e ≤ k) →
            t.mem.byte k = s.mem.byte k) ∧
          regShared (Tab.get 0 (t.ctx (field 1 1)).regions (field 6 2)) = true ∧
          (field 0 1 ≠ field 1 1 → regShared (Tab.get 0 (t.ctx (field 0 1)).regions (field 4 2)) = true) ∧
          Tab.find (t.ctx (field 1 1)).shared (field 6 2) = some ((Tab.find (s.ctx (field 0 1)).shared (field 4 2)).getD
            (field 0 1, regBase (Tab.get 0 (s.ctx (field 0 1)).regions (field 4 2))))) ∧
      answers .mgmtUnknownCommand 3 s (fun m => m = s.mboxMem))

/-- R317, R318, R324, R339, R340, R342, R344. HOST_REGISTER_WRITE of a whole entry writes that entry; a write that a rule forbids
changes nothing but the status word, which holds the cause and the offset, and makes a record of kind 14 with the cause. The
Rota bank in force, and either bank while a switch is asked for, is not written; a core's owner is not while a context runs
there, neither saved nor ended. The entry of a context is written while its tables are open. R249. The header of its scheduling entry is
written before its start or while it is saved, for a tenant that owns the cores of the clusters placed. A command written to a control
block acts, and a save area is 64 KiB aligned. HOST_COUNTER_CLEAR and TABLE_STATUS_CLEAR clear.
R339, R343. A host read answers the bytes it asks for: an entry as it was written, the tenant of a VF at its offset 0, zero at
reserved offsets and in the control block of another tenant's context.
The model's own here, no rule of the manual: the count of free values that each step advances (log 4); what the log entries 7,
35, 74, 80, 93 say. -/
def Obligations.HostRegisters : Prop :=
  ∀ (s : State) (v : Nat), s.powered = true → s.bootStep = 5 →
    let w := fun (off size : Nat) => Instr.hostRegisterWrite 0 off size v
    let refuses := fun (i : Instr) (off cause : Nat) => ∃ t, exec i s = .next t ∧ t.winStatus.toNat = cause + off * 2 ^ 32 ∧
      t.ctxs = s.ctxs ∧ t.cores = s.cores ∧ t.tenants = s.tenants ∧ t.rota = s.rota ∧ t.routes = s.routes ∧ t.marks = s.marks ∧
      t.quotas = s.quotas ∧ t.owner = s.owner ∧ t.ctxSel = s.ctxSel ∧
      (s.faultQ.armed = false → s.held.length < 256 → ∃ r, t.held = s.held ++ [r] ∧ r.kind = 14 ∧ r.info = BitVec.ofNat 64 cause)
    let x := s.ctx s.ctxSel
    let open_ := tablesClosed s s.ctxSel = false
    (v < 2 ^ 64 →
      (64 ≤ v → refuses (w 0x20018 8) 0x20018 2) ∧
      (v < 64 → exec (w 0x20018 8) s = .next (drawn s { s with ctxSel := v }))) ∧
    (∀ t, t < 16 → v < 2 ^ 128 →
      (tenantBad v = true → refuses (w (0x21000 + 16 * t) 16) (0x21000 + 16 * t) 2) ∧
      (tenantBad v = false → pinClash s t v = true → refuses (w (0x21000 + 16 * t) 16) (0x21000 + 16 * t) 7) ∧
      (tenantBad v = false → pinClash s t v = false →
        ∃ u, exec (w (0x21000 + 16 * t) 16) s = .next u ∧
          (∀ j, j ≠ t → Tab.get 0 u.tenants j = Tab.get 0 s.tenants j) ∧
          (let e := Tab.get (0 : BitVec 128) u.tenants t
           e.setWidth 32 = BitVec.ofNat 32 v ∧
           e.extractLsb' 32 16 = (Tab.get (0 : BitVec 128) s.tenants t).extractLsb' 32 16 &&& BitVec.ofNat 16 v ∧
           e.extractLsb' 84 25 = BitVec.ofNat 25 (v / 2 ^ 84)))) ∧
    (∀ b i, b < 2 → i < 128 → v < 2 ^ 8 → v / 16 % 8 = 0 →
      let off := 0x21100 + 128 * b + i
      let written := ∃ u, exec (w off 1) s = .next u ∧ Tab.get 0 u.rota (128 * b + i) = BitVec.ofNat 8 v ∧
        (∀ j, j ≠ 128 * b + i → Tab.get 0 u.rota j = Tab.get 0 s.rota j)
      (s.rotaPend = false → (b = s.rotaBank → refuses (w off 1) off 9) ∧ (b ≠ s.rotaBank → written)) ∧
      (s.rotaPend = true → s.cycle / 1024 ≤ s.rotaAt / 1024 → refuses (w off 1) off 9) ∧
      (s.rotaPend = true → s.rotaAt / 1024 < s.cycle / 1024 →
        (b = 1 - s.rotaBank % 2 → refuses (w off 1) off 9) ∧ (b ≠ 1 - s.rotaBank % 2 → written))) ∧
    (∀ r d, r < 2 → d < 64 → v < 2 ^ 32 → v / 2 ^ 5 % 2 ^ 11 = 0 →
      let off := 0x21200 + 256 * r + 4 * d
      (Tab.get 0 s.rstate r ≠ 0 → refuses (w off 4) off 5) ∧
      (Tab.get 0 s.rstate r = 0 → ∃ u, exec (w off 4) s = .next u ∧ Tab.get 0 u.routes (64 * r + d) = BitVec.ofNat 32 v ∧
        (∀ j, j ≠ 64 * r + d → Tab.get 0 u.routes j = Tab.get 0 s.routes j))) ∧
    (∀ k, k < 10 → v < 2 ^ 64 →
      let off := 0x21400 + 8 * k
      (v % 2 ^ 32 < v / 2 ^ 32 → refuses (w off 8) off 6) ∧
      (v / 2 ^ 32 ≤ v % 2 ^ 32 → ∃ u, exec (w off 8) s = .next u ∧ Tab.get 0 u.marks (2 * k) = BitVec.ofNat 32 v ∧
        Tab.get 0 u.marks (2 * k + 1) = BitVec.ofNat 32 (v / 2 ^ 32) ∧
        (∀ j, j ≠ 2 * k → j ≠ 2 * k + 1 → Tab.get 0 u.marks j = Tab.get 0 s.marks j))) ∧
    (∀ p, p < 336 → v < 2 ^ 16 → v / 16 % 2 ^ 11 = 0 → coreDisabled p = false →
      let off := 0x25000 + 2 * p
      let runs := (s.core p).run ≠ .idle ∨
        ∃ c, (s.core p).ctx = some c ∧ (s.ctx c).state ≠ 0 ∧ (s.ctx c).state ≠ 3 ∧ (s.ctx c).state ≠ 5
      (runs → refuses (w off 2) off 8) ∧
      (¬runs → ∃ u, exec (w off 2) s = .next u ∧ Tab.get 0 u.owner p = BitVec.ofNat 16 v ∧
        (∀ j, j ≠ p → Tab.get 0 u.owner j = Tab.get 0 s.owner j))) ∧
    (∀ fn, fn ≤ 16 → v < 2 ^ 128 →
      let off := 0x20100 + 16 * fn
      (bar2Bad s fn v = true → refuses (w off 16) off 2) ∧
      (bar2Bad s fn v = false → ∃ u, exec (w off 16) s = .next u ∧
        Tab.get Bar2.zero u.bar2 fn = { ctx := v % 256, valid := v / 2 ^ 8 % 2 == 1, base := v / 2 ^ 64 % 2 ^ 64 } ∧
        (∀ j, j ≠ fn → Tab.get Bar2.zero u.bar2 j = Tab.get Bar2.zero s.bar2 j))) ∧
    (∀ k, 1 ≤ k → k < 12 → v < 2 ^ 32 →
      let off := 0x41100 + 4 * k
      (¬open_ → refuses (w off 4) off 1) ∧
      (open_ → ∃ u, exec (w off 4) s = .next u ∧ Tab.get (BitVec.allOnes 32) (u.ctx s.ctxSel).vectors k = BitVec.ofNat 32 v ∧
        (∀ j, j ≠ k → Tab.get (BitVec.allOnes 32) (u.ctx s.ctxSel).vectors j = Tab.get (BitVec.allOnes 32) x.vectors j))) ∧
    (∀ c, c < 64 →
      (v = 1 → (s.ctx c).state = 1 → ∃ u, exec (w (0x2000 + 64 * c) 1) s = .next u ∧ (u.ctx c).saveAt = s.cycle + 1) ∧
      (v = 2 → (s.ctx c).state ≠ 3 → ∃ u, exec (w (0x2000 + 64 * c) 1) s = .next u ∧ (u.ctx c).result = 5 ∧
        (u.ctx c).state = (s.ctx c).state) ∧
      (v = 3 → (s.ctx c).state = 1 → ∃ u, exec (w (0x2000 + 64 * c) 1) s = .next u ∧ (u.ctx c).state = 5) ∧
      (v < 2 ^ 64 → ∃ u, exec (w (0x2008 + 64 * c) 8) s = .next u ∧ (u.ctx c).area = v / 65536 * 65536 ∧
        (u.ctx c).state = (s.ctx c).state)) ∧
    (v < 2 ^ 128 → v % 2 ^ 8 < 16 → v / 2 ^ 8 % 2 ^ 8 ≤ 16 → v / 2 ^ 24 % 2 ^ 8 < 64 → v / 2 ^ 32 = 0 →
      let closed := ¬(x.state = 0 ∨ x.state = 3 ∨ (x.state = 1 ∧ x.started = false))
      (closed → refuses (w 0x40000 16) 0x40000 1) ∧
      (¬closed → headBad s s.ctxSel v = true → refuses (w 0x40000 16) 0x40000 4) ∧
      (¬closed → headBad s s.ctxSel v = false → ∃ u, exec (w 0x40000 16) s = .next u ∧ (u.ctx s.ctxSel).tenant = v % 2 ^ 8 ∧
        (u.ctx s.ctxSel).split = v / 2 ^ 8 % 2 ^ 8 ∧ (u.ctx s.ctxSel).aging = v / 2 ^ 16 % 2 ^ 8 ∧
        (u.ctx s.ctxSel).thread = v / 2 ^ 24 % 2 ^ 8)) ∧
    exec .tableStatusClear s = .next (drawn s { s with winStatus := 0 }) ∧
    (∀ off c g, Config.counterAt off = (1, c, g) → ∃ u, exec (.hostCounterClear off) s = .next u ∧
      Tab.get 0 (u.ctx c).bufBytes g = 0 ∧
      (∀ j, j ≠ g → Tab.get 0 (u.ctx c).bufBytes j = Tab.get 0 (s.ctx c).bufBytes j)) ∧
    (∀ off, Config.counterAt off = (8, 0, 0) →
      exec (.hostCounterClear off) s = .next (drawn s { s with discarded := 0 })) ∧
    (∀ fn off b, turnOf s = .hostRead fn off 1 → fn ≤ s.vfs →
      let tenantOf := fun (fn : Nat) => (Tab.find s.vfTenant fn).getD (fn - 1)
      let answers := b < 2 ^ 8 → ∃ t, step s = .next t ∧ t.replies = s.replies ++ [
        { dest := 64 + fn, status := 0, data := BitVec.ofNat 4096 b, poisoned := false }]
      (fn ≠ 0 → off = 0 → b = tenantOf fn → answers) ∧
      (fn ≠ 0 → 0x1000 ≤ off → off < 0x2000 → (s.ctx ((off - 0x1000) / 64)).tenant ≠ tenantOf fn → b = 0 →
        answers) ∧
      (fn = 0 → 0x3000 ≤ off → off < 0x10000 → b = 0 → answers) ∧
      (∀ p, p < 336 → fn = 0 → off = 0x25000 + 2 * p → b = (Tab.get (0 : BitVec 16) s.owner p).toNat % 256 → answers) ∧
      (fn = 0 → off = 0x20000 → b = s.winStatus.toNat % 256 → answers) ∧
      (∀ c, c < 64 → fn = 0 → off = 0x2001 + 64 * c → b = (s.ctx c).state % 256 → answers))

/-- R338, R341, R342, R351, R355. HOST_BAR2_LOAD answers the committed bytes of the context of the window, HOST_BAR2_WRITE changes
exactly the bytes it covers, live, and HOST_ATOMICOP, of 32 or 64 bits, or 128 for CAS, leaves the word of its operation and
answers the old one, but one of another size than 64 bits on a page of the host tier waits for the page; each of the three that the current map refuses is answered with Unsupported Request and a record of kind
14; an access outside the window, or of a window not valid, does nothing. The PF's window on context FFh shows the management
window. ATS_INVALIDATE drops the translation; HOST_RELEASE_STOP lets issue go on.
The model's own here, no rule of the manual: the count of free values that each step advances (log 4); what the log entries 7,
11, 37, 76, 93 say. -/
def Obligations.HostMemoryAccess : Prop :=
  ∀ (s : State) (fn off size v y : Nat) (op : HostOp), s.powered = true →
    let win := Tab.get Bar2.zero s.bar2 fn
    let c := win.ctx
    let va := win.base + off
    let nothing := fun (i : Instr) => exec i s = .next (drawn s s)
    let reaches := s.bootStep = 5 ∧ fn ≤ s.vfs ∧ win.valid = true ∧ 1 ≤ size ∧ size ≤ 512 ∧
      off + size ≤ windowSize s fn
    let sized := (size = 4 ∨ size = 8 ∨ (op = .cas ∧ size = 16)) ∧ va % size = 0
    let left := fun (old : Nat) => match op with
      | .fetchAdd => (old + v) % 2 ^ (8 * size)
      | .swap => v % 2 ^ (8 * size)
      | .cas => if old = y % 2 ^ (8 * size) then v % 2 ^ (8 * size) else old
    let answer := fun (status : Nat) (d : Vec) (bad : Bool) => s.replies ++ [
      { dest := 64 + fn, status := status, data := d, poisoned := bad }]
    let refuses := fun (i : Instr) => ∃ t, exec i s = .next t ∧ t.mem = s.mem ∧ t.replies = answer 1 0 false ∧
      (s.faultQ.armed = false → s.held.length < 256 → ∃ r, t.held = s.held ++ [r] ∧ r.kind = 14 ∧ r.ctx = c ∧
        r.addr = BitVec.ofNat 64 va)
    let bytes := fun (t : State) (n : Nat) => (∀ k, k < size →
        (t.mem.byte (c * 2 ^ 48 + va + k)).toNat = n / 2 ^ (8 * k) % 256) ∧
      (∀ m, m < c * 2 ^ 48 + va ∨ c * 2 ^ 48 + va + size ≤ m → t.mem.byte m = s.mem.byte m)
    (¬reaches → nothing (.hostBar2Load fn off size) ∧ nothing (.hostBar2Write fn off size v) ∧
      nothing (.hostAtomicop fn off op size v y)) ∧
    (reaches → ¬sized → nothing (.hostAtomicop fn off op size v y)) ∧
    (reaches → ¬(fn = 0 ∧ c = 255) →
      (hostRange s c va size .load = false → refuses (.hostBar2Load fn off size)) ∧
      (hostRange s c va size .load = true → ∃ t, exec (.hostBar2Load fn off size) s = .next t ∧ t = drawn s { s with
        replies := answer 0 (BitVec.ofNat 4096 (memRead s c va size)) (rangePoisoned s c va size), ats := t.ats }) ∧
      (hostRange s c va size .live = false → refuses (.hostBar2Write fn off size v)) ∧
      (hostRange s c va size .live = true → Plain s c →
        ∃ t, exec (.hostBar2Write fn off size v) s = .next t ∧ bytes t v ∧ t.replies = s.replies) ∧
      (sized → hostRange s c va size .live = false → refuses (.hostAtomicop fn off op size v y)) ∧
      (sized → hostRange s c va size .live = true → size ≠ 8 → hostPage s c va ≠ [] →
        exec (.hostAtomicop fn off op size v y) s = .next (drawn s { s with
          hostOps := s.hostOps ++ [{ fn := fn, ctx := c, va := va, op := op, size := size, x := v, y := y }] })) ∧
      (sized → hostRange s c va size .live = true → size = 8 ∨ hostPage s c va = [] → Plain s c →
        let old := memRead s c va size
        ∃ t, exec (.hostAtomicop fn off op size v y) s = .next t ∧
          t.replies = answer 0 (BitVec.ofNat 4096 old) (rangePoisoned s c va size) ∧
          bytes t (left old))) ∧
    (reaches → fn = 0 → c = 255 → s.mwinSize < off + size →
      nothing (.hostBar2Load fn off size) ∧ nothing (.hostBar2Write fn off size v) ∧
      nothing (.hostAtomicop fn off op size v y)) ∧
    (reaches → sized → fn = 0 → c = 255 → off + size ≤ s.mwinSize →
      let old := s.mgmtMem.read (s.mwinBase + off) size
      ∃ t, exec (.hostAtomicop fn off op size v y) s = .next t ∧ t.mem = s.mem ∧
        t.replies = answer 0 (BitVec.ofNat 4096 old) false ∧
        t.mgmtMem = s.mgmtMem.write (s.mwinBase + off) size (left old)) ∧
    (reaches → fn = 0 → c = 255 → off + size ≤ s.mwinSize →
      exec (.hostBar2Load fn off size) s = .next (drawn s { s with
        replies := answer 0 (BitVec.ofNat 4096 (s.mgmtMem.read (s.mwinBase + off) size)) false }) ∧
      ∃ t, exec (.hostBar2Write fn off size v) s = .next t ∧ t.mem = s.mem ∧
        t.mgmtMem = s.mgmtMem.write (s.mwinBase + off) size v ∧
        (∀ j, j < s.ansCount → s.ansBase % 8 = 0 → s.mwinBase + off < s.ansBase + 8 * j + 8 →
          s.ansBase + 8 * j < s.mwinBase + off + size → j ∈ t.answers)) ∧
    (∀ page, ∃ t, exec (.atsInvalidate page) s = .next t ∧ (∀ k, k ∈ t.ats ↔ k ∈ s.ats ∧ k ≠ page) ∧
      t = drawn s { s with ats := t.ats }) ∧
    (s.bootStep = 5 → exec .hostReleaseStop s = .next (drawn s { s with stopped := false })) ∧
    (s.bootStep ≠ 5 → nothing .hostReleaseStop)

/-! ### Events of the Rota, the routing tables and the fabric links (R266, R316, R317, R320, R321, R331, R353, R354) -/

/-- R316, R317, R321. A requested Rota switch takes place at the start of the next period and at no other time: before, the bank that was
active gives every slot its tenant, from then on the other, whether or not ROTA_SWITCH has reported it complete. ROUTING_SELECT selects the
other version when it is VALID, the old one retiring, and is refused with cause 5 when it is not; ROUTING_VALIDATE makes the
unselected version VALID unless it is retiring; ROUTING_RETIRE makes a retiring version EMPTY once no packet of it is in
flight.
The model's own here, no rule of the manual: the count of free values that each step advances (log 4); what log entry 11 says. -/
def Obligations.RotaAndRouting : Prop :=
  ∀ (s : State), s.powered = true →
    let nothing := fun (i : Instr) => exec i s = .next (drawn s s)
    let other := 1 - s.rsel % 2
    let st := fun (t : State) (v : Nat) => Tab.get 0 t.rstate v
    let becomes := fun (i : Instr) (v n : Nat) => ∃ t, exec i s = .next t ∧ st t v = n ∧
      (∀ j, j ≠ v → st t j = st s j) ∧ t.rsel = s.rsel ∧ t.routes = s.routes ∧ t.winStatus = s.winStatus
    let refused := fun (i : Instr) => ∃ t, exec i s = .next t ∧ t.rsel = s.rsel ∧ t.rstate = s.rstate ∧
      t.winStatus = BitVec.ofNat 64 (5 + 0x20010 * 2 ^ 32)
    let due := s.rotaPend = true ∧ s.rotaAt / 1024 < s.cycle / 1024
    let slot := fun (bank : Nat) =>
      let e := Tab.get (0 : Byte) s.rota (128 * bank + s.cycle % 1024 / 8)
      if e.getLsbD 7 = true then some (e.toNat % 16) else none
    (s.bootStep = 5 → ¬due →
      exec .rotaSwitchRequest s = .next (drawn s { s with rotaPend := true, rotaAt := s.cycle, rotaDone := false })) ∧
    (s.bootStep = 5 → due → exec .rotaSwitchRequest s = .next (drawn s { s with
      rotaBank := 1 - s.rotaBank % 2, rotaPend := true, rotaAt := s.cycle, rotaDone := false })) ∧
    (due → exec .rotaSwitch s = .next (drawn s { s with rotaBank := 1 - s.rotaBank % 2, rotaPend := false, rotaDone := true })) ∧
    (¬due → nothing .rotaSwitch) ∧
    (¬due → slotOwner s = slot s.rotaBank) ∧
    (due → slotOwner s = slot (1 - s.rotaBank % 2)) ∧
    (s.bootStep ≠ 5 → nothing .rotaSwitchRequest ∧ nothing .routingSelect ∧ nothing .routingValidate) ∧
    (s.bootStep = 5 →
      (st s other = 1 → ∃ t, exec .routingSelect s = .next t ∧ t.rsel = other ∧ st t (s.rsel % 2) = 2 ∧
        (∀ j, j ≠ s.rsel % 2 → st t j = st s j) ∧ t.routes = s.routes) ∧
      (st s other ≠ 1 → refused .routingSelect) ∧
      (st s other ≠ 2 → becomes .routingValidate other 1) ∧
      (st s other = 2 → refused .routingValidate)) ∧
    (st s other = 2 → Tab.get 0 s.rflight other = 0 → becomes .routingRetire other 0) ∧
    (st s other ≠ 2 ∨ Tab.get 0 s.rflight other ≠ 0 → nothing .routingRetire)

/-- R18, R266, R353. FLIT_TRANSMIT on a link that is up sends the next stored flit unchanged while a replay lasts; else, with fewer
than 512 flits kept, a new flit of the next sequence number that acknowledges what has been received, and keeps it: the next
flit of the packet being sent, of three when it carries a row, else the first of one that may leave, the device's own in a slot
of its tenant, else an idle one; with 512 kept, or paused or down, it sends nothing. A packet of the device is stamped with the table
version selected at its injection and counts to it until its last flit has gone (R225, R321); one that is answered is unacknowledged
from then on. FLIT_RECEIVE corrects a flit: one that
passes its check and is next is accepted, frees what it acknowledges, and with nak starts a replay; any other is discarded, the
first such leaving a nak due. The flit that completes a packet delivers it, here or onward, one link further on its way.
R224, R225, R321. A packet takes only a link that the valid entry of its version gives its class, ORD the one of the entry, and crosses
no more links than its class's bound; one of class ADP keeps link and version but after an idle gap; one of class ORD waits under a new
version for the packets of its flow under the old. A packet on its way under a version that is not VALID is refused: its sender is
answered status 3, and the fault recorded.
R354. A lane of a link at full width fails: with spare allowed and healthy the spare takes over; else with half allowed and
a clean half the link goes on with that half; else it goes down, waiting for the host with down = 1. A link that trains again
resumes, its replay starting from the last acknowledged flit. A link that is down is trained at x16 on its healthy lanes, by
its calibration with down = 0, by the host with down = 1.
The model's own here, no rule of the manual: the count of free values that each step advances (log 4); what the log entries 8,
11, 31, 38, 39, 40, 70, 71 say. -/
def Obligations.LinkEvents : Prop :=
  (∀ (s : State) (l payload : Nat) (f : Flit), s.powered = true → l < 16 →
     let k := s.link l
     let up := k.width ≠ 0 ∧ k.paused = false
     let changes := fun (i : Instr) (q : Link → Link) => exec i s = .next (drawn s (s.onLink l q))
     let flits := fun (p : Packet) => match p.kind with | .storeRow _ => 3 | .engineRow _ _ => 3 | .answer _ _ _ true => 3 | _ => 1
     let asked := fun (p : Packet) => isAnswer p.kind = false ∧ p.kind ≠ .resync ∧ p.kind ≠ .ended
     let begun := fun (own : Bool) (d : Nat) (p : Packet) =>
       if flits p = 1 then none else some ({ own := own, dest := d, pkt := p, n := 1 } : Sending)
     let sent := fun (t : State) (ty pay : Nat) => ∃ g : Flit,
       (t.link l).replay = k.replay ++ [g] ∧ g.seq = (k.sendSeq + 1).toNat ∧ g.ty = ty ∧ g.ack = k.recvSeq.toNat ∧
       g.nak = k.nakDue ∧ g.payload = pay ∧ (t.link l).sendSeq = k.sendSeq + 1 ∧ (t.link l).nakDue = false ∧
       (t.link l).flits = (k.flits + 1) % 2 ^ 48 ∧ (∀ j, j ≠ l → t.link j = s.link j) ∧ t.mem = s.mem ∧ t.cores = s.cores
     (¬up → exec (.flitTransmit l payload) s = .next (drawn s s)) ∧
     (up → ∀ g r, k.resend = g :: r → changes (.flitTransmit l payload) (fun k =>
       { k with resend := r, flits := (k.flits + 1) % 2 ^ 48 })) ∧
     (up → k.resend = [] → 512 ≤ k.replay.length → exec (.flitTransmit l payload) s = .next (drawn s s)) ∧
     (up → k.resend = [] → k.replay.length < 512 → k.sending = none → s.out = [] → s.transit = [] →
       ∃ t, exec (.flitTransmit l payload) s = .next t ∧ sent t (if k.nakDue = true then 2 else 0) 0) ∧
     (∀ j, up → k.resend = [] → k.replay.length < 512 → k.sending = some j →
       let slot := j.own = false ∨ isAnswer j.pkt.kind = true ∨ slotOwner s = some (s.ctx j.pkt.ctx).tenant
       (Config.payloadOf j.pkt j.n = payload → slot →
         ∃ t, exec (.flitTransmit l payload) s = .next t ∧ sent t 1 payload ∧ t.out = s.out ∧ t.transit = s.transit ∧
           ((t.link l).sending = if flits j.pkt ≤ j.n + 1 then none else some { j with n := j.n + 1 }) ∧
           Tab.get 0 t.rflight (j.pkt.ver % 2) =
             Tab.get 0 s.rflight (j.pkt.ver % 2) - (if flits j.pkt ≤ j.n + 1 then 1 else 0)) ∧
       (¬slot → exec (.flitTransmit l payload) s = .next (drawn s s))) ∧
     (∀ d p, up → k.resend = [] → k.replay.length < 512 → k.sending = none → s.transit = [(d, p)] →
       Config.payloadOf p 0 = payload → mayLeave s false d l p = true →
       ∃ t, exec (.flitTransmit l payload) s = .next t ∧ sent t 1 payload ∧ t.transit = [] ∧ t.out = s.out ∧
         (t.link l).sending = begun false d p ∧
         Tab.get 0 t.rflight (p.ver % 2) = Tab.get 0 s.rflight (p.ver % 2) - (if flits p = 1 then 1 else 0)) ∧
     (∀ p, up → k.resend = [] → k.replay.length < 512 → k.sending = none → s.transit = [] → s.out = [p] →
       let q : Packet := { p with ver := s.rsel, via := viaOf s p.rc }
       (mayLeave s true p.dev l q = true → Config.payloadOf q 0 = payload →
         ∃ t, exec (.flitTransmit l payload) s = .next t ∧ sent t 1 payload ∧ t.out = [] ∧
           (t.link l).sending = begun true p.dev q ∧
           Tab.get 0 t.rflight (s.rsel % 2) = Tab.get 0 s.rflight (s.rsel % 2) + (if flits p = 1 then 0 else 1) ∧
           t.unacked = if asked p then s.unacked ++
             [{ dev := p.dev, ctx := p.ctx, core := p.core, chan := p.chan, rc := p.rc, ver := s.rsel }] else s.unacked) ∧
       (mayLeave s true p.dev l q = true → Config.payloadOf q 0 ≠ payload →
         exec (.flitTransmit l payload) s = .next (drawn s s)) ∧
       (mayLeave s true p.dev l q = false →
         ∃ t, exec (.flitTransmit l payload) s = .next t ∧ sent t (if k.nakDue = true then 2 else 0) 0 ∧ t.out = [p])) ∧
     (∀ own d p, mayLeave s own d l p = true →
       let e := Tab.get (0 : W32) s.routes (64 * (p.ver % 2) + p.via.getD d)
       let ord := (e.setWidth 4).toNat = l
       let adp := e.getLsbD (16 + l) = true
       e.getLsbD 4 = true ∧ (p.rc = 0 → ord) ∧ (p.rc = 1 → adp) ∧ (ord ∨ adp) ∧
       p.links + 1 ≤ (if p.rc = 0 then 2 else if p.rc = 1 then 3 else 4) ∧
       (p.rc = 1 → ∀ m v t₀, Tab.find s.paths (pathKey own d p) = some (m, v, t₀) →
         (m = l ∧ v = p.ver) ∨ t₀ + Config.flowSkew < s.cycle) ∧
       (own = true → (isAnswer p.kind = true ∨ slotOwner s = some (s.ctx p.ctx).tenant) ∧
         (p.rc = 0 → ∀ u ∈ s.unacked, u.dev = p.dev → u.ctx = p.ctx → u.core = p.core → u.chan = p.chan → u.rc = 0 →
           u.ver = p.ver))) ∧
     (k.width = 0 → exec (.flitReceive l f) s = .next (drawn s s)) ∧
     (k.width ≠ 0 →
       let g := Config.fecCorrect f
       let good := g.crc = Config.crc32 g.seq g.ty (ackWord g) g.payload ∧ g.seq = (k.recvSeq + 1).toNat
       (¬good → changes (.flitReceive l f) (fun k => if k.nakSent = true then k else { k with nakSent := true, nakDue := true })) ∧
       (good → g.ty ≠ 1 →
         ∃ t, exec (.flitReceive l f) s = .next t ∧
           (t.link l).recvSeq = k.recvSeq + 1 ∧ (t.link l).nakSent = false ∧ (t.link l).sendSeq = k.sendSeq ∧
           (∀ n q, k.replay[n]? = some q → q.seq = g.ack % 4096 → (∀ m r, m < n → k.replay[m]? = some r → r.seq ≠ q.seq) →
             (t.link l).replay = k.replay.drop (n + 1)) ∧
           ((∀ q ∈ k.replay, q.seq ≠ g.ack % 4096) → (t.link l).replay = k.replay) ∧
           (g.nak = true → (t.link l).resend = (t.link l).replay ∧ (t.link l).replays = min (k.replays + 1) (2 ^ 32 - 1)) ∧
           (g.nak = false → (t.link l).replays = k.replays) ∧
           (∀ j, j ≠ l → t.link j = s.link j) ∧ t.mem = s.mem ∧ t.cores = s.cores) ∧
       (good → g.ty = 1 →
         let got := k.got ++ [g.payload]
         (Config.packetOf got = none → ∃ t, exec (.flitReceive l f) s = .next t ∧ (t.link l).got = got ∧
           (t.link l).recvSeq = k.recvSeq + 1 ∧ t.transit = s.transit ∧ t.out = s.out ∧ t.mem = s.mem ∧ t.cores = s.cores) ∧
         (∀ d p, Config.packetOf got = some (d, p) →
           let own := Config.ownDevice.val
           let j := { p with links := p.links + 1, via := if p.via = some own then none else p.via }
           (d = own → j.via = none → ∃ u, u = { s with links := u.links } ∧ (u.link l).got = [] ∧
             (u.link l).recvSeq = k.recvSeq + 1 ∧ exec (.flitReceive l f) s = exec (.remotePacketReceive j) u) ∧
           (d ≠ own ∨ j.via ≠ none →
             (Tab.get 0 s.rstate (p.ver % 2) = 1 → ∃ t, exec (.flitReceive l f) s = .next t ∧
               t.transit = s.transit ++ [(d, j)] ∧ (t.link l).got = [] ∧
               Tab.get 0 t.rflight (p.ver % 2) = Tab.get 0 s.rflight (p.ver % 2) + 1 ∧ t.mem = s.mem) ∧
             (Tab.get 0 s.rstate (p.ver % 2) ≠ 1 → ∃ t, exec (.flitReceive l f) s = .next t ∧ t.transit = s.transit ∧
               (asked p → t.out = s.out ++ [
                 { dev := p.dev, ctx := p.dst, dst := p.ctx, core := p.core, chan := 8 + p.chan, rc := p.rc, ver := 0
                   va := d, kind := .answer 3 false 0 false }]) ∧
               (¬asked p → t.out = s.out) ∧ t.replies = s.replies ∧ t.mem = s.mem ∧
               (s.faultQ.armed = false → s.held.length < 256 → ∃ r, t.held = s.held ++ [r] ∧ r.kind = 11))))))) ∧
  (∀ (s : State) (l lane lanes width : Nat), s.powered = true → l < 16 →
     let k := s.link l
     let pol := Tab.get (0 : Byte) s.linkPol l
     let nothing := fun (i : Instr) => exec i s = .next (drawn s s)
     let records := fun (t : State) (kind info : Nat) => s.faultQ.armed = false → s.held.length < 256 →
       ∃ r, t.held = s.held ++ [r] ∧ r.kind = kind ∧ r.info = BitVec.ofNat 64 info
     let clean := fun (h : Nat) => ∀ j, j < 8 → k.lanes.getLsbD (8 * h + j) = false ∧ lane ≠ 8 * h + j
     let fails := fun (q : Link → Prop) (kind : Nat) => ∃ t, exec (.laneFailure l lane) s = .next t ∧ q (t.link l) ∧
       (t.link l).paused = true ∧ (t.link l).replay = k.replay ∧ (t.link l).lanes = k.lanes ||| 1 <<< lane ∧
       records t kind (256 * l + lane) ∧ (∀ j, j ≠ l → t.link j = s.link j)
     (17 ≤ lane → nothing (.laneFailure l lane)) ∧
     (lane < 16 → k.width = 16 → k.lanes.getLsbD lane = false →
       let spareUp := pol.getLsbD 0 = true ∧ k.spareOk = true ∧ k.spare = false ∧ k.lanes.getLsbD 16 = false
       let half := pol.getLsbD 1 = true ∧ (clean 0 ∨ clean 1)
       (spareUp → fails (fun j => j.width = 16 ∧ j.spare = true ∧ j.failovers = min (k.failovers + 1) (2 ^ 32 - 1)) 8) ∧
       (¬spareUp → half → fails (fun j => j.width = 8 ∧ j.retrains = min (k.retrains + 1) (2 ^ 32 - 1)) 9) ∧
       (¬spareUp → ¬half → fails (fun j => j.width = 0 ∧ j.waitHost = pol.getLsbD 2) 10)) ∧
     (k.width = 0 → lane < 17 → exec (.laneFailure l lane) s = .next (drawn s (s.onLink l (fun k =>
       { k with lanes := k.lanes ||| 1 <<< lane })))) ∧
     (k.paused = false ∨ width ≠ k.width ∨ width = 0 → nothing (.linkRetrainDone l width)) ∧
     (k.paused = true → width = k.width → width ≠ 0 →
       ∃ t, exec (.linkRetrainDone l width) s = .next t ∧
         t.link l = { k with
           paused := false, recover := false, resend := k.replay
           replays := if k.replay = [] ∨ k.resend = k.replay then k.replays else min (k.replays + 1) (2 ^ 32 - 1) } ∧
         (∀ j, j ≠ l → t.link j = s.link j) ∧ (k.recover = true → records t 9 (256 * l)) ∧ (k.recover = false → t.held = s.held)) ∧
     (k.width = 0 → k.waitHost = false → lanes = 0 →
       ∃ t, exec (.linkCalibration l lanes) s = .next t ∧ (t.link l).width = 16 ∧ (t.link l).recover = true ∧
         (t.link l).spare = false ∧ (t.link l).paused = k.paused ∧ (t.link l).replay = k.replay) ∧
     (k.width = 0 → k.waitHost = true → ∃ t, exec (.linkCalibration l lanes) s = .next t ∧ (t.link l).width = 0 ∧
       (t.link l).waitHost = true ∧ (t.link l).lanes = BitVec.ofNat 17 lanes) ∧
     (s.bootStep ≠ 5 ∨ k.width ≠ 0 ∨ k.waitHost = false → nothing (.hostLinkRetrain l)) ∧
     (s.bootStep = 5 → k.width = 0 → k.waitHost = true → k.lanes = 0 →
       exec (.hostLinkRetrain l) s = .next (drawn s (s.onLink l (fun k =>
         { k with width := 16, spare := false, recover := false, waitHost := false })))))

/-- R221, R320, R331. A packet of another device is accepted when the context it names is loaded and bound to its sender: a
load answers the committed row, a store is staged, an atomic acts once and answers the old word, an engine row lands in the
back side, an add of an engine operation changes its word. A packet not accepted, or refused by the current map, answers its
status and changes no memory; refused in class ORD, it makes its flow refuse with status 6 until a resynchronisation marker
of its channel clears it; the flows of channel 4 are cleared by the end of the sending context alone (R215). The adds of engine
operations meet no status 6 (R202). R351. A live operation on a host-tier page waits for the promotion, and what comes behind it in its
flow waits with it (R229). R172, R173. A load or a prefetch fills the home slice's L2 when its hint lets it; a prefetch that is turned
away is dropped. R347. A store for a saved context also joins its save record. An answer acknowledges the oldest packet of its flow.
The model's own here, no rule of the manual: the count of free values that each step advances (log 4); what the log entries 23,
38, 39, 64, 69, 92 say. -/
def Obligations.RemotePackets : Prop :=
  ∀ (s : State) (k : Packet), s.powered = true →
    let c := k.dst
    let x := s.ctx c
    let run := exec (.remotePacketReceive k) s
    let flow := flowCode k.dev k.ctx k.core k.chan k.rc k.dst
    let answersOf := fun (t : State) (status : Nat) (d : Vec) (bad row : Bool) =>
      t.out = s.out ++ [
        { dev := k.dev, ctx := k.dst, dst := k.ctx, core := k.core, chan := 8 + k.chan, rc := k.rc, ver := 0
          va := Config.ownDevice.val, kind := .answer status bad d row }] ∧ t.replies = s.replies
    let answers := fun (t : State) (status : Nat) (d : Vec) (bad : Bool) => answersOf t status d bad false
    let refused := fun (status : Nat) => ∃ t, run = .next t ∧ answers t (if k.kind = .prefetch then 0 else status) 0 false ∧
      t.mem = s.mem ∧ t.cores = s.cores ∧ t.ctxs = s.ctxs ∧ t.l2 = s.l2 ∧ (k.kind ≠ .prefetch → k.rc = 0 → flow ∈ t.flowsOff) ∧
      (k.kind = .prefetch ∨ k.rc ≠ 0 → t.flowsOff = s.flowsOff)
    let b := Tab.get (0 : BitVec 16) x.binding k.dev
    let bound := b.getLsbD 15 = true ∧ (b.setWidth 6).toNat = k.ctx
    let off := k.rc = 0 ∧ flow ∈ s.flowsOff
    let request := k.kind ≠ .resync ∧ k.kind ≠ .ended ∧ isAnswer k.kind = false
    let behind := s.waiting.any (fun j => sameStream j k)
    let asks := request ∧ behind = false
    let accepted := asks ∧ c < 64 ∧ x.state ≠ 0 ∧ x.state ≠ 5 ∧ x.state ≠ 6 ∧ bound
    let row := k.va / 512 * 512
    let key := keyOf s c (k.va / 8 * 8)
    (accepted → off → (∀ a u, k.kind ≠ .engineAdd a u) → requestRefused x k = none → refused 6) ∧
    let acts := packetWaits s k = false
    (request → behind = true → run = .next (drawn s { s with waiting := s.waiting ++ [k] })) ∧
    (asks → x.state = 5 ∨ x.state = 6 → refused 3) ∧
    (∀ st, accepted → requestRefused x k = some st → refused st) ∧
    (accepted → ¬off → requestRefused x k = none → ¬acts → run = .next (drawn s { s with waiting := s.waiting ++ [k] })) ∧
    (asks → x.state ≠ 5 → x.state ≠ 6 → 64 ≤ c ∨ x.state = 0 ∨ ¬bound → refused 2) ∧
    (∀ st, accepted → k.kind = .loadRow → mapRefuses x k.va .load = some st → refused st) ∧
    (∀ a sc u v st, accepted → k.kind = .atomic a sc u v → a ≠ .ld → mapRefuses x k.va .live = some st → refused st) ∧
    (∀ a u st, accepted → k.kind = .engineAdd a u → mapRefuses x k.va .live = some st → refused st) ∧
    (∀ a u, accepted → k.kind = .engineAdd a u → mapRefuses x k.va .live = none → acts →
      ∃ t, run = .next t ∧ answers t 0 0 false ∧ t.mem.read key 8 = (atomNew a (memWord s c k.va) u 0).toNat ∧
        (∀ m, m < key ∨ key + 8 ≤ m → t.mem.byte m = s.mem.byte m) ∧ t.tickets = s.tickets) ∧
    (accepted → ¬off → k.kind = .loadRow → mapRefuses x k.va .load = none →
      ∃ t, run = .next t ∧ answersOf t 0 (memRow s c row) (poisoned s c row) true ∧ t.mem = s.mem ∧ t.cores = s.cores ∧
        t.ctxs = s.ctxs ∧ ((placeAt s (keyOf s c row)).tier = 3 → keyOf s c row / 65536 ∈ t.ats) ∧
        t.l2 = (useRow x.tenant k.alloc (keyOf s c row) s).l2) ∧
    (accepted → ¬off → k.kind = .prefetch → mapRefuses x k.va .load = none →
      ∃ t, run = .next t ∧ answers t 0 0 false ∧ t.mem = s.mem ∧ t.cores = s.cores ∧ t.ctxs = s.ctxs ∧
        t.l2 = (useRow x.tenant k.alloc (keyOf s c row) s).l2) ∧
    (∀ d r, accepted → ¬off → k.kind = .storeRow d → mapRefuses x k.va .store = none → x.state = 3 → x.record = some r →
      ∃ t q, run = .next t ∧ (t.ctx c).record = some q ∧ (t.ctx c).size = q.size ∧
        (∃ g, (t.ctx c).staged = x.staged ++ [g] ∧ q.rest = { r.rest with staged := r.rest.staged ++ [g] }) ∧
        q.area = r.area ∧ q.key = r.key ∧ q.cores = r.cores ∧ q.lists = r.lists ∧
        t.mgmtMem = s.mgmtMem.write q.area q.size q.image ∧
        (sectionsSize (recordSections r.cores r.lists q.rest) ≤ x.limit → q.size = sectionsSize (recordSections r.cores r.lists q.rest))) ∧
    (∀ d, accepted → ¬off → k.kind = .storeRow d → mapRefuses x k.va .store = none →
      ∃ t g, run = .next t ∧ answers t 0 0 false ∧ (t.ctx c).staged = x.staged ++ [g] ∧ g.va = row ∧
        g.key = keyOf s c row ∧ g.writer = 0 ∧ g.mask = BitVec.allOnes 512 ∧ g.data = d ∧ t.mem = s.mem ∧ t.cores = s.cores) ∧
    (∀ w, accepted → ¬off → k.kind = .storeWord w → mapRefuses x k.va .store = none →
      ∃ t g, run = .next t ∧ answers t 0 0 false ∧ (t.ctx c).staged = x.staged ++ [g] ∧ g.va = row ∧ g.writer = 0 ∧
        (∀ j, j < 512 → g.mask.getLsbD j = decide (j / 8 = k.va % 512 / 8)) ∧
        g.data.extractLsb' (64 * (k.va % 512 / 8)) 64 = w ∧ t.mem = s.mem ∧ t.cores = s.cores) ∧
    (∀ a sc u v, accepted → ¬off → k.kind = .atomic a sc u v → a ≠ .ld → mapRefuses x k.va .live = none → acts →
      ∃ t, run = .next t ∧ answers t 0 ((memWord s c k.va).setWidth 4096) (poisoned s c row) ∧
        t.mem.read key 8 = (atomNew a (memWord s c k.va) u v).toNat ∧
        (∀ m, m < key ∨ key + 8 ≤ m → t.mem.byte m = s.mem.byte m) ∧
        t.tickets = s.tickets + (if sc = true then 1 else 0)) ∧
    (∀ sc va2, accepted → ¬off → k.kind = .admission sc va2 → mapRefuses x k.va .live = none → mapRefuses x va2 .live = none → acts →
      ∃ t, run = .next t ∧ answers t 0 ((admissionResult (memWord s c k.va) (memWord s c va2)).setWidth 4096)
        (poisoned s c row || poisoned s c (va2 / 512 * 512))) ∧
    (∀ tag d, accepted → k.kind = .engineRow tag d → mapRefuses x k.va .live = none →
      let back := backKey s c (backTag x tag row)
      (¬off → inFront x tag (BitVec.ofNat 64 k.va) = true → mapRefuses x (backTag x tag row) .live = none → ∃ t, run = .next t ∧ answers t 0 0 false ∧
        t.mem.read back 512 = d.toNat ∧ (∀ m, m < back ∨ back + 512 ≤ m → t.mem.byte m = s.mem.byte m) ∧
        (t.ctx c).staged = x.staged) ∧
      (inFront x tag (BitVec.ofNat 64 k.va) = false → refused 2)) ∧
    (k.kind = .ended → ∃ t, run = .next t ∧ t = drawn s { s with flowsOff := t.flowsOff } ∧
      (∀ f, f ∈ t.flowsOff ↔ f ∈ s.flowsOff ∧ ¬(f / 2 ^ 21 = k.dev * 64 + k.ctx ∧ f / 256 % 16 = 4))) ∧
    (isAnswer k.kind = true →
      let mine := fun (u : Sent) => u.dev = k.va ∧ u.ctx = k.dst ∧ u.core = k.core ∧ u.chan + 8 = k.chan ∧ u.rc = k.rc
      ((∀ u ∈ s.unacked, ¬mine u) → run = .next (drawn s s)) ∧
      (∀ before u after, s.unacked = before ++ u :: after → mine u → (∀ w ∈ before, ¬mine w) →
        run = .next (drawn s { s with unacked := before ++ after }))) ∧
    (k.kind = .resync → run = exec (.resyncMarker k.dev k.ctx k.core k.chan) s) ∧
    (∀ dev cc lc ch, ∃ t, exec (.resyncMarker dev cc lc ch) s = .next t ∧
      (ch < 4 → ∀ f, f ∈ t.flowsOff ↔ f ∈ s.flowsOff ∧ f / 256 ≠ flowCode dev cc lc ch 0 0 / 256) ∧
      (4 ≤ ch → t.flowsOff = s.flowsOff) ∧ t = drawn s { s with flowsOff := t.flowsOff })

/-! ### Events of the module: errors, background work, bring-up (R13, R342, R350, R355, R356, R358) -/

/-- R350, R355, R356. A supply or coolant value out of range, a CXL error and an uncorrectable error found by scrub each make the
record of their kind; the last two mark the row poisoned, and no byte of memory changes. An event whose policy is report only
does nothing more; the policy may stop issue or power the module off. A refresh and a scrub without an error change
nothing; a telemetry sample changes that sensor's value only.
R358. POWER_ON_RESET, powered or not: every part of the state takes its reset value, with no context loaded and nothing
running, but what bring-up finds; a failed firmware check leaves recovery (step 2), a failed memory training admits no context
and names the part; the image that the boot ROM has checked is the one measured (R357); each link is trained on its lanes as its policy
lets it, its spare calibrated, and makes a record at less than full width. The host's memory is not the device's, and stays.
That the count of free values and the agenda stay is the model's own (log 4, log 5).
The model's own here, no rule of the manual: the count of free values that each step advances (log 4); what the log entries 5,
7, 43, 44, 70 say. -/
def Obligations.ModuleEvents : Prop :=
  (∀ (s : State) (a v row : Nat) (poison : Bool), s.powered = true →
     let noted := fun (t : State) (kind info : Nat) => s.faultQ.armed = false → s.held.length < 256 →
       ∃ r, t.held = s.held ++ [r] ∧ r.kind = kind ∧ r.ctx = 0xFF ∧ r.info = BitVec.ofNat 64 info ∧ r.time = s.cycle
     let reports := fun (i : Instr) (kind : Nat) =>
       let pol := Tab.get (0 : Byte) s.eventPol kind
       ∃ t, exec i s = .next t ∧ noted t kind (a % 2 ^ 32 * 2 ^ 32 + v % 2 ^ 32) ∧
         t.mem = s.mem ∧ t.ctxs = s.ctxs ∧ (pol = 0 ∨ Config.eventAction pol ≠ 1 → t.cores = s.cores) ∧
         (pol = 0 → t.stopped = s.stopped ∧ t.powered = true) ∧
         (pol ≠ 0 → Config.eventAction pol = 1 → t.stopped = true ∧ t.powered = true ∧
           ∀ p, t.core p = { s.core p with atSafe := false }) ∧
         (pol ≠ 0 → Config.eventAction pol = 2 → t.powered = false ∧ t.stopped = s.stopped) ∧
         (pol ≠ 0 → Config.eventAction pol ≠ 1 → Config.eventAction pol ≠ 2 → t.stopped = s.stopped ∧ t.powered = true)
     let marks := fun (t : State) (bad : Bool) => t.mem = s.mem ∧ t.cores = s.cores ∧ t.ctxs = s.ctxs ∧ t.stopped = s.stopped ∧
       (∀ k, k ∈ t.poison ↔ k ∈ s.poison ∨ (bad = true ∧ k = row))
     reports (.supplyOutOfRange a v) 12 ∧ reports (.coolantOutOfRange a v) 13 ∧
     (∃ t, exec (.cxlError a row poison) s = .next t ∧ noted t 15 a ∧ marks t poison) ∧
     exec (.scrub row false) s = .next (drawn s s) ∧
     (∃ t, exec (.scrub row true) s = .next t ∧ marks t true ∧
       noted t 7 ((placeAt s (row * 512)).tier * 2 ^ 60 + row * 512 % 2 ^ 60)) ∧
     exec .memoryRefresh s = .next (drawn s s) ∧
     (∃ t, exec (.telemetrySample a v) s = .next t ∧
       (∀ k, Tab.get 0 t.telemetry k = if k = a % 64 then v % 2 ^ 64 else Tab.get 0 s.telemetry k) ∧
       t = drawn s { s with telemetry := t.telemetry })) ∧
  (∀ (s : State) (b : BootOutcome), ∃ t, exec (.powerOnReset b) s = .next t ∧
     t.powered = true ∧ t.stopped = false ∧ t.hostMem = s.hostMem ∧
     t.cores = [] ∧ t.ctxs = [] ∧ t.mem = Memory.empty ∧ t.mgmtMem = Memory.empty ∧ t.mboxMem = Memory.empty ∧
     t.tenants = [] ∧ t.quotas = [] ∧ t.owner = [] ∧ t.rota = [] ∧ t.routes = [] ∧ t.rstate = [] ∧ t.keys = [] ∧ t.marks = [] ∧
     t.faultQ.armed = false ∧ t.pageQ.armed = false ∧ t.cycle = 0 ∧ t.out = [] ∧ t.transit = [] ∧ t.poison = [] ∧
     t.telemetry = [] ∧ t.eventPol = [] ∧ t.vfs = 0 ∧ t.vfTenant = [] ∧ t.unacked = [] ∧ t.bar2 = [] ∧ t.barSize = [] ∧ t.cxl = [] ∧ t.l2 = [] ∧ t.flowsOff = [] ∧
     t.reqs = [] ∧ t.answers = [] ∧ t.ats = [] ∧ t.ctxSel = 0 ∧ t.winStatus = 0 ∧ t.rotaBank = 0 ∧ t.rotaPend = false ∧
     t.mbox = State.reset.mbox ∧ t.spdm = State.reset.spdm ∧ t.ide = State.reset.ide ∧
     t = { State.reset with
       hostMem := s.hostMem, freeCtr := s.freeCtr + 1, agenda := s.agenda, bootStep := t.bootStep, bootOut := t.bootOut
       bootPart := t.bootPart, aux := t.aux, links := t.links, linkPol := t.linkPol, firmware := t.firmware, held := t.held } ∧
     (b.firmware = false → t.bootStep = 2 ∧ t.bootOut = 1 ∧ t.bootPart = 0 ∧ t.held = [] ∧ t.aux = [] ∧
       t.links = State.reset.links ∧ t.linkPol = [] ∧ t.firmware = 0) ∧
     (b.firmware = true → t.bootStep = 5 ∧ t.bootOut = (if b.memory = true then 0 else 2) ∧
       t.bootPart = (if b.memory = true then 0 else b.part) ∧
       (∀ l, Tab.get 0 t.aux l = if l = 14 then b.aux.getD 0 0 else if l = 15 then b.aux.getD 1 0 else 0) ∧
       t.firmware = b.image ∧
       (∀ l, l < 16 →
         let bad := BitVec.ofNat 17 (b.lanes.getD l 0)
         let pol := BitVec.ofNat 8 (b.policy.getD l 0 % 8)
         let clean := fun (h : Nat) => ∀ j, j < 8 → bad.getLsbD (8 * h + j) = false
         let full := clean 0 ∧ clean 1
         let spared := pol.getLsbD 0 = true ∧ ((List.range 17).filter (fun i => bad.getLsbD i)).length ≤ 1
         let half := pol.getLsbD 1 = true ∧ (clean 0 ∨ clean 1)
         let k := t.link l
         Tab.get 0 t.linkPol l = pol ∧ k.lanes = bad ∧ k.spareOk = !bad.getLsbD 16 ∧ k.replay = [] ∧ k.sendSeq = 0 ∧ k.recvSeq = 0 ∧
         (full → k.width = 16 ∧ k.spare = false) ∧ (¬full → spared → k.width = 16 ∧ k.spare = true) ∧
         (¬full → ¬spared → half → k.width = 8) ∧
         (¬full → ¬spared → ¬half → k.width = 0 ∧ k.paused = true ∧ k.waitHost = pol.getLsbD 2)) ∧
       (∀ r, r ∈ t.held ↔ ∃ l, l < 16 ∧ (t.link l).width ≠ 16 ∧
         r = { kind := if (t.link l).width = 0 then 10 else 9, cause := 0, ctx := 0xFF, tenant := 0xFF, core := 0xFFFF,
               phys := 0, addr := 0, info := BitVec.ofNat 64 (256 * l), at_ := 0, time := 0 })) ∧
     t.freeCtr = s.freeCtr + 1 ∧ t.agenda = s.agenda)

/-! ### The machine as a whole -/

/-- R49, R66, R73, R243, R244. A step of a core that takes its turn and yields nothing runs the instruction that its bundle
holds: in slot k, decoded from word k + 1 of the six, the other slots empty, with the bundle's own header; an empty bundle runs
NOP. A step of a stream thread runs the instruction of its word, or meets the fatal context error of a word that is no
instruction, with its detail code. A step that an event takes is that event; one that a cycle, a miss, a read or a message of the
host or a memory error takes is that; one of a core or thread that is not to issue changes nothing. What a step does before: time passes, what is due
lands, a pending loop end is resolved (`startTurn`, `startThread`); the bundle is then in the core's instruction cache (`holdBundle`). A
core that yields runs nothing; a PC outside the code is the fatal context error of cause 4 (R114). The agenda is the model's (log 5).
The model's own here, no rule of the manual: the count of free values that each step advances (log 4); what the log entries 5, 65,
79, 93 say. -/
def Obligations.StepRunsTheDecodedInstruction : Prop :=
  (∀ (s : State) (p k : Nat) (i : Instr),
    turnOf s = .core p → coreReady (popTurn s) p = true →
    let v := startTurn p (popTurn s)
    let u := v.onCore p (holdBundle v.freeCtr)
    let x := v.ctx (v.ctxOf p)
    let word := fun (n : Nat) => x.code.getD (6 * (v.core p).pc.toNat + n) 0
    let inside := 0 ≤ (v.core p).pc ∧ (v.core p).pc.toNat < x.code.length / 6
    (s.powered = true → mayYield v p = true → step s = .next (drawn v (yieldCore p v))) ∧
    (s.powered = true → mayYield v p = false → ¬inside →
      step s = .next (drawn v (fatalCore p 4 (BitVec.ofInt 64 ((codeBase : Int) + 24 * (v.core p).pc)) 0 v))) ∧
    (mayYield v p = false → inside → k < 5 → i ≠ .nop → decodeSlot (slotClass k) (word (k + 1)).toNat = .ok i → (∀ j, j < 5 → j ≠ k → word (j + 1) = 0) →
      step s = exec i { u with cur := .core p, slot := k, header := word 0 }) ∧
    (mayYield v p = false → inside → (∀ j, j < 5 → word (j + 1) = 0) → step s = exec .nop { u with cur := .core p, slot := 0, header := word 0 })) ∧
  (∀ (s : State) (c d : Nat) (i : Instr),
    turnOf s = .thread c → threadReady (popTurn s) c = true →
    let u := startThread c (popTurn s)
    let r := (u.ctx c).thr
    0 ≤ r.pc → r.pc.toNat < (u.ctx c).stream.length →
    let word := ((u.ctx c).stream.getD r.pc.toNat 0).toNat
    (decodeWord .scalar word = .ok i → step s = exec i { u with cur := .thread c, slot := 0, header := 0 }) ∧
    (decodeWord .scalar word = .error d → s.powered = true →
      step s = .next (drawn u (fatalThread c 6 0 (BitVec.ofNat 64 d) (BitVec.ofInt 64 r.pc) u)))) ∧
  (∀ (s : State) (e : Instr), turnOf s = .event e → step s = exec e (popTurn s)) ∧
  (∀ (s : State), s.powered = true →
    let u := popTurn s
    let runs := fun (t : Turn) (v : State) => turnOf s = t → step s = .next (drawn u v)
    runs .tick (tick u) ∧ (∀ p, runs (.miss p) (missFetch p u)) ∧ (∀ fn off n, runs (.hostRead fn off n) (hostRead fn off n u)) ∧
    (∀ fn k, runs (.sizeBar fn k) (sizeBar fn k u)) ∧ (∀ n, runs (.enableVfs n) (enableVfs n u)) ∧
    (∀ fn gn, runs (.bindVfs fn gn) (bindVfs fn gn u)) ∧ (∀ m, runs (.doe m) (doeMessage m u)) ∧
    (∀ c va, runs (.memoryError c va) (memError 6 c (va / 512 * 512) u)) ∧
    (∀ p, turnOf s = .core p → coreReady u p = false → step s = .next (drawn u u)) ∧
    (∀ c, turnOf s = .thread c → threadReady u c = false → step s = .next (drawn u u)))

/-- R100, R141, R243, R267, R296, R322, R340, R342, R358. At module reset every core is idle without a context, outside steward
mode, with every s-, p- and v-register, accumulator row, scratchpad row and shape register zero and its loop stack empty; no
context is loaded; nothing is armed, held, poisoned or in flight; every table of the host reads zero, every key slot is EMPTY;
every memory keeps its canonical form and lists nothing. The module is brought up and its links at full width (log 3); the
registers that the manual gives no reset value are zero (log 1).
R100, R103, R243. s0 reads 0 and p0 all ones, in a core and in a thread, and what is written to them is discarded; v32 to v63
and p16 to p31 name the physical register that the rotating base selects, any other name its own; with no result pending a
register reads what its table holds.
The model's own here, no rule of the manual: the count of free values that each step advances (log 4); what the log entries 1,
2, 3 say. -/
def Obligations.ResetAndFixedRegisters : Prop :=
  (let s := State.reset
   (∀ p k, (s.core p).run = .idle ∧ (s.core p).ctx = none ∧ (s.core p).steward = false ∧ Tab.get 0 (s.core p).s k = 0 ∧
     Tab.get 0 (s.core p).p k = 0 ∧ Tab.get 0 (s.core p).v k = 0 ∧ Tab.get 0 (s.core p).acc k = 0 ∧
     Tab.get 0 (s.core p).spad k = 0 ∧ Tab.get Shape.zero (s.core p).active k = Shape.zero ∧
     Tab.get Shape.zero (s.core p).shadow k = Shape.zero ∧ (s.core p).seq = { loops := [], vrb := 0, prb := 0 } ∧
     (s.core p).klprg = 0 ∧ (s.core p).flights = [] ∧ (s.core p).board = []) ∧
   (∀ c, (s.ctx c).state = 0 ∧ (s.ctx c).queue = [] ∧ (s.ctx c).phase = 0 ∧ (s.ctx c).regions = []) ∧
   (∀ k, s.mem.byte k = 0 ∧ s.hostMem.byte k = 0 ∧ s.mgmtMem.byte k = 0 ∧ Tab.get 0 s.tenants k = 0 ∧ Tab.get 0 s.owner k = 0 ∧
     Tab.get 0 s.quotas k = 0 ∧ Tab.get 0 s.rota k = 0 ∧ Tab.get 0 s.routes k = 0 ∧ Tab.get 0 s.rstate k = 0 ∧
     Tab.get 0 s.marks k = 0 ∧ (Tab.get KeySlot.zero s.keys k).state = 0 ∧ (Tab.get Bar2.zero s.bar2 k).valid = false ∧
     (s.link k).width = 16) ∧
   s.faultQ.armed = false ∧ s.pageQ.armed = false ∧ s.poolArmed = false ∧ s.ansArmed = false ∧ s.held = [] ∧ s.lost = 0 ∧
   s.poison = [] ∧ s.out = [] ∧ s.transit = [] ∧ s.reqs = [] ∧ s.winStatus = 0 ∧ s.cycle = 0 ∧ s.tickets = 0 ∧
   s.vfs = 0 ∧ s.firmware = 0 ∧ s.unacked = [] ∧ s.waiting = [] ∧ s.hostOps = [] ∧ s.rotaBank = 0 ∧ s.mbox.status = 1 ∧ s.stopped = false ∧ s.powered = true ∧ s.bootStep = 5 ∧ s.memOk) ∧
  (∀ (s : State) (p c : Nat),
     readS s p 0 = 0 ∧ readP s p 0 = BitVec.allOnes 128 ∧ readAS s (.thread c) 0 = 0 ∧
     readAP s (.thread c) 0 = BitVec.allOnes 128 ∧
     (∀ k x lat q, sends s p k (destS 0) x lat 0 q = q ∧ sends s p k (destP (s.core p) 0) x lat 0 q = q) ∧
     (∀ n : BitVec 6, n ≠ 0 → pending (s.core p) (.s n.toNat) = false → readS s p n = Tab.get 0 (s.core p).s n.toNat) ∧
     (∀ n : BitVec 6, n.toNat < 32 → destV (s.core p) n = .v n.toNat) ∧
     (∀ n : BitVec 6, 32 ≤ n.toNat → destV (s.core p) n = .v (32 + (n.toNat - 32 + (s.core p).seq.vrb.toNat) % 32)) ∧
     (∀ n : BitVec 5, n ≠ 0 → n.toNat < 16 → destP (s.core p) n = .p n.toNat) ∧
     (∀ n : BitVec 5, 16 ≤ n.toNat → destP (s.core p) n = .p (16 + (n.toNat - 16 + (s.core p).seq.prb.toNat) % 16)) ∧
     (∀ (n : BitVec 6) (k : Nat), destV (s.core p) n = .v k → pending (s.core p) (.v k) = false →
       readV s p n = Tab.get 0 (s.core p).v k) ∧
     (∀ (n : BitVec 5) (k : Nat), destP (s.core p) n = .p k → pending (s.core p) (.p k) = false →
       readP s p n = Tab.get 0 (s.core p).p k))

/-- R231. The count barrier after an add, from its word's fields: phase bit 63, target bits 62:40, count bits 39:0. With
c = count + amount exact: when the target is not 0 and c reaches it, phase flips and count is (c − target) mod 2^40; otherwise
phase stays and count is c mod 2^40; the target stays. BARA adds bits 39:0 of its operand in this way; every other atomic
changes the word as bits. -/
def Obligations.CountBarrierWord : Prop :=
  ∀ (w x y : W64) (amount : Nat),
    let phase := fun (v : W64) => v.getLsbD 63
    let target := fun (v : W64) => (v.extractLsb' 40 23).toNat
    let count := fun (v : W64) => (v.setWidth 40).toNat
    let r := barrierNew w amount
    let c := count w + amount
    target r = target w ∧
    (target w ≠ 0 → target w ≤ c → phase r = !phase w ∧ count r = (c - target w) % 2 ^ 40) ∧
    (target w = 0 ∨ c < target w → phase r = phase w ∧ count r = c % 2 ^ 40) ∧
    atomNew .bara w x y = barrierNew w (count x) ∧
    (∀ k : AtomKind, k ≠ .bara →
      atomNew k w x y = w ∨ atomNew k w x y = x ∨ atomNew k w x y = w + x ∨ atomNew k w x y = w &&& x ∨ atomNew k w x y = w ||| x)

/-- R55 to R68. Every well-formed instruction is read back from its word: in the class of slots that holds it, the decoder gives
exactly the instruction that was encoded, with every operand at every value its encoding has room for. -/
def Obligations.DecodeReadsWhatEncodeWrites : Prop :=
  ∀ (i : Instr) (c : SlotClass), i.cls = some c → i.wf = true → decodeWord c (encode i) = .ok i

/-- R55 to R68. Words that the manual writes out for its examples decode to the instruction it writes beside them. -/
def Obligations.WordsOfTheManualDecode : Prop :=
  decodeWord .scalar 0x6060AC00 = .ok (.liu 12 0xAC00) ∧
  decodeWord .scalar 0x62600246 = .ok (.lih 12 0x246) ∧
  decodeWord .scalar 0x0200828C = .ok (.add 0 0 4 5 6 0) ∧
  decodeWord .scalar 0x92000005 = .ok (.trap 5) ∧
  decodeWord .scalar 0xCE012000 = .ok (.waym 9) ∧
  decodeWord .mem 0x40641401 = .ok (.ldg 3 8 10 0 0 1) ∧
  decodeWord .vec 0x040517F8 = .ok (.vadd 0 10 11 63 0)

/-- R214, R217, R223. No instruction that a core issues but PUBG writes device memory as it issues: a store is staged, an atomic acts
when it is performed, an engine's rows land after. Whatever the bundle's outcome — commit, freeze, trap, fatal error — every byte
of memory reads as before.
The model's own here, no rule of the manual: what log entry 48 says. -/
def Obligations.IssueLeavesMemoryAlone : Prop :=
  ∀ (s t : State) (p : Nat) (i : Instr), s.cur = .core p → i.cls ≠ none → (∀ a, i ≠ .pubg a) →
    exec i s = .next t → t.mem = s.mem

/-- Every step keeps the canonical form of every memory: addresses strictly rising, no entry equal to what an unlisted address
reads as.
The model's own here, no rule of the manual: what log entry 48 says. -/
def Obligations.StepKeepsMemoryForm : Prop :=
  ∀ (s t : State), s.memOk → step s = .next t → t.memOk
end

