-- ==== Sys2Proof/Laws/Table.lean ====
section
/-!
SUPPORT. Laws/Table.lean: what the operations of the sparse tables do: a read after a write, and that every operation keeps
the keys rising.
-/

namespace Sys2Proof.Machine

variable {α : Type}

@[simp] theorem Tab.get_nil (d : α) (k : Nat) : Tab.get d [] k = d := rfl

theorem Tab.get_cons (d : α) (j : Nat) (v : α) (r : Tab α) (k : Nat) :
    Tab.get d ((j, v) :: r) k = if j = k then v else Tab.get d r k := rfl

theorem Tab.find_cons (j : Nat) (v : α) (r : Tab α) (k : Nat) :
    Tab.find ((j, v) :: r) k = if j = k then some v else Tab.find r k := rfl

/-- A read after a write to the same key gives the value written. -/
@[simp] theorem Tab.get_set_self (d : α) (t : Tab α) (k : Nat) (v : α) : Tab.get d (Tab.set t k v) k = v := by
  induction t with
  | nil => simp [Tab.set, Tab.get]
  | cons c r ih =>
    obtain ⟨j, u⟩ := c
    simp only [Tab.set]
    split
    · simp [Tab.get]
    · split
      · simp [Tab.get]
      · rename_i h; simp [Tab.get, ih, Ne.symm h]

/-- A write leaves every other key alone. -/
theorem Tab.get_set_ne (d : α) (t : Tab α) {k j : Nat} (v : α) (h : j ≠ k) :
    Tab.get d (Tab.set t k v) j = Tab.get d t j := by
  induction t with
  | nil => simp [Tab.set, Tab.get, Ne.symm h]
  | cons c r ih =>
    obtain ⟨i, u⟩ := c
    simp only [Tab.set]
    split
    · simp [Tab.get, Ne.symm h]
    · split
      · rename_i hk; subst hk; simp [Tab.get, Ne.symm h]
      · simp [Tab.get, ih]

theorem Tab.get_set (d : α) (t : Tab α) (k j : Nat) (v : α) :
    Tab.get d (Tab.set t k v) j = if j = k then v else Tab.get d t j := by
  split
  · subst_vars; simp
  · exact Tab.get_set_ne d t v ‹_›

/-- The later of two writes to one key remains. -/
@[simp] theorem Tab.set_set (t : Tab α) (k : Nat) (v w : α) : Tab.set (Tab.set t k v) k w = Tab.set t k w := by
  induction t with
  | nil => simp [Tab.set]
  | cons c r ih =>
    obtain ⟨j, u⟩ := c
    simp only [Tab.set]
    split
    · simp [Tab.set]
    · split
      · simp [Tab.set]
      · simp [Tab.set, *]

@[simp] theorem Tab.find_set_self (t : Tab α) (k : Nat) (v : α) : Tab.find (Tab.set t k v) k = some v := by
  induction t with
  | nil => simp [Tab.set, Tab.find]
  | cons c r ih =>
    obtain ⟨j, u⟩ := c
    simp only [Tab.set]
    split
    · simp [Tab.find]
    · split
      · simp [Tab.find]
      · rename_i h; simp [Tab.find, ih, Ne.symm h]

theorem Tab.find_set_ne (t : Tab α) {k j : Nat} (v : α) (h : j ≠ k) :
    Tab.find (Tab.set t k v) j = Tab.find t j := by
  induction t with
  | nil => simp [Tab.set, Tab.find, Ne.symm h]
  | cons c r ih =>
    obtain ⟨i, u⟩ := c
    simp only [Tab.set]
    split
    · simp [Tab.find, Ne.symm h]
    · split
      · rename_i hk; subst hk; simp [Tab.find, Ne.symm h]
      · simp [Tab.find, ih]

/-- What a table reads as is its listed value or its default. -/
theorem Tab.get_eq_find (d : α) (t : Tab α) (k : Nat) : Tab.get d t k = (Tab.find t k).getD d := by
  induction t with
  | nil => rfl
  | cons c r ih =>
    obtain ⟨j, u⟩ := c
    simp only [Tab.get, Tab.find]
    split <;> simp [ih]

/-- Filtering a table by its keys keeps the values of the keys that stay. -/
theorem Tab.find_filter (t : Tab α) (q : Nat → Bool) (k : Nat) :
    Tab.find (t.filter (fun c => q c.1)) k = if q k then Tab.find t k else none := by
  induction t with
  | nil => simp [Tab.find]
  | cons c r ih =>
    obtain ⟨j, u⟩ := c
    by_cases hj : q j = true
    · simp only [List.filter_cons, hj, if_true, Tab.find, ih]
      by_cases hjk : j = k
      · subst hjk; simp [hj]
      · simp [hjk]
    · have hj' : q j = false := by simpa using hj
      rw [List.filter_cons_of_neg (by simp [hj']), ih, Tab.find_cons]
      by_cases hjk : j = k
      · subst hjk; simp [hj']
      · simp [hjk]

@[simp] theorem Tab.find_erase_self (t : Tab α) (k : Nat) : Tab.find (Tab.erase t k) k = none := by
  rw [Tab.erase, Tab.find_filter t (fun j => j != k)]; simp

theorem Tab.find_erase_ne (t : Tab α) {k j : Nat} (h : j ≠ k) : Tab.find (Tab.erase t k) j = Tab.find t j := by
  rw [Tab.erase, Tab.find_filter t (fun j => j != k)]; simp [h]

theorem Tab.find_eraseRange (t : Tab α) (lo hi k : Nat) :
    Tab.find (Tab.eraseRange t lo hi) k = if lo ≤ k ∧ k < hi then none else Tab.find t k := by
  rw [Tab.eraseRange, Tab.find_filter t (fun j => decide (j < lo) || decide (hi ≤ j))]
  by_cases h1 : lo ≤ k <;> by_cases h2 : k < hi <;> simp [h1, h2]

/-- A read after a write that drops default values. -/
theorem Tab.get_put [DecidableEq α] (d : α) (t : Tab α) (k j : Nat) (v : α) :
    Tab.get d (Tab.put d t k v) j = if j = k then v else Tab.get d t j := by
  unfold Tab.put
  split
  · rename_i hv
    subst hv
    split
    · rename_i h; subst h; simp [Tab.get_eq_find]
    · rename_i h; simp [Tab.get_eq_find, Tab.find_erase_ne t h]
  · exact Tab.get_set d t k j v

@[simp] theorem Tab.get_put_self [DecidableEq α] (d : α) (t : Tab α) (k : Nat) (v : α) :
    Tab.get d (Tab.put d t k v) k = v := by simp [Tab.get_put]

/-- Every key of a table written at `k` was there or is `k`. -/
theorem Tab.mem_set {t : Tab α} {k : Nat} {v : α} {c : Nat × α} (h : c ∈ Tab.set t k v) : c = (k, v) ∨ c ∈ t := by
  induction t with
  | nil => simpa [Tab.set] using h
  | cons b r ih =>
    obtain ⟨j, u⟩ := b
    simp only [Tab.set] at h
    split at h
    · simpa using h
    · split at h
      · rcases List.mem_cons.mp h with h | h
        · exact .inl h
        · exact .inr (List.mem_cons_of_mem _ h)
      · rcases List.mem_cons.mp h with h | h
        · exact .inr (by simp [h])
        · exact (ih h).imp id (List.mem_cons_of_mem _)

/-- A write keeps the keys rising. -/
theorem Tab.sorted_set {t : Tab α} (h : Tab.sorted t) (k : Nat) (v : α) : Tab.sorted (Tab.set t k v) := by
  induction t with
  | nil => simp [Tab.set, Tab.sorted]
  | cons b r ih =>
    obtain ⟨j, u⟩ := b
    have hb := List.pairwise_cons.mp h
    simp only [Tab.set]
    split
    · refine List.pairwise_cons.mpr ⟨fun c hc => ?_, h⟩
      rcases List.mem_cons.mp hc with hc | hc
      · subst hc; assumption
      · exact Nat.lt_trans ‹_› (hb.1 c hc)
    · split
      · rename_i hk; subst hk; exact List.pairwise_cons.mpr hb
      · refine List.pairwise_cons.mpr ⟨fun c hc => ?_, ih hb.2⟩
        rcases Tab.mem_set hc with hc | hc
        · subst hc; simp; omega
        · exact hb.1 c hc

theorem Tab.sorted_filter {t : Tab α} (h : Tab.sorted t) (q : Nat × α → Bool) : Tab.sorted (t.filter q) :=
  h.sublist List.filter_sublist

/-- In a table of rising keys every entry is what its key finds. -/
theorem Tab.find_of_mem {t : Tab α} (h : Tab.sorted t) {c : Nat × α} (hc : c ∈ t) : Tab.find t c.1 = some c.2 := by
  induction t with
  | nil => simp at hc
  | cons b r ih =>
    obtain ⟨j, u⟩ := b
    have hb := List.pairwise_cons.mp h
    rcases List.mem_cons.mp hc with hc | hc
    · subst hc; simp [Tab.find]
    · have := hb.1 c hc
      simp only [Tab.find]
      rw [if_neg (by simp at this; omega)]
      exact ih hb.2 hc

end Sys2Proof.Machine
end

