-- ==== Sys2Proof/Laws/State.lean ====
section
/-!
SUPPORT. Laws/State.lean: what replacing one core or one context of the state leaves alone, and the core or context read
back.
-/

namespace Sys2Proof.Machine

variable (s : State) (p c : Nat) (k : Core) (x : Ctx)

@[simp] theorem State.setCore_ctxs : (s.setCore p k).ctxs = s.ctxs := rfl
@[simp] theorem State.setCore_mem : (s.setCore p k).mem = s.mem := rfl
@[simp] theorem State.setCore_hostMem : (s.setCore p k).hostMem = s.hostMem := rfl
@[simp] theorem State.setCore_mgmtMem : (s.setCore p k).mgmtMem = s.mgmtMem := rfl
@[simp] theorem State.setCore_mboxMem : (s.setCore p k).mboxMem = s.mboxMem := rfl
@[simp] theorem State.setCore_tenants : (s.setCore p k).tenants = s.tenants := rfl
@[simp] theorem State.setCore_quotas : (s.setCore p k).quotas = s.quotas := rfl
@[simp] theorem State.setCore_owner : (s.setCore p k).owner = s.owner := rfl
@[simp] theorem State.setCore_rota : (s.setCore p k).rota = s.rota := rfl
@[simp] theorem State.setCore_rotaBank : (s.setCore p k).rotaBank = s.rotaBank := rfl
@[simp] theorem State.setCore_rotaPend : (s.setCore p k).rotaPend = s.rotaPend := rfl
@[simp] theorem State.setCore_rotaDone : (s.setCore p k).rotaDone = s.rotaDone := rfl
@[simp] theorem State.setCore_routes : (s.setCore p k).routes = s.routes := rfl
@[simp] theorem State.setCore_rstate : (s.setCore p k).rstate = s.rstate := rfl
@[simp] theorem State.setCore_rflight : (s.setCore p k).rflight = s.rflight := rfl
@[simp] theorem State.setCore_rsel : (s.setCore p k).rsel = s.rsel := rfl
@[simp] theorem State.setCore_keys : (s.setCore p k).keys = s.keys := rfl
@[simp] theorem State.setCore_marks : (s.setCore p k).marks = s.marks := rfl
@[simp] theorem State.setCore_cycle : (s.setCore p k).cycle = s.cycle := rfl
@[simp] theorem State.setCore_tickets : (s.setCore p k).tickets = s.tickets := rfl
@[simp] theorem State.setCore_l2 : (s.setCore p k).l2 = s.l2 := rfl
@[simp] theorem State.setCore_l2fill : (s.setCore p k).l2fill = s.l2fill := rfl
@[simp] theorem State.setCore_conflicts : (s.setCore p k).conflicts = s.conflicts := rfl
@[simp] theorem State.setCore_flowsOff : (s.setCore p k).flowsOff = s.flowsOff := rfl
@[simp] theorem State.setCore_faultQ : (s.setCore p k).faultQ = s.faultQ := rfl
@[simp] theorem State.setCore_pageQ : (s.setCore p k).pageQ = s.pageQ := rfl
@[simp] theorem State.setCore_held : (s.setCore p k).held = s.held := rfl
@[simp] theorem State.setCore_lost : (s.setCore p k).lost = s.lost := rfl
@[simp] theorem State.setCore_poolBase : (s.setCore p k).poolBase = s.poolBase := rfl
@[simp] theorem State.setCore_poolSize : (s.setCore p k).poolSize = s.poolSize := rfl
@[simp] theorem State.setCore_poolArmed : (s.setCore p k).poolArmed = s.poolArmed := rfl
@[simp] theorem State.setCore_ansBase : (s.setCore p k).ansBase = s.ansBase := rfl
@[simp] theorem State.setCore_ansCount : (s.setCore p k).ansCount = s.ansCount := rfl
@[simp] theorem State.setCore_ansArmed : (s.setCore p k).ansArmed = s.ansArmed := rfl
@[simp] theorem State.setCore_reqs : (s.setCore p k).reqs = s.reqs := rfl
@[simp] theorem State.setCore_reqGens : (s.setCore p k).reqGens = s.reqGens := rfl
@[simp] theorem State.setCore_reqCtx : (s.setCore p k).reqCtx = s.reqCtx := rfl
@[simp] theorem State.setCore_answers : (s.setCore p k).answers = s.answers := rfl
@[simp] theorem State.setCore_demoting : (s.setCore p k).demoting = s.demoting := rfl
@[simp] theorem State.setCore_discarded : (s.setCore p k).discarded = s.discarded := rfl
@[simp] theorem State.setCore_winStatus : (s.setCore p k).winStatus = s.winStatus := rfl
@[simp] theorem State.setCore_ctxSel : (s.setCore p k).ctxSel = s.ctxSel := rfl
@[simp] theorem State.setCore_bar2 : (s.setCore p k).bar2 = s.bar2 := rfl
@[simp] theorem State.setCore_mbox : (s.setCore p k).mbox = s.mbox := rfl
@[simp] theorem State.setCore_mwinBase : (s.setCore p k).mwinBase = s.mwinBase := rfl
@[simp] theorem State.setCore_mwinSize : (s.setCore p k).mwinSize = s.mwinSize := rfl
@[simp] theorem State.setCore_cxl : (s.setCore p k).cxl = s.cxl := rfl
@[simp] theorem State.setCore_yieldDef : (s.setCore p k).yieldDef = s.yieldDef := rfl
@[simp] theorem State.setCore_links : (s.setCore p k).links = s.links := rfl
@[simp] theorem State.setCore_linkPol : (s.setCore p k).linkPol = s.linkPol := rfl
@[simp] theorem State.setCore_eventPol : (s.setCore p k).eventPol = s.eventPol := rfl
@[simp] theorem State.setCore_stopped : (s.setCore p k).stopped = s.stopped := rfl
@[simp] theorem State.setCore_powered : (s.setCore p k).powered = s.powered := rfl
@[simp] theorem State.setCore_bootStep : (s.setCore p k).bootStep = s.bootStep := rfl
@[simp] theorem State.setCore_bootOut : (s.setCore p k).bootOut = s.bootOut := rfl
@[simp] theorem State.setCore_msix : (s.setCore p k).msix = s.msix := rfl
@[simp] theorem State.setCore_out : (s.setCore p k).out = s.out := rfl
@[simp] theorem State.setCore_transit : (s.setCore p k).transit = s.transit := rfl
@[simp] theorem State.setCore_replies : (s.setCore p k).replies = s.replies := rfl
@[simp] theorem State.setCore_poison : (s.setCore p k).poison = s.poison := rfl
@[simp] theorem State.setCore_ats : (s.setCore p k).ats = s.ats := rfl
@[simp] theorem State.setCore_telemetry : (s.setCore p k).telemetry = s.telemetry := rfl
@[simp] theorem State.setCore_loadFail : (s.setCore p k).loadFail = s.loadFail := rfl
@[simp] theorem State.setCore_freeCtr : (s.setCore p k).freeCtr = s.freeCtr := rfl
@[simp] theorem State.setCore_agenda : (s.setCore p k).agenda = s.agenda := rfl
@[simp] theorem State.setCore_cur : (s.setCore p k).cur = s.cur := rfl
@[simp] theorem State.setCore_slot : (s.setCore p k).slot = s.slot := rfl
@[simp] theorem State.setCore_header : (s.setCore p k).header = s.header := rfl
@[simp] theorem State.setCore_rotaAt : (s.setCore p k).rotaAt = s.rotaAt := rfl
@[simp] theorem State.setCore_passed : (s.setCore p k).passed = s.passed := rfl
@[simp] theorem State.setCore_barSize : (s.setCore p k).barSize = s.barSize := rfl
@[simp] theorem State.setCore_firmware : (s.setCore p k).firmware = s.firmware := rfl
@[simp] theorem State.setCore_vfs : (s.setCore p k).vfs = s.vfs := rfl
@[simp] theorem State.setCore_vfTenant : (s.setCore p k).vfTenant = s.vfTenant := rfl
@[simp] theorem State.setCore_unacked : (s.setCore p k).unacked = s.unacked := rfl
@[simp] theorem State.setCore_hostOps : (s.setCore p k).hostOps = s.hostOps := rfl
@[simp] theorem State.setCore_spdm : (s.setCore p k).spdm = s.spdm := rfl
@[simp] theorem State.setCore_ide : (s.setCore p k).ide = s.ide := rfl
@[simp] theorem State.setCore_bootPart : (s.setCore p k).bootPart = s.bootPart := rfl
@[simp] theorem State.setCore_paths : (s.setCore p k).paths = s.paths := rfl
@[simp] theorem State.setCore_aux : (s.setCore p k).aux = s.aux := rfl
@[simp] theorem State.setCore_waiting : (s.setCore p k).waiting = s.waiting := rfl

@[simp] theorem State.setCtx_cores : (s.setCtx c x).cores = s.cores := rfl
@[simp] theorem State.setCtx_mem : (s.setCtx c x).mem = s.mem := rfl
@[simp] theorem State.setCtx_hostMem : (s.setCtx c x).hostMem = s.hostMem := rfl
@[simp] theorem State.setCtx_mgmtMem : (s.setCtx c x).mgmtMem = s.mgmtMem := rfl
@[simp] theorem State.setCtx_mboxMem : (s.setCtx c x).mboxMem = s.mboxMem := rfl
@[simp] theorem State.setCtx_tenants : (s.setCtx c x).tenants = s.tenants := rfl
@[simp] theorem State.setCtx_quotas : (s.setCtx c x).quotas = s.quotas := rfl
@[simp] theorem State.setCtx_owner : (s.setCtx c x).owner = s.owner := rfl
@[simp] theorem State.setCtx_rota : (s.setCtx c x).rota = s.rota := rfl
@[simp] theorem State.setCtx_rotaBank : (s.setCtx c x).rotaBank = s.rotaBank := rfl
@[simp] theorem State.setCtx_rotaPend : (s.setCtx c x).rotaPend = s.rotaPend := rfl
@[simp] theorem State.setCtx_rotaDone : (s.setCtx c x).rotaDone = s.rotaDone := rfl
@[simp] theorem State.setCtx_routes : (s.setCtx c x).routes = s.routes := rfl
@[simp] theorem State.setCtx_rstate : (s.setCtx c x).rstate = s.rstate := rfl
@[simp] theorem State.setCtx_rflight : (s.setCtx c x).rflight = s.rflight := rfl
@[simp] theorem State.setCtx_rsel : (s.setCtx c x).rsel = s.rsel := rfl
@[simp] theorem State.setCtx_keys : (s.setCtx c x).keys = s.keys := rfl
@[simp] theorem State.setCtx_marks : (s.setCtx c x).marks = s.marks := rfl
@[simp] theorem State.setCtx_cycle : (s.setCtx c x).cycle = s.cycle := rfl
@[simp] theorem State.setCtx_tickets : (s.setCtx c x).tickets = s.tickets := rfl
@[simp] theorem State.setCtx_l2 : (s.setCtx c x).l2 = s.l2 := rfl
@[simp] theorem State.setCtx_l2fill : (s.setCtx c x).l2fill = s.l2fill := rfl
@[simp] theorem State.setCtx_conflicts : (s.setCtx c x).conflicts = s.conflicts := rfl
@[simp] theorem State.setCtx_flowsOff : (s.setCtx c x).flowsOff = s.flowsOff := rfl
@[simp] theorem State.setCtx_faultQ : (s.setCtx c x).faultQ = s.faultQ := rfl
@[simp] theorem State.setCtx_pageQ : (s.setCtx c x).pageQ = s.pageQ := rfl
@[simp] theorem State.setCtx_held : (s.setCtx c x).held = s.held := rfl
@[simp] theorem State.setCtx_lost : (s.setCtx c x).lost = s.lost := rfl
@[simp] theorem State.setCtx_poolBase : (s.setCtx c x).poolBase = s.poolBase := rfl
@[simp] theorem State.setCtx_poolSize : (s.setCtx c x).poolSize = s.poolSize := rfl
@[simp] theorem State.setCtx_poolArmed : (s.setCtx c x).poolArmed = s.poolArmed := rfl
@[simp] theorem State.setCtx_ansBase : (s.setCtx c x).ansBase = s.ansBase := rfl
@[simp] theorem State.setCtx_ansCount : (s.setCtx c x).ansCount = s.ansCount := rfl
@[simp] theorem State.setCtx_ansArmed : (s.setCtx c x).ansArmed = s.ansArmed := rfl
@[simp] theorem State.setCtx_reqs : (s.setCtx c x).reqs = s.reqs := rfl
@[simp] theorem State.setCtx_reqGens : (s.setCtx c x).reqGens = s.reqGens := rfl
@[simp] theorem State.setCtx_reqCtx : (s.setCtx c x).reqCtx = s.reqCtx := rfl
@[simp] theorem State.setCtx_answers : (s.setCtx c x).answers = s.answers := rfl
@[simp] theorem State.setCtx_demoting : (s.setCtx c x).demoting = s.demoting := rfl
@[simp] theorem State.setCtx_discarded : (s.setCtx c x).discarded = s.discarded := rfl
@[simp] theorem State.setCtx_winStatus : (s.setCtx c x).winStatus = s.winStatus := rfl
@[simp] theorem State.setCtx_ctxSel : (s.setCtx c x).ctxSel = s.ctxSel := rfl
@[simp] theorem State.setCtx_bar2 : (s.setCtx c x).bar2 = s.bar2 := rfl
@[simp] theorem State.setCtx_mbox : (s.setCtx c x).mbox = s.mbox := rfl
@[simp] theorem State.setCtx_mwinBase : (s.setCtx c x).mwinBase = s.mwinBase := rfl
@[simp] theorem State.setCtx_mwinSize : (s.setCtx c x).mwinSize = s.mwinSize := rfl
@[simp] theorem State.setCtx_cxl : (s.setCtx c x).cxl = s.cxl := rfl
@[simp] theorem State.setCtx_yieldDef : (s.setCtx c x).yieldDef = s.yieldDef := rfl
@[simp] theorem State.setCtx_links : (s.setCtx c x).links = s.links := rfl
@[simp] theorem State.setCtx_linkPol : (s.setCtx c x).linkPol = s.linkPol := rfl
@[simp] theorem State.setCtx_eventPol : (s.setCtx c x).eventPol = s.eventPol := rfl
@[simp] theorem State.setCtx_stopped : (s.setCtx c x).stopped = s.stopped := rfl
@[simp] theorem State.setCtx_powered : (s.setCtx c x).powered = s.powered := rfl
@[simp] theorem State.setCtx_bootStep : (s.setCtx c x).bootStep = s.bootStep := rfl
@[simp] theorem State.setCtx_bootOut : (s.setCtx c x).bootOut = s.bootOut := rfl
@[simp] theorem State.setCtx_msix : (s.setCtx c x).msix = s.msix := rfl
@[simp] theorem State.setCtx_out : (s.setCtx c x).out = s.out := rfl
@[simp] theorem State.setCtx_transit : (s.setCtx c x).transit = s.transit := rfl
@[simp] theorem State.setCtx_replies : (s.setCtx c x).replies = s.replies := rfl
@[simp] theorem State.setCtx_poison : (s.setCtx c x).poison = s.poison := rfl
@[simp] theorem State.setCtx_ats : (s.setCtx c x).ats = s.ats := rfl
@[simp] theorem State.setCtx_telemetry : (s.setCtx c x).telemetry = s.telemetry := rfl
@[simp] theorem State.setCtx_loadFail : (s.setCtx c x).loadFail = s.loadFail := rfl
@[simp] theorem State.setCtx_freeCtr : (s.setCtx c x).freeCtr = s.freeCtr := rfl
@[simp] theorem State.setCtx_agenda : (s.setCtx c x).agenda = s.agenda := rfl
@[simp] theorem State.setCtx_cur : (s.setCtx c x).cur = s.cur := rfl
@[simp] theorem State.setCtx_slot : (s.setCtx c x).slot = s.slot := rfl
@[simp] theorem State.setCtx_header : (s.setCtx c x).header = s.header := rfl
@[simp] theorem State.setCtx_rotaAt : (s.setCtx c x).rotaAt = s.rotaAt := rfl
@[simp] theorem State.setCtx_passed : (s.setCtx c x).passed = s.passed := rfl
@[simp] theorem State.setCtx_barSize : (s.setCtx c x).barSize = s.barSize := rfl
@[simp] theorem State.setCtx_firmware : (s.setCtx c x).firmware = s.firmware := rfl
@[simp] theorem State.setCtx_vfs : (s.setCtx c x).vfs = s.vfs := rfl
@[simp] theorem State.setCtx_vfTenant : (s.setCtx c x).vfTenant = s.vfTenant := rfl
@[simp] theorem State.setCtx_unacked : (s.setCtx c x).unacked = s.unacked := rfl
@[simp] theorem State.setCtx_hostOps : (s.setCtx c x).hostOps = s.hostOps := rfl
@[simp] theorem State.setCtx_spdm : (s.setCtx c x).spdm = s.spdm := rfl
@[simp] theorem State.setCtx_ide : (s.setCtx c x).ide = s.ide := rfl
@[simp] theorem State.setCtx_bootPart : (s.setCtx c x).bootPart = s.bootPart := rfl
@[simp] theorem State.setCtx_paths : (s.setCtx c x).paths = s.paths := rfl
@[simp] theorem State.setCtx_aux : (s.setCtx c x).aux = s.aux := rfl
@[simp] theorem State.setCtx_waiting : (s.setCtx c x).waiting = s.waiting := rfl

@[simp] theorem State.onCore_ctxs (f : Core → Core) : (s.onCore p f).ctxs = s.ctxs := rfl
@[simp] theorem State.onCore_mem (f : Core → Core) : (s.onCore p f).mem = s.mem := rfl
@[simp] theorem State.onCore_hostMem (f : Core → Core) : (s.onCore p f).hostMem = s.hostMem := rfl
@[simp] theorem State.onCore_mgmtMem (f : Core → Core) : (s.onCore p f).mgmtMem = s.mgmtMem := rfl
@[simp] theorem State.onCore_mboxMem (f : Core → Core) : (s.onCore p f).mboxMem = s.mboxMem := rfl
@[simp] theorem State.onCore_tenants (f : Core → Core) : (s.onCore p f).tenants = s.tenants := rfl
@[simp] theorem State.onCore_quotas (f : Core → Core) : (s.onCore p f).quotas = s.quotas := rfl
@[simp] theorem State.onCore_owner (f : Core → Core) : (s.onCore p f).owner = s.owner := rfl
@[simp] theorem State.onCore_rota (f : Core → Core) : (s.onCore p f).rota = s.rota := rfl
@[simp] theorem State.onCore_rotaBank (f : Core → Core) : (s.onCore p f).rotaBank = s.rotaBank := rfl
@[simp] theorem State.onCore_rotaPend (f : Core → Core) : (s.onCore p f).rotaPend = s.rotaPend := rfl
@[simp] theorem State.onCore_rotaDone (f : Core → Core) : (s.onCore p f).rotaDone = s.rotaDone := rfl
@[simp] theorem State.onCore_routes (f : Core → Core) : (s.onCore p f).routes = s.routes := rfl
@[simp] theorem State.onCore_rstate (f : Core → Core) : (s.onCore p f).rstate = s.rstate := rfl
@[simp] theorem State.onCore_rflight (f : Core → Core) : (s.onCore p f).rflight = s.rflight := rfl
@[simp] theorem State.onCore_rsel (f : Core → Core) : (s.onCore p f).rsel = s.rsel := rfl
@[simp] theorem State.onCore_keys (f : Core → Core) : (s.onCore p f).keys = s.keys := rfl
@[simp] theorem State.onCore_marks (f : Core → Core) : (s.onCore p f).marks = s.marks := rfl
@[simp] theorem State.onCore_cycle (f : Core → Core) : (s.onCore p f).cycle = s.cycle := rfl
@[simp] theorem State.onCore_tickets (f : Core → Core) : (s.onCore p f).tickets = s.tickets := rfl
@[simp] theorem State.onCore_l2 (f : Core → Core) : (s.onCore p f).l2 = s.l2 := rfl
@[simp] theorem State.onCore_l2fill (f : Core → Core) : (s.onCore p f).l2fill = s.l2fill := rfl
@[simp] theorem State.onCore_conflicts (f : Core → Core) : (s.onCore p f).conflicts = s.conflicts := rfl
@[simp] theorem State.onCore_flowsOff (f : Core → Core) : (s.onCore p f).flowsOff = s.flowsOff := rfl
@[simp] theorem State.onCore_faultQ (f : Core → Core) : (s.onCore p f).faultQ = s.faultQ := rfl
@[simp] theorem State.onCore_pageQ (f : Core → Core) : (s.onCore p f).pageQ = s.pageQ := rfl
@[simp] theorem State.onCore_held (f : Core → Core) : (s.onCore p f).held = s.held := rfl
@[simp] theorem State.onCore_lost (f : Core → Core) : (s.onCore p f).lost = s.lost := rfl
@[simp] theorem State.onCore_poolBase (f : Core → Core) : (s.onCore p f).poolBase = s.poolBase := rfl
@[simp] theorem State.onCore_poolSize (f : Core → Core) : (s.onCore p f).poolSize = s.poolSize := rfl
@[simp] theorem State.onCore_poolArmed (f : Core → Core) : (s.onCore p f).poolArmed = s.poolArmed := rfl
@[simp] theorem State.onCore_ansBase (f : Core → Core) : (s.onCore p f).ansBase = s.ansBase := rfl
@[simp] theorem State.onCore_ansCount (f : Core → Core) : (s.onCore p f).ansCount = s.ansCount := rfl
@[simp] theorem State.onCore_ansArmed (f : Core → Core) : (s.onCore p f).ansArmed = s.ansArmed := rfl
@[simp] theorem State.onCore_reqs (f : Core → Core) : (s.onCore p f).reqs = s.reqs := rfl
@[simp] theorem State.onCore_reqGens (f : Core → Core) : (s.onCore p f).reqGens = s.reqGens := rfl
@[simp] theorem State.onCore_reqCtx (f : Core → Core) : (s.onCore p f).reqCtx = s.reqCtx := rfl
@[simp] theorem State.onCore_answers (f : Core → Core) : (s.onCore p f).answers = s.answers := rfl
@[simp] theorem State.onCore_demoting (f : Core → Core) : (s.onCore p f).demoting = s.demoting := rfl
@[simp] theorem State.onCore_discarded (f : Core → Core) : (s.onCore p f).discarded = s.discarded := rfl
@[simp] theorem State.onCore_winStatus (f : Core → Core) : (s.onCore p f).winStatus = s.winStatus := rfl
@[simp] theorem State.onCore_ctxSel (f : Core → Core) : (s.onCore p f).ctxSel = s.ctxSel := rfl
@[simp] theorem State.onCore_bar2 (f : Core → Core) : (s.onCore p f).bar2 = s.bar2 := rfl
@[simp] theorem State.onCore_mbox (f : Core → Core) : (s.onCore p f).mbox = s.mbox := rfl
@[simp] theorem State.onCore_mwinBase (f : Core → Core) : (s.onCore p f).mwinBase = s.mwinBase := rfl
@[simp] theorem State.onCore_mwinSize (f : Core → Core) : (s.onCore p f).mwinSize = s.mwinSize := rfl
@[simp] theorem State.onCore_cxl (f : Core → Core) : (s.onCore p f).cxl = s.cxl := rfl
@[simp] theorem State.onCore_yieldDef (f : Core → Core) : (s.onCore p f).yieldDef = s.yieldDef := rfl
@[simp] theorem State.onCore_links (f : Core → Core) : (s.onCore p f).links = s.links := rfl
@[simp] theorem State.onCore_linkPol (f : Core → Core) : (s.onCore p f).linkPol = s.linkPol := rfl
@[simp] theorem State.onCore_eventPol (f : Core → Core) : (s.onCore p f).eventPol = s.eventPol := rfl
@[simp] theorem State.onCore_stopped (f : Core → Core) : (s.onCore p f).stopped = s.stopped := rfl
@[simp] theorem State.onCore_powered (f : Core → Core) : (s.onCore p f).powered = s.powered := rfl
@[simp] theorem State.onCore_bootStep (f : Core → Core) : (s.onCore p f).bootStep = s.bootStep := rfl
@[simp] theorem State.onCore_bootOut (f : Core → Core) : (s.onCore p f).bootOut = s.bootOut := rfl
@[simp] theorem State.onCore_msix (f : Core → Core) : (s.onCore p f).msix = s.msix := rfl
@[simp] theorem State.onCore_out (f : Core → Core) : (s.onCore p f).out = s.out := rfl
@[simp] theorem State.onCore_transit (f : Core → Core) : (s.onCore p f).transit = s.transit := rfl
@[simp] theorem State.onCore_replies (f : Core → Core) : (s.onCore p f).replies = s.replies := rfl
@[simp] theorem State.onCore_poison (f : Core → Core) : (s.onCore p f).poison = s.poison := rfl
@[simp] theorem State.onCore_ats (f : Core → Core) : (s.onCore p f).ats = s.ats := rfl
@[simp] theorem State.onCore_telemetry (f : Core → Core) : (s.onCore p f).telemetry = s.telemetry := rfl
@[simp] theorem State.onCore_loadFail (f : Core → Core) : (s.onCore p f).loadFail = s.loadFail := rfl
@[simp] theorem State.onCore_freeCtr (f : Core → Core) : (s.onCore p f).freeCtr = s.freeCtr := rfl
@[simp] theorem State.onCore_agenda (f : Core → Core) : (s.onCore p f).agenda = s.agenda := rfl
@[simp] theorem State.onCore_cur (f : Core → Core) : (s.onCore p f).cur = s.cur := rfl
@[simp] theorem State.onCore_slot (f : Core → Core) : (s.onCore p f).slot = s.slot := rfl
@[simp] theorem State.onCore_header (f : Core → Core) : (s.onCore p f).header = s.header := rfl
@[simp] theorem State.onCore_rotaAt (f : Core → Core) : (s.onCore p f).rotaAt = s.rotaAt := rfl
@[simp] theorem State.onCore_passed (f : Core → Core) : (s.onCore p f).passed = s.passed := rfl
@[simp] theorem State.onCore_barSize (f : Core → Core) : (s.onCore p f).barSize = s.barSize := rfl
@[simp] theorem State.onCore_firmware (f : Core → Core) : (s.onCore p f).firmware = s.firmware := rfl
@[simp] theorem State.onCore_vfs (f : Core → Core) : (s.onCore p f).vfs = s.vfs := rfl
@[simp] theorem State.onCore_vfTenant (f : Core → Core) : (s.onCore p f).vfTenant = s.vfTenant := rfl
@[simp] theorem State.onCore_unacked (f : Core → Core) : (s.onCore p f).unacked = s.unacked := rfl
@[simp] theorem State.onCore_hostOps (f : Core → Core) : (s.onCore p f).hostOps = s.hostOps := rfl
@[simp] theorem State.onCore_spdm (f : Core → Core) : (s.onCore p f).spdm = s.spdm := rfl
@[simp] theorem State.onCore_ide (f : Core → Core) : (s.onCore p f).ide = s.ide := rfl
@[simp] theorem State.onCore_bootPart (f : Core → Core) : (s.onCore p f).bootPart = s.bootPart := rfl
@[simp] theorem State.onCore_paths (f : Core → Core) : (s.onCore p f).paths = s.paths := rfl
@[simp] theorem State.onCore_aux (f : Core → Core) : (s.onCore p f).aux = s.aux := rfl
@[simp] theorem State.onCore_waiting (f : Core → Core) : (s.onCore p f).waiting = s.waiting := rfl

@[simp] theorem State.onCtx_cores (f : Ctx → Ctx) : (s.onCtx c f).cores = s.cores := rfl
@[simp] theorem State.onCtx_mem (f : Ctx → Ctx) : (s.onCtx c f).mem = s.mem := rfl
@[simp] theorem State.onCtx_hostMem (f : Ctx → Ctx) : (s.onCtx c f).hostMem = s.hostMem := rfl
@[simp] theorem State.onCtx_mgmtMem (f : Ctx → Ctx) : (s.onCtx c f).mgmtMem = s.mgmtMem := rfl
@[simp] theorem State.onCtx_mboxMem (f : Ctx → Ctx) : (s.onCtx c f).mboxMem = s.mboxMem := rfl
@[simp] theorem State.onCtx_tenants (f : Ctx → Ctx) : (s.onCtx c f).tenants = s.tenants := rfl
@[simp] theorem State.onCtx_quotas (f : Ctx → Ctx) : (s.onCtx c f).quotas = s.quotas := rfl
@[simp] theorem State.onCtx_owner (f : Ctx → Ctx) : (s.onCtx c f).owner = s.owner := rfl
@[simp] theorem State.onCtx_rota (f : Ctx → Ctx) : (s.onCtx c f).rota = s.rota := rfl
@[simp] theorem State.onCtx_rotaBank (f : Ctx → Ctx) : (s.onCtx c f).rotaBank = s.rotaBank := rfl
@[simp] theorem State.onCtx_rotaPend (f : Ctx → Ctx) : (s.onCtx c f).rotaPend = s.rotaPend := rfl
@[simp] theorem State.onCtx_rotaDone (f : Ctx → Ctx) : (s.onCtx c f).rotaDone = s.rotaDone := rfl
@[simp] theorem State.onCtx_routes (f : Ctx → Ctx) : (s.onCtx c f).routes = s.routes := rfl
@[simp] theorem State.onCtx_rstate (f : Ctx → Ctx) : (s.onCtx c f).rstate = s.rstate := rfl
@[simp] theorem State.onCtx_rflight (f : Ctx → Ctx) : (s.onCtx c f).rflight = s.rflight := rfl
@[simp] theorem State.onCtx_rsel (f : Ctx → Ctx) : (s.onCtx c f).rsel = s.rsel := rfl
@[simp] theorem State.onCtx_keys (f : Ctx → Ctx) : (s.onCtx c f).keys = s.keys := rfl
@[simp] theorem State.onCtx_marks (f : Ctx → Ctx) : (s.onCtx c f).marks = s.marks := rfl
@[simp] theorem State.onCtx_cycle (f : Ctx → Ctx) : (s.onCtx c f).cycle = s.cycle := rfl
@[simp] theorem State.onCtx_tickets (f : Ctx → Ctx) : (s.onCtx c f).tickets = s.tickets := rfl
@[simp] theorem State.onCtx_l2 (f : Ctx → Ctx) : (s.onCtx c f).l2 = s.l2 := rfl
@[simp] theorem State.onCtx_l2fill (f : Ctx → Ctx) : (s.onCtx c f).l2fill = s.l2fill := rfl
@[simp] theorem State.onCtx_conflicts (f : Ctx → Ctx) : (s.onCtx c f).conflicts = s.conflicts := rfl
@[simp] theorem State.onCtx_flowsOff (f : Ctx → Ctx) : (s.onCtx c f).flowsOff = s.flowsOff := rfl
@[simp] theorem State.onCtx_faultQ (f : Ctx → Ctx) : (s.onCtx c f).faultQ = s.faultQ := rfl
@[simp] theorem State.onCtx_pageQ (f : Ctx → Ctx) : (s.onCtx c f).pageQ = s.pageQ := rfl
@[simp] theorem State.onCtx_held (f : Ctx → Ctx) : (s.onCtx c f).held = s.held := rfl
@[simp] theorem State.onCtx_lost (f : Ctx → Ctx) : (s.onCtx c f).lost = s.lost := rfl
@[simp] theorem State.onCtx_poolBase (f : Ctx → Ctx) : (s.onCtx c f).poolBase = s.poolBase := rfl
@[simp] theorem State.onCtx_poolSize (f : Ctx → Ctx) : (s.onCtx c f).poolSize = s.poolSize := rfl
@[simp] theorem State.onCtx_poolArmed (f : Ctx → Ctx) : (s.onCtx c f).poolArmed = s.poolArmed := rfl
@[simp] theorem State.onCtx_ansBase (f : Ctx → Ctx) : (s.onCtx c f).ansBase = s.ansBase := rfl
@[simp] theorem State.onCtx_ansCount (f : Ctx → Ctx) : (s.onCtx c f).ansCount = s.ansCount := rfl
@[simp] theorem State.onCtx_ansArmed (f : Ctx → Ctx) : (s.onCtx c f).ansArmed = s.ansArmed := rfl
@[simp] theorem State.onCtx_reqs (f : Ctx → Ctx) : (s.onCtx c f).reqs = s.reqs := rfl
@[simp] theorem State.onCtx_reqGens (f : Ctx → Ctx) : (s.onCtx c f).reqGens = s.reqGens := rfl
@[simp] theorem State.onCtx_reqCtx (f : Ctx → Ctx) : (s.onCtx c f).reqCtx = s.reqCtx := rfl
@[simp] theorem State.onCtx_answers (f : Ctx → Ctx) : (s.onCtx c f).answers = s.answers := rfl
@[simp] theorem State.onCtx_demoting (f : Ctx → Ctx) : (s.onCtx c f).demoting = s.demoting := rfl
@[simp] theorem State.onCtx_discarded (f : Ctx → Ctx) : (s.onCtx c f).discarded = s.discarded := rfl
@[simp] theorem State.onCtx_winStatus (f : Ctx → Ctx) : (s.onCtx c f).winStatus = s.winStatus := rfl
@[simp] theorem State.onCtx_ctxSel (f : Ctx → Ctx) : (s.onCtx c f).ctxSel = s.ctxSel := rfl
@[simp] theorem State.onCtx_bar2 (f : Ctx → Ctx) : (s.onCtx c f).bar2 = s.bar2 := rfl
@[simp] theorem State.onCtx_mbox (f : Ctx → Ctx) : (s.onCtx c f).mbox = s.mbox := rfl
@[simp] theorem State.onCtx_mwinBase (f : Ctx → Ctx) : (s.onCtx c f).mwinBase = s.mwinBase := rfl
@[simp] theorem State.onCtx_mwinSize (f : Ctx → Ctx) : (s.onCtx c f).mwinSize = s.mwinSize := rfl
@[simp] theorem State.onCtx_cxl (f : Ctx → Ctx) : (s.onCtx c f).cxl = s.cxl := rfl
@[simp] theorem State.onCtx_yieldDef (f : Ctx → Ctx) : (s.onCtx c f).yieldDef = s.yieldDef := rfl
@[simp] theorem State.onCtx_links (f : Ctx → Ctx) : (s.onCtx c f).links = s.links := rfl
@[simp] theorem State.onCtx_linkPol (f : Ctx → Ctx) : (s.onCtx c f).linkPol = s.linkPol := rfl
@[simp] theorem State.onCtx_eventPol (f : Ctx → Ctx) : (s.onCtx c f).eventPol = s.eventPol := rfl
@[simp] theorem State.onCtx_stopped (f : Ctx → Ctx) : (s.onCtx c f).stopped = s.stopped := rfl
@[simp] theorem State.onCtx_powered (f : Ctx → Ctx) : (s.onCtx c f).powered = s.powered := rfl
@[simp] theorem State.onCtx_bootStep (f : Ctx → Ctx) : (s.onCtx c f).bootStep = s.bootStep := rfl
@[simp] theorem State.onCtx_bootOut (f : Ctx → Ctx) : (s.onCtx c f).bootOut = s.bootOut := rfl
@[simp] theorem State.onCtx_msix (f : Ctx → Ctx) : (s.onCtx c f).msix = s.msix := rfl
@[simp] theorem State.onCtx_out (f : Ctx → Ctx) : (s.onCtx c f).out = s.out := rfl
@[simp] theorem State.onCtx_transit (f : Ctx → Ctx) : (s.onCtx c f).transit = s.transit := rfl
@[simp] theorem State.onCtx_replies (f : Ctx → Ctx) : (s.onCtx c f).replies = s.replies := rfl
@[simp] theorem State.onCtx_poison (f : Ctx → Ctx) : (s.onCtx c f).poison = s.poison := rfl
@[simp] theorem State.onCtx_ats (f : Ctx → Ctx) : (s.onCtx c f).ats = s.ats := rfl
@[simp] theorem State.onCtx_telemetry (f : Ctx → Ctx) : (s.onCtx c f).telemetry = s.telemetry := rfl
@[simp] theorem State.onCtx_loadFail (f : Ctx → Ctx) : (s.onCtx c f).loadFail = s.loadFail := rfl
@[simp] theorem State.onCtx_freeCtr (f : Ctx → Ctx) : (s.onCtx c f).freeCtr = s.freeCtr := rfl
@[simp] theorem State.onCtx_agenda (f : Ctx → Ctx) : (s.onCtx c f).agenda = s.agenda := rfl
@[simp] theorem State.onCtx_cur (f : Ctx → Ctx) : (s.onCtx c f).cur = s.cur := rfl
@[simp] theorem State.onCtx_slot (f : Ctx → Ctx) : (s.onCtx c f).slot = s.slot := rfl
@[simp] theorem State.onCtx_header (f : Ctx → Ctx) : (s.onCtx c f).header = s.header := rfl
@[simp] theorem State.onCtx_rotaAt (f : Ctx → Ctx) : (s.onCtx c f).rotaAt = s.rotaAt := rfl
@[simp] theorem State.onCtx_passed (f : Ctx → Ctx) : (s.onCtx c f).passed = s.passed := rfl
@[simp] theorem State.onCtx_barSize (f : Ctx → Ctx) : (s.onCtx c f).barSize = s.barSize := rfl
@[simp] theorem State.onCtx_firmware (f : Ctx → Ctx) : (s.onCtx c f).firmware = s.firmware := rfl
@[simp] theorem State.onCtx_vfs (f : Ctx → Ctx) : (s.onCtx c f).vfs = s.vfs := rfl
@[simp] theorem State.onCtx_vfTenant (f : Ctx → Ctx) : (s.onCtx c f).vfTenant = s.vfTenant := rfl
@[simp] theorem State.onCtx_unacked (f : Ctx → Ctx) : (s.onCtx c f).unacked = s.unacked := rfl
@[simp] theorem State.onCtx_hostOps (f : Ctx → Ctx) : (s.onCtx c f).hostOps = s.hostOps := rfl
@[simp] theorem State.onCtx_spdm (f : Ctx → Ctx) : (s.onCtx c f).spdm = s.spdm := rfl
@[simp] theorem State.onCtx_ide (f : Ctx → Ctx) : (s.onCtx c f).ide = s.ide := rfl
@[simp] theorem State.onCtx_bootPart (f : Ctx → Ctx) : (s.onCtx c f).bootPart = s.bootPart := rfl
@[simp] theorem State.onCtx_paths (f : Ctx → Ctx) : (s.onCtx c f).paths = s.paths := rfl
@[simp] theorem State.onCtx_aux (f : Ctx → Ctx) : (s.onCtx c f).aux = s.aux := rfl
@[simp] theorem State.onCtx_waiting (f : Ctx → Ctx) : (s.onCtx c f).waiting = s.waiting := rfl

@[simp] theorem State.core_setCtx (q : Nat) : (s.setCtx c x).core q = s.core q := rfl

@[simp] theorem State.ctx_setCore (d : Nat) : (s.setCore p k).ctx d = s.ctx d := rfl

@[simp] theorem State.core_onCtx (q : Nat) (f : Ctx → Ctx) : (s.onCtx c f).core q = s.core q := rfl

@[simp] theorem State.ctx_onCore (d : Nat) (f : Core → Core) : (s.onCore p f).ctx d = s.ctx d := rfl

/-- A core reads back as it was put. -/
@[simp] theorem State.core_setCore_self : (s.setCore p k).core p = k := Tab.get_set_self _ _ _ _

theorem State.core_setCore_ne {q : Nat} (h : q ≠ p) : (s.setCore p k).core q = s.core q := Tab.get_set_ne _ _ _ h

@[simp] theorem State.core_onCore_self (f : Core → Core) : (s.onCore p f).core p = f (s.core p) :=
  State.core_setCore_self _ _ _

theorem State.core_onCore_ne (f : Core → Core) {q : Nat} (h : q ≠ p) : (s.onCore p f).core q = s.core q :=
  State.core_setCore_ne _ _ _ h

/-- A context reads back as it was put. -/
@[simp] theorem State.ctx_setCtx_self : (s.setCtx c x).ctx c = x := Tab.get_set_self _ _ _ _

theorem State.ctx_setCtx_ne {d : Nat} (h : d ≠ c) : (s.setCtx c x).ctx d = s.ctx d := Tab.get_set_ne _ _ _ h

@[simp] theorem State.ctx_onCtx_self (f : Ctx → Ctx) : (s.onCtx c f).ctx c = f (s.ctx c) := State.ctx_setCtx_self _ _ _

theorem State.ctx_onCtx_ne (f : Ctx → Ctx) {d : Nat} (h : d ≠ c) : (s.onCtx c f).ctx d = s.ctx d :=
  State.ctx_setCtx_ne _ _ _ h

/-- Two changes of one core are one change. -/
@[simp] theorem State.onCore_onCore (f g : Core → Core) : (s.onCore p f).onCore p g = s.onCore p (fun k => g (f k)) := by
  simp [State.onCore, State.setCore, State.core]

/-- Two changes of one context are one change. -/
@[simp] theorem State.onCtx_onCtx (f g : Ctx → Ctx) : (s.onCtx c f).onCtx c g = s.onCtx c (fun k => g (f k)) := by
  simp [State.onCtx, State.setCtx, State.ctx]

/-- Changing cores and changing contexts commute. -/
theorem State.onCore_onCtx (f : Core → Core) (g : Ctx → Ctx) :
    (s.onCtx c g).onCore p f = (s.onCore p f).onCtx c g := rfl

end Sys2Proof.Machine
end

