-- ==== Sys2Proof/Laws/Issue.lean ====
section
/-!
SUPPORT. Laws/Issue.lean: exec of an instruction is the bundle that holds it alone; what that bundle does when nothing holds
it back; what an event does.
-/

namespace Sys2Proof.Machine

@[simp] theorem drawn_cores (s t : State) : (drawn s t).cores = t.cores := rfl
@[simp] theorem drawn_ctxs (s t : State) : (drawn s t).ctxs = t.ctxs := rfl
@[simp] theorem drawn_mem (s t : State) : (drawn s t).mem = t.mem := rfl
@[simp] theorem drawn_hostMem (s t : State) : (drawn s t).hostMem = t.hostMem := rfl
@[simp] theorem drawn_mgmtMem (s t : State) : (drawn s t).mgmtMem = t.mgmtMem := rfl
@[simp] theorem drawn_mboxMem (s t : State) : (drawn s t).mboxMem = t.mboxMem := rfl
@[simp] theorem drawn_tenants (s t : State) : (drawn s t).tenants = t.tenants := rfl
@[simp] theorem drawn_quotas (s t : State) : (drawn s t).quotas = t.quotas := rfl
@[simp] theorem drawn_owner (s t : State) : (drawn s t).owner = t.owner := rfl
@[simp] theorem drawn_rota (s t : State) : (drawn s t).rota = t.rota := rfl
@[simp] theorem drawn_rotaBank (s t : State) : (drawn s t).rotaBank = t.rotaBank := rfl
@[simp] theorem drawn_rotaPend (s t : State) : (drawn s t).rotaPend = t.rotaPend := rfl
@[simp] theorem drawn_rotaDone (s t : State) : (drawn s t).rotaDone = t.rotaDone := rfl
@[simp] theorem drawn_routes (s t : State) : (drawn s t).routes = t.routes := rfl
@[simp] theorem drawn_rstate (s t : State) : (drawn s t).rstate = t.rstate := rfl
@[simp] theorem drawn_rflight (s t : State) : (drawn s t).rflight = t.rflight := rfl
@[simp] theorem drawn_rsel (s t : State) : (drawn s t).rsel = t.rsel := rfl
@[simp] theorem drawn_keys (s t : State) : (drawn s t).keys = t.keys := rfl
@[simp] theorem drawn_marks (s t : State) : (drawn s t).marks = t.marks := rfl
@[simp] theorem drawn_cycle (s t : State) : (drawn s t).cycle = t.cycle := rfl
@[simp] theorem drawn_tickets (s t : State) : (drawn s t).tickets = t.tickets := rfl
@[simp] theorem drawn_l2 (s t : State) : (drawn s t).l2 = t.l2 := rfl
@[simp] theorem drawn_l2fill (s t : State) : (drawn s t).l2fill = t.l2fill := rfl
@[simp] theorem drawn_conflicts (s t : State) : (drawn s t).conflicts = t.conflicts := rfl
@[simp] theorem drawn_flowsOff (s t : State) : (drawn s t).flowsOff = t.flowsOff := rfl
@[simp] theorem drawn_faultQ (s t : State) : (drawn s t).faultQ = t.faultQ := rfl
@[simp] theorem drawn_pageQ (s t : State) : (drawn s t).pageQ = t.pageQ := rfl
@[simp] theorem drawn_held (s t : State) : (drawn s t).held = t.held := rfl
@[simp] theorem drawn_lost (s t : State) : (drawn s t).lost = t.lost := rfl
@[simp] theorem drawn_poolBase (s t : State) : (drawn s t).poolBase = t.poolBase := rfl
@[simp] theorem drawn_poolSize (s t : State) : (drawn s t).poolSize = t.poolSize := rfl
@[simp] theorem drawn_poolArmed (s t : State) : (drawn s t).poolArmed = t.poolArmed := rfl
@[simp] theorem drawn_ansBase (s t : State) : (drawn s t).ansBase = t.ansBase := rfl
@[simp] theorem drawn_ansCount (s t : State) : (drawn s t).ansCount = t.ansCount := rfl
@[simp] theorem drawn_ansArmed (s t : State) : (drawn s t).ansArmed = t.ansArmed := rfl
@[simp] theorem drawn_reqs (s t : State) : (drawn s t).reqs = t.reqs := rfl
@[simp] theorem drawn_reqGens (s t : State) : (drawn s t).reqGens = t.reqGens := rfl
@[simp] theorem drawn_reqCtx (s t : State) : (drawn s t).reqCtx = t.reqCtx := rfl
@[simp] theorem drawn_answers (s t : State) : (drawn s t).answers = t.answers := rfl
@[simp] theorem drawn_demoting (s t : State) : (drawn s t).demoting = t.demoting := rfl
@[simp] theorem drawn_discarded (s t : State) : (drawn s t).discarded = t.discarded := rfl
@[simp] theorem drawn_winStatus (s t : State) : (drawn s t).winStatus = t.winStatus := rfl
@[simp] theorem drawn_ctxSel (s t : State) : (drawn s t).ctxSel = t.ctxSel := rfl
@[simp] theorem drawn_bar2 (s t : State) : (drawn s t).bar2 = t.bar2 := rfl
@[simp] theorem drawn_mbox (s t : State) : (drawn s t).mbox = t.mbox := rfl
@[simp] theorem drawn_mwinBase (s t : State) : (drawn s t).mwinBase = t.mwinBase := rfl
@[simp] theorem drawn_mwinSize (s t : State) : (drawn s t).mwinSize = t.mwinSize := rfl
@[simp] theorem drawn_cxl (s t : State) : (drawn s t).cxl = t.cxl := rfl
@[simp] theorem drawn_yieldDef (s t : State) : (drawn s t).yieldDef = t.yieldDef := rfl
@[simp] theorem drawn_links (s t : State) : (drawn s t).links = t.links := rfl
@[simp] theorem drawn_linkPol (s t : State) : (drawn s t).linkPol = t.linkPol := rfl
@[simp] theorem drawn_eventPol (s t : State) : (drawn s t).eventPol = t.eventPol := rfl
@[simp] theorem drawn_stopped (s t : State) : (drawn s t).stopped = t.stopped := rfl
@[simp] theorem drawn_powered (s t : State) : (drawn s t).powered = t.powered := rfl
@[simp] theorem drawn_bootStep (s t : State) : (drawn s t).bootStep = t.bootStep := rfl
@[simp] theorem drawn_bootOut (s t : State) : (drawn s t).bootOut = t.bootOut := rfl
@[simp] theorem drawn_msix (s t : State) : (drawn s t).msix = t.msix := rfl
@[simp] theorem drawn_out (s t : State) : (drawn s t).out = t.out := rfl
@[simp] theorem drawn_transit (s t : State) : (drawn s t).transit = t.transit := rfl
@[simp] theorem drawn_replies (s t : State) : (drawn s t).replies = t.replies := rfl
@[simp] theorem drawn_poison (s t : State) : (drawn s t).poison = t.poison := rfl
@[simp] theorem drawn_ats (s t : State) : (drawn s t).ats = t.ats := rfl
@[simp] theorem drawn_telemetry (s t : State) : (drawn s t).telemetry = t.telemetry := rfl
@[simp] theorem drawn_loadFail (s t : State) : (drawn s t).loadFail = t.loadFail := rfl
@[simp] theorem drawn_agenda (s t : State) : (drawn s t).agenda = t.agenda := rfl
@[simp] theorem drawn_cur (s t : State) : (drawn s t).cur = t.cur := rfl
@[simp] theorem drawn_slot (s t : State) : (drawn s t).slot = t.slot := rfl
@[simp] theorem drawn_header (s t : State) : (drawn s t).header = t.header := rfl
@[simp] theorem drawn_rotaAt (s t : State) : (drawn s t).rotaAt = t.rotaAt := rfl
@[simp] theorem drawn_passed (s t : State) : (drawn s t).passed = t.passed := rfl
@[simp] theorem drawn_barSize (s t : State) : (drawn s t).barSize = t.barSize := rfl
@[simp] theorem drawn_firmware (s t : State) : (drawn s t).firmware = t.firmware := rfl
@[simp] theorem drawn_vfs (s t : State) : (drawn s t).vfs = t.vfs := rfl
@[simp] theorem drawn_vfTenant (s t : State) : (drawn s t).vfTenant = t.vfTenant := rfl
@[simp] theorem drawn_unacked (s t : State) : (drawn s t).unacked = t.unacked := rfl
@[simp] theorem drawn_hostOps (s t : State) : (drawn s t).hostOps = t.hostOps := rfl
@[simp] theorem drawn_spdm (s t : State) : (drawn s t).spdm = t.spdm := rfl
@[simp] theorem drawn_ide (s t : State) : (drawn s t).ide = t.ide := rfl
@[simp] theorem drawn_bootPart (s t : State) : (drawn s t).bootPart = t.bootPart := rfl
@[simp] theorem drawn_paths (s t : State) : (drawn s t).paths = t.paths := rfl
@[simp] theorem drawn_aux (s t : State) : (drawn s t).aux = t.aux := rfl
@[simp] theorem drawn_waiting (s t : State) : (drawn s t).waiting = t.waiting := rfl

@[simp] theorem drawn_freeCtr (s t : State) : (drawn s t).freeCtr = s.freeCtr + 1 := rfl

@[simp] theorem drawn_core (s t : State) (q : Nat) : (drawn s t).core q = t.core q := rfl

@[simp] theorem drawn_ctx (s t : State) (c : Nat) : (drawn s t).ctx c = t.ctx c := rfl

/-- An instruction is the bundle of its meaning (R74); only an event has no class of slots. -/
theorem exec_eq_issueOne (i : Instr) (s : State) (h : i.cls ≠ none) : exec i s = issueOne i (meaningOf i) s := by
  cases i <;> first | rfl | exact absurd rfl h

theorem finish_of_powered {s : State} (f : State → State) (h : s.powered = true) :
    finish s f = .next (drawn s (f s)) := by
  rw [finish, if_pos h]; rfl

/-- While the module is unpowered every meaning stops (R13). -/
theorem finish_of_unpowered {s : State} (f : State → State) (h : s.powered = false) :
    finish s f = .fault .unpowered := by simp [finish, h]

/-- If a meaning answers a next state, the module was powered and the state is that of its effect. -/
theorem finish_cases {s t : State} {f : State → State} (h : finish s f = .next t) :
    s.powered = true ∧ t = drawn s (f s) := by
  unfold finish at h
  split at h
  · exact ⟨‹_›, by injection h with h; exact h.symm⟩
  · exact absurd h (by simp)

/-- An event that is enabled takes place. -/
theorem happen_of_enabled {s : State} {e : State → Bool} (f : State → State) (h : s.powered = true) (he : e s = true) :
    happen e f s = .next (drawn s (f s)) := by
  rw [happen, finish_of_powered _ h]; simp [he]

/-- An event that is not enabled changes nothing. -/
theorem happen_of_disabled {s : State} {e : State → Bool} (f : State → State) (h : s.powered = true) (he : e s = false) :
    happen e f s = .next (drawn s s) := by
  rw [happen, finish_of_powered _ h]; simp [he]

/-- The decode checks of a bundle of one slot are those of its header and of its word (R51, R52). -/
theorem decodeFirst_single (s : State) (p : Nat) (h : W32) (x : SlotIn) :
    decodeFirst s p h [x] =
      match headerFails (s.core p) h [x] with
      | d :: _ => some (1, 5, d)
      | [] => (slotBad s p x).map (fun d => (2, x.k, d)) := by
  simp only [decodeFirst, pairFind, List.find?_nil, List.findSome?_cons, List.findSome?_nil]
  generalize headerFails (s.core p) h [x] = l
  cases l with
  | cons d r => rfl
  | nil => cases slotBad s p x <;> rfl

/-- A header that passes the checks of R51. -/
theorem headerFails_of_issues {s : State} {p k : Nat} (hi : Issues s p k) (x : SlotIn)
    (hp : x.m.port = true → headBe s.header = true) : headerFails (s.core p) s.header [x] = [] := by
  simp only [headerFails, hi.res, ne_eq, not_true_eq_false, if_false, List.nil_append, List.any_cons, List.any_nil,
    Bool.or_false, List.append_eq_nil_iff]
  refine ⟨⟨?_, ?_⟩, ?_⟩
  · rw [if_neg (fun hh => hh.2 (hi.be hh.1))]
  · rw [if_neg (fun hh => hi.le hh.1 hh.2)]
  · rw [if_neg (fun hh => by rw [hp hh.2] at hh; simp at hh)]

theorem commitAll_single (s0 : State) (env : Nat → Env) (x : SlotIn) (s : State) (h : x.m.rank ≤ 3) :
    commitAll s0 env [x] s = x.m.commit s0 (env x.k) s := by
  simp only [commitAll, commitRank, List.foldl_cons, List.foldl_nil]
  have : x.m.rank = 0 ∨ x.m.rank = 1 ∨ x.m.rank = 2 ∨ x.m.rank = 3 := by omega
  rcases this with h | h | h | h <;> simp [h]

/-- The bundle of one slot that nothing holds back commits: its effects take place and control moves on. -/
theorem issueCore_commits {s : State} {p k : Nat} {m : Meaning} (hi : Issues s p k) (hd : m.decode s p = none)
    (hp : m.port = true → Ported s p) (ha : m.acts s (.core p) = true)
    (hf : Settled s p (m.srcs (s.core p) ++ m.dests (s.core p)))
    (hr : m.ready s (soleEnv s p k m.pushes) = true) (hc : m.check s (soleEnv s p k m.pushes) = none)
    (hk : m.rank ≤ 3) :
    issueCore p s.header [{ k := k, bad := none, m := m }] s =
      retire p s.header (m.next s (soleEnv s p k m.pushes)) (m.commit s (soleEnv s p k m.pushes) s) := by
  have hh : headerFails (s.core p) s.header [{ k := k, bad := none, m := m }] = [] :=
    headerFails_of_issues hi _ (fun h => (hp h).1)
  have hdec : decodeFirst s p s.header [{ k := k, bad := none, m := m }] = none := by
    rw [decodeFirst_single, hh]; simp [slotBad, hd]
  have henv : coreEnv s p s.header [{ k := k, bad := none, m := m }] k = soleEnv s p k m.pushes := by
    simp [coreEnv, soleEnv]
  have haw : slotAwaits (s.core p) { k := k, bad := none, m := m } = false := by
    simp only [slotAwaits, Bool.or_eq_false_iff, List.any_eq_false, Bool.not_eq_true]
    exact ⟨fun d hd => hf d (List.mem_append_left _ hd), fun d hd => hf d (List.mem_append_right _ hd)⟩
  have hpt : (m.port && awaited (s.core p) (destS (headBs s.header))) = false := by
    cases hm : m.port with
    | false => rfl
    | true => simp [(hp hm).2]
  unfold issueCore
  rw [hdec]
  have hcm : commitAll s (coreEnv s p s.header [{ k := k, bad := none, m := m }]) [{ k := k, bad := none, m := m }] s
      = m.commit s (soleEnv s p k m.pushes) s := by
    rw [commitAll_single s _ { k := k, bad := none, m := m } s hk, henv]
  simp [ha, hi.goes, haw, hpt, henv, hr, hc, firstFail, hcm, nextOf]
  cases m.next s (soleEnv s p k m.pushes) <;> rfl

/-- The bundle of one slot whose guard turns it off: control moves on and nothing else changes (R53). -/
theorem issueCore_guarded {s : State} {p k : Nat} {m : Meaning} (hi : Issues s p k) (hd : m.decode s p = none)
    (hp : m.port = true → headBe s.header = true) (ha : m.acts s (.core p) = false) :
    issueCore p s.header [{ k := k, bad := none, m := m }] s = retire p s.header .fall s := by
  have hh : headerFails (s.core p) s.header [{ k := k, bad := none, m := m }] = [] := headerFails_of_issues hi _ hp
  have hdec : decodeFirst s p s.header [{ k := k, bad := none, m := m }] = none := by
    rw [decodeFirst_single, hh]; simp [slotBad, hd]
  unfold issueCore
  rw [hdec]
  simp [ha, hi.goes, firstFail, commitAll, commitRank, nextOf]

theorem slotOf_ok {i : Instr} (m : Meaning) (k : Nat) (hw : i.detail = none) (hs : i.streamOnly = false) :
    slotOf i m k = { k := k, bad := none, m := m } := by simp [slotOf, hw, hs]

/-- `issueOne` of a bundle of a core. -/
theorem issueOne_core {i : Instr} {m : Meaning} {s : State} {p k : Nat} (hi : Issues s p k) (hw : i.detail = none)
    (hs : i.streamOnly = false) :
    issueOne i m s = .next (drawn s (issueCore p s.header [{ k := k, bad := none, m := m }] s)) := by
  rw [issueOne, finish_of_powered _ hi.powered]
  simp only [issueFor, hi.cur, hi.slot, slotOf_ok m k hw hs]

/-- An instruction that nothing holds back commits. -/
theorem exec_commits {i : Instr} {s : State} {p k : Nat} (hcls : i.cls ≠ none) (hi : Issues s p k) (hw : i.detail = none)
    (hs : i.streamOnly = false) (hd : (meaningOf i).decode s p = none) (hp : (meaningOf i).port = true → Ported s p)
    (ha : (meaningOf i).acts s (.core p) = true)
    (hf : Settled s p ((meaningOf i).srcs (s.core p) ++ (meaningOf i).dests (s.core p)))
    (hr : (meaningOf i).ready s (soleEnv s p k (meaningOf i).pushes) = true)
    (hc : (meaningOf i).check s (soleEnv s p k (meaningOf i).pushes) = none) (hk : (meaningOf i).rank ≤ 3) :
    exec i s = .next (drawn s (retire p s.header ((meaningOf i).next s (soleEnv s p k (meaningOf i).pushes))
      ((meaningOf i).commit s (soleEnv s p k (meaningOf i).pushes) s))) := by
  rw [exec_eq_issueOne i s hcls, issueOne_core hi hw hs, issueCore_commits hi hd hp ha hf hr hc hk]

/-- An instruction whose guard turns it off does nothing (R53). -/
theorem exec_guarded {i : Instr} {s : State} {p k : Nat} (hcls : i.cls ≠ none) (hi : Issues s p k) (hw : i.detail = none)
    (hs : i.streamOnly = false) (hd : (meaningOf i).decode s p = none)
    (hp : (meaningOf i).port = true → headBe s.header = true) (ha : (meaningOf i).acts s (.core p) = false) :
    exec i s = .next (after s p id) := by
  rw [exec_eq_issueOne i s hcls, issueOne_core hi hw hs, issueCore_guarded hi hd hp ha]
  rfl

end Sys2Proof.Machine
end

