-- ==== Sys2Proof/Laws/Memory.lean ====
section
/-!
SUPPORT. Laws/Memory.lean: reads after writes, and that every operation over byte memory keeps its canonical form.
-/

namespace Sys2Proof.Machine

theorem Memory.empty_wf : Memory.empty.wf := ⟨List.Pairwise.nil, by simp [Memory.empty]⟩

@[simp] theorem Memory.empty_byte (k : Nat) : Memory.empty.byte k = 0 := rfl

@[simp] theorem Memory.setByte_undef (m : Memory) (k : Nat) (b : Byte) : (m.setByte k b).undef = m.undef := rfl

@[simp] theorem Memory.setByte_dflt (m : Memory) (k j : Nat) (b : Byte) : (m.setByte k b).dflt j = m.dflt j := rfl

/-- A byte reads as it was written. -/
@[simp] theorem Memory.byte_setByte_self (m : Memory) (k : Nat) (b : Byte) : (m.setByte k b).byte k = b := by
  unfold Memory.byte
  simp only [Memory.setByte_dflt]
  simp only [Memory.setByte]
  split
  · rename_i hx; split at hx <;> simp_all
  · rename_i hx
    split at hx
    · rename_i h; exact h.symm
    · simp at hx

/-- A write leaves every other byte alone. -/
theorem Memory.byte_setByte_ne (m : Memory) {k j : Nat} (b : Byte) (h : j ≠ k) : (m.setByte k b).byte j = m.byte j := by
  have hf : Tab.find (m.setByte k b).cells j = Tab.find m.cells j := by
    simp only [Memory.setByte]
    split
    · exact Tab.find_erase_ne _ h
    · exact Tab.find_set_ne _ _ h
  unfold Memory.byte
  rw [hf, Memory.setByte_dflt]

theorem Memory.byte_setByte (m : Memory) (k j : Nat) (b : Byte) :
    (m.setByte k b).byte j = if j = k then b else m.byte j := by
  split
  · subst_vars; simp
  · exact Memory.byte_setByte_ne m b ‹_›

/-- Writing a byte keeps the canonical form. -/
theorem Memory.setByte_wf {m : Memory} (h : m.wf) (k : Nat) (b : Byte) : (m.setByte k b).wf := by
  refine ⟨?_, fun c hc => ?_⟩
  · simp only [Memory.setByte]; split
    · exact Tab.sorted_filter h.1 _
    · exact Tab.sorted_set h.1 k b
  · simp only [Memory.setByte_dflt]
    simp only [Memory.setByte] at hc
    split at hc
    · exact h.2 c (List.mem_of_mem_filter hc)
    · rcases Tab.mem_set hc with hc | hc
      · subst hc; assumption
      · exact h.2 c hc

/-- Writing a value keeps the canonical form. -/
theorem Memory.write_wf {m : Memory} (h : m.wf) (k n v : Nat) : (m.write k n v).wf := by
  induction n generalizing m k v with
  | zero => exact h
  | succ n ih => exact ih (Memory.setByte_wf h k _) _ _

/-- The bytes outside a written range read as before. -/
theorem Memory.byte_write_out (m : Memory) {k n j : Nat} (v : Nat) (h : j < k ∨ k + n ≤ j) :
    (m.write k n v).byte j = m.byte j := by
  induction n generalizing m k v with
  | zero => rfl
  | succ n ih =>
    show (Memory.write _ (k + 1) n _).byte j = _
    rw [ih _ _ (by omega), Memory.byte_setByte_ne _ _ (by omega)]

/-- The bytes of a written range, least significant first. -/
theorem Memory.byte_write_in (m : Memory) {k n j : Nat} (v : Nat) (h : j < n) :
    (m.write k n v).byte (k + j) = BitVec.ofNat 8 (v / 256 ^ j) := by
  induction n generalizing m k j v with
  | zero => omega
  | succ n ih =>
    show (Memory.write _ (k + 1) n _).byte (k + j) = _
    cases j with
    | zero => rw [Memory.byte_write_out _ _ (by omega)]; simp
    | succ j =>
      rw [show k + (j + 1) = k + 1 + j by omega, ih _ _ (by omega), Nat.div_div_eq_div_mul, pow_succ, Nat.mul_comm]

/-- A read after a write of the same range gives the value, cut to its bytes. -/
theorem Memory.read_write (m : Memory) (k n v : Nat) : (m.write k n v).read k n = v % 256 ^ n := by
  induction n generalizing m k v with
  | zero => simp [Memory.read, Nat.mod_one]
  | succ n ih =>
    show ((Memory.write _ (k + 1) n _).byte k).toNat + 256 * Memory.read (Memory.write _ (k + 1) n _) (k + 1) n = _
    rw [ih, Memory.byte_write_out _ _ (by omega), Memory.byte_setByte_self, pow_succ, Nat.mul_comm (256 ^ n) 256,
      Nat.mod_mul]
    simp [BitVec.toNat_ofNat]

/-- Memories that agree on a range read the same there. -/
theorem Memory.read_congr {m m' : Memory} {k n : Nat} (h : ∀ j, k ≤ j → j < k + n → m.byte j = m'.byte j) :
    m.read k n = m'.read k n := by
  induction n generalizing k with
  | zero => rfl
  | succ n ih =>
    simp only [Memory.read]
    rw [h k (by omega) (by omega), ih (fun j h1 h2 => h j (by omega) (by omega))]

theorem undefByte_filter (l : List UndefRange) (q : UndefRange → Bool) (k : Nat)
    (h : ∀ r ∈ l, r.lo ≤ k ∧ k < r.hi → q r = true) : undefByte (l.filter q) k = undefByte l k := by
  induction l with
  | nil => rfl
  | cons r rs ih =>
    have ih := ih (fun x hx => h x (List.mem_cons_of_mem _ hx))
    by_cases hq : q r = true
    · simp [hq, undefByte, ih]
    · have : ¬(r.lo ≤ k ∧ k < r.hi) := fun hk => hq (h r (List.mem_cons_self ..) hk)
      simp [hq, undefByte, ih, this]

/-- Clearing a range keeps the canonical form. -/
theorem Memory.clear_wf {m : Memory} (h : m.wf) (lo hi : Nat) : (m.clear lo hi).wf := by
  refine ⟨Tab.sorted_filter h.1 _, fun c hc => ?_⟩
  have hc := List.mem_filter.mp hc
  have h2 := h.2 c hc.1
  have : (m.clear lo hi).dflt c.1 = m.dflt c.1 := by
    refine undefByte_filter _ _ _ (fun r _ hr => ?_)
    have := hc.2
    simp at this ⊢
    omega
  rwa [this]

/-- Making a range undefined keeps the canonical form. -/
theorem Memory.makeUndef_wf {m : Memory} (h : m.wf) (lo hi stamp : Nat) : (m.makeUndef lo hi stamp).wf := by
  refine ⟨Tab.sorted_filter h.1 _, fun c hc => ?_⟩
  have hc := List.mem_filter.mp hc
  have h2 := h.2 c hc.1
  have h3 := hc.2
  have : (m.makeUndef lo hi stamp).dflt c.1 = m.dflt c.1 := by
    show undefByte _ _ = undefByte _ _
    simp at h3
    simp only [Memory.makeUndef, undefByte]
    rw [if_neg (by omega)]
  rwa [this]

/-- Clearing a range leaves every byte outside it alone. -/
theorem Memory.byte_clear_out (m : Memory) {lo hi k : Nat} (h : k < lo ∨ hi ≤ k) : (m.clear lo hi).byte k = m.byte k := by
  unfold Memory.byte
  have h1 : Tab.find (m.clear lo hi).cells k = Tab.find m.cells k := by
    show Tab.find (Tab.eraseRange m.cells lo hi) k = _
    rw [Tab.find_eraseRange, if_neg (by omega)]
  have h2 : (m.clear lo hi).dflt k = m.dflt k := by
    refine undefByte_filter _ _ _ (fun r _ hr => ?_)
    simp; omega
  rw [h1, h2]

end Sys2Proof.Machine
end

