-- ==== Sys2Proof/Laws/Operands.lean ====
section
/-!
SUPPORT. Laws/Operands.lean: what a bundle of one instruction that sends one result leaves behind.
-/

namespace Sys2Proof.Machine

/-- A destination outside the accumulator. -/
def Dest.plain : Dest → Bool
  | .acc _ => false
  | _ => true

@[simp] theorem destS_plain (n : BitVec 6) : (destS n).plain = true := by unfold destS; split <;> rfl

@[simp] theorem destP_plain (c : Core) (n : BitVec 5) : (destP c n).plain = true := by unfold destP; split <;> rfl

@[simp] theorem destV_plain (c : Core) (n : BitVec 6) : (destV c n).plain = true := rfl

theorem addFlight_plain (c : Core) (f : Flight) (h : f.dest.plain = true) :
    addFlight c f = { c with flights := c.flights ++ [f] } := by
  unfold addFlight
  cases hd : f.dest <;> simp_all [Dest.plain]

/-- A result of a core's bundle joins those in flight. -/
theorem emit_core (s : State) (p k : Nat) (d : Dest) (x : Vec) (lat : Nat) (fl : Flags) (h : d.plain = true) :
    emit (.core p) k d x lat fl s = s.onCore p (sends s p k d x lat fl) := by
  unfold emit
  simp only [State.onCore]
  congr 1
  unfold sends
  split
  · rfl
  · rw [addFlight_plain _ _ h]; rfl

@[simp] theorem sends_pc (s : State) (p k : Nat) (d : Dest) (x : Vec) (lat : Nat) (fl : Flags) (c : Core) :
    (sends s p k d x lat fl c).pc = c.pc := by unfold sends; split <;> rfl

/-- A bundle that only changes its core and falls through. -/
theorem retire_fall (s : State) (p : Nat) (f : Core → Core) :
    drawn s (retire p s.header .fall (s.onCore p f)) = after s p f := by
  simp only [retire, State.onCore_onCore, after]
  rfl

/-- A bundle that only changes its core and transfers control. -/
theorem retire_jump (s : State) (p : Nat) (t : Int) (f : Core → Core) :
    drawn s (retire p s.header (.jump t) (s.onCore p f)) = afterTo s p t f := by
  simp only [retire, State.onCore_onCore, afterTo]
  rfl

/-- A bundle that falls through. -/
theorem retire_fall_all (s t : State) (p : Nat) (hc : t.cycle = s.cycle) :
    drawn s (retire p s.header .fall t) = afterAll s p t := by
  simp only [retire, afterAll, hc]
  rfl

/-- An instruction that writes one scalar register sends its result. -/
theorem exec_scalarWrite {i : Instr} {s : State} {p k : Nat} {acts : State → Agent → Bool} {d : BitVec 6}
    {srcs : List (BitVec 6)} {lat : Nat} {f : State → Env → W64 × Flags} (hcls : i.cls ≠ none)
    (hm : meaningOf i = scalarWrite acts d srcs lat f) (hi : Issues s p k) (hw : i.detail = none)
    (hs : i.streamOnly = false) (ha : acts s (.core p) = true) (hf : Settled s p (srcs.map destS ++ [destS d])) :
    exec i s = .next (givesS s p k d (f s (soleEnv s p k 0)).1 lat (f s (soleEnv s p k 0)).2) := by
  rw [exec_commits (p := p) (k := k) hcls hi hw hs] <;> rw [hm]
  · have : (scalarWrite acts d srcs lat f).commit s (soleEnv s p k 0) s =
        s.onCore p (sends s p k (destS d) (asVec (f s (soleEnv s p k 0)).1) lat (f s (soleEnv s p k 0)).2) :=
      emit_core s p k _ _ _ _ (destS_plain d)
    show Host.Outcome.next (drawn s (retire p s.header .fall _)) = _
    rw [show (scalarWrite acts d srcs lat f).pushes = 0 from rfl, this, retire_fall]
    rfl
  · rfl
  · exact fun h => absurd h (by simp [scalarWrite])
  · exact ha
  · exact hf
  · rfl
  · rfl
  · show 0 ≤ 3; omega

/-- An instruction that writes one predicate register sends its result. -/
theorem exec_predWrite {i : Instr} {s : State} {p k : Nat} {acts : State → Agent → Bool} {d : BitVec 5}
    {srcs : List (BitVec 6)} {f : State → Env → Pred} (hcls : i.cls ≠ none)
    (hm : meaningOf i = predWrite acts d srcs f) (hi : Issues s p k) (hw : i.detail = none)
    (hs : i.streamOnly = false) (ha : acts s (.core p) = true)
    (hf : Settled s p (srcs.map destS ++ [destP (s.core p) d])) :
    exec i s = .next (givesP s p k d (f s (soleEnv s p k 0)) 1) := by
  rw [exec_commits (p := p) (k := k) hcls hi hw hs] <;> rw [hm]
  · have : (predWrite acts d srcs f).commit s (soleEnv s p k 0) s =
        s.onCore p (sends s p k (destP (s.core p) d) (asVec (f s (soleEnv s p k 0))) 1 0) :=
      emit_core s p k _ _ _ _ (destP_plain _ d)
    show Host.Outcome.next (drawn s (retire p s.header .fall _)) = _
    rw [show (predWrite acts d srcs f).pushes = 0 from rfl, this, retire_fall]
    rfl
  · rfl
  · exact fun h => absurd h (by simp [predWrite])
  · exact ha
  · exact hf
  · rfl
  · rfl
  · show 0 ≤ 3; omega

end Sys2Proof.Machine
end

