-- ==== Sys2Proof/Laws/Ops.lean ====
section
/-!
SUPPORT. Laws/Ops.lean: what landing results and taking an exception do, and what they leave alone.
-/

namespace Sys2Proof.Machine

/-! ### Landing changes registers, sticky records and what was in flight, and nothing else -/

/-- The parts of a core that no landing of results changes. -/
structure Core.SameButLanded (c d : Core) : Prop where
  ctx : d.ctx = c.ctx
  lcore : d.lcore = c.lcore
  run : d.run = c.run
  pc : d.pc = c.pc
  seq : d.seq = c.seq
  steward : d.steward = c.steward
  trap : d.trap = c.trap
  board : d.board = c.board
  trapPend : d.trapPend = c.trapPend

theorem Core.SameButLanded.refl (c : Core) : Core.SameButLanded c c := ⟨rfl, rfl, rfl, rfl, rfl, rfl, rfl, rfl, rfl⟩

theorem Core.SameButLanded.trans {a b c : Core} (h : Core.SameButLanded a b) (g : Core.SameButLanded b c) :
    Core.SameButLanded a c :=
  ⟨g.ctx.trans h.ctx, g.lcore.trans h.lcore, g.run.trans h.run, g.pc.trans h.pc, g.seq.trans h.seq,
    g.steward.trans h.steward, g.trap.trans h.trap, g.board.trans h.board, g.trapPend.trans h.trapPend⟩

theorem writeDest_same (c : Core) (d : Dest) (x : Vec) : Core.SameButLanded c (writeDest c d x) := by
  cases d <;> exact ⟨rfl, rfl, rfl, rfl, rfl, rfl, rfl, rfl, rfl⟩

theorem landFlight_same (n : Nat) (c : Core) (f : Flight) : Core.SameButLanded c (landFlight n c f) := by
  unfold landFlight landFlags
  cases (f.late && Config.pick n f.dest.code % 2 == 1)
  · exact (writeDest_same c f.dest _).trans ⟨rfl, rfl, rfl, rfl, rfl, rfl, rfl, rfl, rfl⟩
  · exact ⟨rfl, rfl, rfl, rfl, rfl, rfl, rfl, rfl, rfl⟩

theorem landWhere_same (n : Nat) (due : Flight → Bool) (k : Nat) (c : Core) :
    Core.SameButLanded c (landWhere n due k c) := by
  induction k generalizing c with
  | zero => exact .refl c
  | succ k ih =>
    unfold landWhere
    split
    · exact .refl c
    · rename_i f _
      have h : Core.SameButLanded c { c with flights := c.flights.erase f } := ⟨rfl, rfl, rfl, rfl, rfl, rfl, rfl, rfl, rfl⟩
      exact (h.trans (landFlight_same n _ f)).trans (ih _)

theorem landLoomRow_same (n : Nat) (now : Option Vec) (c : Core) : Core.SameButLanded c (landLoomRow n now c) := by
  unfold landLoomRow
  split
  · exact .refl c
  · dsimp only
    split <;> exact ⟨rfl, rfl, rfl, rfl, rfl, rfl, rfl, rfl, rfl⟩

theorem landLoomAll_same (n k : Nat) (c : Core) : Core.SameButLanded c (landLoomAll n k c) := by
  induction k generalizing c with
  | zero => exact .refl c
  | succ k ih =>
    unfold landLoomAll
    split
    · exact .refl c
    · exact (landLoomRow_same n none c).trans (ih _)

theorem joinScales_same (l : List (BitVec 16)) (c : Core) : Core.SameButLanded c (joinScales l c) :=
  ⟨rfl, rfl, rfl, rfl, rfl, rfl, rfl, rfl, rfl⟩

theorem landScldAll_same (c : Core) : Core.SameButLanded c (landScldAll c) := by
  have h (l : List ScldJob) (k : Core) : Core.SameButLanded k (l.foldl (fun k (j : ScldJob) => joinScales j.scales k) k) := by
    induction l generalizing k with
    | nil => exact .refl k
    | cons j r ih => exact (joinScales_same j.scales k).trans (ih _)
  exact (h c.sclds c).trans ⟨rfl, rfl, rfl, rfl, rfl, rfl, rfl, rfl, rfl⟩

/-- The drain of R154 changes no PC, no sequencer state, no trap record and no outstanding access. -/
theorem landAll_same (n : Nat) (c : Core) : Core.SameButLanded c (landAll n c) := by
  unfold landAll
  exact ((landWhere_same n _ _ c).trans (landScldAll_same _)).trans (landLoomAll_same n _ _)

/-! ### Traps (R154) -/

/-- With no access outstanding a precise trap is taken at once. -/
theorem raise_taken {s : State} {p : Nat} (q : TrapReq) (hb : (s.core p).board = []) :
    drawn s (raise p q s) = trapped s p q := by
  unfold raise trapped
  have : ((s.onCore p (landAll s.freeCtr)).core p).board.isEmpty = true := by
    rw [State.core_onCore_self, (landAll_same _ _).board, hb]; rfl
  simp only [this, if_true]

/-- A bundle of one slot whose word or state fails decode takes its trap (R74 step 2). -/
theorem issueCore_badSlot {s : State} {p k d : Nat} {x : SlotIn} (hi : Issues s p k) (hx : x.k = k)
    (hp : x.m.port = true → headBe s.header = true) (hb : slotBad s p x = some d) (hbo : (s.core p).board = []) :
    drawn s (issueCore p s.header [x] s) =
      trapped s p { cause := 2, mask := 2 ^ k, slot := k, detail := d, addr := 0, arg := 0,
                    bundle := BitVec.ofInt 32 (s.core p).pc } := by
  have hh : headerFails (s.core p) s.header [x] = [] := headerFails_of_issues hi x hp
  have hdec : decodeFirst s p s.header [x] = some (2, k, d) := by
    rw [decodeFirst_single, hh]; simp [hb, hx]
  have hm : decodeMask s p s.header [x] = 2 ^ k := by
    simp [decodeMask, hh, pairMask, hb, hx]
  unfold issueCore
  rw [hdec]
  simp only [hm]
  exact raise_taken _ hbo

/-- A bundle of one slot whose issue-time check fails takes its trap (R74 step 5). -/
theorem issueCore_fails {s : State} {p k : Nat} {m : Meaning} {cause d : Nat} {addr : W64} {arg : W32} (hi : Issues s p k)
    (hd : m.decode s p = none) (hp : m.port = true → Ported s p) (ha : m.acts s (.core p) = true)
    (hf : Settled s p (m.srcs (s.core p) ++ m.dests (s.core p)))
    (hr : m.ready s (soleEnv s p k m.pushes) = true)
    (hc : m.check s (soleEnv s p k m.pushes) = some (.trap cause d addr arg)) (hbo : (s.core p).board = []) :
    drawn s (issueCore p s.header [{ k := k, bad := none, m := m }] s) =
      trapped s p { cause := cause, mask := 2 ^ k, slot := k, detail := d, addr := addr, arg := arg,
                    bundle := BitVec.ofInt 32 (s.core p).pc } := by
  have hh : headerFails (s.core p) s.header [{ k := k, bad := none, m := m }] = [] :=
    headerFails_of_issues hi _ (fun h => (hp h).1)
  have hdec : decodeFirst s p s.header [{ k := k, bad := none, m := m }] = none := by
    rw [decodeFirst_single, hh]; simp [slotBad, hd]
  have henv : coreEnv s p s.header [{ k := k, bad := none, m := m }] k = soleEnv s p k m.pushes := by
    simp [coreEnv, soleEnv]
  have haw : slotAwaits (s.core p) { k := k, bad := none, m := m } = false := by
    simp only [slotAwaits, Bool.or_eq_false_iff, List.any_eq_false, Bool.not_eq_true]
    exact ⟨fun d hd => hf d (List.mem_append_left _ hd), fun d hd => hf d (List.mem_append_right _ hd)⟩
  have hpt : (m.port && awaited (s.core p) (destS (headBs s.header))) = false := by
    cases hm : m.port with
    | false => rfl
    | true => simp [(hp hm).2]
  unfold issueCore
  rw [hdec]
  simp [ha, hi.goes, haw, hpt, henv, hr, hc, firstFail, failMask]
  exact raise_taken _ hbo

end Sys2Proof.Machine
end

