-- ==== Sys2Proof/Laws/PerInstr.lean ====
section
/-!
SUPPORT. Laws/PerInstr.lean: what holds of the syntax of every constructor of Instr, one lemma each: its word fits 32 bits,
and an event, which has no encoding, has the word 0.
-/

namespace Sys2Proof.Laws.Encoding

set_option Elab.async false

/-- A word of each format fits 32 bits when its opcode does (R55 to R58). -/
def Fits (w : Nat) : Prop := w < 2 ^ 32

theorem encSR_fits (op : Nat) (g : BitVec 5) (n : BitVec 1) (d : BitVec 6) (a : BitVec 6) (b : BitVec 6) (w : BitVec 1) (hop : op < 128) : Fits (encSR op g n d a b w) := by
  have := g.isLt
  have := n.isLt
  have := d.isLt
  have := a.isLt
  have := b.isLt
  have := w.isLt
  simp only [Fits, encSR]
  omega

theorem encSI_fits (op : Nat) (d : BitVec 6) (a : BitVec 6) (i : BitVec 13) (hop : op < 128) : Fits (encSI op d a i) := by
  have := d.isLt
  have := a.isLt
  have := i.isLt
  simp only [Fits, encSI]
  omega

theorem encSL_fits (op : Nat) (d : BitVec 6) (i : BitVec 19) (hop : op < 128) : Fits (encSL op d i) := by
  have := d.isLt
  have := i.isLt
  simp only [Fits, encSL]
  omega

theorem encSB_fits (op : Nat) (g : BitVec 5) (n : BitVec 1) (o : BitVec 19) (hop : op < 128) : Fits (encSB op g n o) := by
  have := g.isLt
  have := n.isLt
  have := o.isLt
  simp only [Fits, encSB]
  omega

theorem encSC_fits (op : Nat) (g : BitVec 5) (n : BitVec 1) (p : BitVec 5) (a : BitVec 6) (b : BitVec 6) (hop : op < 128) : Fits (encSC op g n p a b) := by
  have := g.isLt
  have := n.isLt
  have := p.isLt
  have := a.isLt
  have := b.isLt
  simp only [Fits, encSC]
  omega

theorem encPlog_fits (op : Nat) (p : BitVec 5) (x : BitVec 5) (y : BitVec 5) (t : BitVec 4) (hop : op < 128) : Fits (encPlog op p x y t) := by
  have := p.isLt
  have := x.isLt
  have := y.isLt
  have := t.isLt
  simp only [Fits, encPlog]
  omega

theorem encSK_fits (op : Nat) (d : BitVec 6) (a : BitVec 6) (k : BitVec 13) (hop : op < 128) : Fits (encSK op d a k) := by
  have := d.isLt
  have := a.isLt
  have := k.isLt
  simp only [Fits, encSK]
  omega

theorem encSW_fits (op : Nat) (e : BitVec 2) (h : BitVec 2) (f : BitVec 3) (a : BitVec 6) (hop : op < 128) : Fits (encSW op e h f a) := by
  have := e.isLt
  have := h.isLt
  have := f.isLt
  have := a.isLt
  simp only [Fits, encSW]
  omega

theorem encVR_fits (op : Nat) (g : BitVec 5) (d : BitVec 6) (a : BitVec 6) (b : BitVec 6) (f : BitVec 3) (hop : op < 64) : Fits (encVR op g d a b f) := by
  have := g.isLt
  have := d.isLt
  have := a.isLt
  have := b.isLt
  have := f.isLt
  simp only [Fits, encVR]
  omega

theorem encVC_fits (op : Nat) (g : BitVec 5) (p : BitVec 5) (a : BitVec 6) (b : BitVec 6) (f : BitVec 3) (hop : op < 64) : Fits (encVC op g p a b f) := by
  have := g.isLt
  have := p.isLt
  have := a.isLt
  have := b.isLt
  have := f.isLt
  simp only [Fits, encVC]
  omega

theorem encVX_fits (op : Nat) (g : BitVec 5) (d : BitVec 6) (a : BitVec 6) (s : BitVec 3) (t : BitVec 3) (r : BitVec 2) (u : BitVec 1) (hop : op < 64) : Fits (encVX op g d a s t r u) := by
  have := g.isLt
  have := d.isLt
  have := a.isLt
  have := s.isLt
  have := t.isLt
  have := r.isLt
  have := u.isLt
  simp only [Fits, encVX]
  omega

theorem encMV_fits (op : Nat) (g : BitVec 5) (v : BitVec 6) (a : BitVec 6) (i : BitVec 7) (e : BitVec 2) (hop : op < 64) : Fits (encMV op g v a i e) := by
  have := g.isLt
  have := v.isLt
  have := a.isLt
  have := i.isLt
  have := e.isLt
  simp only [Fits, encMV]
  omega

theorem encMG_fits (op : Nat) (g : BitVec 5) (v : BitVec 6) (a : BitVec 6) (i : BitVec 5) (r : BitVec 2) (c : BitVec 2) (hop : op < 64) : Fits (encMG op g v a i r c) := by
  have := g.isLt
  have := v.isLt
  have := a.isLt
  have := i.isLt
  have := r.isLt
  have := c.isLt
  simp only [Fits, encMG]
  omega

theorem encMS_fits (op : Nat) (g : BitVec 5) (d : BitVec 6) (o : BitVec 15) (hop : op < 64) : Fits (encMS op g d o) := by
  have := g.isLt
  have := d.isLt
  have := o.isLt
  simp only [Fits, encMS]
  omega

theorem encMA_fits (op : Nat) (g : BitVec 5) (d : BitVec 6) (a : BitVec 6) (b : BitVec 6) (o : BitVec 3) (hop : op < 64) : Fits (encMA op g d a b o) := by
  have := g.isLt
  have := d.isLt
  have := a.isLt
  have := b.isLt
  have := o.isLt
  simp only [Fits, encMA]
  omega

theorem encFence_fits (op : Nat) (s : BitVec 3) (c : BitVec 3) (k : BitVec 4) (hop : op < 64) : Fits (encFence op s c k) := by
  have := s.isLt
  have := c.isLt
  have := k.isLt
  simp only [Fits, encFence]
  omega

theorem encProbe_fits (op : Nat) (g : BitVec 5) (p : BitVec 5) (a : BitVec 6) (b : BitVec 6) (m : BitVec 4) (hop : op < 64) : Fits (encProbe op g p a b m) := by
  have := g.isLt
  have := p.isLt
  have := a.isLt
  have := b.isLt
  have := m.isLt
  simp only [Fits, encProbe]
  omega

theorem encX_fits (op : Nat) (h : BitVec 2) (s : BitVec 1) (g : BitVec 5) (a : BitVec 6) (b : BitVec 6) (i : BitVec 6) (hop : op < 64) : Fits (encX op h s g a b i) := by
  have := h.isLt
  have := s.isLt
  have := g.isLt
  have := a.isLt
  have := b.isLt
  have := i.isLt
  simp only [Fits, encX]
  omega

/-- What holds of an instruction as syntax. -/
def Statement (i : Instr) : Prop := Fits (encode i) ∧ (i.cls = none → encode i = 0)

theorem nop : Statement .nop := ⟨by simp [Fits, encode], fun _ => rfl⟩
theorem add g n d a b w : Statement (.add g n d a b w) := ⟨encSR_fits _ _ _ _ _ _ _ (by decide), fun h => by cases h⟩
theorem sub g n d a b w : Statement (.sub g n d a b w) := ⟨encSR_fits _ _ _ _ _ _ _ (by decide), fun h => by cases h⟩
theorem and g n d a b w : Statement (.and g n d a b w) := ⟨encSR_fits _ _ _ _ _ _ _ (by decide), fun h => by cases h⟩
theorem or g n d a b w : Statement (.or g n d a b w) := ⟨encSR_fits _ _ _ _ _ _ _ (by decide), fun h => by cases h⟩
theorem xor g n d a b w : Statement (.xor g n d a b w) := ⟨encSR_fits _ _ _ _ _ _ _ (by decide), fun h => by cases h⟩
theorem andn g n d a b w : Statement (.andn g n d a b w) := ⟨encSR_fits _ _ _ _ _ _ _ (by decide), fun h => by cases h⟩
theorem shl g n d a b w : Statement (.shl g n d a b w) := ⟨encSR_fits _ _ _ _ _ _ _ (by decide), fun h => by cases h⟩
theorem shr g n d a b w : Statement (.shr g n d a b w) := ⟨encSR_fits _ _ _ _ _ _ _ (by decide), fun h => by cases h⟩
theorem sra g n d a b w : Statement (.sra g n d a b w) := ⟨encSR_fits _ _ _ _ _ _ _ (by decide), fun h => by cases h⟩
theorem mul g n d a b w : Statement (.mul g n d a b w) := ⟨encSR_fits _ _ _ _ _ _ _ (by decide), fun h => by cases h⟩
theorem mulh g n d a b w : Statement (.mulh g n d a b w) := ⟨encSR_fits _ _ _ _ _ _ _ (by decide), fun h => by cases h⟩
theorem mulhn g n d a b w : Statement (.mulhn g n d a b w) := ⟨encSR_fits _ _ _ _ _ _ _ (by decide), fun h => by cases h⟩
theorem div g n d a b w : Statement (.div g n d a b w) := ⟨encSR_fits _ _ _ _ _ _ _ (by decide), fun h => by cases h⟩
theorem divn g n d a b w : Statement (.divn g n d a b w) := ⟨encSR_fits _ _ _ _ _ _ _ (by decide), fun h => by cases h⟩
theorem rem g n d a b w : Statement (.rem g n d a b w) := ⟨encSR_fits _ _ _ _ _ _ _ (by decide), fun h => by cases h⟩
theorem remn g n d a b w : Statement (.remn g n d a b w) := ⟨encSR_fits _ _ _ _ _ _ _ (by decide), fun h => by cases h⟩
theorem min g n d a b w : Statement (.min g n d a b w) := ⟨encSR_fits _ _ _ _ _ _ _ (by decide), fun h => by cases h⟩
theorem max g n d a b w : Statement (.max g n d a b w) := ⟨encSR_fits _ _ _ _ _ _ _ (by decide), fun h => by cases h⟩
theorem minn g n d a b w : Statement (.minn g n d a b w) := ⟨encSR_fits _ _ _ _ _ _ _ (by decide), fun h => by cases h⟩
theorem maxn g n d a b w : Statement (.maxn g n d a b w) := ⟨encSR_fits _ _ _ _ _ _ _ (by decide), fun h => by cases h⟩
theorem sel g n d a b w : Statement (.sel g n d a b w) := ⟨encSR_fits _ _ _ _ _ _ _ (by decide), fun h => by cases h⟩
theorem clz g n d a w : Statement (.clz g n d a w) := ⟨encSR_fits _ _ _ _ _ _ _ (by decide), fun h => by cases h⟩
theorem popc g n d a w : Statement (.popc g n d a w) := ⟨encSR_fits _ _ _ _ _ _ _ (by decide), fun h => by cases h⟩
theorem bfx g n d a b w : Statement (.bfx g n d a b w) := ⟨encSR_fits _ _ _ _ _ _ _ (by decide), fun h => by cases h⟩
theorem addi d a i : Statement (.addi d a i) := ⟨encSI_fits _ _ _ _ (by decide), fun h => by cases h⟩
theorem andi d a i : Statement (.andi d a i) := ⟨encSI_fits _ _ _ _ (by decide), fun h => by cases h⟩
theorem ori d a i : Statement (.ori d a i) := ⟨encSI_fits _ _ _ _ (by decide), fun h => by cases h⟩
theorem xori d a i : Statement (.xori d a i) := ⟨encSI_fits _ _ _ _ (by decide), fun h => by cases h⟩
theorem shli d a i : Statement (.shli d a i) := ⟨encSI_fits _ _ _ _ (by decide), fun h => by cases h⟩
theorem shri d a i : Statement (.shri d a i) := ⟨encSI_fits _ _ _ _ (by decide), fun h => by cases h⟩
theorem srai d a i : Statement (.srai d a i) := ⟨encSI_fits _ _ _ _ (by decide), fun h => by cases h⟩
theorem muli d a i : Statement (.muli d a i) := ⟨encSI_fits _ _ _ _ (by decide), fun h => by cases h⟩
theorem liu d i : Statement (.liu d i) := ⟨encSL_fits _ _ _ (by decide), fun h => by cases h⟩
theorem lih d i : Statement (.lih d i) := ⟨encSL_fits _ _ _ (by decide), fun h => by cases h⟩
theorem cmpeq g n p a b : Statement (.cmpeq g n p a b) := ⟨encSC_fits _ _ _ _ _ _ (by decide), fun h => by cases h⟩
theorem cmpne g n p a b : Statement (.cmpne g n p a b) := ⟨encSC_fits _ _ _ _ _ _ (by decide), fun h => by cases h⟩
theorem cmplt g n p a b : Statement (.cmplt g n p a b) := ⟨encSC_fits _ _ _ _ _ _ (by decide), fun h => by cases h⟩
theorem cmple g n p a b : Statement (.cmple g n p a b) := ⟨encSC_fits _ _ _ _ _ _ (by decide), fun h => by cases h⟩
theorem cmpltn g n p a b : Statement (.cmpltn g n p a b) := ⟨encSC_fits _ _ _ _ _ _ (by decide), fun h => by cases h⟩
theorem cmplen g n p a b : Statement (.cmplen g n p a b) := ⟨encSC_fits _ _ _ _ _ _ (by decide), fun h => by cases h⟩
theorem cmpbit g n p a b : Statement (.cmpbit g n p a b) := ⟨encSC_fits _ _ _ _ _ _ (by decide), fun h => by cases h⟩
theorem plog p x y t : Statement (.plog p x y t) := ⟨encPlog_fits _ _ _ _ _ (by decide), fun h => by cases h⟩
theorem pfrom g n p a b : Statement (.pfrom g n p a b) := ⟨encSC_fits _ _ _ _ _ _ (by decide), fun h => by cases h⟩
theorem pto g n d a w : Statement (.pto g n d a w) := ⟨encSR_fits _ _ _ _ _ _ _ (by decide), fun h => by cases h⟩
theorem br g n o : Statement (.br g n o) := ⟨encSB_fits _ _ _ _ (by decide), fun h => by cases h⟩
theorem call g n o : Statement (.call g n o) := ⟨encSB_fits _ _ _ _ (by decide), fun h => by cases h⟩
theorem jmp g n a : Statement (.jmp g n a) := ⟨encSR_fits _ _ _ _ _ _ _ (by decide), fun h => by cases h⟩
theorem loop a : Statement (.loop a) := ⟨encSI_fits _ _ _ _ (by decide), fun h => by cases h⟩
theorem loopi i : Statement (.loopi i) := ⟨encSL_fits _ _ _ (by decide), fun h => by cases h⟩
theorem loops a i : Statement (.loops a i) := ⟨encSI_fits _ _ _ _ (by decide), fun h => by cases h⟩
theorem lidx d i : Statement (.lidx d i) := ⟨encSI_fits _ _ _ _ (by decide), fun h => by cases h⟩
theorem lbrk g n : Statement (.lbrk g n) := ⟨encSR_fits _ _ _ _ _ _ _ (by decide), fun h => by cases h⟩
theorem halt : Statement .halt := ⟨encSR_fits _ _ _ _ _ _ _ (by decide), fun h => by cases h⟩
theorem trap i : Statement (.trap i) := ⟨encSL_fits _ _ _ (by decide), fun h => by cases h⟩
theorem tret i : Statement (.tret i) := ⟨encSL_fits _ _ _ (by decide), fun h => by cases h⟩
theorem krd d k : Statement (.krd d k) := ⟨encSK_fits _ _ _ _ (by decide), fun h => by cases h⟩
theorem kwr a k : Statement (.kwr a k) := ⟨encSK_fits _ _ _ _ (by decide), fun h => by cases h⟩
theorem shw e h f a : Statement (.shw e h f a) := ⟨encSW_fits _ _ _ _ _ (by decide), fun h => by cases h⟩
theorem shrd e h f a : Statement (.shrd e h f a) := ⟨encSW_fits _ _ _ _ _ (by decide), fun h => by cases h⟩
theorem exrd d i : Statement (.exrd d i) := ⟨encSI_fits _ _ _ _ (by decide), fun h => by cases h⟩
theorem exclr i : Statement (.exclr i) := ⟨encSI_fits _ _ _ _ (by decide), fun h => by cases h⟩
theorem cnrd d k : Statement (.cnrd d k) := ⟨encSK_fits _ _ _ _ (by decide), fun h => by cases h⟩
theorem cnclr k : Statement (.cnclr k) := ⟨encSK_fits _ _ _ _ (by decide), fun h => by cases h⟩
theorem pbeg i : Statement (.pbeg i) := ⟨encSI_fits _ _ _ _ (by decide), fun h => by cases h⟩
theorem pbega i : Statement (.pbega i) := ⟨encSI_fits _ _ _ _ (by decide), fun h => by cases h⟩
theorem padv : Statement .padv := ⟨encSR_fits _ _ _ _ _ _ _ (by decide), fun h => by cases h⟩
theorem pqry d : Statement (.pqry d) := ⟨encSI_fits _ _ _ _ (by decide), fun h => by cases h⟩
theorem pub a i : Statement (.pub a i) := ⟨encSI_fits _ _ _ _ (by decide), fun h => by cases h⟩
theorem pubd a : Statement (.pubd a) := ⟨encSI_fits _ _ _ _ (by decide), fun h => by cases h⟩
theorem pubg a : Statement (.pubg a) := ⟨encSI_fits _ _ _ _ (by decide), fun h => by cases h⟩
theorem waym a : Statement (.waym a) := ⟨encSI_fits _ _ _ _ (by decide), fun h => by cases h⟩
theorem keyset a b : Statement (.keyset a b) := ⟨encSR_fits _ _ _ _ _ _ _ (by decide), fun h => by cases h⟩
theorem keykill a : Statement (.keykill a) := ⟨encSI_fits _ _ _ _ (by decide), fun h => by cases h⟩
theorem mapld a i : Statement (.mapld a i) := ⟨encSI_fits _ _ _ _ (by decide), fun h => by cases h⟩
theorem launch a b : Statement (.launch a b) := ⟨encSR_fits _ _ _ _ _ _ _ (by decide), fun h => by cases h⟩
theorem taskw d a i : Statement (.taskw d a i) := ⟨encSI_fits _ _ _ _ (by decide), fun h => by cases h⟩
theorem grun d a i : Statement (.grun d a i) := ⟨encSI_fits _ _ _ _ (by decide), fun h => by cases h⟩
theorem gwait d a i : Statement (.gwait d a i) := ⟨encSI_fits _ _ _ _ (by decide), fun h => by cases h⟩
theorem patch a b : Statement (.patch a b) := ⟨encSR_fits _ _ _ _ _ _ _ (by decide), fun h => by cases h⟩
theorem mbxw d a i : Statement (.mbxw d a i) := ⟨encSI_fits _ _ _ _ (by decide), fun h => by cases h⟩
theorem vadd g d a b f : Statement (.vadd g d a b f) := ⟨encVR_fits _ _ _ _ _ _ (by decide), fun h => by cases h⟩
theorem vsub g d a b f : Statement (.vsub g d a b f) := ⟨encVR_fits _ _ _ _ _ _ (by decide), fun h => by cases h⟩
theorem vmul g d a b f : Statement (.vmul g d a b f) := ⟨encVR_fits _ _ _ _ _ _ (by decide), fun h => by cases h⟩
theorem vfma g d a b f : Statement (.vfma g d a b f) := ⟨encVR_fits _ _ _ _ _ _ (by decide), fun h => by cases h⟩
theorem vfms g d a b f : Statement (.vfms g d a b f) := ⟨encVR_fits _ _ _ _ _ _ (by decide), fun h => by cases h⟩
theorem vmin g d a b f : Statement (.vmin g d a b f) := ⟨encVR_fits _ _ _ _ _ _ (by decide), fun h => by cases h⟩
theorem vmax g d a b f : Statement (.vmax g d a b f) := ⟨encVR_fits _ _ _ _ _ _ (by decide), fun h => by cases h⟩
theorem vabs g d a f : Statement (.vabs g d a f) := ⟨encVR_fits _ _ _ _ _ _ (by decide), fun h => by cases h⟩
theorem vneg g d a f : Statement (.vneg g d a f) := ⟨encVR_fits _ _ _ _ _ _ (by decide), fun h => by cases h⟩
theorem vrcp g d a f : Statement (.vrcp g d a f) := ⟨encVR_fits _ _ _ _ _ _ (by decide), fun h => by cases h⟩
theorem vrsq g d a f : Statement (.vrsq g d a f) := ⟨encVR_fits _ _ _ _ _ _ (by decide), fun h => by cases h⟩
theorem vexp2 g d a f : Statement (.vexp2 g d a f) := ⟨encVR_fits _ _ _ _ _ _ (by decide), fun h => by cases h⟩
theorem vlog2 g d a f : Statement (.vlog2 g d a f) := ⟨encVR_fits _ _ _ _ _ _ (by decide), fun h => by cases h⟩
theorem vand g d a b f : Statement (.vand g d a b f) := ⟨encVR_fits _ _ _ _ _ _ (by decide), fun h => by cases h⟩
theorem vor g d a b f : Statement (.vor g d a b f) := ⟨encVR_fits _ _ _ _ _ _ (by decide), fun h => by cases h⟩
theorem vxor g d a b f : Statement (.vxor g d a b f) := ⟨encVR_fits _ _ _ _ _ _ (by decide), fun h => by cases h⟩
theorem vshl g d a b f : Statement (.vshl g d a b f) := ⟨encVR_fits _ _ _ _ _ _ (by decide), fun h => by cases h⟩
theorem vshr g d a b f : Statement (.vshr g d a b f) := ⟨encVR_fits _ _ _ _ _ _ (by decide), fun h => by cases h⟩
theorem vsra g d a b f : Statement (.vsra g d a b f) := ⟨encVR_fits _ _ _ _ _ _ (by decide), fun h => by cases h⟩
theorem vadds g d a b f : Statement (.vadds g d a b f) := ⟨encVR_fits _ _ _ _ _ _ (by decide), fun h => by cases h⟩
theorem vsubs g d a b f : Statement (.vsubs g d a b f) := ⟨encVR_fits _ _ _ _ _ _ (by decide), fun h => by cases h⟩
theorem vmov g d a f : Statement (.vmov g d a f) := ⟨encVR_fits _ _ _ _ _ _ (by decide), fun h => by cases h⟩
theorem vsel g d a b f : Statement (.vsel g d a b f) := ⟨encVR_fits _ _ _ _ _ _ (by decide), fun h => by cases h⟩
theorem vperm g d a b f : Statement (.vperm g d a b f) := ⟨encVR_fits _ _ _ _ _ _ (by decide), fun h => by cases h⟩
theorem vrsum g d a f : Statement (.vrsum g d a f) := ⟨encVR_fits _ _ _ _ _ _ (by decide), fun h => by cases h⟩
theorem vrmax g d a f : Statement (.vrmax g d a f) := ⟨encVR_fits _ _ _ _ _ _ (by decide), fun h => by cases h⟩
theorem vrmin g d a f : Statement (.vrmin g d a f) := ⟨encVR_fits _ _ _ _ _ _ (by decide), fun h => by cases h⟩
theorem vminn g d a b f : Statement (.vminn g d a b f) := ⟨encVR_fits _ _ _ _ _ _ (by decide), fun h => by cases h⟩
theorem vmaxn g d a b f : Statement (.vmaxn g d a b f) := ⟨encVR_fits _ _ _ _ _ _ (by decide), fun h => by cases h⟩
theorem vceq g p a b f : Statement (.vceq g p a b f) := ⟨encVC_fits _ _ _ _ _ _ (by decide), fun h => by cases h⟩
theorem vcne g p a b f : Statement (.vcne g p a b f) := ⟨encVC_fits _ _ _ _ _ _ (by decide), fun h => by cases h⟩
theorem vclt g p a b f : Statement (.vclt g p a b f) := ⟨encVC_fits _ _ _ _ _ _ (by decide), fun h => by cases h⟩
theorem vcle g p a b f : Statement (.vcle g p a b f) := ⟨encVC_fits _ _ _ _ _ _ (by decide), fun h => by cases h⟩
theorem vcltn g p a b f : Statement (.vcltn g p a b f) := ⟨encVC_fits _ _ _ _ _ _ (by decide), fun h => by cases h⟩
theorem vclen g p a b f : Statement (.vclen g p a b f) := ⟨encVC_fits _ _ _ _ _ _ (by decide), fun h => by cases h⟩
theorem vcvt g d a s t r u : Statement (.vcvt g d a s t r u) := ⟨encVX_fits _ _ _ _ _ _ _ _ (by decide), fun h => by cases h⟩
theorem vpack g d a s t r u : Statement (.vpack g d a s t r u) := ⟨encVX_fits _ _ _ _ _ _ _ _ (by decide), fun h => by cases h⟩
theorem vunpkl g d a s t r u : Statement (.vunpkl g d a s t r u) := ⟨encVX_fits _ _ _ _ _ _ _ _ (by decide), fun h => by cases h⟩
theorem vunpkh g d a s t r u : Statement (.vunpkh g d a s t r u) := ⟨encVX_fits _ _ _ _ _ _ _ _ (by decide), fun h => by cases h⟩
theorem vrotm g d a b f : Statement (.vrotm g d a b f) := ⟨encVR_fits _ _ _ _ _ _ (by decide), fun h => by cases h⟩
theorem vacr g d a s t r u : Statement (.vacr g d a s t r u) := ⟨encVX_fits _ _ _ _ _ _ _ _ (by decide), fun h => by cases h⟩
theorem vacw g d a s t r u : Statement (.vacw g d a s t r u) := ⟨encVX_fits _ _ _ _ _ _ _ _ (by decide), fun h => by cases h⟩
theorem vacc g d a s t r u : Statement (.vacc g d a s t r u) := ⟨encVX_fits _ _ _ _ _ _ _ _ (by decide), fun h => by cases h⟩
theorem vacz g d a s t : Statement (.vacz g d a s t) := ⟨encVX_fits _ _ _ _ _ _ _ _ (by decide), fun h => by cases h⟩
theorem ldv g v a i e : Statement (.ldv g v a i e) := ⟨encMV_fits _ _ _ _ _ _ (by decide), fun h => by cases h⟩
theorem stv g v a i e : Statement (.stv g v a i e) := ⟨encMV_fits _ _ _ _ _ _ (by decide), fun h => by cases h⟩
theorem lds g v a i : Statement (.lds g v a i) := ⟨encMV_fits _ _ _ _ _ _ (by decide), fun h => by cases h⟩
theorem sts g v a i : Statement (.sts g v a i) := ⟨encMV_fits _ _ _ _ _ _ (by decide), fun h => by cases h⟩
theorem spl g d o : Statement (.spl g d o) := ⟨encMS_fits _ _ _ _ (by decide), fun h => by cases h⟩
theorem fil g d o : Statement (.fil g d o) := ⟨encMS_fits _ _ _ _ (by decide), fun h => by cases h⟩
theorem spls g d o : Statement (.spls g d o) := ⟨encMS_fits _ _ _ _ (by decide), fun h => by cases h⟩
theorem fils g d o : Statement (.fils g d o) := ⟨encMS_fits _ _ _ _ (by decide), fun h => by cases h⟩
theorem bacq g a : Statement (.bacq g a) := ⟨encMV_fits _ _ _ _ _ _ (by decide), fun h => by cases h⟩
theorem brel g a : Statement (.brel g a) := ⟨encMV_fits _ _ _ _ _ _ (by decide), fun h => by cases h⟩
theorem ldg g v a i r c : Statement (.ldg g v a i r c) := ⟨encMG_fits _ _ _ _ _ _ _ (by decide), fun h => by cases h⟩
theorem stg g v a i r c : Statement (.stg g v a i r c) := ⟨encMG_fits _ _ _ _ _ _ _ (by decide), fun h => by cases h⟩
theorem prfg g a i r c : Statement (.prfg g a i r c) := ⟨encMG_fits _ _ _ _ _ _ _ (by decide), fun h => by cases h⟩
theorem ldgs g v a i r c : Statement (.ldgs g v a i r c) := ⟨encMG_fits _ _ _ _ _ _ _ (by decide), fun h => by cases h⟩
theorem stgs g v a i r c : Statement (.stgs g v a i r c) := ⟨encMG_fits _ _ _ _ _ _ _ (by decide), fun h => by cases h⟩
theorem probe g p a b m : Statement (.probe g p a b m) := ⟨encProbe_fits _ _ _ _ _ _ (by decide), fun h => by cases h⟩
theorem pstw g v a i : Statement (.pstw g v a i) := ⟨encMV_fits _ _ _ _ _ _ (by decide), fun h => by cases h⟩
theorem scld g a i : Statement (.scld g a i) := ⟨encMV_fits _ _ _ _ _ _ (by decide), fun h => by cases h⟩
theorem ald g d a o : Statement (.ald g d a o) := ⟨encMA_fits _ _ _ _ _ _ (by decide), fun h => by cases h⟩
theorem ast g a b o : Statement (.ast g a b o) := ⟨encMA_fits _ _ _ _ _ _ (by decide), fun h => by cases h⟩
theorem aadd g d a b o : Statement (.aadd g d a b o) := ⟨encMA_fits _ _ _ _ _ _ (by decide), fun h => by cases h⟩
theorem amin g d a b o : Statement (.amin g d a b o) := ⟨encMA_fits _ _ _ _ _ _ (by decide), fun h => by cases h⟩
theorem amax g d a b o : Statement (.amax g d a b o) := ⟨encMA_fits _ _ _ _ _ _ (by decide), fun h => by cases h⟩
theorem aminn g d a b o : Statement (.aminn g d a b o) := ⟨encMA_fits _ _ _ _ _ _ (by decide), fun h => by cases h⟩
theorem amaxn g d a b o : Statement (.amaxn g d a b o) := ⟨encMA_fits _ _ _ _ _ _ (by decide), fun h => by cases h⟩
theorem aand g d a b o : Statement (.aand g d a b o) := ⟨encMA_fits _ _ _ _ _ _ (by decide), fun h => by cases h⟩
theorem aor g d a b o : Statement (.aor g d a b o) := ⟨encMA_fits _ _ _ _ _ _ (by decide), fun h => by cases h⟩
theorem axchg g d a b o : Statement (.axchg g d a b o) := ⟨encMA_fits _ _ _ _ _ _ (by decide), fun h => by cases h⟩
theorem acas g d a b o : Statement (.acas g d a b o) := ⟨encMA_fits _ _ _ _ _ _ (by decide), fun h => by cases h⟩
theorem bara g a b o : Statement (.bara g a b o) := ⟨encMA_fits _ _ _ _ _ _ (by decide), fun h => by cases h⟩
theorem barw g a b o : Statement (.barw g a b o) := ⟨encMA_fits _ _ _ _ _ _ (by decide), fun h => by cases h⟩
theorem fence s c k : Statement (.fence s c k) := ⟨encFence_fits _ _ _ _ (by decide), fun h => by cases h⟩
theorem admitEntry g d a b o : Statement (.admitEntry g d a b o) := ⟨encMA_fits _ _ _ _ _ _ (by decide), fun h => by cases h⟩
theorem lmma h s g a b i : Statement (.lmma h s g a b i) := ⟨encX_fits _ _ _ _ _ _ _ (by decide), fun h => by cases h⟩
theorem lmmaz h s g a b i : Statement (.lmmaz h s g a b i) := ⟨encX_fits _ _ _ _ _ _ _ (by decide), fun h => by cases h⟩
theorem lmmar h s g a b i : Statement (.lmmar h s g a b i) := ⟨encX_fits _ _ _ _ _ _ _ (by decide), fun h => by cases h⟩
theorem ccpy h s g a b i : Statement (.ccpy h s g a b i) := ⟨encX_fits _ _ _ _ _ _ _ (by decide), fun h => by cases h⟩
theorem cgth h s g a b i : Statement (.cgth h s g a b i) := ⟨encX_fits _ _ _ _ _ _ _ (by decide), fun h => by cases h⟩
theorem csct h s g a b i : Statement (.csct h s g a b i) := ⟨encX_fits _ _ _ _ _ _ _ (by decide), fun h => by cases h⟩
theorem ctopk h s g a b i : Statement (.ctopk h s g a b i) := ⟨encX_fits _ _ _ _ _ _ _ (by decide), fun h => by cases h⟩
theorem cdrn g i : Statement (.cdrn g i) := ⟨encX_fits _ _ _ _ _ _ _ (by decide), fun h => by cases h⟩
theorem optu s g a b i : Statement (.optu s g a b i) := ⟨encX_fits _ _ _ _ _ _ _ (by decide), fun h => by cases h⟩
theorem pushix g a : Statement (.pushix g a) := ⟨encX_fits _ _ _ _ _ _ _ (by decide), fun h => by cases h⟩
theorem shsw h g i : Statement (.shsw h g i) := ⟨encX_fits _ _ _ _ _ _ _ (by decide), fun h => by cases h⟩
theorem ralloc g a b : Statement (.ralloc g a b) := ⟨encX_fits _ _ _ _ _ _ _ (by decide), fun h => by cases h⟩
theorem rload h s g a b i : Statement (.rload h s g a b i) := ⟨encX_fits _ _ _ _ _ _ _ (by decide), fun h => by cases h⟩
theorem rpin h s g a : Statement (.rpin h s g a) := ⟨encX_fits _ _ _ _ _ _ _ (by decide), fun h => by cases h⟩
theorem runpin h s g a : Statement (.runpin h s g a) := ⟨encX_fits _ _ _ _ _ _ _ (by decide), fun h => by cases h⟩
theorem rrev h s g a : Statement (.rrev h s g a) := ⟨encX_fits _ _ _ _ _ _ _ (by decide), fun h => by cases h⟩
theorem rqry g a b : Statement (.rqry g a b) := ⟨encX_fits _ _ _ _ _ _ _ (by decide), fun h => by cases h⟩
theorem bundleFetch p : Statement (.bundleFetch p) := ⟨by simp [Fits, encode], fun _ => rfl⟩
theorem preciseTrap p : Statement (.preciseTrap p) := ⟨by simp [Fits, encode], fun _ => rfl⟩
theorem resultLand p i : Statement (.resultLand p i) := ⟨by simp [Fits, encode], fun _ => rfl⟩
theorem scoreboardArrive p i r : Statement (.scoreboardArrive p i r) := ⟨by simp [Fits, encode], fun _ => rfl⟩
theorem loomRowLand p : Statement (.loomRowLand p) := ⟨by simp [Fits, encode], fun _ => rfl⟩
theorem loopEnd p : Statement (.loopEnd p) := ⟨by simp [Fits, encode], fun _ => rfl⟩
theorem waitCyclesExpire p : Statement (.waitCyclesExpire p) := ⟨by simp [Fits, encode], fun _ => rfl⟩
theorem safePointYield p : Statement (.safePointYield p) := ⟨by simp [Fits, encode], fun _ => rfl⟩
theorem remoteRefusalReturn p i st : Statement (.remoteRefusalReturn p i st) := ⟨by simp [Fits, encode], fun _ => rfl⟩
theorem remotePacketReceive k : Statement (.remotePacketReceive k) := ⟨by simp [Fits, encode], fun _ => rfl⟩
theorem resyncMarker dev c lc ch : Statement (.resyncMarker dev c lc ch) := ⟨by simp [Fits, encode], fun _ => rfl⟩
theorem scldAppend p : Statement (.scldAppend p) := ⟨by simp [Fits, encode], fun _ => rfl⟩
theorem engineRowLand p u j row r st : Statement (.engineRowLand p u j row r st) := ⟨by simp [Fits, encode], fun _ => rfl⟩
theorem engineComplete p u j st : Statement (.engineComplete p u j st) := ⟨by simp [Fits, encode], fun _ => rfl⟩
theorem lmmarRow p row r st : Statement (.lmmarRow p row r st) := ⟨by simp [Fits, encode], fun _ => rfl⟩
theorem pstwLand p i : Statement (.pstwLand p i) := ⟨by simp [Fits, encode], fun _ => rfl⟩
theorem rloadComplete p slot bad st : Statement (.rloadComplete p slot bad st) := ⟨by simp [Fits, encode], fun _ => rfl⟩
theorem rrevDrain p slot : Statement (.rrevDrain p slot) := ⟨by simp [Fits, encode], fun _ => rfl⟩
theorem pubdComplete p i : Statement (.pubdComplete p i) := ⟨by simp [Fits, encode], fun _ => rfl⟩
theorem mapldComplete c i img : Statement (.mapldComplete c i img) := ⟨by simp [Fits, encode], fun _ => rfl⟩
theorem reeveChunkCopy c item chunk : Statement (.reeveChunkCopy c item chunk) := ⟨by simp [Fits, encode], fun _ => rfl⟩
theorem phaseCommit c : Statement (.phaseCommit c) := ⟨by simp [Fits, encode], fun _ => rfl⟩
theorem pageDemote tier die : Statement (.pageDemote tier die) := ⟨by simp [Fits, encode], fun _ => rfl⟩
theorem pagePromote c page : Statement (.pagePromote c page) := ⟨by simp [Fits, encode], fun _ => rfl⟩
theorem pageRequest c item slot pool : Statement (.pageRequest c item slot pool) := ⟨by simp [Fits, encode], fun _ => rfl⟩
theorem pageAnswer slot : Statement (.pageAnswer slot) := ⟨by simp [Fits, encode], fun _ => rfl⟩
theorem faultRecordWrite : Statement .faultRecordWrite := ⟨by simp [Fits, encode], fun _ => rfl⟩
theorem taskDispatch c : Statement (.taskDispatch c) := ⟨by simp [Fits, encode], fun _ => rfl⟩
theorem gateOpen c i : Statement (.gateOpen c i) := ⟨by simp [Fits, encode], fun _ => rfl⟩
theorem taskEnd c i : Statement (.taskEnd c i) := ⟨by simp [Fits, encode], fun _ => rfl⟩
theorem bankStall p : Statement (.bankStall p) := ⟨by simp [Fits, encode], fun _ => rfl⟩
theorem streamThreadHalted c : Statement (.streamThreadHalted c) := ⟨by simp [Fits, encode], fun _ => rfl⟩
theorem saveCommand c : Statement (.saveCommand c) := ⟨by simp [Fits, encode], fun _ => rfl⟩
theorem saveRecordWrite c : Statement (.saveRecordWrite c) := ⟨by simp [Fits, encode], fun _ => rfl⟩
theorem yieldOverdue c : Statement (.yieldOverdue c) := ⟨by simp [Fits, encode], fun _ => rfl⟩
theorem restoreCommand c : Statement (.restoreCommand c) := ⟨by simp [Fits, encode], fun _ => rfl⟩
theorem endCommand c : Statement (.endCommand c) := ⟨by simp [Fits, encode], fun _ => rfl⟩
theorem contextLoad c tenant file : Statement (.contextLoad c tenant file) := ⟨by simp [Fits, encode], fun _ => rfl⟩
theorem mgmtDescribeCxl : Statement .mgmtDescribeCxl := ⟨by simp [Fits, encode], fun _ => rfl⟩
theorem mgmtLoadFirmware : Statement .mgmtLoadFirmware := ⟨by simp [Fits, encode], fun _ => rfl⟩
theorem mgmtReadTelemetry : Statement .mgmtReadTelemetry := ⟨by simp [Fits, encode], fun _ => rfl⟩
theorem mgmtTenantTeardown : Statement .mgmtTenantTeardown := ⟨by simp [Fits, encode], fun _ => rfl⟩
theorem mgmtSetMgmtWindow : Statement .mgmtSetMgmtWindow := ⟨by simp [Fits, encode], fun _ => rfl⟩
theorem mgmtBindSharedBase : Statement .mgmtBindSharedBase := ⟨by simp [Fits, encode], fun _ => rfl⟩
theorem mgmtUnknownCommand : Statement .mgmtUnknownCommand := ⟨by simp [Fits, encode], fun _ => rfl⟩
theorem hostRegisterWrite fn off size val : Statement (.hostRegisterWrite fn off size val) := ⟨by simp [Fits, encode], fun _ => rfl⟩
theorem tableStatusClear : Statement .tableStatusClear := ⟨by simp [Fits, encode], fun _ => rfl⟩
theorem hostCounterClear off : Statement (.hostCounterClear off) := ⟨by simp [Fits, encode], fun _ => rfl⟩
theorem rotaSwitchRequest : Statement .rotaSwitchRequest := ⟨by simp [Fits, encode], fun _ => rfl⟩
theorem rotaSwitch : Statement .rotaSwitch := ⟨by simp [Fits, encode], fun _ => rfl⟩
theorem routingSelect : Statement .routingSelect := ⟨by simp [Fits, encode], fun _ => rfl⟩
theorem routingValidate : Statement .routingValidate := ⟨by simp [Fits, encode], fun _ => rfl⟩
theorem routingRetire : Statement .routingRetire := ⟨by simp [Fits, encode], fun _ => rfl⟩
theorem hostBar2Load fn off size : Statement (.hostBar2Load fn off size) := ⟨by simp [Fits, encode], fun _ => rfl⟩
theorem hostBar2Write fn off size val : Statement (.hostBar2Write fn off size val) := ⟨by simp [Fits, encode], fun _ => rfl⟩
theorem hostAtomicop fn off op size x y : Statement (.hostAtomicop fn off op size x y) := ⟨by simp [Fits, encode], fun _ => rfl⟩
theorem atsInvalidate page : Statement (.atsInvalidate page) := ⟨by simp [Fits, encode], fun _ => rfl⟩
theorem flitTransmit l payload : Statement (.flitTransmit l payload) := ⟨by simp [Fits, encode], fun _ => rfl⟩
theorem flitReceive l f : Statement (.flitReceive l f) := ⟨by simp [Fits, encode], fun _ => rfl⟩
theorem laneFailure l lane : Statement (.laneFailure l lane) := ⟨by simp [Fits, encode], fun _ => rfl⟩
theorem linkRetrainDone l width : Statement (.linkRetrainDone l width) := ⟨by simp [Fits, encode], fun _ => rfl⟩
theorem linkCalibration l lanes : Statement (.linkCalibration l lanes) := ⟨by simp [Fits, encode], fun _ => rfl⟩
theorem supplyOutOfRange rail mv : Statement (.supplyOutOfRange rail mv) := ⟨by simp [Fits, encode], fun _ => rfl⟩
theorem coolantOutOfRange sensor v : Statement (.coolantOutOfRange sensor v) := ⟨by simp [Fits, encode], fun _ => rfl⟩
theorem scrub row bad : Statement (.scrub row bad) := ⟨by simp [Fits, encode], fun _ => rfl⟩
theorem memoryRefresh : Statement .memoryRefresh := ⟨by simp [Fits, encode], fun _ => rfl⟩
theorem telemetrySample sensor v : Statement (.telemetrySample sensor v) := ⟨by simp [Fits, encode], fun _ => rfl⟩
theorem cxlError src row poison : Statement (.cxlError src row poison) := ⟨by simp [Fits, encode], fun _ => rfl⟩
theorem powerOnReset b : Statement (.powerOnReset b) := ⟨by simp [Fits, encode], fun _ => rfl⟩
theorem loomAccept p : Statement (.loomAccept p) := ⟨by simp [Fits, encode], fun _ => rfl⟩
theorem acknowledgementReturn p i : Statement (.acknowledgementReturn p i) := ⟨by simp [Fits, encode], fun _ => rfl⟩
theorem hostReleaseStop : Statement .hostReleaseStop := ⟨by simp [Fits, encode], fun _ => rfl⟩
theorem hostLinkRetrain l : Statement (.hostLinkRetrain l) := ⟨by simp [Fits, encode], fun _ => rfl⟩
theorem contextUnload c : Statement (.contextUnload c) := ⟨by simp [Fits, encode], fun _ => rfl⟩

end Sys2Proof.Laws.Encoding
end

