-- ==== Sys2Proof/Laws/Places.lean ====
section
/-!
SUPPORT. Laws/Places.lean: what the choice of a place for a page, the room of a tier and the size of a window can answer.
-/

namespace Sys2Proof.Machine

/-- A tier below its high watermark with room is one not above it (R277, R283). -/
theorem hasRoom_of_roomBelow {s : State} {tier die : Nat} (h : roomBelow s tier die = true) : hasRoom s tier die = true := by
  simp only [roomBelow, hasRoom, Bool.and_eq_true, decide_eq_true_eq] at h ⊢
  exact ⟨h.1, Nat.le_of_lt h.2⟩

/-- Wherever a page is placed, the place is one that its map and key slot allow and that has room (R271, R283, R322). -/
theorem choosePlace_spec {s : State} {tenant page key : Nat} {wide : Bool} {q : Nat × Nat}
    (h : choosePlace s tenant wide page key = some q) :
    q ∈ placesFor s tenant wide page key ∧ hasRoom s q.1 q.2 = true := by
  simp only [choosePlace] at h
  split at h
  · next r hr =>
    cases h
    have hp := List.find?_some hr
    simp only [Bool.and_eq_true] at hp
    exact ⟨List.mem_of_find?_eq_some hr, hasRoom_of_roomBelow hp.2⟩
  · have hp := List.find?_some h
    exact ⟨List.mem_of_find?_eq_some h, hp⟩

/-- A page is not placed only where no place that its map and key slot allow has room. -/
theorem choosePlace_none {s : State} {tenant page key : Nat} {wide : Bool}
    (h : choosePlace s tenant wide page key = none) : ∀ q ∈ placesFor s tenant wide page key, hasRoom s q.1 q.2 = false := by
  simp only [choosePlace] at h
  split at h
  · cases h
  · intro q hq
    simpa using List.find?_eq_none.mp h q hq

/-- A page that may not go wide goes to HBM4E (R271). -/
theorem placesFor_tier {s : State} {tenant page key : Nat} {q : Nat × Nat} (h : q ∈ placesFor s tenant false page key) :
    q.1 = 0 := by
  simp only [placesFor, List.mem_flatten, List.mem_map] at h
  obtain ⟨l, ⟨t, ht, rfl⟩, hq⟩ := h
  simp only [List.mem_filter, Bool.false_eq_true, if_false, List.mem_singleton] at ht
  obtain ⟨d, -, rfl⟩ := List.mem_map.mp hq
  exact ht.1

/-- A tier that holds one more page holds fewer than its capacity (R10). -/
theorem usedPages_lt_of_fits {s : State} {tier die n : Nat} (h : fits s tier die = true) (hn : tierPages s tier = some n) :
    usedPages s tier die < n := by
  simpa [fits, hn] using h

/-- The window of a function is 1 GiB to 512 GiB (R338). -/
theorem windowSize_bounds (s : State) (fn : Nat) : 2 ^ 30 ≤ windowSize s fn ∧ windowSize s fn ≤ 2 ^ 39 := by
  have := Nat.mod_lt (Tab.get 0 s.barSize fn) (by omega : 0 < 10)
  exact ⟨Nat.pow_le_pow_right (by omega) (by omega), Nat.pow_le_pow_right (by omega) (by omega)⟩

end Sys2Proof.Machine
end

