-- ==== Sys2Proof/Tests/Slice0.lean ====
section
/-!
SUPPORT. Tests/Slice0.lean: the author's own tests: ill-formed terms that the check refuses, words of the manual decoded, single
steps on small states, and for each statement a concrete state that meets its hypotheses.
-/

namespace Sys2Proof.Tests

open Sys2Proof.Machine

set_option Elab.async false

/-! ### Ill-formed terms (R60): one for each limit -/

theorem test_wf_shift_above_63 : (Instr.shli 1 2 64).wf = false ∧ (Instr.srai 1 2 63).wf = true := by decide
theorem test_wf_pto_register_above_31 : (Instr.pto 0 0 1 32 0).wf = false ∧ (Instr.pto 0 0 1 31 0).wf = true := by decide
theorem test_wf_loops_stages_above_15 : (Instr.loops 1 16).wf = false ∧ (Instr.loops 1 15).wf = true := by decide
theorem test_wf_lidx_level_above_5 : (Instr.lidx 1 6).wf = false ∧ (Instr.lidx 1 5).wf = true := by decide
theorem test_wf_tret_above_1 : (Instr.tret 2).wf = false ∧ (Instr.tret 1).wf = true := by decide
theorem test_wf_shape_engine_3 : (Instr.shw 3 0 0 1).wf = false ∧ (Instr.shrd 3 0 0 1).wf = false ∧
    (Instr.shw 2 3 7 1).wf = true := by decide
theorem test_wf_exchange_engine_3 : (Instr.shsw 0 0 3).wf = false ∧ (Instr.shsw 0 0 2).wf = true := by decide
theorem test_wf_record_number : (Instr.exrd 1 5).wf = false ∧ (Instr.exclr 6).wf = false ∧ (Instr.exclr 5).wf = true := by decide
theorem test_wf_phase_above_15 : (Instr.pbeg 16).wf = false ∧ (Instr.pbega 16).wf = false ∧ (Instr.mapld 1 16).wf = false ∧
    (Instr.mapld 1 15).wf = true := by decide
theorem test_wf_vector_formats : (Instr.vadd 0 1 2 3 3).wf = false ∧ (Instr.vshl 0 1 2 3 3).wf = false ∧
    (Instr.vneg 0 1 2 7).wf = false ∧ (Instr.vrcp 0 1 2 3).wf = false ∧ (Instr.vperm 0 1 2 3 6).wf = false ∧
    (Instr.vadd 0 1 2 3 4).wf = true := by decide
theorem test_wf_conversion_widths : (Instr.vcvt 0 1 2 0 1 0 0).wf = false ∧ (Instr.vpack 0 1 2 0 0 0 0).wf = false ∧
    (Instr.vunpkl 0 1 2 0 1 0 0).wf = false ∧ (Instr.vacr 0 1 2 1 0 0 0).wf = false ∧ (Instr.vpack 0 1 2 0 1 0 0).wf = true := by
  decide
theorem test_wf_full_empty_code_3 : (Instr.ldv 0 1 2 0 3).wf = false ∧ (Instr.stv 0 1 2 0 2).wf = false ∧
    (Instr.ldv 0 1 2 0 2).wf = true := by decide
theorem test_wf_spill_offset : (Instr.spl 0 1 8192).wf = false ∧ (Instr.fils 0 1 8191).wf = true := by decide
theorem test_wf_routing_class_3 : (Instr.ldg 0 1 2 0 3 0).wf = false ∧ (Instr.stgs 0 1 2 0 3 0).wf = false ∧
    (Instr.prfg 0 2 0 2 0).wf = true := by decide
theorem test_wf_order_codes : (Instr.aadd 0 1 2 3 7).wf = false ∧ (Instr.ald 0 1 2 4).wf = false ∧
    (Instr.ast 0 2 3 3).wf = false ∧ (Instr.barw 0 2 3 1).wf = false ∧ (Instr.aadd 0 1 2 3 6).wf = true := by decide
theorem test_wf_fence_scope_4 : (Instr.fence 4 0 0).wf = false ∧ (Instr.fence 3 7 15).wf = true := by decide
theorem test_wf_probe_modes : (Instr.probe 0 1 2 3 0).wf = false ∧ (Instr.probe 0 1 2 3 8).wf = false ∧
    (Instr.probe 0 1 2 3 7).wf = true := by decide
theorem test_wf_engine_immediates : (Instr.lmma 0 0 0 1 2 2).wf = false ∧ (Instr.ccpy 0 0 0 0 2 8).wf = false ∧
    (Instr.cgth 0 0 0 1 2 4).wf = false ∧ (Instr.cdrn 0 4).wf = false ∧ (Instr.optu 0 0 1 2 1).wf = false ∧
    (Instr.lmma 0 0 0 1 2 63).wf = true := by decide
theorem test_wf_mailbox_wait : (Instr.mbxw 1 2 2).wf = false ∧ (Instr.mbxw 1 2 1).wf = true := by decide

/-! ### Words of the manual, decoded (R55 to R68) -/

theorem test_decode_scalar :
    decodeWord .scalar 0x0200828C = .ok (.add 0 0 4 5 6 0) ∧ decodeWord .scalar 0x6060AC00 = .ok (.liu 12 0xAC00) ∧
    decodeWord .scalar 0x62600246 = .ok (.lih 12 0x246) := by decide
theorem test_decode_control :
    decodeWord .scalar 0x92000005 = .ok (.trap 5) ∧ decodeWord .scalar 0x94000001 = .ok (.tret 1) := by decide
theorem test_decode_registers :
    decodeWord .scalar 0xAC280820 = .ok (.cnrd 5 0x820) ∧ decodeWord .scalar 0xAE000801 = .ok (.cnclr 0x801) ∧
    decodeWord .scalar 0xAA000003 = .ok (.exclr 3) ∧ decodeWord .scalar 0xA8A80003 = .ok (.exrd 21 3) := by decide
theorem test_decode_phases :
    decodeWord .scalar 0xC0000002 = .ok (.pbeg 2) ∧ decodeWord .scalar 0xC2000000 = .ok (.pbega 0) ∧
    decodeWord .scalar 0xC4000000 = .ok .padv ∧ decodeWord .scalar 0xC6280000 = .ok (.pqry 5) ∧
    decodeWord .scalar 0xD4014003 = .ok (.mapld 10 3) := by decide
theorem test_decode_publications :
    decodeWord .scalar 0xC802A000 = .ok (.pub 21 0) ∧ decodeWord .scalar 0xCC028000 = .ok (.pubg 20) ∧
    decodeWord .scalar 0xCA02A000 = .ok (.pubd 21) ∧ decodeWord .scalar 0xCE012000 = .ok (.waym 9) ∧
    decodeWord .scalar 0xD2014000 = .ok (.keykill 10) := by decide
theorem test_decode_stream :
    decodeWord .scalar 0xE0000200 = .ok (.launch 4 0) ∧ decodeWord .scalar 0xE2008000 = .ok (.taskw 0 4 0) ∧
    decodeWord .scalar 0xE428C000 = .ok (.grun 5 6 0) ∧ decodeWord .scalar 0xE638C000 = .ok (.gwait 7 6 0) ∧
    decodeWord .scalar 0xE800030E = .ok (.patch 6 7) ∧ decodeWord .scalar 0xEA412001 = .ok (.mbxw 8 9 1) := by decide
theorem test_decode_memory :
    decodeWord .mem 0x40641401 = .ok (.ldg 3 8 10 0 0 1) ∧ decodeWord .mem 0x600228B3 = .ok (.probe 0 2 10 11 3) ∧
    decodeWord .mem 0x24001600 = .ok (.bacq 0 11) ∧ decodeWord .mem 0x08041401 = .ok (.stv 0 8 10 0 1) := by decide
theorem test_decode_atomics :
    decodeWord .mem 0x880A145C = .ok (.aadd 0 20 10 11 4) ∧ decodeWord .mem 0xA80A145E = .ok (.acas 0 20 10 11 6) ∧
    decodeWord .mem 0xB57A0000 = .ok (.fence 2 7 10) ∧ decodeWord .mem 0xAC00145C = .ok (.bara 0 10 11 4) ∧
    decodeWord .mem 0xB0001463 = .ok (.barw 0 10 12 3) ∧ decodeWord .mem 0xC00A1458 = .ok (.admitEntry 0 20 10 11 0) := by decide
theorem test_decode_displacement :
    decodeWord .mem 0x04049402 = .ok (.ldv 0 9 10 0 2) ∧ decodeWord .mem 0x040495FC = .ok (.ldv 0 9 10 127 0) := by decide
theorem test_decode_vector :
    decodeWord .vec 0x040517F8 = .ok (.vadd 0 10 11 63 0) ∧ decodeWord .vec 0xB00491FF = .ok (.vrotm 0 9 8 63 7) ∧
    decodeWord .vec 0xA40F2E19 = .ok (.vpack 0 30 23 0 3 0 1) := by decide
theorem test_decode_engines :
    decodeWord .eng 0x08814540 = .ok (.lmmaz 0 1 0 20 21 0) ∧ decodeWord .eng 0x20814544 = .ok (.ccpy 0 1 0 20 21 4) := by decide
theorem test_decode_rejects :
    decodeWord .scalar 1 = .error 1 ∧ decodeWord .scalar 0xFE000000 = .error 2 ∧ decodeWord .scalar 0xC4000001 = .error 3 ∧
    decodeWord .scalar 0x48081040 = .error 4 ∧ decodeSlot .scalar 0xE0000200 = .error 6 := by decide

/-! ### A small state: core 0 runs a task of context 0 -/

/-- The regions of the small context: 0 writable, 1 read only, 2 absent, 3 the code. -/
def smallRegions : Tab (BitVec 128) :=
  [(0, regEntry 0x10000 0x10000 false false), (1, regEntry 0x20000 0x10000 false false),
   (2, regEntry 0x30000 0x10000 false false), (3, regEntry codeBase 0x10000 true false)]

/-- A map that gives region 0 read and write, region 1 read. -/
def smallMap : Tab (BitVec 128) :=
  [(0, mapEntryOf { map := 0, region := 0, place := 2, entry := 0, access := 2, cow := false, watch := false, key := 0, tag := 0 }),
   (1, mapEntryOf { map := 0, region := 1, place := 2, entry := 0, access := 1, cow := false, watch := false, key := 0, tag := 0 })]

/-- A running context with those regions, two maps, and buffer 7 published: a row at 1_0000h, its back at 1_1000h. -/
def smallCtx : Ctx :=
  { Ctx.zero with
    state := 1, split := 16, regions := smallRegions, maps := [(0, smallMap), (1, smallMap)], mapCount := 2
    buffers := [(7, bufEntryOf { tag := 7, published := true, front := 0x18000, back := 0x19000, size := 512 })]
    vectors := [(2, 40), (10, 50)] }

/-- A core of that context at bundle 5. -/
def smallCore : Core :=
  { Core.zero with ctx := some 0, run := .running, task := 1, pc := 5
                   s := [(4, 7), (5, 9), (6, 0x10000), (7, 0x20008), (8, 0x30000), (10, 0x7000), (11, 1)] }

/-- The state in which core 0 is to issue slot `k` of a bundle with that header. -/
def small (k : Nat) (h : W32) : State :=
  { State.reset with cores := [(0, smallCore)], ctxs := [(0, smallCtx)], cycle := 100, slot := k, header := h }

/-- The small state with its core changed. -/
def withCore (k : Nat) (f : Core → Core) : State := (small k 0).onCore 0 f

/-- The small state with its context changed. -/
def withCtx (k : Nat) (f : Ctx → Ctx) : State := (small k 0).onCtx 0 f

theorem plain_header : headRes 0 = 0 ∧ headLe 0 = false ∧ headBe 0 = false ∧ headBs 0 = 0 := by decide

/-- A state whose header is zero issues the bundle of its slot. -/
theorem issues_of {s : State} {p k : Nat} (hp : s.powered = true) (hg : s.stopped = false) (hc : s.cur = .core p)
    (hk : s.slot = k) (hh : s.header = 0) : Issues s p k :=
  ⟨hp, hg, hc, hk, by rw [hh]; exact plain_header.1, (by rw [hh, plain_header.2.1]; intro h; cases h),
    (by rw [hh]; exact fun _ => plain_header.2.2.2)⟩

theorem issues_small (k : Nat) : Issues (small k 0) 0 k := issues_of rfl rfl rfl rfl rfl
theorem issues_withCore (k : Nat) (f : Core → Core) : Issues (withCore k f) 0 k := issues_of rfl rfl rfl rfl rfl
theorem issues_withCtx (k : Nat) (f : Ctx → Ctx) : Issues (withCtx k f) 0 k := issues_of rfl rfl rfl rfl rfl

theorem settled_of {s : State} {p : Nat} {l : List Dest} (h : l.all (fun d => !awaited (s.core p) d) = true) : Settled s p l := by
  intro d hd
  simpa using List.all_eq_true.mp h d hd

/-! ### Single steps -/

/-- What a step leaves of one read-out; the default when it does not answer a next state. -/
def left {α : Type} (o : Host.Outcome State Fault Refusal) (d : α) (f : State → α) : α :=
  match o with
  | .next t => f t
  | _ => d

theorem test_add_sends_the_sum :
    left (exec (.add 0 0 1 4 5 0) (small 0 0)) [] (fun t => (t.core 0).flights.map (fun f => (f.dest, f.val.toNat, f.due)))
      = [(.s 1, 16, 101)] := by decide +kernel
theorem test_sub_wraps :
    left (exec (.sub 0 0 1 4 5 0) (small 0 0)) [] (fun t => (t.core 0).flights.map (fun f => f.val.toNat))
      = [2 ^ 64 - 2] := by decide +kernel
theorem test_division_by_zero_raises_its_flag :
    left (exec (.div 0 0 1 4 9 0) (small 0 0)) [] (fun t => (t.core 0).flights.map (fun f => (f.val.toNat, f.due, f.flags != 0)))
      = [(2 ^ 64 - 1, 120, true)] := by decide +kernel
theorem test_branch_back :
    left (exec (.br 0 0 (-3)) (small 0 0)) 0 (fun t => (t.core 0).pc) = 2 := by decide +kernel
theorem test_trap_takes_the_vector :
    left (exec (.trap 5) (small 0 0)) (0, false, 0) (fun t => ((t.core 0).pc, (t.core 0).steward, (t.core 0).trap.cause.toNat))
      = (50, true, 10) := by decide +kernel
theorem test_scratchpad_store :
    left (exec (.stv 0 8 10 0 1) (withCore 2 (fun c => { c with
      s := [(10, 0x8000000000001000)], v := [(8, 77)], banks := [(0, { state := .owned, task := 1, held := 1 })] }))) (0, 0)
      (fun t => ((Tab.get (0 : Vec) (t.core 0).spad 8).toNat, (Tab.get (0 : W32) (t.core 0).fullEmpty 8).toNat))
      = (77, 2 ^ 32 - 1) := by decide +kernel
theorem test_global_store_is_staged :
    left (exec (.stgs 0 4 6 0 0 0) (small 2 0)) ([], 1) (fun t => ((t.ctx 0).staged.map (fun g => (g.va, g.writer)),
      (t.mem.byte 0x10000).toNat)) = ([(0x10000, 1)], 0) := by decide +kernel
theorem test_vector_add_integers :
    left (exec (.vadd 0 1 2 3 4) (withCore 3 (fun c => { c with v := [(2, 5), (3, 0xFFFFFFFF)] }))) []
      (fun t => (t.core 0).flights.map (fun f => f.val.toNat)) = [4] := by decide +kernel

/-! ### Witnesses: a state and operands that meet the hypotheses of each statement -/

/-! ### States that meet the hypotheses of the statements -/

theorem witness_RegisterArithmeticResults :
    Issues (small 0 0) 0 0 ∧ guardN 0 0 (small 0 0) (.core 0) = true ∧ Settled (small 0 0) 0 [destS 4, destS 5, destS 1] :=
  ⟨issues_small 0, by decide +kernel, settled_of (by decide +kernel)⟩

theorem witness_DivisionAndSelectResults :
    Issues (small 1 0) 0 1 ∧ guardN 0 0 (small 1 0) (.core 0) = true ∧ Settled (small 1 0) 0 [destS 4, destS 9, destS 1] ∧
    readS (small 1 0) 0 9 = 0 ∧ guardN 1 0 (small 1 0) (.core 0) = false ∧ Settled (small 1 0) 0 [destS 4, destS 1] :=
  ⟨issues_small 1, by decide +kernel, settled_of (by decide +kernel), by decide +kernel, by decide +kernel,
    settled_of (by decide +kernel)⟩

theorem witness_ImmediateAndConstantResults :
    Issues (small 0 0) 0 0 ∧ Settled (small 0 0) 0 [destS 4, destS 0] ∧ (63 : BitVec 13).toNat < 64 ∧
    Settled (small 0 0) 0 [destS 0] :=
  ⟨issues_small 0, settled_of (by decide +kernel), by decide, settled_of (by decide +kernel)⟩

theorem witness_ComparesAndPredicates :
    let s := small 0 0
    Issues s 0 0 ∧ guardN 0 0 s (.core 0) = true ∧ Settled s 0 [destS 4, destS 5, destP (s.core 0) 31] ∧
    Settled s 0 [destS 1] ∧ (31 : BitVec 6).toNat < 32 ∧ Settled s 0 [destP (s.core 0) 0] ∧ guardN 0 1 s (.core 0) = false :=
  ⟨issues_small 0, by decide +kernel, settled_of (by decide +kernel), settled_of (by decide +kernel), by decide,
    settled_of (by decide +kernel), by decide +kernel⟩

theorem witness_FalseGuardDoesNothing :
    guardOf (.ldg 1 2 6 0 0 0) = some (1, 0) ∧ (Instr.ldg 1 2 6 0 0 0).wf = true ∧ Issues (small 2 0) 0 2 ∧
    needsPort (.ldg 1 2 6 0 0 0) = false ∧ (readP (small 2 0) 0 1).getLsbD 0 = ((0 : BitVec 1) == 1) :=
  ⟨by decide, by decide, issues_small 2, by decide, by decide +kernel⟩

theorem witness_BundlesAndDecodeChecks :
    (Instr.shli 1 2 64).detail = some 4 ∧ Issues (small 0 0) 0 0 ∧ needsPort (.shli 1 2 64) = false ∧
    ((small 0 0).core 0).board = [] ∧ ((small 0 0).core 0).steward = false ∧
    ((Instr.add 0 0 1 2 3 0).cls ≠ none ∧ (Instr.add 0 0 1 2 3 0).wf = true ∧ (Instr.add 0 0 1 2 3 0).streamOnly = false ∧
      stateChecked (.add 0 0 1 2 3 0) = false) ∧
    headRes (small 0 1).header ≠ 0 ∧
    (headRes (small 0 0x800000).header = 0 ∧ headBe (small 0 0x800000).header = false ∧ headBs (small 0 0x800000).header ≠ 0) ∧
    (headRes (small 0 0x40000000).header = 0 ∧ headBs (small 0 0x40000000).header = 0 ∧
      headLe (small 0 0x40000000).header = true ∧ ((small 0 0x40000000).core 0).seq.loops = []) ∧
    (headRes (small 3 0).header = 0 ∧ headLe (small 3 0).header = false ∧ headBe (small 3 0).header = false ∧
      needsPort (.vadd 0 1 2 63 0) = true) :=
  ⟨by decide, issues_small 0, by decide, by decide +kernel⟩

/-- Core 0 is to take its turn on the bundle of a header and five words. -/
def bundled (h : W32) (w : List W32) : State :=
  { small 0 0 with
    agenda := [.core 0], owner := [(0, 0x8000)], cores := [(0, { smallCore with pc := 0 })]
    ctxs := [(0, { smallCtx with code := h :: w })] }

/-- The state in which that bundle issues. -/
def issuing (h : W32) (w : List W32) : State :=
  let v := startTurn 0 (popTurn (bundled h w))
  v.onCore 0 (holdBundle v.freeCtr)

/-- What makes it the bundle of core 0's turn, with a good header and nothing outstanding. -/
def issuesNow (h : W32) (w : List W32) : Bool :=
  coreReady (popTurn (bundled h w)) 0 && !mayYield (startTurn 0 (popTurn (bundled h w))) 0 &&
  (let u := issuing h w
   decide (0 ≤ (u.core 0).pc) && decide ((u.core 0).pc.toNat < (u.ctx (u.ctxOf 0)).code.length / 6) &&
   decide ((u.ctx (u.ctxOf 0)).code.getD (6 * (u.core 0).pc.toNat) 0 = h) &&
   (List.range 5).all (fun k => (u.ctx (u.ctxOf 0)).code.getD (6 * (u.core 0).pc.toNat + (k + 1)) 0 == w.getD k 0) &&
   (u.core 0).board == [] && !(u.core 0).steward && !u.stopped)

theorem bundles_of {h : W32} {w : List W32} (hi : issuesNow h w = true) :
    Bundles (bundled h w) 0 h (fun k => w.getD k 0) (issuing h w) := by
  simp only [issuesNow, Bool.and_eq_true, decide_eq_true_eq, List.all_eq_true, List.mem_range, beq_iff_eq, Bool.not_eq_true'] at hi
  exact ⟨rfl, rfl, hi.1.1, rfl, hi.1.2, ⟨hi.2.1.1.1.1.1.1, hi.2.1.1.1.1.1.2⟩, hi.2.1.1.1.1.2, fun k hk => hi.2.1.1.1.2 k hk⟩

theorem goodHead_of {u : State} : GoodHead u 0 0 :=
  ⟨plain_header.1, fun _ => plain_header.2.2.2, fun h => absurd h (by rw [plain_header.2.1]; decide)⟩

/-- An opcode of no instruction of the X slot, and a word of LMMA's that no operands of it encode to. -/
theorem witness_BundlesAndDecodeChecks_words :
    ((1 : Nat) ≠ 0 ∧ 1 < 2 ^ 25) ∧ (∀ i : Instr, i.cls = some .eng → encode i / 2 ^ 26 ≠ (63 * 2 ^ 26) / 2 ^ 26) ∧
    ((∃ i : Instr, i.cls = some .eng ∧ encode i / 2 ^ 26 = (0x0C * 2 ^ 26 + 2 ^ 6) / 2 ^ 26) ∧
      (∀ i : Instr, i.cls = some .eng → encode i ≠ 0x0C * 2 ^ 26 + 2 ^ 6)) ∧
    (Instr.add 0 0 4 5 6 0).cls = some .scalar ∧ (Instr.shli 1 2 64).detail = some 4 := by
  refine ⟨by decide, ?_, ⟨⟨.cdrn 0 0, rfl, by decide⟩, ?_⟩, rfl, by decide⟩ <;>
  · intro i h
    cases i <;> first
      | (cases h; done)
      | (simp only [encode, encX]; omega)

/-- ADD, XOR, TRAP, SHW, PROBE, LDV as words. -/
theorem witness_BundlesAndDecodeChecks_bundles :
    let nop : W32 := 0
    let add : W32 := BitVec.ofNat 32 (encode (.add 0 0 9 5 6 0))
    let xor (d : BitVec 6) : W32 := BitVec.ofNat 32 (encode (.xor 0 0 d 5 6 0))
    let trap : W32 := BitVec.ofNat 32 (encode (.trap 5))
    let shw : W32 := BitVec.ofNat 32 (encode (.shw 0 0 0 4))
    let probe : W32 := BitVec.ofNat 32 (encode (.probe 0 2 8 11 1))
    let ldv : W32 := BitVec.ofNat 32 (encode (.ldv 0 8 6 0 0))
    (∀ w ∈ [[(1 : W32), 0, 0, 0, 0], [1, 1, 0, 0, 0], [add, xor 9, nop, nop, nop], [add, xor 7, nop, nop, nop], [trap, trap, nop, nop, nop],
        [shw, shw, nop, nop, nop], [trap, nop, probe, nop, nop], [trap, nop, ldv, nop, nop], [add, trap, nop, nop, nop]],
      issuesNow 0 w = true) ∧
    issuesNow 0x800000 [1, 0, 0, 0, 0] = true ∧ headRes (1 : W32) ≠ 0 ∧ issuesNow 1 [1, 0, 0, 0, 0] = true ∧
    decodeSlot (slotClass 0) (1 : W32).toNat = .error 1 ∧ decodeSlot (slotClass 1) (1 : W32).toNat = .error 1 ∧
    decodeSlot .scalar add.toNat = .ok (.add 0 0 9 5 6 0) ∧ decodeSlot .scalar (xor 9).toNat = .ok (.xor 0 0 9 5 6 0) ∧
    decodeSlot .scalar trap.toNat = .ok (.trap 5) ∧ decodeSlot .scalar shw.toNat = .ok (.shw 0 0 0 4) ∧
    decodeSlot .mem probe.toNat = .ok (.probe 0 2 8 11 1) ∧ decodeSlot .mem ldv.toNat = .ok (.ldv 0 8 6 0 0) ∧
    isTransfer (.trap 5) = true ∧ needsPort (.trap 5) = false ∧ needsPort (.add 0 0 9 5 6 0) = false ∧
    (let u := issuing 0 [add, xor 9, nop, nop, nop]
     destS 9 ≠ Dest.none ∧ destS 9 ∈ (meaningOf (.add 0 0 9 5 6 0)).dests (u.core 0) ∧
     destS 9 ∈ (meaningOf (.xor 0 0 9 5 6 0)).dests (u.core 0) ∧ (meaningOf (.trap 5)).dests (u.core 0) = []) ∧
    (∀ i ∈ [Instr.probe 0 2 8 11 1, .ldv 0 8 6 0 0],
      let u := issuing 0 [trap, nop, BitVec.ofNat 32 (encode i), nop, nop]
      let e : Env := { agent := .core 0, slot := 2, port := portValue u 0 0, pushed := (meaningOf i).pushes }
      (meaningOf i).acts u (.core 0) = true ∧
      ((meaningOf i).srcs (u.core 0) ++ (meaningOf i).dests (u.core 0)).all (fun d => !awaited (u.core 0) d) = true ∧
      (meaningOf i).ready u e = true ∧ ((meaningOf i).check u e).isSome = true) ∧
    (let u := issuing 0 [add, xor 7, nop, nop, nop]
     [destS 5, destS 6, destS 7, destS 9].all (fun d => !awaited (u.core 0) d) = true ∧ guardN 0 0 u (.core 0) = true) := by
  decide +kernel

/-- A source of ADD is awaited. -/
theorem witness_BundlesAndDecodeChecks_waiting :
    let s := (bundled 0 [BitVec.ofNat 32 (encode (.add 0 0 9 5 6 0)), 0, 0, 0, 0]).onCore 0 (fun c => { c with board := [
      { kind := .ldgs, dest := .s 5, addr := 0x10000, addr2 := 0, x := 0, y := 0, oc := 0, rc := 0, remote := false, mask := 0,
        own := 0, sent := false, issue := 90, slot := 2, bundle := 4 }] })
    let v := startTurn 0 (popTurn s)
    awaited ((v.onCore 0 (holdBundle v.freeCtr)).core 0) (destS 5) = true ∧ coreReady (popTurn s) 0 = true ∧ mayYield v 0 = false := by
  decide +kernel

theorem witness_TransfersAndHalt :
    let s := small 1 0
    Issues s 0 1 ∧ guardN 0 0 s (.core 0) = true ∧ Settled s 0 [.s 62] ∧ Settled s 0 [destS 4] :=
  ⟨issues_small 1, by decide +kernel, settled_of (by decide +kernel), settled_of (by decide +kernel)⟩

/-- A loop entry. -/
def entry (count index : Nat) (stg : Bool) : LoopEntry :=
  { start := 3, count := BitVec.ofNat 32 count, index := BitVec.ofNat 33 index, ep := 0, stg := stg }

/-- The small state with loops on the stack. -/
def looped (l : List LoopEntry) : State := withCore 0 (fun c => { c with lePend := true, seq := { c.seq with loops := l } })

theorem witness_LoopPushesEndsAndBreaks :
    (Issues (looped (List.replicate 5 (entry 4 0 false))) 0 0 ∧
      ((looped (List.replicate 5 (entry 4 0 false))).core 0).seq.loops.length < 6 ∧
      Settled (looped (List.replicate 5 (entry 4 0 false))) 0 [destS 4]) ∧
    (Issues (looped (List.replicate 6 (entry 4 0 false))) 0 0 ∧
      6 ≤ ((looped (List.replicate 6 (entry 4 0 false))).core 0).seq.loops.length ∧
      ((looped (List.replicate 6 (entry 4 0 false))).core 0).board = [] ∧
      ((looped (List.replicate 6 (entry 4 0 false))).core 0).steward = false) ∧
    (∀ st : Bool, ((looped [entry 2 0 st]).core 0).lePend = true ∧ ((looped [entry 2 0 st]).core 0).seq.loops = entry 2 0 st :: [] ∧
      (entry 2 0 st).index.toNat + 1 < max ((entry 2 0 st).count.toNat + (entry 2 0 st).ep.toNat) 1) ∧
    ¬((entry 2 1 false).index.toNat + 1 < max ((entry 2 1 false).count.toNat + (entry 2 1 false).ep.toNat) 1) :=
  ⟨⟨issues_withCore 0 _, by decide +kernel, settled_of (by decide +kernel)⟩,
    ⟨issues_withCore 0 _, by decide +kernel, by decide +kernel, by decide +kernel⟩, by decide +kernel, by decide +kernel⟩

theorem witness_LoopPushesEndsAndBreaks_index :
    (Issues (looped [entry 2 0 false]) 0 0 ∧ guardN 0 0 (looped [entry 2 0 false]) (.core 0) = true ∧
      ((looped [entry 2 0 false]).core 0).seq.loops ≠ [] ∧ Settled (looped [entry 2 0 false]) 0 [destS 1] ∧
      (5 : BitVec 13).toNat < 6) ∧
    (guardN 0 0 (small 0 0) (.core 0) = true ∧ ((small 0 0).core 0).seq.loops = [] ∧ ((small 0 0).core 0).board = [] ∧
      ((small 0 0).core 0).steward = false ∧ guardN 1 0 (small 0 0) (.core 0) = false ∧ 6 ≤ (6 : BitVec 13).toNat) :=
  ⟨⟨issues_withCore 0 _, by decide +kernel, by decide +kernel, settled_of (by decide +kernel), by decide⟩, by decide +kernel⟩

/-- The small state with its core in steward mode after a trap of bundle 2, at bundle 5 of a code whose bundle 2 has le = 1. -/
def stewarded (le : Bool) : State :=
  (withCore 0 (fun c => { c with steward := true, trap := { c.trap with bundle := 2 } })).onCtx 0
    (fun x => { x with code := List.replicate 12 0 ++ [if le then 0x40000000 else 0] ++ List.replicate 5 0 })

theorem witness_TrapEntryAndReturn :
    (Issues (small 0 0) 0 0 ∧ ((small 0 0).core 0).board = [] ∧ ((small 0 0).core 0).steward = false ∧
      (1 : BitVec 19).toNat < 2) ∧
    (∀ le : Bool, let s := stewarded le
      (s.core 0).board = [] ∧ (s.core 0).steward = true ∧ (s.core 0).ctx = some (s.ctxOf 0) ∧ (s.ctx (s.ctxOf 0)).state = 1 ∧
      headLe ((s.ctx (s.ctxOf 0)).code.getD (6 * ((s.core 0).trap.bundle.toNat % 2 ^ 32)) 0) = le) ∧
    Issues (stewarded true) 0 0 :=
  ⟨⟨issues_small 0, by decide +kernel, by decide +kernel, by decide⟩, by decide +kernel, issues_of rfl rfl rfl rfl rfl⟩

theorem witness_ControlRegisters :
    (Issues (small 0 0) 0 0 ∧ Settled (small 0 0) 0 [destS 1] ∧ ((small 0 0).core 0).lcore < 320 ∧
      (small 0 0).ctxOf 0 < 64 ∧ ((small 0 0).ctx ((small 0 0).ctxOf 0)).tenant < 16 ∧ ((small 0 0).core 0).board = [] ∧
      ((small 0 0).core 0).steward = false ∧
      (0x15 : Nat) ∉ [0x00, 0x01, 0x02, 0x10, 0x11, 0x12, 0x13, 0x14, 0x20] ∧ ((small 0 0).core 0).klprg.toNat / 2 ^ 62 ≠ 1) ∧
    (Settled (stewarded false) 0 [destS 4] ∧ ((stewarded false).core 0).steward = true) ∧
    ((withCore 0 (fun c => { c with klprg := 0x4000000000000000 })).core 0).klprg.toNat / 2 ^ 62 = 1 :=
  ⟨⟨issues_small 0, settled_of (by decide +kernel), by decide +kernel⟩, ⟨settled_of (by decide +kernel), by decide +kernel⟩,
    by decide +kernel⟩

theorem witness_ShapesAndStickyRecords :
    Issues (small 1 0) 0 1 ∧ (2 : BitVec 2) ≠ 3 ∧ Settled (small 1 0) 0 [destS 4] ∧ (2 : BitVec 6).toNat < 3 ∧
    (readP (small 1 0) 0 0).getLsbD 0 = true ∧ (4 : BitVec 13).toNat < 5 ∧ (5 : BitVec 13).toNat < 6 :=
  ⟨issues_small 1, by decide, settled_of (by decide +kernel), by decide +kernel⟩

theorem witness_Counters :
    (Issues (small 0 0) 0 0 ∧ Settled (small 0 0) 0 [destS 1] ∧ ((small 0 0).core 0).steward = false ∧
      ((small 0 0).core 0).board = [] ∧
      (0x810 : Nat) ∉ [0x820, 0x821, 0x822, 0x823, 0x824, 0x825, 0x831, 0x840, 0x841, 0x842, 0x843, 0x844]) ∧
    ((stewarded false).core 0).steward = true ∧ ((stewarded false).ctx ((stewarded false).ctxOf 0)).refused = [] :=
  ⟨⟨issues_small 0, settled_of (by decide +kernel), by decide +kernel⟩, by decide +kernel⟩

/-- The small state with a transition to map 1 pending, failed or not. -/
def moving (fail : Bool) : State :=
  withCtx 0 (fun x => { x with tr := { x.tr with pend := true, tgt := 1, fail := fail, failWhy := 1 } })

theorem witness_PhaseBeginAndAdvance :
    (Issues (small 0 0) 0 0 ∧ (15 : BitVec 13).toNat < 16 ∧ 1 < ((small 0 0).ctx ((small 0 0).ctxOf 0)).mapCount ∧
      ((small 0 0).ctx ((small 0 0).ctxOf 0)).mapCount ≤ 15 ∧ ((small 0 0).core 0).board = [] ∧
      ((small 0 0).core 0).steward = false ∧ ((small 0 0).core 0).padvDone = false) ∧
    (∀ f : Bool, ((moving f).ctx ((moving f).ctxOf 0)).tr.fail = f ∧ ((moving f).core 0).padvDone = false ∧
      ((moving f).core 0).padvRetry = false) ∧
    ((withCore 0 (fun c => { c with padvDone := true })).core 0).padvDone = true :=
  ⟨⟨issues_small 0, by decide +kernel⟩, by decide +kernel, by decide +kernel⟩

theorem witness_PhaseBeginAndAdvance_failed :
    (let s := (moving true).onCore 0 (fun c => { c with padvRetry := true })
     Issues s 0 0 ∧ (s.core 0).padvDone = false ∧ (s.core 0).padvFail = none ∧ (s.ctx (s.ctxOf 0)).tr.fail = true ∧
     (s.core 0).padvRetry = true) ∧
    (let s := withCore 0 (fun c => { c with padvFail := some (2, 0, 1) })
     Issues s 0 0 ∧ (s.core 0).padvDone = false ∧ (s.core 0).padvFail = some (2, 0, 1) ∧ (s.core 0).board = [] ∧
     (s.core 0).steward = false) ∧
    (Issues (moving true) 0 0 ∧ ((moving true).core 0).padvFail = none ∧ ((moving true).core 0).board = [] ∧
     ((moving true).core 0).steward = false) :=
  ⟨⟨issues_of rfl rfl rfl rfl rfl, by decide +kernel⟩, ⟨issues_of rfl rfl rfl rfl rfl, by decide +kernel⟩,
    issues_of rfl rfl rfl rfl rfl, by decide +kernel⟩

theorem witness_PhaseQueryAndMapLoad :
    (Issues (small 0 0) 0 0 ∧ Settled (small 0 0) 0 [destS 7] ∧ ((small 0 0).ctx ((small 0 0).ctxOf 0)).mapCount ≤ 16) ∧
    (let x := (small 0 0).ctx ((small 0 0).ctxOf 0)
     x.mapCount < 3 ∧ 0 = x.phase.toNat ∧ ¬(x.mapCount < 2) ∧ ¬(2 = x.phase.toNat ∨ (x.tr.pend = true ∧ 2 = x.tr.tgt.toNat))) ∧
    (readS (small 0 0) 0 7).toNat % 16 ≠ 0 ∧ (readS (small 0 0) 0 6).toNat % 16 = 0 ∧
    globalOk (small 0 0) ((small 0 0).ctxOf 0) (readS (small 0 0) 0 6) .load = true :=
  ⟨⟨issues_small 0, settled_of (by decide +kernel), by decide +kernel⟩, by decide +kernel⟩

theorem witness_Publications :
    let s := small 0 0
    let e := fun (j : Nat) => Tab.get (0 : BitVec 256) (s.ctx (s.ctxOf 0)).buffers j
    (Issues s 0 0 ∧ Settled s 0 [destS 4] ∧ Settled s 0 [destS 6, destS 7]) ∧
    (((readS s 0 4 + (0 : BitVec 13).signExtend 64).toNat < 4096 ∧ (e 7).getLsbD 0 = true ∧ (e 7).getLsbD 1 = true) ∧
      (s.core 0).board = [] ∧ (s.core 0).pubds = [] ∧ (e 8).getLsbD 0 = false ∧ (s.core 0).steward = false) ∧
    (isRemote (readS s 0 6) = false ∧ globalOk s (s.ctxOf 0) (readS s 0 6) .live = true ∧
      poisoned s (s.ctxOf 0) (rowVa (readS s 0 6)) = false ∧
      (placeOf s (s.ctxOf 0) (sideVa (s.ctx (s.ctxOf 0)) false (vaOf (readS s 0 6)) / 65536)).tier ≠ 3) :=
  ⟨⟨issues_small 0, settled_of (by decide +kernel), settled_of (by decide +kernel)⟩, by decide +kernel⟩

/-- A local store of core 0 that is outstanding. -/
def localStore : Access :=
  { kind := .store, dest := .none, addr := 0x10000, addr2 := 0, x := 0, y := 0, oc := 0, rc := 0, remote := false, mask := 0,
    own := 0, sent := false, issue := 90, slot := 2, bundle := 4 }

theorem witness_Publications_waiting :
    let s := withCore 0 (fun c => { c with board := [localStore] })
    Issues s 0 0 ∧ ∃ e ∈ (s.core 0).board, e.kind = .store ∧ e.issue < s.cycle :=
  ⟨issues_withCore 0 _, localStore, by decide +kernel, by decide +kernel⟩

/-- A group of one buffer that s[5] names, and a guard address in s[4]. -/
def guardedGroup (a : W64) : State := withCore 0 (fun c => { c with s := [(4, a), (5, 7)] })

theorem witness_Publications_guarded :
    (let s := guardedGroup 0x10000
     Issues s 0 0 ∧ (readS s 0 5).toNat % 4096 = 7 ∧ (readS s 0 5).toNat / 4096 % 4096 + 1 = 1 ∧
     isRemote (readS s 0 4) = false ∧ memWord s (s.ctxOf 0) (vaOf (readS s 0 4)) = 0) ∧
    isRemote (readS (guardedGroup 0x1000000010000) 0 4) = true :=
  ⟨⟨issues_withCore 0 _, by decide +kernel⟩, by decide +kernel⟩

/-- The small state with a window of two key slots for the tenant, slot 7 LIVE. -/
def keyed : State :=
  { small 0 0 with
    tenants := [(0, BitVec.ofNat 128 (0xFF + 7 * 2 ^ 84 + 2 * 2 ^ 96))]
    keys := [(7, { state := 1, tenant := 0, key := 5, epoch := 1 })] }

theorem witness_FillMaskAndKeySlots :
    let te := Tab.get (0 : BitVec 128) keyed.tenants (keyed.ctx (keyed.ctxOf 0)).tenant
    (Issues keyed 0 0 ∧ Settled keyed 0 [destS 4] ∧ Settled keyed 0 [destS 9]) ∧
    ((te.extractLsb' 84 12).toNat ≤ 7 ∧ 8 < (te.extractLsb' 84 12).toNat + (te.extractLsb' 96 13).toNat ∧
      (readS keyed 0 4).toNat % 4096 = 7 ∧ (Tab.get KeySlot.zero keyed.keys 7).state = 1 ∧
      (Tab.get KeySlot.zero keyed.keys 8).state ≠ 1 ∧ readS keyed 0 9 = 0 ∧
      ¬((te.extractLsb' 84 12).toNat ≤ 9 ∧ 9 < (te.extractLsb' 84 12).toNat + (te.extractLsb' 96 13).toNat)) :=
  ⟨⟨issues_of rfl rfl rfl rfl rfl, settled_of (by decide +kernel), settled_of (by decide +kernel)⟩, by decide +kernel⟩

/-- The state with a slot window whose s4 names the free slot 8, s5 an address of a key in one row, s6 one over two rows. -/
def keying (a : W64) : State :=
  ({ keyed with cores := [(0, { smallCore with s := [(4, 8), (5, a)] })] } : State).onCtx 0 (fun x => { x with
    binding := [(1, 0x8002)] })

theorem witness_FillMaskAndKeySlots_contents :
    (∀ a ∈ [(0x10000 : W64), 0x101F0],
      let s := keying a
      let y := readS s 0 5
      Settled s 0 [destS 4] ∧ Settled s 0 [destS 5] ∧ (readS s 0 4).toNat % 4096 = 8 ∧
      (Tab.get KeySlot.zero s.keys 8).state ≠ 1 ∧ y ≠ 0 ∧ isRemote y = false ∧ globalOk s (s.ctxOf 0) y .load = true ∧
      poisoned s (s.ctxOf 0) (rowVa y) = false ∧ poisoned s (s.ctxOf 0) (rowVa y + 512) = false) ∧
    (480 < vaOf (0x101F0 : W64) % 512 ∧ ¬(480 < vaOf (0x10000 : W64) % 512)) ∧ (∀ a, Issues (keying a) 0 0) := by
  refine ⟨?_, by decide, fun _ => issues_of rfl rfl rfl rfl rfl⟩
  intro a ha
  simp only [List.mem_cons, List.not_mem_nil, or_false] at ha
  rcases ha with rfl | rfl <;>
    exact ⟨settled_of (by decide +kernel), settled_of (by decide +kernel), by decide +kernel⟩

/-- A key asked of another device, on its way. -/
def aKeyAsk : Access :=
  { kind := .keyset, dest := .none, addr := 0x3000000010000, addr2 := 0x3000000010008, x := 8, y := 0, oc := 0, rc := 0, remote := true,
    mask := 0, own := 0, sent := true, issue := 90, slot := 0, bundle := 4 }

theorem witness_FillMaskAndKeySlots_remote (hd : Config.inDomain 1 = true) (ho : Config.ownDevice.val ≠ 1) :
    (let s := keying 0x3000000010000
     Issues s 0 0 ∧ Settled s 0 [destS 4] ∧ Settled s 0 [destS 5] ∧ readS s 0 5 ≠ 0 ∧ isRemote (readS s 0 5) = true ∧
     globalOk s (s.ctxOf 0) (readS s 0 5) .load = true) ∧
    (let s := ({ keyed with keys := [(8, { state := 1, tenant := 0, key := 0, epoch := 0 })] } : State).onCore 0 (fun c => { c with
       board := [aKeyAsk] })
     s.powered = true ∧ coreAlive s 0 = true ∧ (s.core 0).board[0]? = some aKeyAsk ∧ rowVa aKeyAsk.addr = rowVa aKeyAsk.addr2 ∧
     (Tab.get KeySlot.zero s.keys aKeyAsk.x.toNat).state = 1 ∧
     (Tab.get KeySlot.zero s.keys aKeyAsk.x.toNat).epoch = aKeyAsk.y.toNat) := by
  refine ⟨⟨issues_of rfl rfl rfl rfl rfl, settled_of (by decide +kernel), settled_of (by decide +kernel), by decide +kernel,
    by decide +kernel, ?_⟩, by decide +kernel⟩
  have h1 : devOf (readS (keying 0x3000000010000) 0 5) = 1 := by decide +kernel
  have h2 : formOk (readS (keying 0x3000000010000) 0 5) = true := by decide +kernel
  have h3 : isRemote (readS (keying 0x3000000010000) 0 5) = true := by decide +kernel
  have h4 : (Tab.get (0 : BitVec 16) ((keying 0x3000000010000).ctx ((keying 0x3000000010000).ctxOf 0)).binding 1).getLsbD 15
      = true := by decide +kernel
  rw [globalOk, if_pos h3, partnerOk, h1, hd, h2, h4]
  simp [Ne.symm ho]

theorem settledV_of {s : State} {p : Nat} {l : List (BitVec 6)}
    (h : (l.map (destV (s.core p))).all (fun d => !awaited (s.core p) d) = true) : SettledV s p l := settled_of h

theorem bsettled_of {s : State} {p : Nat} {b : BitVec 6} (hb : b ≠ 63) (h : awaited (s.core p) (destV (s.core p) b) = false) :
    BSettled s p b := by
  rw [BSettled, if_neg hb]; exact h

/-- The small state in slot 3 with the broadcast port on s4. -/
def ported : State := small 3 0x22000000

theorem witness_VectorArithmetic :
    let s := small 3 0
    Issues s 0 3 ∧ SettledV s 0 [2, 1] ∧ BSettled s 0 3 ∧ ((0 : BitVec 3) ≠ 3 ∧ (0 : BitVec 3) ≠ 7 ∧ 4 ≤ (7 : BitVec 3).toNat) ∧
    BSettled ported 0 63 :=
  ⟨issues_small 3, settledV_of (by decide +kernel), bsettled_of (by decide) (by decide +kernel), by decide,
    by rw [BSettled, if_pos rfl]; exact ⟨by decide +kernel, by decide +kernel⟩⟩

theorem witness_VectorPatterns :
    let s := small 3 0
    Issues s 0 3 ∧ SettledV s 0 [2, 63] ∧ BSettled s 0 62 ∧ ((5 : BitVec 3).toNat ≠ 3 ∧ (5 : BitVec 3).toNat < 6) :=
  ⟨issues_small 3, settledV_of (by decide +kernel), bsettled_of (by decide) (by decide +kernel), by decide⟩

theorem witness_VectorFunctionsAndReductions :
    Issues (small 3 0) 0 3 ∧ SettledV (small 3 0) 0 [2, 2] ∧ ((2 : BitVec 3).toNat < 3 ∧ (7 : BitVec 3).toNat ≠ 3) :=
  ⟨issues_small 3, settledV_of (by decide +kernel), by decide⟩

theorem witness_VectorCompares :
    let s := small 3 0
    Issues s 0 3 ∧ SettledV s 0 [2] ∧ BSettled s 0 3 ∧ Settled s 0 [destP (s.core 0) 16] ∧ 4 ≤ (4 : BitVec 3).toNat :=
  ⟨issues_small 3, settledV_of (by decide +kernel), bsettled_of (by decide) (by decide +kernel), settled_of (by decide +kernel),
    by decide⟩

theorem witness_VectorConversions :
    let s := small 3 0
    Issues s 0 3 ∧ SettledV s 0 [1] ∧ SettledV s 0 [2] ∧ Settled s 0 [destS 4] ∧
    (fmtBytes (0 : BitVec 3).toNat = fmtBytes (4 : BitVec 3).toNat ∧ fmtBytes (0 : BitVec 3).toNat = 4 * fmtBytes (3 : BitVec 3).toNat ∧
      fmtBytes (0 : BitVec 3).toNat = 2 * fmtBytes (1 : BitVec 3).toNat) :=
  ⟨issues_small 3, settledV_of (by decide +kernel), settledV_of (by decide +kernel), settled_of (by decide +kernel), by decide⟩

theorem witness_AccumulatorWrites :
    Issues (small 3 0) 0 3 ∧ Settled (small 3 0) 0 [destS 5] ∧ SettledV (small 3 0) 0 [2] ∧ Settled (small 3 0) 0 [destS 4] :=
  ⟨issues_small 3, settled_of (by decide +kernel), settledV_of (by decide +kernel), settled_of (by decide +kernel)⟩

/-- The small state with bank 0 owned, an address in s10, and the full-empty bits of that row. -/
def banked (fe : W32) : State :=
  withCore 2 (fun c => { c with
    s := [(4, 3), (10, 0x8000000000001000)], banks := [(0, { state := .owned, task := 1, held := 1 })]
    fullEmpty := if fe = 0 then [] else [(8, fe)] })

theorem witness_ScratchpadAccesses :
    (∀ full : Bool, let s := banked (if full then BitVec.allOnes 32 else 1)
      guardM 0 s (.core 0) = true ∧ acquireOpen (s.core 0) = false ∧
      spadOk s 0 (s.ctxOf 0) (readS s 0 10 + (0 : BitVec 7).signExtend 64 * 512) = true ∧
      (spadFe s 0 (readS s 0 10 + (0 : BitVec 7).signExtend 64 * 512) = BitVec.allOnes 32 ↔ full = true)) ∧
    (let s := banked 1
     Issues s 0 2 ∧ Settled s 0 [destS 10] ∧ SettledV s 0 [8] ∧ Settled s 0 [destS 1]) ∧
    spadOk (small 2 0) 0 ((small 2 0).ctxOf 0) (readS (small 2 0) 0 6) = false ∧
    ((2 : BitVec 2).toNat < 3 ∧ (1 : BitVec 2).toNat < 2) :=
  ⟨by decide +kernel, ⟨issues_withCore 2 _, settled_of (by decide +kernel), settledV_of (by decide +kernel),
    settled_of (by decide +kernel)⟩, by decide +kernel, by decide⟩

/-- An acquiring atomic of core 0 that is outstanding. -/
def acquiring : Access :=
  { kind := .word .add, dest := .s 9, addr := 0x10000, addr2 := 0, x := 5, y := 0, oc := 6, rc := 0, remote := false, mask := 0,
    own := 0, sent := false, issue := 90, slot := 2, bundle := 4 }

theorem witness_ScratchpadAccesses_frozen :
    let s := withCore 2 (fun c => { c with board := [acquiring] })
    Issues s 0 2 ∧ guardM 0 s (.core 0) = true ∧ Settled s 0 [destS 10] ∧ SettledV s 0 [8] ∧ Settled s 0 [destS 1] ∧
    acquireOpen (s.core 0) = true ∧ acquireOpen ((small 2 0).core 0) = false :=
  ⟨issues_withCore 2 _, by decide +kernel, settled_of (by decide +kernel), settledV_of (by decide +kernel),
    settled_of (by decide +kernel), by decide +kernel⟩

theorem witness_SpillAndBanks_released :
    let s := banked 0
    Issues s 0 2 ∧ guardM 0 s (.core 0) = true ∧ Settled s 0 [destS 4] ∧ (∀ q, q < 4 → (s.core (0 / 4 * 4 + q)).chans = []) ∧
    (readS s 0 4).getLsbD 0 = true :=
  ⟨issues_withCore 2 _, by decide +kernel, settled_of (by decide +kernel), by decide +kernel⟩

theorem witness_SpillAndBanks :
    (let s := small 2 0
     Issues s 0 2 ∧ guardM 0 s (.core 0) = true ∧ (8191 : BitVec 15).toNat < 8192 ∧ SettledV s 0 [8] ∧ Settled s 0 [destS 4] ∧
     (∀ b, b < 16 → (Tab.get Bank.zero (s.core 0).banks b).state = .free)) ∧
    (let s := banked 0
     (readS s 0 4).getLsbD 0 = true ∧ 0 < (s.ctx (s.ctxOf 0)).split ∧
     Tab.get Bank.zero (s.core 0).banks 0 = { state := .owned, task := (s.core 0).task, held := s.ctxOf 0 + 1 }) ∧
    (let s := withCore 2 (fun c => { c with banks := [(0, { state := .releasing, task := 1, held := 1 })] })
     Issues s 0 2 ∧ (Tab.get Bank.zero (s.core 0).banks 0).state = .releasing ∧ (readS s 0 11).getLsbD 0 = true) :=
  ⟨⟨issues_small 2, by decide +kernel, by decide, settledV_of (by decide +kernel), settled_of (by decide +kernel),
    by decide +kernel⟩, by decide +kernel, issues_withCore 2 _, by decide +kernel⟩

/-- The small state with a partner bound on device 1 and a remote address of it in s4. -/
def partnered : State :=
  (withCore 2 (fun c => { c with s := [(4, 0x3000000010000), (6, 0x10000)] })).onCtx 0 (fun x => { x with binding := [(1, 0x8002)] })

theorem witness_GlobalLoads (hd : Config.inDomain 1 = true) (ho : Config.ownDevice.val ≠ 1) :
    (let s := small 2 0
     Issues s 0 2 ∧ guardM 0 s (.core 0) = true ∧ Settled s 0 [destS 7] ∧ (2 : BitVec 2) ≠ 3 ∧
     awaited (s.core 0) (destV (s.core 0) 1) = false ∧ awaited (s.core 0) (destS 1) = false ∧
     globalOk s (s.ctxOf 0) (readS s 0 7 + (0 : BitVec 5).signExtend 64 * 512) .load = true ∧
     isRemote (readS s 0 7 + (0 : BitVec 5).signExtend 64 * 512) = false ∧
     globalOk s (s.ctxOf 0) (readS s 0 8 + (0 : BitVec 5).signExtend 64 * 512) .load = false) ∧
    (let s := partnered
     let ea := readS s 0 4 + (0 : BitVec 5).signExtend 64 * 512
     isRemote ea = true ∧ (s.core 0).board = [] ∧ globalOk s (s.ctxOf 0) ea .load = true) := by
  refine ⟨⟨issues_small 2, by decide +kernel, settled_of (by decide +kernel), by decide +kernel⟩, by decide +kernel,
    by decide +kernel, ?_⟩
  have h1 : devOf (readS partnered 0 4 + (0 : BitVec 5).signExtend 64 * 512) = 1 := by decide +kernel
  have h2 : formOk (readS partnered 0 4 + (0 : BitVec 5).signExtend 64 * 512) = true := by decide +kernel
  have h3 : isRemote (readS partnered 0 4 + (0 : BitVec 5).signExtend 64 * 512) = true := by decide +kernel
  have h4 : (Tab.get (0 : BitVec 16) (partnered.ctx (partnered.ctxOf 0)).binding 1).getLsbD 15 = true := by decide +kernel
  rw [globalOk, if_pos h3, partnerOk, h1, hd, h2, h4]
  simp [Ne.symm ho]

theorem witness_GlobalStoresAndPrefetch :
    (let s := small 2 0
     Issues s 0 2 ∧ guardM 0 s (.core 0) = true ∧ Settled s 0 [destS 6] ∧ (0 : BitVec 2) ≠ 3 ∧ SettledV s 0 [1] ∧
     Settled s 0 [destS 4] ∧ globalOk s (s.ctxOf 0) (readS s 0 6 + (0 : BitVec 5).signExtend 64 * 512) .store = true ∧
     isRemote (readS s 0 6 + (0 : BitVec 5).signExtend 64 * 512) = false ∧ Settled s 0 [destS 5, destS (5 ||| 1)] ∧
     (5 : BitVec 6).getLsbD 0 = true ∧ (s.core 0).board = [] ∧ (s.core 0).steward = false) :=
  ⟨issues_small 2, by decide +kernel, settled_of (by decide +kernel), by decide, settledV_of (by decide +kernel),
    settled_of (by decide +kernel), by decide +kernel, by decide +kernel, settled_of (by decide +kernel), by decide +kernel⟩

/-- Buffers 7 and 8 published; the front of 7 in s4, that of 8 in s5. -/
def paired : State :=
  (withCore 2 (fun c => { c with s := [(4, 0x18000), (5, 0x1A000)] })).onCtx 0 (fun x => { x with
    buffers := [(7, bufEntryOf { tag := 7, published := true, front := 0x18000, back := 0x19000, size := 512 }),
                (8, bufEntryOf { tag := 8, published := true, front := 0x1A000, back := 0x1B000, size := 512 })] })

theorem witness_GlobalStoresAndPrefetch_pair :
    Issues paired 0 2 ∧ Settled paired 0 [destS 4, destS (4 ||| 1)] ∧ SettledV paired 0 [1] ∧
    pstwCheck paired 0 4 (readS paired 0 4 + (0 : BitVec 7).signExtend 64 * 512) (readS paired 0 (4 ||| 1)) = none :=
  ⟨issues_of rfl rfl rfl rfl rfl, settled_of (by decide +kernel), settledV_of (by decide +kernel), by decide +kernel⟩

theorem witness_AtomicIssue :
    (let s := small 2 0
     Issues s 0 2 ∧ guardM 0 s (.core 0) = true ∧ Settled s 0 [destS 6, destS 6, destS 1] ∧ isRemote (readS s 0 6) = false ∧
     globalOk s (s.ctxOf 0) (readS s 0 6) .load = true ∧ globalOk s (s.ctxOf 0) (readS s 0 6) .store = true ∧
     (readS s 0 6).toNat / 4096 = (readS s 0 6).toNat / 4096 ∧ (readS s 0 6).toNat / 4096 ≠ (readS s 0 10).toNat / 4096 ∧
     (s.core 0).board = [] ∧ (s.core 0).steward = false ∧ (6 : BitVec 3).toNat < 7) :=
  ⟨issues_small 2, by decide +kernel, settled_of (by decide +kernel), by decide +kernel⟩

/-- The small state with a word of memory at 1_0000h whose bit 63 is set or not. -/
def phased (set : Bool) : State := { small 2 0 with mem := Memory.empty.write 0x10000 8 (if set then 2 ^ 63 else 0) }

theorem witness_Waits :
    (∀ b : Bool, let s := phased b
      guardM 0 s (.core 0) = true ∧ isRemote (readS s 0 6) = false ∧ globalOk s (s.ctxOf 0) (readS s 0 6) .load = true ∧
      (s.core 0).board = [] ∧ (memWord s (s.ctxOf 0) (vaOf (readS s 0 6))).getLsbD 63 = b ∧ (readS s 0 11).getLsbD 0 = true) ∧
    (Issues (phased true) 0 2 ∧ Settled (phased true) 0 [destS 6, destS 11]) ∧
    (Issues partnered 0 2 ∧ isRemote (readS partnered 0 4) = true ∧ (partnered.core 0).board = [] ∧ (partnered.core 0).steward = false) ∧
    ((3 : BitVec 3).toNat < 4 ∧ (7 : BitVec 3) ≠ 0 ∧ (2 : BitVec 4).getLsbD 1 = true) ∧
    (let s := withCore 2 (fun c => { c with board := [localStore] })
     Issues s 0 2 ∧ ∃ e ∈ (s.core 0).board, e.kind = .store ∧ e.remote = false) ∧
    (let c := (small 2 0).core 0
     c.board = [] ∧ c.pubds = [] ∧ c.chans = [] ∧ c.optu = none ∧ c.pstw = [] ∧ c.lmmar = [] ∧ c.rloads = []) :=
  ⟨by decide +kernel, ⟨issues_of rfl rfl rfl rfl rfl, settled_of (by decide +kernel)⟩,
    ⟨issues_of rfl rfl rfl rfl rfl, by decide +kernel⟩, by decide,
    ⟨issues_withCore 2 _, localStore, by decide +kernel, by decide +kernel⟩, by decide +kernel⟩

theorem witness_ScalesAndProbes :
    (Issues (banked 0) 0 2 ∧ Settled (banked 0) 0 [destS 10] ∧ guardM 0 (banked 0) (.core 0) = true ∧
      ((banked 0).core 0).scaleQ.length + 16 * ((banked 0).core 0).sclds.length ≤ 48 ∧
      spadOk (banked 0) 0 ((banked 0).ctxOf 0) (readS (banked 0) 0 10 + (0 : BitVec 7).signExtend 64 * 512) = true) ∧
    (let s := withCore 2 (fun c => { c with scaleQ := List.replicate 49 0 })
     Issues s 0 2 ∧ Settled s 0 [destS 10] ∧ 48 < (s.core 0).scaleQ.length + 16 * (s.core 0).sclds.length) ∧
    (let s := small 2 0
     let f := probeFail (s.ctx (s.ctxOf 0))
     Settled s 0 [destS 6, destS 11, destP (s.core 0) 2] ∧ ((7 : BitVec 4).toNat < 8 ∧ (7 : BitVec 4).toNat % 4 ≠ 0) ∧
     (f true (readS s 0 6) (readS s 0 11) = none ∧ (f true (readS s 0 7) (readS s 0 11)).isSome = true ∧
       (f false (readS s 0 8) (readS s 0 11)).isSome = true ∧ (4 : BitVec 4).getLsbD 2 = true ∧ (1 : BitVec 4).getLsbD 2 = false)) :=
  ⟨⟨issues_withCore 2 _, settled_of (by decide +kernel), by decide +kernel⟩,
    ⟨issues_withCore 2 _, settled_of (by decide +kernel), by decide +kernel⟩,
    settled_of (by decide +kernel), by decide, by decide +kernel⟩

/-- Two activation rows of BF16 in bank 0, at the rows 8 and 9. -/
def actShape : Shape :=
  { base := 0x8000000000001000, ext := 0x200000000, st1 := 512, st2 := 0, fmt := 1, tag := 0, rc := 0, bar := 0 }

/-- The small state in slot 4 with a resident BF16 tile of 128 rows in slot 0, its handle in s4, acc row 0 in s5. -/
def loomed (pinned : Bool) : State :=
  (withCore 4 (fun c => { c with
    s := [(4, 0x100000), (6, 8192)], banks := [(0, { state := .owned, task := 1, held := 1 })], active := [(0, actShape)] })).onCtx 0
    (fun x => { x with
      res := [(0, { Resid.zero with state := if pinned then 3 else 2, pin := pinned, held := true, fmt := 1, k := 128, charge := 8,
                                    src := 0x10000, loaded := true })]
      tiles := [(0, { fmt := 1, k := 128, bytes := 5 })] })

theorem witness_LoomAndResultStream :
    let s := loomed false
    Issues s 0 4 ∧ guardM 0 s (.core 0) = true ∧ Settled s 0 [destS 4, destS 5] ∧ (1 : BitVec 6).toNat < 2 ∧
    (s.core 0).loomFree ≤ s.cycle ∧
    lmmaCheck s (soleEnv s 0 4 0) (shapeIn s 0 0 0 0) 0 (readS s 0 4) (readS s 0 5) = none ∧
    (let t := withCore 4 (fun c => { c with loomFree := 101 })
     Issues t 0 4 ∧ Settled t 0 [destS 4, destS 5] ∧ t.cycle < (t.core 0).loomFree) ∧
    Ported ported 0 :=
  ⟨issues_of rfl rfl rfl rfl rfl, by decide +kernel, settled_of (by decide +kernel), by decide, by decide +kernel,
    by decide +kernel, ⟨issues_withCore 4 _, settled_of (by decide +kernel), by decide +kernel⟩,
    ⟨by decide +kernel, by decide +kernel⟩⟩

/-- A result stream of one remote row into buffer 7. -/
def streamShape : Shape :=
  { base := 0x3000000010000, ext := 0x100000000, st1 := 512, st2 := 0, fmt := 1, tag := 7, rc := 0, bar := 0 }

theorem witness_LoomAndResultStream_remote :
    let s := (loomed false).onCore 0 (fun c => { c with active := [(1, streamShape)] })
    Issues s 0 4 ∧ Settled s 0 [destS 4, destS 9] ∧ (s.core 0).loomFree ≤ s.cycle ∧
    lmmarCheck s (soleEnv s 0 4 0) (shapeIn s 0 0 1 0) (readS s 0 4) (readS s 0 9) = none ∧ 0 < (shapeIn s 0 0 1 0).outer :=
  ⟨issues_of rfl rfl rfl rfl rfl, settled_of (by decide +kernel), by decide +kernel⟩

theorem witness_LoomAndResultStream_done :
    let s := (loomed false).onCore 0 (fun c => { c with active := [(1, streamShape)], klprg := 0x8000000000000001 })
    Issues s 0 4 ∧ Settled s 0 [destS 4, destS 9] ∧ (s.core 0).loomFree ≤ s.cycle ∧
    lmmarCheck s (soleEnv s 0 4 0) (shapeIn s 0 0 1 0) (readS s 0 4) (readS s 0 9) = none ∧
    (s.core 0).klprg.toNat / 2 ^ 62 = 2 ∧ (shapeIn s 0 0 1 0).outer ≤ (s.core 0).klprg.toNat % 2 ^ 14 :=
  ⟨issues_of rfl rfl rfl rfl rfl, settled_of (by decide +kernel), by decide +kernel⟩

/-- One row of F32: at row 8 of bank 0, at row 9, and in the front of buffer 7. -/
def rowShape (base : W64) : Shape :=
  { base := base, ext := 0x100000001, st1 := 512, st2 := 512, fmt := 0, tag := 7, rc := 0, bar := 0 }

/-- The small state in slot 4 with copy shapes from bank 0 to buffer 7. -/
def copying : State :=
  withCore 4 (fun c => { c with
    s := [(4, 1)], banks := [(0, { state := .owned, task := 1, held := 1 })]
    active := [(4, rowShape 0x8000000000001000), (5, rowShape 0x18000), (6, rowShape 0x8000000000001200)] })

theorem witness_CopyAndUpdateIssue :
    let s := copying
    let sh := fun (h : Nat) => shapeIn s 0 1 h 0
    Issues s 0 4 ∧ guardM 0 s (.core 0) = true ∧ Settled s 0 [destS 4, destS 9] ∧
    ((3 : BitVec 6).toNat < 4 ∧ (7 : BitVec 6).toNat < 8 ∧ 4 ≤ (4 : BitVec 6).toNat ∧ (0x3B : BitVec 6).getLsbD 2 = false) ∧
    (Tab.get [] (s.core 0).chans 3).length < 16 ∧
    ccpyCheck s 0 (sh 0) { sh 1 with base := (sh 1).base + readS s 0 9 } false (readS s 0 9) = none ∧
    indexedCheck s 0 false (sh 0) { sh 1 with base := (sh 1).base + readS s 0 9 } ((readS s 0 4).toNat % 2 ^ 32) = none ∧
    indexedCheck s 0 true { sh 0 with base := (sh 0).base + readS s 0 9 } (sh 1) ((readS s 0 4).toNat % 2 ^ 32) = none ∧
    ctopkCheck s 0 (sh 2) ((readS s 0 4).toNat % 8192) = none ∧
    (Tab.get [] (s.core 0).chans 0 = [] ∧ (s.core 0).addrQ.length < 64 ∧ (s.core 0).optu = none) :=
  ⟨issues_of rfl rfl rfl rfl rfl, by decide +kernel, settled_of (by decide +kernel), by decide, by decide +kernel⟩

/-- A copy that a channel holds. -/
def aCopy : Copy :=
  { kind := .ccpy, issue := 90, bundle := 4, ctx := 0, src := rowShape 0x8000000000001000, dst := rowShape 0x18000, rc := 0, tag := 7,
    bar := 0, masked := false, maskAt := 0, mask := none, maskGot := [], off := 0, rows := 1, base := 0, best := 0, order := 0, idx := [],
    read := [], done := [], landed := 0, status := 0, flags := 0, free := [], refused := [], put := [], told := 0 }

theorem witness_CopyAndUpdateIssue_full :
    let s := withCore 4 (fun c => { c with chans := [(3, List.replicate 16 aCopy)], addrQ := List.replicate 64 0 })
    Issues s 0 4 ∧ Settled s 0 [destS 4, destS 9] ∧ 16 ≤ (Tab.get [] (s.core 0).chans 3).length ∧
    Tab.get [] (s.core 0).chans 3 ≠ [] ∧ 64 ≤ (s.core 0).addrQ.length :=
  ⟨issues_withCore 4 _, settled_of (by decide +kernel), by decide +kernel⟩

/-- The small state with one published buffer for each stream of an update of 256 elements: weights, gradients, both moments. -/
def updating : State :=
  let sh (base : W64) (tag : W64) : Shape :=
    { base := base, ext := 0x1 <<< 32 ||| 256, st1 := 512, st2 := 512, fmt := 0, tag := tag, rc := 0, bar := 0 }
  let buf (tag front : Nat) : Nat × BitVec 256 :=
    (tag, bufEntryOf { tag := tag, published := true, front := front, back := front + 0x1000, size := 1024 })
  (withCore 4 (fun c => { c with
    active := [(8, sh 0x10000 1), (9, sh 0x12000 2), (10, sh 0x14000 3), (11, sh 0x16000 4)] })).onCtx 0
    (fun x => { x with buffers := [buf 1 0x10000, buf 2 0x12000, buf 3 0x14000, buf 4 0x16000] })

theorem witness_CopyAndUpdateIssue_update :
    let s := updating
    Issues s 0 4 ∧ Settled s 0 [destS 4, destS 5] ∧ (s.core 0).optu = none ∧
    optuCheck s 0 (shapeIn s 0 2 0 0) (shapeIn s 0 2 1 0) (shapeIn s 0 2 2 0) (shapeIn s 0 2 3 0) = none :=
  ⟨issues_of rfl rfl rfl rfl rfl, settled_of (by decide +kernel), by decide +kernel⟩

theorem witness_Residencies :
    (let s := loomed true
     let hd := readS s 0 4
     let e := Tab.get Resid.zero (s.ctx (s.ctxOf 0)).res (hd.toNat % 2 ^ 16)
     Issues s 0 4 ∧ guardM 0 s (.core 0) = true ∧ Settled s 0 [destS 4] ∧ Settled s 0 [destS 9] ∧ Settled s 0 [destS 4, destS 5] ∧
     (∀ a ∈ (s.core 0).board, a.kind ≠ .ralloc) ∧
     (hd.toNat % 2 ^ 16 < 1024 ∧ hd.toNat / 2 ^ 16 % 16 = 0 ∧ e.held = true ∧ hd.toNat / 2 ^ 20 % 4096 = e.gen.toNat ∧
       ¬(e.state = 7 ∧ e.gen = e.rgen))) ∧
    (let s := (loomed false).onCore 0 (fun c => { c with active := [(1, { actShape with base := 0x10000, ext := 0x100000080 })] })
     Issues s 0 4 ∧ Settled s 0 [destS 4] ∧ Settled s 0 [destS 9] ∧ (1 : BitVec 6).toNat < 2 ∧ (s.core 0).rloads.length < 4 ∧
     rloadCheck s 0 (shapeIn s 0 0 1 0) (readS s 0 4) (readS s 0 9) = none) ∧
    (let s := small 4 0
     let e := Tab.get Resid.zero (s.ctx (s.ctxOf 0)).res 7
     (readS s 0 4).toNat % 2 ^ 16 = 7 ∧ e.held = false ∧ e.state ≠ 7 ∧ (s.core 0).board = [] ∧ (s.core 0).steward = false) :=
  ⟨⟨issues_of rfl rfl rfl rfl rfl, by decide +kernel, settled_of (by decide +kernel), settled_of (by decide +kernel),
    settled_of (by decide +kernel), by decide +kernel, by decide +kernel⟩,
    ⟨issues_of rfl rfl rfl rfl rfl, settled_of (by decide +kernel), settled_of (by decide +kernel), by decide, by decide +kernel,
      by decide +kernel⟩, by decide +kernel⟩

/-- The small state in slot 4 for an RALLOC of s5 granules, with a quota and the slots of a table. -/
def ralloc_ (n : W64) (quota : BitVec 16) (res : Tab Resid) : State :=
  ({ withCore 4 (fun c => { c with s := [(5, n)] }) with quotas := [(0, quota)] } : State).onCtx 0 (fun x => { x with res := res })

/-- A table that lists the one value at each of some keys answers it at them. -/
theorem tab_const {d e : Resid} (l : List Nat) (q : Nat) (h : q ∈ l) : Tab.get d (l.map (fun q => (q, e))) q = e := by
  induction l with
  | nil => cases h
  | cons a r ih =>
    simp only [List.map_cons, Tab.get]
    split
    · rfl
    · exact ih (by cases h with | head => contradiction | tail _ m => exact m)

/-- What the RALLOC statement asks of a state in which its context holds nothing. -/
def allocates (s : State) (n : W64) : Bool :=
  guardM 0 s (.core 0) && readS s 0 5 == n && ((s.onCore 0 (drainDue s.cycle)).core 0).left == [] &&
  decide (chargeOf (s.onCore 0 (drainDue s.cycle)) 0 0 0 + 1536 ≤ quotaOf s 0 (s.ctx 0).tenant) &&
  (Tab.get Resid.zero (s.ctx 0).res 0).state == 0 && (Tab.get Resid.zero (s.ctx 0).res 0).held == false

theorem witness_Residencies_allocation :
    (∀ n q r, Issues (ralloc_ n q r) 0 4) ∧
    (allocates (ralloc_ 0 1536 []) 0 && allocates (ralloc_ 1537 1536 []) 1537 && allocates (ralloc_ 1 1536 []) 1 &&
      allocates (ralloc_ 1536 1536 []) 1536) = true ∧
    Settled (ralloc_ 1 1536 []) 0 [destS 4, destS 5] ∧
    (let s := ralloc_ 1 0 []
     ¬(chargeOf (s.onCore 0 (drainDue s.cycle)) 0 0 0 + 1 ≤ quotaOf s 0 (s.ctx 0).tenant)) ∧
    (let res := (List.range 1024).map (fun q => (q, { Resid.zero with state := 2, held := true }))
     ∀ q, q < 1024 → (Tab.get Resid.zero res (0 * 1024 + q)).state = 2) :=
  ⟨fun _ _ _ => issues_of rfl rfl rfl rfl rfl, by decide +kernel, settled_of (by decide +kernel), by decide +kernel,
    fun q h => by simp only [Nat.zero_mul, Nat.zero_add]; rw [tab_const _ _ (List.mem_range.mpr h)]⟩

/-- The small state in slot 4 with slot 0 revoked or held, a handle of it in s4, and a tile shape. -/
def handled (h : W64) (e : Resid) : State :=
  ((loomed false).onCore 0 (fun c => { c with
    s := [(4, h)], active := [(1, { actShape with base := 0x10000, ext := 0x100000080 })] })).onCtx 0 (fun x => { x with
      res := [(0, e)] })

/-- A BF16 tile of 128 rows in that state under generation 3, revoked before under generation 1. -/
def heldTile (st : Nat) : Resid :=
  { Resid.zero with state := st, held := true, rgen := 1, gen := 3, fmt := 1, k := 128 }

/-- What the statement about a stale handle asks of a state, RLOAD's shape and range among it. -/
def refusesHandle (s : State) (h : W64) : Bool :=
  guardM 0 s (.core 0) && readS s 0 4 == h && (s.core 0).board == [] && (s.core 0).steward == false &&
  decide ((s.core 0).rloads.length < 4) && (tileShapeFail (shapeIn s 0 0 1 0)).isNone &&
  decide (((shapeIn s 0 0 1 0).base + readS s 0 9).toNat < 2 ^ 48) && barrierOk s (s.ctxOf 0) (shapeIn s 0 0 1 0).barAt

theorem witness_Residencies_stale :
    (∀ h e, Issues (handled h e) 0 4) ∧
    (refusesHandle (handled 0x10000 (heldTile 2)) 0x10000 && refusesHandle (handled 1024 (heldTile 2)) 1024 &&
      refusesHandle (handled 0x100000 { heldTile 7 with held := false }) 0x100000 &&
      refusesHandle (handled 0x200000 (heldTile 2)) 0x200000) = true ∧
    ((0x10000 : W64).toNat / 2 ^ 16 % 16 ≠ 0 ∧ 1024 ≤ (1024 : W64).toNat % 2 ^ 16 ∧ (0x100000 : W64).toNat / 2 ^ 20 % 4096 = 1 ∧
      (0x200000 : W64).toNat / 2 ^ 20 % 4096 ≠ 3) ∧
    Settled (handled 1024 Resid.zero) 0 [destS 4] ∧ Settled (handled 1024 Resid.zero) 0 [destS 9] :=
  ⟨fun _ _ => issues_of rfl rfl rfl rfl rfl, by decide +kernel, by decide,
    settled_of (by decide +kernel), settled_of (by decide +kernel)⟩

/-- Bytes of a memory from a list of words at addresses. -/
def wordsAt (l : List (Nat × Nat)) : Memory := l.foldl (fun m k => m.write k.1 8 k.2) Memory.empty

/-- The stream thread of context 0 is to run a word: a task record for cluster 0 at 1_0000h, a graph of 16 bytes at 1_0100h, a
patch record at 1_0200h that puts 8 bytes at 8, a mailbox at 1_0300h. -/
def streaming (busy : Bool) : State :=
  { small 0 0 with
    cur := .thread 0
    mem := wordsAt [(0x10010, 1), (0x10100, 16 + (if busy then 4 else 0) * 2 ^ 32), (0x10200, 0x10100), (0x10208, 0x10000),
                    (0x10210, 8 + 8 * 2 ^ 32), (0x10300, if busy then 0 else 3)]
    ctxs := [(0, { smallCtx with
      buffers := [], code := List.replicate 6 0, placement := [(0, 0x8000)]
      thr := { Thread.zero with s := [(4, 0x10000), (6, 0x10100), (9, 0x10300), (10, 0x10200), (11, 0x10001), (12, 0x50000), (13, 4)] } })] }

theorem witness_StreamScalarWords :
    Threads (streaming false) 0 ∧ guardN 0 0 (streaming false) (.thread 0) = true ∧ (31 : BitVec 6).toNat < 32 ∧
    (63 : BitVec 13).toNat < 64 ∧
    (guardOf (.add 1 0 2 3 4 0) = some (1, 0) ∧ (Instr.add 1 0 2 3 4 0).detail = none ∧ streamRuns (.add 1 0 2 3 4 0) = true ∧
      (readAP (streaming false) (.thread 0) 1).getLsbD 0 = ((0 : BitVec 1) == 1)) ∧
    ((Instr.shli 1 2 64).cls = some .scalar ∧ (Instr.shli 1 2 64).detail = some 4 ∧
      Instr.padv.cls = some .scalar ∧ Instr.padv.detail = none ∧ streamRuns .padv = false) :=
  ⟨⟨rfl, rfl, rfl⟩, by decide +kernel, by decide, by decide, by decide +kernel, by decide⟩

theorem witness_TaskLaunches :
    let s := streaming false
    Threads s 0 ∧ (readAS s (.thread 0) 11).toNat % 8 ≠ 0 ∧ recordFail s 0 (readAS s (.thread 0) 4) = none ∧
    (recordFail s 0 (readAS s (.thread 0) 12)).isSome = true ∧ (s.ctx 0).queue.length < 64 ∧
    objectFail s 0 (readAS s (.thread 0) 4) 64 .load = none ∧ (objectFail s 0 (readAS s (.thread 0) 12) 64 .load).isSome = true ∧
    (objWord s 0 (readAS s (.thread 0) 4) 5).toNat ≤ (objWord s 0 (readAS s (.thread 0) 4) 6).toNat :=
  ⟨⟨rfl, rfl, rfl⟩, by decide +kernel⟩

/-- A queued task. -/
def aQueued : QEntry :=
  { record := 0x10000, args := 0, prio := 0, clusters := 1, gate := 0, entry := 0, enq := 0, opened := true, acq := [], graph := none }

theorem witness_TaskLaunches_waiting :
    let s := (streaming false).onCtx 0 (fun x => { x with
      queue := List.replicate 64 aQueued
      thr := { x.thr with fixed := some 1 } })
    Threads s 0 ∧ recordFail s 0 (readAS s (.thread 0) 4) = none ∧ 64 ≤ (s.ctx 0).queue.length ∧
    (objWord s 0 (readAS s (.thread 0) 4) 6).toNat < (((s.ctx 0).thr.fixed).getD (objWord s 0 (readAS s (.thread 0) 4) 5)).toNat :=
  ⟨⟨rfl, rfl, rfl⟩, by decide +kernel⟩

theorem witness_GraphsAndMailboxes :
    (∀ b : Bool, let s := streaming b
      let r := readAS s (.thread 0)
      graphFail s 0 (r 6) = none ∧ recordFail s 0 (r 4) = none ∧ graphBusy s 0 (r 6) (graphBack s 0 (r 6)) = b ∧
      patchFail s 0 (r 10) (r 0) = none ∧ patchGraph s 0 (r 10) = r 6 ∧ (s.ctx 0).queue.length < 64 ∧
      vaOf (r 4) + 64 ≤ vaOf (r 6) ∧ vaOf (patchSource s 0 (r 10) (r 0)) + patchSize s 0 (r 10) ≤ vaOf (r 6) ∧
      objectFail s 0 (r 6) 64 .load = none ∧ (objWord s 0 (r 6) 1).toNat ≤ (objWord s 0 (r 6) 2).toNat ∧
      objectFail s 0 (r 9) 8 .live = none ∧ (objWord s 0 (r 9) 0 = 0 ↔ b = true) ∧ r 13 ≠ objWord s 0 (r 9) 0 ∧
      (b = true → r 0 = objWord s 0 (r 9) 0) ∧ (patchFail s 0 (r 12) (r 0)).isSome = true ∧
      (firstOf [graphFail s 0 (r 12), recordFail s 0 (r 4)]).isSome = true ∧ (objectFail s 0 (r 12) 8 .live).isSome = true) ∧
    (∀ b : Bool, Threads (streaming b) 0 ∧ Plain (streaming b) 0) ∧
    (0 : Nat) < (((some 1 : Option W64)).getD (objWord (streaming false) 0 0x10100 1)).toNat :=
  ⟨by decide +kernel, fun _ => ⟨⟨rfl, rfl, rfl⟩, ⟨rfl, rfl, rfl⟩⟩, by decide +kernel⟩

/-- A result of core 0 in flight. -/
def aFlight : Flight :=
  { dest := .s 9, val := 5, issue := 90, due := 120, flags := 1, slot := 0, bundle := 4, late := false, free := false }

/-- A trap that waits for the accesses of its core. -/
def aTrap : TrapReq := { cause := 10, mask := 1, slot := 0, detail := 0, addr := 0, arg := 0, bundle := 5 }

/-- A scale vector in flight. -/
def aScld : ScldJob := { scales := List.replicate 16 0, owner := 0, row := 8, gran := 0, issue := 90 }

/-- The small state with everything that an event of its core may wait for. -/
def eventful : State :=
  withCore 0 (fun c => { c with
    miss := true, nextIssue := 105, flights := [aFlight], trapPend := some aTrap, sclds := [aScld] })

theorem witness_CoreEventsAndResults :
    (let s := eventful
     let c := s.core 0
     s.powered = true ∧ c.miss = true ∧ c.run = .running ∧ coreAlive s 0 = true ∧ c.trapPend.isSome = true ∧ c.board = [] ∧
     c.sclds ≠ [] ∧ c.flights[0]? = some aFlight ∧ aFlight.late = false ∧ aFlight.free = false ∧
     (∀ q, q < 16 → (List.replicate 16 (0 : BitVec 16))[q]? =
       some ((Tab.get (0 : Vec) (s.core 0).spad 8).extractLsb' (256 * 0 + 16 * q) 16))) ∧
    (let s := small 0 0
     (s.core 0).miss = false ∧ (s.core 1).run ≠ .running ∧ (s.core 0).atSafe = false ∧ (s.core 0).trapPend = none ∧
     (s.core 0).sclds = []) ∧
    mayYield (withCore 0 (fun c => { c with yieldReq := true, atSafe := true })) 0 = true ∧
    ((eventful.core 0).icache.length < 262144 / 24 ∧ eventful.cycle < (eventful.core 0).nextIssue ∧
      (∀ x ∈ eventful.ctxs, (eventful.ctx x.1).queue = []) ∧ (small 0 0).cycle ≥ ((small 0 0).core 0).nextIssue) := by
  decide +kernel

/-- An access of core 0 to the word at 1_0000h, local or remote. -/
def anAccess (k : AccKind) (d : Dest) (remote : Bool) : Access :=
  { kind := k, dest := d, addr := if remote then 0x3000000010000 else 0x10000, addr2 := 0, x := 5, y := 0, oc := 6, rc := 0,
    remote := remote, mask := 0, own := 0, sent := remote, issue := 90, slot := 2, bundle := 4 }

/-- A context without buffers and live words whose core waits for one access. -/
def awaiting (a : Access) : State :=
  (withCore 2 (fun c => { c with board := [a] })).onCtx 0 (fun x => { x with buffers := [] })

theorem witness_AccessesAndAtomicsReturn :
    (∀ remote : Bool, ∀ a ∈ [anAccess (.word .add) (.s 9) remote, anAccess .ldg (.v 9) remote, anAccess .ldgs (.s 9) remote,
        anAccess (.word .st) .none remote, anAccess .store .none remote],
      let s := awaiting a
      s.powered = true ∧ coreAlive s 0 = true ∧ (s.core 0).board = [a] ∧ a.remote = remote ∧ a.sent = remote ∧
      poisoned s (s.ctxOf 0) (rowVa a.addr) = false ∧ (placeOf s (s.ctxOf 0) (vaOf a.addr / 65536)).tier ≠ 3 ∧ a.mask = 0 ∧
      (s.ctx (s.ctxOf 0)).live = [] ∧ (remote = false → globalOk s (s.ctxOf 0) a.addr .load = true) ∧
      accessRefused s (s.ctxOf 0) a = none ∧ hostTierWaits s (s.ctxOf 0) a = false ∧
      (∀ j ∈ (s.core 0).pubds, a.issue ≤ j.issue)) ∧
    (∀ a, Plain (awaiting a) 0) ∧ ((6 : W64) = 6 ∧ (5 : W64) ≠ 6) :=
  ⟨by decide +kernel, fun _ => ⟨rfl, rfl, rfl⟩, by decide⟩

/-- The small state with one copy at the head of channel 3. -/
def engined (j : Copy) : State := withCore 4 (fun c => { c with chans := [(3, [j])] })

/-- R205, R221: a mask row held by another device is what its target answers. -/
theorem test_ccpy_remote_mask :
    let s := engined { aCopy with masked := true, maskAt := 0x3000000010000 }
    execEngineRowLand 0 3 0 0 { data := 5, poisoned := false } 0 s =
      .next (drawn s (copyRow 0 3 0 0 { data := 5, poisoned := false } 0 s)) ∧
    (Tab.get [] ((copyRow 0 3 0 0 { data := 5, poisoned := false } 0 s).core 0).chans 3).map (fun j => (j.mask, j.done)) =
      [(some 5, [])] := ⟨rfl, by decide +kernel⟩

theorem witness_EngineEvents :
    (let j := aCopy
     let s := engined j
     s.powered = true ∧ Tab.get [] (s.core 0).chans 3 = [j] ∧ alive s j.ctx = true ∧ (∀ a ∈ (s.core 0).board, j.issue ≤ a.issue) ∧
     (j.kind = .ccpy ∧ j.masked = false ∧ j.mask = none ∧ j.src.fmt = j.dst.fmt) ∧ 0 < j.rows ∧ 0 ∉ j.done ∧
     Tab.find j.read 0 = none ∧ isSpad (j.src.rowAt 0) = true ∧ isSpad (j.dst.rowAt 0) = false ∧
     isRemote (j.dst.rowAt 0) = false ∧ rowRefused s j.ctx (j.dst.rowAt 0) = none ∧ j.rows ≤ 1) ∧
    (let j := { aCopy with read := [(0, 5)], dst := rowShape 0x8000000000001200 }
     Tab.find j.read 0 = some 5 ∧ isSpad (j.dst.rowAt 0) = true) ∧
    (isRemote ({ aCopy with src := rowShape 0x3000000010000 }.src.rowAt 0) = true ∧ 1 % 256 ≠ 0) ∧
    (∀ b : Bool, let j := { aCopy with done := [0], bar := if b then 0x10000 else 0 }
     let s := engined j
     alive s j.ctx = true ∧ j.kind ≠ .ctopk ∧ j.masked = false ∧ j.done.length = j.rows ∧ j.status = 0 ∧
     (j.bar = 0 ↔ b = false) ∧ isRemote j.bar = false ∧ (b = true → rowRefused s j.ctx j.bar = none)) := by
  decide +kernel

/-- The small context with the back of its buffer where the map does not let a row land. -/
def backless (s : State) : State :=
  s.onCtx 0 (fun x => { x with
    buffers := [(7, bufEntryOf { tag := 7, published := true, front := 0x18000, back := 0x20000, size := 512 })] })

theorem witness_EngineEvents_landing :
    (let s := engined aCopy
     let b := Tab.get (0 : BitVec 256) (s.ctx aCopy.ctx).buffers aCopy.tag
     let away := bufAlt b + (rowVa (aCopy.dst.rowAt 0) - bufHome b)
     bufSwapped b = false ∧ (s.core 0).pubds = [] ∧ landRefused s aCopy.ctx (aCopy.dst.rowAt 0) away = none) ∧
    (let s := backless (engined aCopy)
     let b := Tab.get (0 : BitVec 256) (s.ctx aCopy.ctx).buffers aCopy.tag
     let away := bufAlt b + (rowVa (aCopy.dst.rowAt 0) - bufHome b)
     bufSwapped b = false ∧ landRefused s aCopy.ctx (aCopy.dst.rowAt 0) away ≠ none) ∧
    (let j := { aCopy with done := [0], bar := 0x10000 }
     flowOut (engined j) j.ctx (lcoreAt (engined j) 0 j.ctx) 3 = false ∧ hostPage (engined j) j.ctx (vaOf j.bar) = []) := by
  decide +kernel

/-- An update of 256 elements, and a PSTW pair. -/
def anUpdate : OptuJob :=
  { issue := 90, bundle := 4, ctx := 0, w := shapeIn updating 0 2 0 0, g := shapeIn updating 0 2 1 0, m := shapeIn updating 0 2 2 0,
    v := shapeIn updating 0 2 3 0, n := 256, lr := 0, b1 := 0, b2 := 0, eps := 0, wd := 0, done := [], landed := 0, status := 0,
    flags := 0, told := 0 }
def aPair : PstwJob := { ctx := 0, pa := 0x18000, ta := 0x1A000, x := 5, issue := 90 }

theorem witness_EngineEvents_update :
    (let s := updating.onCore 0 (fun c => { c with optu := some anUpdate })
     let rows := blockRows anUpdate.w 0 ++ blockRows anUpdate.g 0 ++ blockRows anUpdate.m 0 ++ blockRows anUpdate.v 0
     s.powered = true ∧ (s.core 0).optu = some anUpdate ∧ alive s anUpdate.ctx = true ∧
     (∀ a ∈ (s.core 0).board, anUpdate.issue ≤ a.issue) ∧ 0 < anUpdate.n / 256 ∧ 0 ∉ anUpdate.done ∧
     rows.any (fun a => enginePoison s anUpdate.ctx a { data := 0, poisoned := false }) = false ∧
     rows.any (fun a => enginePoison { s with poison := [0x10000 / 512] } anUpdate.ctx a { data := 0, poisoned := false }) = true) ∧
    ({ anUpdate with done := [0] }.done.length = anUpdate.n / 256 ∧ anUpdate.w.barAt = 0) ∧
    (let s := paired.onCore 0 (fun c => { c with pstw := [aPair] })
     let side := fun (a : W64) => backKey s aPair.ctx (sideVa (s.ctx aPair.ctx) true (rowVa a))
     (s.core 0).pstw = [aPair] ∧ alive s aPair.ctx = true ∧ isSpad aPair.pa = false ∧ isSpad aPair.ta = false ∧
     side aPair.pa + 512 ≤ side aPair.ta) ∧
    ((small 0 0).core 0).optu = none ∧ ((small 0 0).core 0).pstw = [] := by
  decide +kernel

/-- The state of that update; and one whose maps let nothing land. -/
def updatingNow : State := updating.onCore 0 (fun c => { c with optu := some anUpdate })
def closedMaps (s : State) : State := s.onCtx 0 (fun x => { x with maps := [(0, []), (1, [])] })

/-- Of the rows of the update's destinations, which the map refuses. -/
def refusedRows (s : State) : List Bool :=
  ([anUpdate.w, anUpdate.m, anUpdate.v].map (fun d => (blockRows d 0).map (fun a =>
    (landRefused s 0 a (backTag (s.ctx 0) d.tagNo (rowVa a))).isSome))).flatten

theorem witness_EngineEvents_refusals :
    ((updatingNow.core 0).pubds = [] ∧ (∀ d ∈ [anUpdate.w, anUpdate.g, anUpdate.m, anUpdate.v], d.code < 2) ∧
     (∀ b ∈ refusedRows updatingNow, b = false) ∧ (∀ b ∈ refusedRows (closedMaps updatingNow), b = true)) ∧
    (let s := paired.onCore 0 (fun c => { c with pstw := [aPair] })
     let away := fun (s : State) (a : W64) => backOf (s.ctx 0) (rowVa a)
     landRefused s 0 aPair.pa (away s aPair.pa) = none ∧ landRefused s 0 aPair.ta (away s aPair.ta) = none ∧
     landRefused (closedMaps s) 0 aPair.pa (away (closedMaps s) aPair.pa) ≠ none) := by
  decide +kernel

/-- A Loom instruction in flight over two rows; a result stream; a residency load; a discard. -/
def aLoom : LoomJob :=
  { issue := 90, bundle := 4, ctx := 0, lcore := 0, slotIx := 0, base := 8190, rows := 2, done := 0, kofs := 0, len := 128, fmt := 1,
    first := true, tile := { fmt := 1, k := 128, bytes := 5 }, sq := false, scales := [], abase := 0x8000000000001000, stride := 512,
    acts := [0, 0], flags := 0, clash := [] }
def aStream : LmmarJob :=
  { issue := 90, bundle := 4, ctx := 0, base := 0x3000000010000, stride := 512, rows := 1, kofs := 0, len := 128, fmt := 1,
    tile := { fmt := 1, k := 128, bytes := 5 }, tag := 7, off := 0x19000, rc := 0, bar := 0, landed := [], flags := 0 }
def aLoad : RloadJob :=
  { ctx := 0, lcore := 0, slotIx := 0, fmt := 1, k := 64, src := 0x10000, bytes := 16384, bar := 0, stale := false, revoked := false,
    failed := false, issue := 90 }

theorem witness_LoomAndResidencyEvents :
    (let s := withCore 4 (fun c => { c with
       loom := [aLoom], lmmar := [aStream], rloads := [aLoad], pubds := [{ ctx := 0, tag := 7, n := 1, issue := 90 }]
       loomFree := 132 })
     s.powered = true ∧ (s.core 0).loom = [aLoom] ∧ aLoom.done < aLoom.rows ∧ aLoom.base + aLoom.done ∉ aLoom.clash ∧
     aLoom.acts.getD aLoom.done 0 = spadGet s 0 (aLoom.abase + BitVec.ofNat 64 aLoom.done * aLoom.stride) ∧
     s.cycle < (s.core 0).loomFree ∧ (s.core 0).lmmar = [aStream] ∧ alive s aStream.ctx = true ∧
     (∀ a ∈ (s.core 0).board, 90 ≤ a.issue) ∧ 0 < aStream.rows ∧ 0 ∉ aStream.landed ∧ aStream.bar = 0 ∧
     (s.core 0).rloads.find? (fun j => j.slotIx == 0) = some aLoad ∧ aLoad.bar = 0 ∧
     rangePoisoned s aLoad.ctx aLoad.src aLoad.bytes = false ∧ (s.core 0).pubds ≠ [] ∧ (s.ctx 0).shared = [] ∧
     bufRows (Tab.get (0 : BitVec 256) (s.ctx 0).buffers 7) = 1 ∧
     sideVa (s.ctx 0) false 0x18000 = 0x18000 ∧ sideVa (s.ctx 0) false 0x181FF = 0x181FF ∧ sideVa (s.ctx 0) true 0x18000 = 0x19000) ∧
    ((small 4 0).core 0).loom = [] ∧ ((small 4 0).core 0).loomFree ≤ (small 4 0).cycle := by
  decide +kernel

theorem witness_LoomAndResidency_results :
    (let j := { aStream with bar := 0x10100 }
     let s := withCore 4 (fun c => { c with lmmar := [j] })
     let b := Tab.get (0 : BitVec 256) (s.ctx 0).buffers j.tag
     let away := bufAlt b + (j.off - bufHome b)
     bufSwapped b = false ∧ addPages s 0 j.bar 0 = [] ∧ (s.core 0).pubds = [] ∧
     landRefused s 0 (BitVec.ofNat 64 j.off) away = none ∧ j.bar ≠ 0 ∧ isRemote j.bar = false ∧
     rowRefused s 0 j.bar = none ∧ keyOf s 0 (vaOf j.bar / 8 * 8) + 8 ≤ backKey s 0 away ∧
     doneRows [0] j.rows 0 = 1 ∧ doneRows [1] 2 0 = 0) ∧
    (let s := backless (withCore 4 (fun c => { c with lmmar := [{ aStream with off := 0x18000 }] }))
     let b := Tab.get (0 : BitVec 256) (s.ctx 0).buffers 7
     bufSwapped b = false ∧ landRefused s 0 0x18000 (bufAlt b + (0x18000 - bufHome b)) ≠ none) ∧
    (∀ stale revoked failed : Bool, let j := { aLoad with stale := stale, revoked := revoked, failed := failed }
      let s := withCore 4 (fun c => { c with rloads := [j] })
      (s.core 0).rloads.find? (fun j => j.slotIx == 0) = some j ∧ alive s 0 = true ∧ (s.core 0).pubds = [] ∧
      rangePoisoned { s with poison := [0x10000 / 512] } 0 j.src j.bytes = true) ∧
    (let s := withCore 4 (fun c => { c with pubds := [{ ctx := 0, tag := 7, n := 1, issue := 90 }] })
     let b := Tab.get (0 : BitVec 256) (s.ctx 0).buffers 7
     bufRows b = 1 ∧ bufSwapped b = false ∧ mapRefuses (s.ctx 0) (bufAlt b) .live = none ∧
     keyOf s 0 (bufHome b) < backKey s 0 (bufAlt b) ∧ keyOf s 0 (bufHome b + 511) < backKey s 0 (bufAlt b) ∧
     mapRefuses ((backless s).ctx 0) (bufAlt (Tab.get (0 : BitVec 256) ((backless s).ctx 0).buffers 7)) .live ≠ none) := by
  decide +kernel

/-- A queued task of cluster 0. -/
def aTask (gate : W64) (opened : Bool) (prio : Nat) : QEntry :=
  { record := 0x10000, args := 3, prio := prio, clusters := 1, gate := gate, entry := 0, enq := 0, opened := opened, acq := [],
    graph := none }

/-- The tenant's cluster, its cores idle or having halted in task 1, with tasks queued and running. -/
def scheduled (run : RunState) (q : List QEntry) (t : List Task) : State :=
  { small 0 0 with
    owner := [(0, 0x8000), (1, 0x8000), (2, 0x8000), (3, 0x8000)]
    cores := (List.range 4).map (fun p => (p, { Core.zero with ctx := some 0, lcore := p, run := run, task := 1 }))
    ctxs := [(0, { smallCtx with placement := [(0, 0x8000)], queue := q, tasks := t, buffers := [] })] }

theorem witness_TaskDispatchAndEnd :
    (∀ q ∈ [[aTask 0 true 0], [aTask 0 true 0, aTask 0 true 7]],
      let s := scheduled .idle q []
      s.powered = true ∧ (s.ctx 0).state = 1 ∧ (s.ctx 0).saveAt = 0 ∧ (s.ctx 0).queue = q ∧
      (∀ e ∈ q, e.opened = true ∧ e.prio < 8 ∧ ∀ k, k < 80 → e.clusters.getLsbD k = true → clusterFree s 0 k = true)) ∧
    taskCores ((scheduled .idle [] []).ctx 0) 1 = [(0, 0, 0), (1, 1, 1), (2, 2, 2), (3, 3, 3)] ∧
    (aTask 0x10001 false 0).opened = false ∧
    (let s := scheduled .idle [aTask 0x10000 false 0, aTask 0x10001 false 0] []
     (memWord s 0 (vaOf ((0x10000 : W64) &&& ~~~7))).getLsbD 63 = (0x10000 : W64).getLsbD 0 ∧
     (memWord s 0 (vaOf ((0x10001 : W64) &&& ~~~7))).getLsbD 63 ≠ (0x10001 : W64).getLsbD 0) ∧
    (let s := scheduled .halted [] [{ id := 1, record := 0x10000, clusters := 1, graph := none }]
     ∀ q l r, (q, l, r) ∈ taskCores (s.ctx 0) 1 → (s.core q).ctx = some 0 ∧ (s.core q).task = 1 ∧ (s.core q).run = .halted ∧
       settled s q = true) ∧
    (let s := { scheduled .halted [] [{ id := 1, record := 0x10000, clusters := 1, graph := some (0x10100, 1) }] with
       mem := wordsAt [(0x10100, 16 + 8 * 2 ^ 32)] }
     (s.ctx 0).buffers = [] ∧ (s.ctx 0).shared = [] ∧ (memWord s 0 0x10100).toNat / 2 ^ (34 + 1) % 2 = 1) ∧
    (let s := (scheduled .idle [] []).onCtx 0 (fun x => { x with thr := { x.thr with halted := true } })
     (s.ctx 0).thr.halted = true ∧ (s.ctx 0).queue = [] ∧ (s.ctx 0).tasks = [] ∧ (s.ctx 0).haltRec = false) ∧
    stalledOn (small 0 0) 0 = none := by
  refine ⟨by decide +kernel, by decide +kernel, by decide +kernel, by decide +kernel, ?_, by decide +kernel, by decide +kernel,
    by decide +kernel⟩
  intro s q l r h
  have hl : taskCores (s.ctx 0) 1 = [(0, 0, 0), (1, 1, 1), (2, 2, 2), (3, 3, 3)] := by decide +kernel
  rw [hl] at h
  have : q = 0 ∨ q = 1 ∨ q = 2 ∨ q = 3 := by simp at h; omega
  rcases this with rfl | rfl | rfl | rfl <;> decide +kernel

theorem witness_TaskDispatchAndEnd_gate :
    (∀ run ∈ [RunState.idle, .running],
      let e := aTask 0x10001 false 0
      let s := scheduled run [e] []
      (s.ctx 0).queue = [e] ∧ e.opened = false ∧ e.prio < 8 ∧
      (memWord s 0 (vaOf (e.gate &&& ~~~7))).getLsbD 63 ≠ e.gate.getLsbD 0 ∧
      (run = .idle → ∀ k, k < 80 → e.clusters.getLsbD k = true → clusterFree s 0 k = true) ∧
      (run ≠ .idle → e.clusters.getLsbD 0 = true ∧ clusterFree s 0 0 = false)) ∧
    (let e := aTask 0x10000 false 0
     (memWord (scheduled .idle [e] []) 0 (vaOf (e.gate &&& ~~~7))).getLsbD 63 = e.gate.getLsbD 0) := by
  decide +kernel

theorem witness_TaskDispatchAndEnd_stall :
    let s := (withCore 0 (fun c => { c with pc := 0, banks := [(0, { state := .owned, task := 9, held := 1 })] })).onCtx 0 (fun x => { x with
      code := [0, 0, 0, 0x24001600, 0, 0] })
    coreAlive s 0 = true ∧ stalledOn s 0 = some 1 ∧ (s.core 0).stallSeen = false ∧ s.faultQ.armed = false ∧ s.held.length < 256 := by
  decide +kernel

/-- A map load of map 1 from the image at 1_0000h. -/
def aMapld (remote : Bool) : MapldJob :=
  { core := 0, map := 1, addr := if remote then 0x3000000010000 else 0x10000, issue := 90, bundle := 4 }

/-- A map image of another device: its one entry gives region 1. -/
def anImage (ok : Bool) : RemoteImage :=
  { status := if ok then 0 else 2, header := 1,
    entries := [mapEntryOf { map := 0, region := 1, place := 2, entry := 0, access := 1, cow := false, watch := false, key := 0, tag := 0 }] }

/-- A page being moved to tier 0. -/
def aWork : WorkItem :=
  { region := 0, page := 1, tier := 0, die := 0, wide := false, alloc := true, copy := true, pin := false, resealed := false, key := 0,
    done := 0, marks := 0, wait := 0 }

/-- The small state with a map load and a transition under way; the image at 1_0000h has no entry, or one of a reserved
region. -/
def mapping (remote good : Bool) : State :=
  { small 0 0 with
    mem := wordsAt [(0x10000, if good then 0 else 1), (0x10010, 900)]
    owner := [(0, 0x8000)]
    ctxs := [(0, { smallCtx with
      buffers := [], mapld := [aMapld remote],
      tr := { Transition.zero with pend := true, tgt := 0, work := [aWork] } })] }

theorem witness_MapAndReeveEvents :
    (∀ remote good : Bool,
      let s := mapping remote good
      let j := aMapld remote
      let img := anImage good
      let n := if isRemote j.addr = true then img.header.toNat else (imageWord s j.core 0 (vaOf j.addr)).toNat
      let l := if isRemote j.addr = true then img.entries
        else (List.range (min n 1024)).map (fun k => imageWord s j.core 0 (vaOf j.addr + 16 + 16 * k))
      s.powered = true ∧ alive s 0 = true ∧ (s.ctx 0).mapld[0]? = some j ∧ (s.core 0).board = [] ∧
      (((isRemote j.addr = true → img.status = 0) ∧ n ≤ 1024 ∧ l.length = n ∧ imageOk s 0 l = true) ↔ good = true)) ∧
    (let s := mapping false true
     freeSlot s = true ∧ alive s 0 = true ∧ (s.ctx 0).tr.pend = true ∧ (s.ctx 0).tr.fail = false ∧
     (∀ j ∈ (s.ctx 0).mapld, j.map ≠ (s.ctx 0).tr.tgt.toNat) ∧ (s.ctx 0).tr.work[0]? = some aWork ∧ (15 : Nat) < 16 ∧
     aWork.wait = 0 ∧ aWork.pin = false ∧ aWork.resealed = false ∧ (placeOf s 0 1).tier ≠ 4 ∧
     sealBroken s (placeOf s 0 1) = false ∧ (placeOf s 0 1).tier = aWork.tier) ∧
    alive State.reset 0 = false := by
  decide +kernel

/-- The small state with one piece of the Reeves' work and its region placed at will; pages placed; key slot 0 LIVE for tenant 0. -/
def reeving (w : WorkItem) (pages : Tab Place) : State :=
  { small 0 0 with
    keys := [(0, { state := 1, tenant := 0, key := 5, epoch := 0 })]
    tenants := [(0, 1 <<< 96)]
    ctxs := [(0, { smallCtx with
      buffers := [], pages := pages, mapld := [{ aMapld false with addr := 0x30000 }]
      maps := [(0, [(0, mapEntryOf { map := 0, region := 0, place := 0, entry := 0, access := 2, cow := false, watch := false, key := 0, tag := 0 })])]
      tr := { Transition.zero with pend := true, tgt := 0, work := [w] } })] }

/-- One page of HBM4E on each die; the first is number `n`, the others belong to no region. -/
def onEachDie (n : Nat) : Tab Place :=
  [(n, Place.zero), (901, { Place.zero with die := 1 }), (902, { Place.zero with die := 2 }), (903, { Place.zero with die := 3 })]

theorem placesFor_near (s : State) (tenant page key : Nat) :
    placesFor s tenant false page key = [((Config.pageDie page 0).val), ((Config.pageDie page 0).val + 1) % 4,
      ((Config.pageDie page 0).val + 2) % 4, ((Config.pageDie page 0).val + 3) % 4].map (fun d => (0, d)) := by
  simp [placesFor, diesFor]

theorem witness_MapAndReeve_places :
    (choosePlace (reeving { aWork with alloc := false } []) 0 false 1 0).isSome = true ∧
    (let s := reeving { aWork with alloc := false } (onEachDie 900)
     choosePlace s 0 false 1 0 = none ∧ ∀ q ∈ placesFor s 0 false 1 0, anyVictim s q.1 q.2 = false) ∧
    (let s := reeving { aWork with alloc := false, page := 7 } (onEachDie 1)
     choosePlace s 0 false 7 0 = none ∧ ∃ q ∈ placesFor s 0 false 7 0, anyVictim s q.1 q.2 = true) := by
  simp only [choosePlace, placesFor_near]
  generalize Config.pageDie 1 0 = d
  generalize Config.pageDie 7 0 = d'
  revert d d'
  decide +kernel

theorem witness_MapAndReeve_pages :
    (let s := reeving { aWork with tier := 2 } [(1, { Place.zero with tier := 2, epoch := 9 })]
     sealBroken s (placeOf s 0 1) = true ∧ (placeOf s 0 1).tier ≠ 4 ∧ freeSlot s = true ∧ alive s 0 = true ∧
     (s.ctx 0).mapld ≠ [] ∧ (∀ j ∈ (s.ctx 0).mapld, j.map ≠ (s.ctx 0).tr.tgt.toNat) ∧
     imageFault s 0 (vaOf 0x30000) 0 ≠ none ∧ isRemote 0x30000 = false) ∧
    (let s := reeving { aWork with tier := 2, resealed := true } [(1, { Place.zero with tier := 2 })]
     sealBroken s (placeOf s 0 1) = false ∧ (placeOf s 0 1).tier ≠ 4 ∧ keyUsable s (s.ctx 0).tenant 0 = true) ∧
    freeSlot { small 0 0 with rotaBank := 0, rota := [(12, 0x80)] } = false := by
  decide +kernel

/-- Bytes staged by one writer in the row at 1_0000h. -/
def aStage (w : Nat) : Stage := { va := 0x10000, key := 0x10000, back := 0x10000, writer := w, flow := 0, mask := 0xFF, data := 77 }

/-- The small state whose only core waits at PADV with two stages of one row; no transition, or one that is ready. -/
def committing (pend : Bool) (l : List Stage) : State :=
  (withCore 0 (fun c => { c with atPadv := true })).onCtx 0 (fun x => { x with
    staged := l
    tr := { Transition.zero with pend := pend, ready := pend, tgt := 1 } })

theorem witness_PhaseCommit :
    (∀ pend : Bool, let s := committing pend [aStage 1, aStage 2]
      s.powered = true ∧ alive s 0 = true ∧ commitReady s 0 = true ∧ (s.core 0).ctx = some 0 ∧ (s.core 0).atPadv = true) ∧
    (let s := committing false [aStage 1, aStage 2]
     (s.ctx 0).tr.pend = false ∧ (s.ctx 0).shared = [] ∧ (s.ctx 0).staged = [aStage 1, aStage 2] ∧
     (aStage 1).writer < 321 ∧ (aStage 2).writer < 321 ∧ (aStage 1).key = 0 * 2 ^ 48 + (aStage 1).va ∧
     (aStage 2).key = (aStage 1).key ∧ (aStage 2).va = (aStage 1).va) ∧
    (let s := committing false []
     alive s 0 = true ∧ commitReady s 0 = true ∧ (s.ctx 0).tr.pend = false ∧ (s.ctx 0).staged = []) ∧
    ((mapping false true).ctx 0).mapld ≠ [] ∧
    (let s := small 0 0
     (0, s.core 0) ∈ s.cores ∧ (s.core 0).ctx = some 0 ∧ (s.core 0).run = .running ∧ (s.core 0).atPadv = false) := by
  decide +kernel

/-- The state ready to commit into a map whose one region, the first, has that entry action. -/
def entering (entry : Nat) : State :=
  (committing true []).onCtx 0 (fun x => { x with
    regions := [(0, regEntry 0x10000 0x10000 false false)]
    maps := [(0, []), (1, [(0, mapEntryOf { map := 1, region := 0, place := 2, entry := entry, access := 2, cow := false, watch := false, key := 0, tag := 0 })])] })

theorem witness_PhaseCommit_fold :
    (let s := committing true [aStage 1, aStage 2, { aStage 2 with back := 0x10200 }]
     alive s 0 = true ∧ commitReady s 0 = true ∧
     (∀ k ∈ (s.ctx 0).regions, meEntry (mapEntry (s.ctx 0) (s.ctx 0).tr.tgt.toNat k.1) ≠ 1 ∧
       meEntry (mapEntry (s.ctx 0) (s.ctx 0).tr.tgt.toNat k.1) ≠ 2) ∧
     (∀ g ∈ (s.ctx 0).staged, (regionAt (s.ctx 0) g.back).map (fun k => regShared k.2) = some false)) ∧
    (∀ entry ∈ [1, 2], let s := entering entry
     alive s 0 = true ∧ commitReady s 0 = true ∧ (s.ctx 0).tr.pend = true ∧ (s.ctx 0).staged = [] ∧
     (s.ctx 0).regions = [(0, regEntry 0x10000 0x10000 false false)] ∧ regValid (regEntry 0x10000 0x10000 false false) = true ∧
     regCode (regEntry 0x10000 0x10000 false false) = false ∧ regShared (regEntry 0x10000 0x10000 false false) = false ∧
     mePlace (mapEntry (s.ctx 0) (s.ctx 0).tr.tgt.toNat 0) ≠ 0 ∧ meEntry (mapEntry (s.ctx 0) (s.ctx 0).tr.tgt.toNat 0) = entry ∧
     s.mem.undef = []) := by
  decide +kernel

/-- A ring of the manager in host memory, with `n` entries that no one has read. -/
def aRing (n : Nat) : QueueCtl :=
  { base := 0x5000, m := 3, armed := true, vector := 2, producer := BitVec.ofNat 32 n, consumer := 0 }

/-- A request for a page, of kind 1 or 2. -/
def aRequest (kind : Nat) : PageReq := { slot := 0, gen := 7, ctx := 0, kind := kind, page := 1, pool := 0 }

/-- The small context's map 0 with region 0 placed at will. -/
def freeMap : Tab (BitVec 128) :=
  [(0, mapEntryOf { map := 0, region := 0, place := 0, entry := 0, access := 2, cow := false, watch := false, key := 0, tag := 0 })]

/-- The small state with its page 1 in the given tier, its ring armed, its requests' answers in one slot. -/
def paging (tier : Nat) (reqs : List PageReq) (answer : Nat) : State :=
  { small 0 0 with
    pageQ := aRing 0, faultQ := aRing 0, ansArmed := true, poolArmed := true, ansCount := 1, poolSize := 1, reqs := reqs
    answers := [0]
    mgmtMem := Memory.empty.write 0 8 answer
    keys := [(0, { state := 1, tenant := 0, key := 5, epoch := 0 })]
    tenants := [(0, 1 <<< 96)]
    ctxs := [(0, { smallCtx with
      buffers := [], pages := [(1, { Place.zero with tier := tier })], maps := [(0, freeMap)]
      tr := { Transition.zero with pend := true, work := [aWork] } })] }

/-- A fault record. -/
def aRecord : FaultRec :=
  { kind := 3, cause := 1, ctx := 0, tenant := 0, core := 5, phys := 5, addr := 0x10000, info := 2, at_ := 4, time := 100 }

/-- The same with no work: its page 1, in the given tier, may be demoted. -/
def resting (tier : Nat) : State :=
  (paging tier [] 0).onCtx 0 (fun x => { x with tr := Transition.zero })

theorem witness_PageAndFaultEvents :
    (∀ tier, tier < 3 → let s := resting tier
      s.powered = true ∧ freeSlot s = true ∧ lowMark s tier 0 ≤ highMark s tier 0 ∧ highMark s tier 0 < usedPages s tier 0 ∧
      (firstVictim s tier 0).isSome = true) ∧
    (let s := paging 3 [] 0
     promotionWanted (s.onCore 0 (fun c => { c with board := [anAccess (.word .add) (.s 9) false] })) 0 1 = true ∧
     s.waiting = [] ∧ promotionWanted s 0 1 = false ∧ canRequest s 1 0 = false ∧ s.reqs.find? (fun q => q.slot == 0) = none ∧ 0 ∈ s.answers ∧
     (1 : Nat) ∉ s.answers) ∧
    (let s := paging 4 [] 0
     alive s 0 = true ∧ (s.ctx 0).tr.pend = true ∧ (s.ctx 0).tr.fail = false ∧ (s.ctx 0).tr.work[0]? = some aWork ∧
     aWork.wait = 0 ∧ aWork.done ≠ BitVec.allOnes 16 ∧ (placeOf s 0 aWork.page).tier = 4 ∧ canRequest s 0 0 = true) ∧
    (∀ kind ∈ [1, 2], ∀ code ∈ [0, 1, 2, 3], let s := paging 3 [aRequest kind] (7 * 2 ^ 32 + code)
      0 ∈ s.answers ∧ s.reqs.find? (fun q => q.slot == 0) = some (aRequest kind) ∧
      s.mgmtMem.read (s.ansBase + 8 * 0) 8 = (aRequest kind).gen.toNat * 2 ^ 32 + code ∧
      (victimRank s 3 0 1).isSome = true ∧ (placeOf s 0 1).tier = 3) ∧
    (∀ n ∈ [0, 7], let s := { paging 3 [] 0 with faultQ := aRing n, held := [aRecord] }
      s.held = aRecord :: [] ∧ s.faultQ.armed = true ∧ (s.faultQ.producer - s.faultQ.consumer).toNat < 2 ^ s.faultQ.m) ∧
    (let s := { paging 3 [] 0 with faultQ := aRing 8, held := [aRecord] }
     (s.faultQ.producer - s.faultQ.consumer).toNat = 2 ^ s.faultQ.m) ∧
    aRecord.kind < 2 ^ 16 ∧ aRecord.cause < 2 ^ 16 ∧ aRecord.ctx < 2 ^ 8 ∧ aRecord.tenant < 2 ^ 8 ∧ aRecord.core < 2 ^ 16 ∧
    aRecord.phys < 2 ^ 32 := by
  decide +kernel

theorem witness_PageAndFault_places :
    (∃ d, (diesFor 1 1).find? (fun d => fits (resting 0) 1 d) = some d) ∧
    (∃ d, (diesFor 1 1).find? (fun d => fits (paging 3 [] 0) 1 d) = some d) ∧
    (∃ d, (diesFor 3 1).find? (fun d => fits (resting 1) 3 d) = some d) ∧
    (∃ d, (diesFor 3 1).find? (fun d => fits (resting 2) 3 d) = some d) ∧
    (let s := ({ resting 1 with cxl := [65536 <<< 96] } : State).onCtx 0 (fun x => { x with pages := x.pages ++ [(7, { Place.zero with tier := 2 })] })
     (diesFor 2 1).find? (fun d => fits s 2 d) = none ∧ (s.cxl.map (fun d => d / 2 ^ 96 % 2 ^ 64)).sum / 65536 = 1 ∧
     (firstVictim s 1 0).isSome = true ∧ highMark s 1 0 < usedPages s 1 0) := by
  simp only [diesFor]
  generalize Config.pageDie 1 1 = a
  generalize Config.pageDie 1 2 = b
  generalize Config.pageDie 1 3 = d
  refine ⟨⟨a.val, ?_⟩, ⟨a.val, ?_⟩, ⟨d.val, ?_⟩, ⟨d.val, ?_⟩, ?_⟩ <;> revert a b d <;> decide +kernel

/-- A host-tier page that an atomic waits for, and every die of LPDDR-6 filled with `n` pages. -/
def lpFull (n : Nat) : State :=
  ({ paging 3 [] 0 with ctxs := [(0, { smallCtx with
    buffers := [], maps := [(0, freeMap)]
    pages := (1, { Place.zero with tier := 3 }) :: ((List.range 4).map (fun d =>
      List.replicate n (7, { Place.zero with tier := 1, die := d }))).flatten })] } : State).onCore 0
    (fun c => { c with board := [anAccess (.word .add) (.s 9) false] })

theorem lpFull_used (n d : Nat) (h : d < 4) : usedPages (lpFull n) 1 d = n := by
  have hd : d = 0 ∨ d = 1 ∨ d = 2 ∨ d = 3 := by omega
  obtain rfl | rfl | rfl | rfl := hd <;>
    simp [usedPages, windowPages, lpFull, paging, small, State.reset, State.onCore, State.setCore, List.range_succ, smallCtx, Ctx.zero, Transition.zero, Place.zero]

theorem witness_PageAndFault_full :
    promotionWanted (lpFull 3906250) 0 1 = true ∧ freeSlot (lpFull 3906250) = true ∧ (lpFull 3906250).waiting = [] ∧
    (diesFor 1 1).find? (fun d => fits (lpFull 3906250) 1 d) = none := by
  refine ⟨by decide +kernel, by decide +kernel, rfl, ?_⟩
  have h : ∀ d, d < 4 → fits (lpFull 3906250) 1 d = false := by
    intro d hd
    simp [fits, tierPages, lpFull_used _ _ hd]
  simp only [diesFor]
  generalize Config.pageDie 1 1 = a
  have ha := a.isLt
  simp [h a.val ha, h _ (Nat.mod_lt _ (by omega : 0 < 4))]

/-- The state with its page 1's image in the first `n` bytes of the pool. -/
def imaged (s : State) (n : Nat) : State :=
  { s with hostMem := s.hostMem.write s.poolBase n (pageImage s (pageHome s 0 1) (placeOf s 0 1)) }

theorem imaged_image (s : State) (n : Nat) :
    pageImage (imaged s n) (pageHome (imaged s n) 0 1) (placeOf (imaged s n) 0 1) = pageImage s (pageHome s 0 1) (placeOf s 0 1) := rfl

theorem imaged_read (s : State) (n : Nat) (h : pageImage s (pageHome s 0 1) (placeOf s 0 1) < 256 ^ n) :
    (imaged s n).hostMem.read ((imaged s n).poolBase + n * 0) n
      = pageImage (imaged s n) (pageHome (imaged s n) 0 1) (placeOf (imaged s n) 0 1) := by
  rw [Nat.mul_zero, Nat.add_zero, imaged_image]
  exact (Memory.read_write _ _ _ _).trans (Nat.mod_eq_of_lt h)

/-- The state in which page 1 of storage has come, its image in the pool. -/
def arrived : State := imaged (paging 4 [aRequest 1] (7 * 2 ^ 32 + 1)) 65536

theorem witness_PageAndFault_image (h : ∀ key nonce aad plain, Config.seal key nonce aad plain < 256 ^ 65536) :
    arrived.hostMem.read (arrived.poolBase + 65536 * 0) 65536 = pageImage arrived (pageHome arrived 0 1) (placeOf arrived 0 1) ∧
    (arrived.ctx 0).tr.work.find? (fun v => v.page == 1) = some aWork ∧ sealBroken arrived (placeOf arrived 0 1) = false ∧
    sealBroken { arrived with keys := [] } (placeOf arrived 0 1) = true ∧ 0 ∈ arrived.answers ∧
    arrived.reqs.find? (fun q => q.slot == 0) = some (aRequest 1) ∧
    arrived.mgmtMem.read (arrived.ansBase + 8 * 0) 8 = (aRequest 1).gen.toNat * 2 ^ 32 + 1 :=
  ⟨imaged_read _ _ (h _ _ _ _), by decide +kernel⟩

/-- The small state while its context is asked to save, its core yielded or not. -/
def saving (yielded : Bool) (limit : Nat) : State :=
  (withCore 0 (fun c => { c with run := if yielded then .yielded else .running })).onCtx 0 (fun x => { x with
    saveAt := 1, timeout := 1, limit := limit })

theorem witness_SavingAContext :
    (let s := small 0 0
     s.powered = true ∧ s.bootStep = 5 ∧ (s.ctx 0).state = 1 ∧ (s.ctx 1).state ≠ 1 ∧ (s.ctx 0).saveAt = 0 ∧
     saveReady s 0 = false ∧ ({ s with bootStep := 2 } : State).bootStep ≠ 5) ∧
    (let s := { saving false 0 with cycle := 1024 }
     (s.ctx 0).state = 1 ∧ 0 < (s.ctx 0).saveAt ∧ 0 < (s.ctx 0).timeout ∧ (s.ctx 0).overdue = false ∧
     (s.ctx 0).saveAt - 1 + (s.ctx 0).timeout * 1024 ≤ s.cycle ∧ 0 < stillRunning s 0 ∧
     s.faultQ.armed = false ∧ s.held.length < 256 ∧
     (0, s.core 0) ∈ s.cores ∧ (s.core 0).ctx = some 0 ∧ (s.core 0).run = .running) ∧
    (let s := saving true 0
     saveReady s 0 = true ∧ (s.ctx 0).limit < recordSize s 0) ∧
    (let s := saving true (2 ^ 24)
     saveReady s 0 = true ∧ recordSize s 0 ≤ (s.ctx 0).limit ∧ (0, s.core 0) ∈ s.cores ∧ (s.core 0).ctx = some 0 ∧
     (s.core 0).run = .yielded) ∧
    (let s := (small 0 0).onCtx 0 (fun x => { x with state := 2, short := true })
     (s.ctx 0).state = 2 ∧ (s.ctx 0).short = true) ∧
    (let s := (small 0 0).onCtx 0 (fun x => { x with state := 2 })
     (s.ctx 0).state ≠ 1 ∧ ¬((s.ctx 0).state = 2 ∧ (s.ctx 0).short = true)) ∧
    (let s := (saving true 0).onCore 0 (fun c => { c with atPadv := true })
     (0, s.core 0) ∈ s.cores ∧ (s.core 0).ctx = some 0 ∧ (s.core 0).atPadv = true) ∧
    Resid.zero.src < 2 ^ 48 ∧ Resid.zero.status < 256 ∧ Resid.zero.charge < 2 ^ 11 ∧ Resid.zero.k < 2 ^ 14 ∧
    Resid.zero.fmt < 16 ∧ Resid.zero.state < 16 := by
  decide +kernel

/-- The record of a save of the small context, as it stands in an empty save area. -/
def aSave : SaveRecord :=
  { area := 0, size := 64, key := 0, epoch := 0, image := 0, cores := [saveCore 0 smallCtx { smallCore with run := .yielded }],
    lists := [], rest := savedRest 100 smallCtx }

/-- The saved small context, placed on cluster 0 under a live key or not placed; cluster 0 is idle or not. -/
def restoring (placed idle : Bool) : State :=
  { small 0 0 with
    keys := [(0, { state := 1, tenant := 0, key := 5, epoch := 0 })]
    owner := [(0, 0x8000), (1, 0x8000), (2, 0x8000), (3, 0x8000)]
    cores := [(0, { Core.zero with run := if idle then .idle else .running })]
    ctxs := [(0, { smallCtx with
      state := 3, record := some aSave, placement := if placed then [(0, 0x8000)] else [] })] }

/-- A number in `n` bytes, little-endian. -/
def bytesOf (n v : Nat) : List Byte := (List.range n).map (fun k => BitVec.ofNat 8 (v / 2 ^ (8 * k)))

/-- A section header: its type, size, offset, link. -/
def headOf (ty size off link : Nat) : List Byte :=
  bytesOf 4 0 ++ bytesOf 2 ty ++ bytesOf 2 0 ++ bytesOf 8 size ++ bytesOf 8 off ++ bytesOf 4 0 ++ bytesOf 4 link ++ bytesOf 16 0

/-- A linked image of one bundle and one stream word, with a symbol for its entry. -/
def smallFile (version : Nat) : List Byte :=
  bytesOf 4 0x1A4F424D ++ bytesOf 2 version ++ bytesOf 2 2 ++ bytesOf 4 4 ++ bytesOf 4 0 ++ bytesOf 8 32 ++ bytesOf 8 0
    ++ headOf 1 24 224 0 ++ headOf 2 4 248 0 ++ headOf 4 24 252 3 ++ headOf 5 1 276 0
    ++ bytesOf 24 0 ++ bytesOf 4 0x90000000 ++ (bytesOf 4 0 ++ [2, 1] ++ bytesOf 2 1 ++ bytesOf 16 0) ++ [0]

/-- What that file holds. -/
def smallImage : Image :=
  { tenant := 0, entry := 0, code := [0, 0, 0, 0, 0, 0], stream := [0x90000000], regions := [], maps := [], data := [],
    buffers := [], resman := [], safept := [], profile := [] }

/-- A residency that no core has room for. -/
def aResidency : ResRec := { core := 0, fmt := 1, preload := false, pin := false, k := 1, granules := 1, src := 0, handle := 0 }

theorem loadPlace_near (s : State) (tenant page key : Nat)
    (h : ∀ d, d < 4 → (fits s 1 d && decide (usedPages s 1 d + 1 ≤ highMark s 1 d)) = true) :
    loadPlace s tenant false page key = some (1, (Config.pageDie page 1).val) := by
  have hd := h _ (Config.pageDie page 1).isLt
  cases hk : keyUsable s tenant key <;> simp_all [loadPlace, diesFor]

/-- A load whose one page is the code region's finds a place for it, or none. -/
theorem placeAll_one {c p : Nat} {s : State} (h1 : groupPages (s.ctx c) true = []) (h2 : groupPages (s.ctx c) false = [(0, p)]) :
    (∀ q, loadPlace s (s.ctx c).tenant false p (pageKey (s.ctx c) p) = some q → ∃ t, placeAll c s = .ok t) ∧
    (loadPlace s (s.ctx c).tenant false p (pageKey (s.ctx c) p) = none → placeAll c s = .error 0) := by
  constructor
  · intro q hq
    simp [placeAll, h1, loadPages, h2, loadPage, hq]
  · intro hq
    simp [placeAll, h1, loadPages, h2, loadPage, hq]

theorem loadPlace_none (s : State) (tenant page key : Nat) (h : ∀ t d, highMark s t d = 0) : loadPlace s tenant false page key = none := by
  have hn : ∀ l : List (Nat × Nat), l.find? (fun q => fits s q.1 q.2 && decide (usedPages s q.1 q.2 + 1 ≤ highMark s q.1 q.2)) = none :=
    fun l => List.find?_eq_none.mpr (fun q _ => by simp [h q.1 q.2])
  exact hn _

/-- The small state with room for the pages of a load on LPDDR-6. -/
def roomy : State := { small 0 0 with marks := [(2, 9), (6, 9), (10, 9), (14, 9)] }

theorem test_object_file : imageOf 0 (smallFile 1) = .ok smallImage ∧ imageOf 0 (smallFile 2) = .error 0 := by decide +kernel

theorem witness_RestoringLoadingEnding :
    (∀ idle : Bool, let s := restoring true idle
      s.powered = true ∧ s.bootStep = 5 ∧ restoreRefused s 0 = none ∧
      (∃ r, restoreRecord s 0 = some (r, false) ∧ restoreFree s 0 r = idle ∧ (s.ctx 0).rising = [] ∧
        ∃ w ∈ r.cores, (w.inTask = true ∨ w.owned ≠ 0) ∧ physOf (s.ctx 0) w.lcore = some 0 ∧
          ∀ w' ∈ r.cores, (w'.inTask = true ∨ w'.owned ≠ 0) → physOf (s.ctx 0) w'.lcore = some 0 → w' = w)) ∧
    restoreRefused (restoring false true) 0 = some 1 ∧
    (let s := (restoring true true).onCtx 0 (fun x => { x with record := none })
     (s.ctx 0).state = 3 ∧ restoreRecord s 0 = none) ∧
    (let s := small 0 0; s.bootStep = 5 ∧ (64 : Nat) ≤ 64 ∧ (16 : Nat) ≤ 16 ∧ (0 : Nat) < 16 ∧ (smallFile 2).length = 277 ∧
     fileField (smallFile 2) 4 2 ≠ 1) ∧
    (∀ k ∈ [0, 1, 2, 3, 4, 5, 6], let s := (small 0 0).onCtx 0 (fun x => { x with state := k }); (s.ctx 0).state = k) ∧
    (let s := (small 0 0).onCtx 0 (fun x => { x with state := 5 })
     (s.ctx 0).state = 5 ∧ baseInUse s 0 = false ∧ s.mem.undef = []) ∧
    (let s := small 0 0
     (1 : Nat) < 64 ∧ s.bootOut = 0 ∧ (s.ctx 1).state = 0 ∧ (s.ctx 0).state ≠ 0 ∧
     imageOf 0 (smallFile 1) = .ok smallImage ∧ imageOf 0 (smallFile 2) = .error 0 ∧
     loadable smallImage = true ∧ smallImage.regions = [] ∧ smallImage.resman = [] ∧ smallImage.maps = [] ∧
     roomy.bootStep = 5 ∧ roomy.bootOut = 0 ∧ (roomy.ctx 1).state = 0 ∧ granulesFit s (s.ctx 1) smallImage = true ∧
     s.mem.undef = [] ∧ (loadFault { smallImage with code := [0] }).isSome = true ∧
     loadable { smallImage with resman := [aResidency] } = true ∧
     granulesFit s (s.ctx 1) { smallImage with resman := [aResidency] } = false ∧
     ((putBytes Memory.empty 7 [1, 2]).byte 8).toNat = 2) := by
  refine ⟨?_, by decide +kernel⟩
  intro idle
  refine ⟨by revert idle; decide +kernel, by revert idle; decide +kernel, by revert idle; decide +kernel, ?_⟩
  refine ⟨aSave, by revert idle; decide +kernel,
    by revert idle; decide +kernel, ?_⟩
  revert idle; decide +kernel

/-- A load finds the place of its code region, or fails at step 4. -/
theorem witness_RestoringLoadingEnding_load :
    (∃ t, placeAll 1 (roomy.onCtx 1 (newCtx roomy smallImage)) = .ok t) ∧
    placeAll 1 ((small 0 0).onCtx 1 (newCtx (small 0 0) smallImage)) = .error 0 :=
  ⟨(placeAll_one (p := 4096) (by decide +kernel) (by decide +kernel)).1 _ (loadPlace_near _ _ _ _ (by decide +kernel)),
    (placeAll_one (p := 4096) (by decide +kernel) (by decide +kernel)).2 (loadPlace_none _ _ _ _ (fun _ _ => rfl))⟩

/-- The small state with a request of the management controller: the mailbox is in use, the request's first two fields. -/
def asking (boot : Nat) (x y : Nat) : State :=
  { small 0 0 with
    bootStep := boot
    mbox := { command := 1, tag := 9, status := 1, rtag := 0, vector := 3 }
    mboxMem := (Memory.empty.write 64 8 x).write 72 8 y }

theorem witness_ManagementRequests :
    (let s := { asking 5 0 0 with mbox := { command := 1, tag := 9, status := 0, rtag := 0, vector := 3 } }
     s.powered = true ∧ s.mbox.status = 0) ∧
    ((asking 2 0 0).bootStep = 2 ∧ (asking 2 0 0).mbox.status ≠ 0) ∧
    (∀ n ∈ [8, 9], let s := asking 5 n 0
      s.mbox.status ≠ 0 ∧ s.bootStep = 5 ∧ s.mboxMem.read (64 + 0) 8 = n) ∧
    (let s := asking 5 0x8000000000000001 0
     ((List.range 64).filter (fun k => s.mboxMem.read (64 + 0) 8 / 2 ^ k % 2 == 1)) = [0, 63] ∧ s.telemetry = []) ∧
    (let s := asking 5 0 0
     (s.ctx 0).tenant = s.mboxMem.read (64 + 0) 1 ∧ (s.ctx 0).state ≠ 0 ∧ (s.ctx 0).state ≠ 5 ∧ (0, s.ctx 0) ∈ s.ctxs) ∧
    (let s := asking 5 3 0
     ∀ k ∈ s.ctxs, k.2.tenant = s.mboxMem.read (64 + 0) 1 → k.2.state = 0 ∨ k.2.state = 5) ∧
    (let s := asking 5 0x10000 0x20000
     s.pageQ.armed = false ∧ s.mboxMem.read (64 + 0) 8 % 65536 = 0 ∧ s.mboxMem.read (64 + 8) 8 % 65536 = 0) ∧
    ((asking 5 0x10001 0).mboxMem.read (64 + 0) 8 % 65536 ≠ 0) ∧
    (let s := { asking 5 (0 + 256 * 1 + 2 ^ 32 * 0 + 2 ^ 48 * 1) 0 with ctxs := [(0, smallCtx), (1, smallCtx)] }
     let f := fun (off n : Nat) => s.mboxMem.read (64 + off) n
     bindOk s (f 0 1) (f 1 1) (f 4 2) (f 6 2) = true) ∧
    (let s := asking 5 (256 * 1) 0
     let f := fun (off n : Nat) => s.mboxMem.read (64 + off) n
     bindOk s (f 0 1) (f 1 1) (f 4 2) (f 6 2) = false) := by
  decide +kernel

theorem witness_HostRegisters :
    (let s := small 0 0
     s.powered = true ∧ s.bootStep = 5 ∧ (63 : Nat) < 64 ∧ (64 : Nat) ≤ 64 ∧ s.faultQ.armed = false ∧ s.held.length < 256 ∧
     tenantBad (2 ^ 109) = true ∧ tenantBad 3 = false ∧ pinClash s 15 3 = false ∧
     (1 ≠ s.rotaBank ∧ s.rotaPend = false) ∧ (0 = s.rotaBank) ∧ (0x8F / 16 % 8 = 0 : Prop) ∧
     Tab.get 0 s.rstate 1 = 0 ∧ ((2 ^ 32 - 1) / 2 ^ 5 % 2 ^ 11 ≠ 0 : Prop) ∧ (0xFFFF001F / 2 ^ 5 % 2 ^ 11 = 0 : Prop) ∧
     (2 ^ 32 % 2 ^ 32 < 2 ^ 32 / 2 ^ 32 : Prop) ∧ (2 ^ 32 + 1) / 2 ^ 32 ≤ (2 ^ 32 + 1) % 2 ^ 32 ∧
     (s.core 0).run ≠ .idle ∧ (s.core 335).run = .idle ∧ (0x800F / 16 % 2 ^ 11 = 0 : Prop) ∧
     tablesClosed s s.ctxSel = false ∧ (s.ctx 0).state = 1 ∧ (s.ctx 0).state ≠ 3) ∧
    pinClash { small 0 0 with tenants := [(0, 0x10000)] } 15 0x10001 = true ∧
    Tab.get 0 ({ small 0 0 with rstate := [(1, 2)] } : State).rstate 1 ≠ 0 ∧
    tablesClosed (withCtx 0 (fun x => { x with started := true })) 0 = true ∧
    (let s := { small 0 0 with rotaPend := true, rotaAt := 10, cycle := 2048 }
     s.rotaPend = true ∧ s.rotaAt / 1024 < s.cycle / 1024 ∧ 1 = 1 - s.rotaBank % 2 ∧ 0 ≠ 1 - s.rotaBank % 2) ∧
    (let s := { small 0 0 with rotaPend := true, rotaAt := 10 }
     s.cycle / 1024 ≤ s.rotaAt / 1024) ∧
    (let s := { small 0 0 with cores := [(0, { Core.zero with ctx := some 0 })] }
     (s.core 0).run = .idle ∧ (s.core 0).ctx = some 0 ∧ (s.ctx 0).state = 1 ∧ (s.core 335).ctx = none) ∧
    bar2Bad (small 0 0) 1 0x200 = true ∧ bar2Bad (small 0 0) 0 0x100 = false ∧
    (∀ off ∈ [0x3000, 0x25000 + 2 * 5, 0x20000, 0x2001 + 64 * 1], let s := { small 0 0 with agenda := [.hostRead 0 off 1] }
      s.powered = true ∧ s.bootStep = 5 ∧ turnOf s = .hostRead 0 off 1) := by
  decide +kernel

theorem witness_HostRegisters_vf :
    (∀ off, turnOf { small 0 0 with agenda := [.hostRead 2 off 1], vfs := 2 } = .hostRead 2 off 1) ∧ (2 : Nat) ≤ 16 ∧
    (0x1000 : Nat) ≤ 0x1000 ∧ ((small 0 0).ctx ((0x1000 - 0x1000) / 64)).tenant ≠ vfTenantOf (small 0 0) 2 ∧
    ((small 0 0).ctx ((0x1000 - 0x1000) / 64)).tenant = vfTenantOf (small 0 0) 1 := by
  exact ⟨fun _ => rfl, by decide, by decide, by decide +kernel, by decide +kernel⟩

theorem witness_HostRegisters_core (h : (Config.disabledCluster 0).val = 1) : coreDisabled 0 = false := by
  unfold coreDisabled
  rw [show dieOf 0 = 0 from rfl, h]
  decide

theorem witness_HostRegisters_counters (h : Config.counterAt 8 = (1, 0, 3)) (h' : Config.counterAt 16 = (8, 0, 0)) :
    (∃ off c g, Config.counterAt off = (1, c, g)) ∧ ∃ off, Config.counterAt off = (8, 0, 0) :=
  ⟨⟨8, 0, 3, h⟩, 16, h'⟩

/-- The small state with a window of function 0 onto a context at an address. -/
def windowed (c base : Nat) : State :=
  { small 0 0 with
    bar2 := [(0, { ctx := c, valid := true, base := base })], mwinBase := 0, mwinSize := 512, ansBase := 504, ansCount := 1
    ctxs := [(0, { smallCtx with buffers := [] })] }

theorem witness_HostMemoryAccess :
    (let s := windowed 0 0x10000
     s.powered = true ∧ s.bootStep = 5 ∧ (0 : Nat) ≤ 16 ∧ (Tab.get Bar2.zero s.bar2 0).valid = true ∧ 0 + 512 ≤ windowSize s 0 ∧
     504 + 8 ≤ windowSize s 0 ∧ 496 + 16 ≤ windowSize s 0 ∧ ¬(0 = 0 ∧ (Tab.get Bar2.zero s.bar2 0).ctx = 255) ∧
     hostRange s 0 0x10000 512 .load = true ∧ hostRange s 0 0x10000 512 .live = true ∧ s.ctxs.length = 1 ∧
     (s.ctx 0).buffers = [] ∧ (0x10000 + 504) % 8 = 0 ∧ (0x10000 + 496) % 16 = 0 ∧ (0x10000 + 4) % 8 ≠ 0 ∧
     hostRange s 0 (0x10000 + 504) 8 .live = true ∧ hostRange s 0 (0x10000 + 496) 16 .live = true) ∧
    (let s := windowed 0 0x30000
     hostRange s 0 0x30000 512 .load = false ∧ hostRange s 0 0x30000 512 .live = false ∧ hostRange s 0 0x30000 8 .live = false) ∧
    (let s := windowed 255 0
     (Tab.get Bar2.zero s.bar2 0).ctx = 255 ∧ 504 + 8 ≤ s.mwinSize ∧ s.mwinSize < 512 + 8 ∧ 0 < s.ansCount ∧ s.ansBase % 8 = 0 ∧
     s.mwinBase + 504 < s.ansBase + 8 * 0 + 8 ∧ s.ansBase + 8 * 0 < s.mwinBase + 504 + 8 ∧ 512 + 8 ≤ windowSize s 0 ∧
     ((Tab.get Bar2.zero s.bar2 0).base + 504) % 8 = 0) ∧
    (Tab.get Bar2.zero (small 0 0).bar2 0).valid = false ∧ ({ small 0 0 with bootStep := 2 } : State).bootStep ≠ 5 := by
  decide +kernel

theorem witness_HostMemoryAccess_plain : Plain (windowed 0 0x10000) 0 := ⟨rfl, rfl, rfl⟩

theorem witness_RotaAndRouting :
    (let s := small 0 0
     s.powered = true ∧ s.bootStep = 5 ∧ ¬(s.rotaPend = true ∧ s.rotaAt / 1024 < s.cycle / 1024) ∧ Tab.get 0 s.rstate (1 - s.rsel % 2) ≠ 1 ∧
     Tab.get 0 s.rstate (1 - s.rsel % 2) ≠ 2) ∧
    (let s := { small 0 0 with rotaPend := true, cycle := 2048 }
     s.rotaPend = true ∧ s.rotaAt / 1024 < s.cycle / 1024) ∧
    (let s := { small 0 0 with rotaPend := true, rotaAt := 5, cycle := 1023 }
     s.rotaPend = true ∧ ¬(s.rotaAt / 1024 < s.cycle / 1024)) ∧
    (∀ n ∈ [1, 2], let s := { small 0 0 with rstate := [(1, n)] }
      Tab.get 0 s.rstate (1 - s.rsel % 2) = n ∧ Tab.get 0 s.rflight (1 - s.rsel % 2) = 0) ∧
    (let s := { small 0 0 with bootStep := 2, rflight := [(1, 4)] }
     s.bootStep ≠ 5 ∧ Tab.get 0 s.rflight (1 - s.rsel % 2) ≠ 0) := by
  decide +kernel

/-- A flit in the order of a link. -/
def aFlit (seq ty crc : Nat) : Flit := { seq := seq, ty := ty, ack := 1, nak := true, payload := 0, crc := crc, fec := 0 }

/-- A packet of the small context's class ORD to device 3. -/
def aPacket (k : PacketKind) : Packet := { dev := 3, ctx := 2, dst := 0, core := 1, chan := 0, rc := 0, ver := 0, va := 0x10008, kind := k }

/-- The small state with its link 0 changed. -/
def linked (f : Link → Link) : State := (small 0 0).onLink 0 f

theorem witness_LinkEvents :
    (let s := linked id
     s.powered = true ∧ (15 : Nat) < 16 ∧ (s.link 0).width ≠ 0 ∧ (s.link 0).paused = false ∧ (s.link 0).resend = [] ∧
     (s.link 0).replay.length < 512 ∧ s.out = [] ∧ s.transit = [] ∧ (s.link 0).width = 16 ∧ (s.link 0).lanes.getLsbD 15 = false ∧
     (s.link 0).spareOk = true ∧ (s.link 0).spare = false ∧ (s.link 0).lanes.getLsbD 16 = false ∧
     (Tab.get (0 : Byte) s.linkPol 0).getLsbD 0 = false ∧ (17 : Nat) ≤ 17) ∧
    ((linked (fun k => { k with resend := [aFlit 1 0 0] })).link 0).resend = aFlit 1 0 0 :: [] ∧
    (let s := linked (fun k => { k with sending := some { own := false, dest := 3, pkt := aPacket (.storeRow 9), n := 1 } })
     (s.link 0).sending = some { own := false, dest := 3, pkt := aPacket (.storeRow 9), n := 1 } ∧ (s.link 0).resend = [] ∧
     (s.link 0).replay.length < 512) ∧
    (let s := linked (fun k => { k with sending := some { own := true, dest := 3, pkt := aPacket (.storeRow 9), n := 2 } })
     slotOwner s ≠ some (s.ctx (aPacket (.storeRow 9)).ctx).tenant) ∧
    (let s := { linked (fun k => { k with sending := some { own := true, dest := 3, pkt := aPacket (.storeRow 9), n := 2 } }) with
       rota := [(12, 0x80)] }
     slotOwner s = some (s.ctx (aPacket (.storeRow 9)).ctx).tenant) ∧
    (∀ pol ∈ [0, 2, 3], let s := { linked id with linkPol := [(0, pol)] }
      ((Tab.get (0 : Byte) s.linkPol 0).getLsbD 0 = true ↔ pol = 3) ∧
      ((Tab.get (0 : Byte) s.linkPol 0).getLsbD 1 = true ↔ pol ≠ 0) ∧
      (∀ j, j < 8 → (s.link 0).lanes.getLsbD (8 * 0 + j) = false ∧ 15 ≠ 8 * 0 + j)) ∧
    (∀ b : Bool, let s := linked (fun k => { k with width := 0, waitHost := b, lanes := 0 })
      (s.link 0).width = 0 ∧ (s.link 0).waitHost = b ∧ (s.link 0).lanes = 0) ∧
    (∀ b : Bool, let s := linked (fun k => { k with paused := true, recover := b })
      (s.link 0).paused = true ∧ 16 = (s.link 0).width ∧ (s.link 0).recover = b) := by
  decide +kernel

/-- The small state in which a packet waits to go out, on its way or of the device's own, in a slot of its tenant. -/
def leaving (own : Bool) (k : PacketKind) : State :=
  { small 0 0 with
    routes := [(3, 16)], transit := if own then [] else [(3, aPacket k)], out := if own then [aPacket k] else []
    rflight := [(0, 1)], rstate := [(0, 1)], rota := [(12, 0x80)] }

/-- Link 0 of device 0 runs to device 3: such packets may leave over it and no other link, an answer in any slot. -/
theorem witness_LinkEvents_leave (h : Config.ownDevice.val = 0) (h' : Config.rowOrder = 2) :
    (∀ (own : Bool), ∀ k ∈ [PacketKind.loadRow, .storeRow 9, .answer 0 false 9 true],
      let s := leaving own k
      mayLeave s own 3 0 (aPacket k) = true ∧ (s.link 0).resend = [] ∧ (s.link 0).sending = none ∧
      (s.link 0).replay.length < 512 ∧ (aPacket k).dev = 3) ∧
    mayLeave { leaving true .loadRow with rota := [] } true 3 0 (aPacket .loadRow) = false ∧
    mayLeave { leaving true (.answer 0 false 9 true) with rota := [] } true 3 0 (aPacket (.answer 0 false 9 true)) = true ∧
    mayLeave { leaving true .loadRow with unacked := [{ dev := 3, ctx := 2, core := 1, chan := 0, rc := 0, ver := 1 }] } true 3 0
      (aPacket .loadRow) = false := by
  simp only [mayLeave, routeAllows, linkEnd, h, h']
  decide +kernel

theorem witness_LinkEvents_full :
    512 ≤ ((linked (fun k => { k with replay := List.replicate 512 (aFlit 1 0 0) })).link 0).replay.length := by
  decide +kernel

/-- A flit that its checks find good, and one they do not: whatever the code words of R353 are. -/
theorem witness_LinkEvents_receive (ty : Nat) (h : ∀ f, Config.fecCorrect f = f) :
    (∃ f : Flit, let g := Config.fecCorrect f
      g.ty = ty ∧ g.crc = Config.crc32 g.seq g.ty (ackWord g) g.payload ∧ g.seq = (((linked id).link 0).recvSeq + 1).toNat) ∧
    ∃ f : Flit, let g := Config.fecCorrect f
      ¬(g.crc = Config.crc32 g.seq g.ty (ackWord g) g.payload ∧ g.seq = (((linked id).link 0).recvSeq + 1).toNat) := by
  refine ⟨⟨aFlit 1 ty (Config.crc32 1 ty (ackWord (aFlit 1 ty 0)) 0), ?_⟩, ⟨aFlit 2 ty 0, ?_⟩⟩ <;> simp only [h]
  · exact ⟨rfl, rfl, rfl⟩
  · exact fun hc => absurd hc.2 (show ¬(2 = _) by rw [show (((linked id).link 0).recvSeq + 1).toNat = 1 by decide +kernel]; decide)

/-- Flits that complete no packet, that complete one for another device, and one for this one. -/
theorem witness_LinkEvents_transit (h : Config.packetOf [5] = some (3, aPacket .loadRow)) (h' : Config.ownDevice.val = 0)
    (hn : Config.packetOf [6] = none) (ho : Config.packetOf [7] = some (0, aPacket .loadRow)) :
    (∃ l, Config.packetOf l = none) ∧
    (∃ l d p, Config.packetOf l = some (d, p) ∧ d ≠ Config.ownDevice.val) ∧
    (∃ l d p, Config.packetOf l = some (d, p) ∧ d = Config.ownDevice.val ∧ p.via = none) ∧
    Tab.get 0 (leaving true .loadRow).rstate ((aPacket .loadRow).ver % 2) = 1 ∧
    Tab.get 0 (small 0 0).rstate ((aPacket .loadRow).ver % 2) ≠ 1 :=
  ⟨⟨[6], hn⟩, ⟨[5], 3, _, h, by rw [h']; decide⟩, ⟨[7], 0, _, ho, by rw [h'], rfl⟩, by decide +kernel, by decide +kernel⟩

/-- The small state with its partner bound, as context 2 of device 3, or not. -/
def partnerOf (b : Bool) : State :=
  { small 0 0 with
    ctxs := [(0, { smallCtx with
      binding := if b then [(3, 0x8002)] else []
      buffers := [(7, bufEntryOf { tag := 7, published := true, front := 0x10000, back := 0x10800, size := 512 })] })] }

theorem witness_RemotePackets :
    (∀ k ∈ [PacketKind.loadRow, .storeRow 9, .storeWord 9, .atomic .add true 9 0, .admission false 0x10010, .engineRow 7 9,
        .engineAdd .bara 512],
      let s := partnerOf true
      let p := aPacket k
      let x := s.ctx p.dst
      let b := Tab.get (0 : BitVec 16) x.binding p.dev
      s.powered = true ∧ p.kind ≠ .resync ∧ p.kind ≠ .ended ∧
      ¬(p.rc = 0 ∧ flowCode p.dev p.ctx p.core p.chan p.rc p.dst ∈ s.flowsOff) ∧ p.dst < 64 ∧ packetWaits s p = false ∧
      requestRefused x p = none ∧
      x.state ≠ 0 ∧ x.state ≠ 5 ∧ x.state ≠ 6 ∧ b.getLsbD 15 = true ∧ (b.setWidth 6).toNat = p.ctx ∧
      mapRefuses x p.va .load = none ∧ mapRefuses x p.va .store = none ∧ mapRefuses x p.va .live = none ∧
      mapRefuses x 0x10010 .live = none ∧ mapRefuses x (backTag x 7 (p.va / 512 * 512)) .live = none ∧ inFront x 7 (BitVec.ofNat 64 p.va) = true ∧ inFront x 8 (BitVec.ofNat 64 p.va) = false) ∧
    (let s := { partnerOf true with flowsOff := [flowCode 3 2 1 0 0 0] }
     (aPacket .loadRow).rc = 0 ∧ flowCode 3 2 1 0 0 0 ∈ s.flowsOff ∧ requestRefused (s.ctx 0) (aPacket .loadRow) = none) ∧
    ((Tab.get (0 : BitVec 16) ((partnerOf false).ctx 0).binding 3).getLsbD 15 = false) ∧
    (∀ n ∈ [0, 5, 6], let s := (partnerOf true).onCtx 0 (fun x => { x with state := n }); (s.ctx 0).state = n) ∧
    (mapRefuses ((partnerOf true).ctx 0) 0x30008 .load).isSome = true ∧
    (mapRefuses ((partnerOf true).ctx 0) 0x20008 .live).isSome = true ∧
    (let s := ({ partnerOf true with keys := [(0, { state := 1, tenant := 0, key := 5, epoch := 0 })] } : State).onCtx 0
       (fun x => { x with pages := [(1, { Place.zero with tier := 3 })] })
     packetWaits s (aPacket (.atomic .add true 9 0)) = true) ∧
    (aPacket .ended).kind = .ended ∧ (aPacket .resync).kind = .resync := by
  decide +kernel

theorem witness_ModuleEvents :
    (let s := small 0 0
     s.powered = true ∧ s.faultQ.armed = false ∧ s.held.length < 256 ∧ Tab.get (0 : Byte) s.eventPol 12 = 0) ∧
    (let s := { small 0 0 with eventPol := [(12, 3)] }
     Tab.get (0 : Byte) s.eventPol 12 ≠ 0) ∧
    (let b : BootOutcome := { firmware := true, memory := true, lanes := [0, 0x8000, 0x8000, 0x8100], policy := [0, 1, 2, 7] }
     let bad := fun (l : Nat) => BitVec.ofNat 17 (b.lanes.getD l 0)
     let clean := fun (l h : Nat) => ∀ j, j < 8 → (bad l).getLsbD (8 * h + j) = false
     let failed := fun (l : Nat) => ((List.range 17).filter (fun i => (bad l).getLsbD i)).length
     b.firmware = true ∧ b.memory = true ∧ clean 0 0 ∧ clean 0 1 ∧ clean 1 0 ∧ ¬clean 1 1 ∧ failed 1 ≤ 1 ∧
     clean 2 0 ∧ ¬clean 2 1 ∧ ¬clean 3 1 ∧ ¬(failed 3 ≤ 1) ∧
     (bootLink b 0).width = 16 ∧ (bootLink b 1).width = 16 ∧ (bootLink b 2).width = 8 ∧ (bootLink b 3).width = 8) ∧
    (let b : BootOutcome := { firmware := true, memory := false, lanes := [0x10101], policy := [6] }
     b.memory = false ∧ (bootLink b 0).width = 0 ∧ (bootLink b 0).waitHost = true) ∧
    (let b : BootOutcome := { firmware := false, memory := false }
     b.firmware = false) := by
  decide +kernel

/-- The action of a policy, each of the three. -/
theorem witness_ModuleEvents_policy (h : (Config.eventAction 1).val = 1) (h' : (Config.eventAction 2).val = 2) :
    (∃ p : Byte, p ≠ 0 ∧ Config.eventAction p = 1) ∧ ∃ p : Byte, p ≠ 0 ∧ Config.eventAction p = 2 :=
  ⟨⟨1, by decide, Fin.ext h⟩, 2, by decide, Fin.ext h'⟩

/-- Core 0 is to run the bundle that holds ADD in slot 0, or an empty bundle; the stream thread the word ADD, or one that decodes
to nothing. -/
def toRun (t : Turn) (word : W32) : State :=
  { small 0 0 with
    agenda := [t], owner := [(0, 0x8000)]
    cores := [(0, { smallCore with pc := 0 })]
    ctxs := [(0, { smallCtx with code := [0, word, 0, 0, 0, 0], stream := [word], started := true })] }

theorem witness_StepRunsTheDecodedInstruction :
    (∀ empty : Bool,
      let s := toRun (.core 0) (if empty then 0 else 0x0200828C)
      turnOf s = .core 0 ∧ coreReady (popTurn s) 0 = true ∧
      (let u := startTurn 0 (popTurn s)
       mayYield u 0 = false ∧ 0 ≤ (u.core 0).pc ∧ (u.core 0).pc.toNat < (u.ctx (u.ctxOf 0)).code.length / 6 ∧
       ∀ j, j < 5 → j ≠ 0 → (u.ctx (u.ctxOf 0)).code.getD (6 * (u.core 0).pc.toNat + (j + 1)) 0 = 0)) ∧
    decodeSlot (slotClass 0) (0x0200828C : W32).toNat = .ok (.add 0 0 4 5 6 0) ∧
    (let s := toRun (.thread 0) 0x0200828C
     turnOf s = .thread 0 ∧ threadReady (popTurn s) 0 = true ∧ 0 ≤ ((startThread 0 (popTurn s)).ctx 0).thr.pc ∧
     ((startThread 0 (popTurn s)).ctx 0).thr.pc.toNat < ((startThread 0 (popTurn s)).ctx 0).stream.length) ∧
    decodeWord .scalar 0xFE000000 = .error 2 ∧
    turnOf (toRun (.event .memoryRefresh) 0) = .event .memoryRefresh ∧
    (∀ t ∈ [Turn.tick, .miss 0, .hostRead 0 0x20000 8, .sizeBar 0 3, .doe 7, .memoryError 0 0x10000, .core 3, .thread 2],
      turnOf (toRun t 0) = t ∧ (toRun t 0).powered = true) ∧
    coreReady (popTurn (toRun (.core 3) 0)) 3 = false ∧ threadReady (popTurn (toRun (.thread 2) 0)) 2 = false := by
  refine ⟨fun empty => ⟨rfl, ?_⟩, by decide +kernel, ⟨rfl, by decide +kernel⟩, by decide +kernel, rfl, by decide +kernel,
    by decide +kernel, by decide +kernel⟩
  revert empty
  decide +kernel

theorem witness_ResetAndFixedRegisters :
    (let s := small 0 0
     (4 : BitVec 6) ≠ 0 ∧ pending (s.core 0) (.s 4) = false ∧ (31 : BitVec 6).toNat < 32 ∧ 32 ≤ (32 : BitVec 6).toNat ∧
     (15 : BitVec 5) ≠ 0 ∧ (15 : BitVec 5).toNat < 16 ∧ 16 ≤ (16 : BitVec 5).toNat ∧ destV (s.core 0) 32 = .v 32 ∧
     pending (s.core 0) (.v 32) = false ∧ destP (s.core 0) 16 = .p 16 ∧ pending (s.core 0) (.p 16) = false) := by
  decide +kernel

theorem witness_CountBarrierWord :
    (let w : W64 := 5 * 2 ^ 40 + 4
     let target := (w.extractLsb' 40 23).toNat
     target ≠ 0 ∧ target ≤ (w.setWidth 40).toNat + 1 ∧ (w.setWidth 40).toNat + 0 < target) ∧
    ((4 : W64).extractLsb' 40 23).toNat = 0 := by
  decide

theorem witness_DecodeReadsWhatEncodeWrites :
    (Instr.add 31 1 63 63 63 1).cls = some .scalar ∧ (Instr.add 31 1 63 63 63 1).wf = true ∧
    (Instr.ldg 31 63 63 3 0 1).cls = some .mem ∧ (Instr.ldg 31 63 63 3 0 1).wf = true ∧
    (Instr.vadd 31 63 62 63 5).cls = some .vec ∧ (Instr.vadd 31 63 62 63 5).wf = true ∧
    (Instr.lmma 1 3 31 63 63 63).cls = some .eng ∧ (Instr.lmma 1 3 31 63 63 63).wf = true := by
  decide

theorem witness_IssueLeavesMemoryAlone :
    (small 2 0).cur = .core 0 ∧ (Instr.stgs 0 4 6 0 0 0).cls ≠ none ∧ (∀ a, Instr.stgs 0 4 6 0 0 0 ≠ .pubg a) ∧
    (∃ t, exec (.stgs 0 4 6 0 0 0) (small 2 0) = .next t) := by
  refine ⟨rfl, by decide, fun a h => (by cases h), ?_⟩
  have h : left (exec (.stgs 0 4 6 0 0 0) (small 2 0)) false (fun _ => true) = true := by decide +kernel
  generalize exec (.stgs 0 4 6 0 0 0) (small 2 0) = o at h ⊢
  cases o with
  | next t => exact ⟨t, rfl⟩
  | _ => cases h

theorem witness_StepKeepsMemoryForm :
    (toRun (.core 0) 0x0200828C).memOk ∧ ∃ t, step (toRun (.core 0) 0x0200828C) = .next t := by
  have h : left (step (toRun (.core 0) 0x0200828C)) false (fun _ => true) = true := by decide +kernel
  refine ⟨⟨by decide +kernel, by decide +kernel, by decide +kernel, by decide +kernel⟩, ?_⟩
  generalize step (toRun (.core 0) 0x0200828C) = o at h ⊢
  cases o with
  | next t => exact ⟨t, rfl⟩
  | _ => cases h

/-! ### Further witnesses, one for each case that the ones above leave -/

theorem globalOk_partner {s : State} {c : Nat} {a : W64} {w : Want} (hd : Config.inDomain 1 = true) (ho : Config.ownDevice.val ≠ 1)
    (h : devOf a = 1 ∧ formOk a = true ∧ isRemote a = true ∧ (Tab.get (0 : BitVec 16) (s.ctx c).binding 1).getLsbD 15 = true) :
    globalOk s c a w = true := by
  rw [globalOk, if_pos h.2.2.1, partnerOk, h.1, hd, h.2.1, h.2.2.2]
  simp [Ne.symm ho]

/-- AF8: 1,000 rounds to a magnitude above the largest finite; 1 does not. -/
theorem witness_RoundingAndConversions :
    RoundsTo 0 false 1000 0 (9 + 0 - fracBits 3) 16 ∧ MagLt 14 4 16 (9 + 0 - fracBits 3) ∧
    RoundsTo 0 false 1 0 (0 + 0 - fracBits 3) 8 ∧ ¬MagLt 14 4 8 (0 + 0 - fracBits 3) ∧
    (fpOf 0 0x7FC00000 = .nan false ∧ fpOf 0 0xFF800000 = .inf true ∧ fpOf 0 0x3F800000 = .fin false 0x800000 (-23)) ∧
    (intOf 5 0x8000 = -32768 ∧ intOf 5 0x8000 < intMin 6 ∧ intMax 6 < intOf 5 0x7FFF) := by
  refine ⟨⟨?_, ?_, ?_⟩, by decide, ⟨?_, ?_, ?_⟩, by decide, by decide, by decide⟩ <;> decide

/-- A map entry with a placement and an entry action, under key slot 3. -/
def anEntry (place entry : Nat) : BitVec 128 :=
  mapEntryOf { map := 0, region := 0, place := place, entry := entry, access := 2, cow := false, watch := false, key := 3, tag := 0 }

theorem witness_PhaseBeginAndAdvance_compared :
    (∀ place ∈ [0, 1, 2, 3], ∀ entry ∈ [0, 1, 2],
      ((anEntry place entry).extractLsb' 66 2).toNat = place ∧
      ((anEntry place entry).extractLsb' 68 2 = 1 ∨ (anEntry place entry).extractLsb' 68 2 = 2 ↔ entry ≠ 0)) ∧
    (∀ tier ∈ [0, 2, 4], let s := withCtx 0 (fun x => { x with pages := [(1, { Place.zero with tier := tier })] })
      (placeOf s 0 1).tier = tier ∧ (placeOf s 0 1).key ≠ ((anEntry 2 0).extractLsb' 84 12).toNat) ∧
    (let s := withCtx 0 (fun x => { x with mapld := [{ core := 0, map := 1, addr := 0x10000, issue := 90, bundle := 4 }] })
     Issues s 0 0 ∧ 1 < (s.ctx (s.ctxOf 0)).mapCount ∧ (s.ctx (s.ctxOf 0)).mapld.any (fun j => j.map == 1) = true) :=
  ⟨by decide +kernel, by decide +kernel, issues_withCtx 0 _, by decide +kernel⟩

theorem witness_PhaseQueryAndMapLoad_remote (hd : Config.inDomain 1 = true) (ho : Config.ownDevice.val ≠ 1) :
    (let s := keying 0x3000000010000
     Issues s 0 0 ∧ Settled s 0 [destS 5] ∧ isRemote (readS s 0 5) = true ∧ (readS s 0 5).toNat % 16 = 0 ∧
     globalOk s (s.ctxOf 0) (readS s 0 5) .load = true) ∧
    (let s := small 0 0
     (readS s 0 8).toNat % 16 = 0 ∧ globalOk s (s.ctxOf 0) (readS s 0 8) .load = false) :=
  ⟨⟨issues_of rfl rfl rfl rfl rfl, settled_of (by decide +kernel), by decide +kernel, by decide +kernel,
    globalOk_partner hd ho (by decide +kernel)⟩, by decide +kernel⟩

/-- A piece of work that is to leave the package under key slot 9. -/
def outbound : WorkItem :=
  { region := 0, page := 1, tier := 2, die := 0, wide := true, alloc := true, copy := true, pin := false, resealed := true, key := 9,
    done := 5, marks := 1, wait := 0 }

theorem witness_FillMaskAndKeySlots_rows :
    rowVa (0x3000000010200 : W64) = (rowVa (0x30000000101F8 : W64) + 512) % 2 ^ 48 ∧
    rowVa (0x3000000010200 : W64) ≠ rowVa (0x30000000101F8 : W64) ∧
    (let s := withCtx 0 (fun x => { x with tr := { Transition.zero with pend := true, work := [outbound] } })
     (s.ctx 0).tr.work[0]? = some outbound ∧ outbound.alloc = true ∧ 2 ≤ outbound.tier ∧
     keyUsable s (s.ctx 0).tenant outbound.key = false ∧ keyUsable keyed (keyed.ctx 0).tenant 7 = true) := by
  decide +kernel

theorem witness_GlobalStoresAndPrefetch_remote (hd : Config.inDomain 1 = true) (ho : Config.ownDevice.val ≠ 1) :
    (let s := partnered
     let ea := readS s 0 4 + (0 : BitVec 5).signExtend 64 * 512
     Issues s 0 2 ∧ guardM 0 s (.core 0) = true ∧ Settled s 0 [destS 4] ∧ SettledV s 0 [1] ∧ Settled s 0 [destS 1] ∧ isRemote ea = true ∧
     (s.core 0).board = [] ∧ globalOk s (s.ctxOf 0) ea .store = true ∧ globalOk s (s.ctxOf 0) ea .load = true) ∧
    (let s := small 2 0
     let ea := readS s 0 8 + (0 : BitVec 5).signExtend 64 * 512
     globalOk s (s.ctxOf 0) ea .store = false ∧ ¬(globalOk s (s.ctxOf 0) ea .load = true ∧ isRemote ea = true ∧ (0 = 0 ∨ 0 = 2))) := by
  refine ⟨⟨issues_of rfl rfl rfl rfl rfl, by decide +kernel, settled_of (by decide +kernel), settledV_of (by decide +kernel),
    settled_of (by decide +kernel), by decide +kernel, by decide +kernel, ?_, ?_⟩, by decide +kernel⟩ <;>
    exact globalOk_partner hd ho (by decide +kernel)

theorem witness_AtomicIssue_remote (hd : Config.inDomain 1 = true) (ho : Config.ownDevice.val ≠ 1) :
    (let s := partnered
     Issues s 0 2 ∧ guardM 0 s (.core 0) = true ∧ Settled s 0 [destS 4, destS 4, destS 1] ∧ isRemote (readS s 0 4) = true ∧
     (s.core 0).board = [] ∧ (s.core 0).pubds = [] ∧ globalOk s (s.ctxOf 0) (readS s 0 4) .load = true ∧
     globalOk s (s.ctxOf 0) (readS s 0 4) .store = true) ∧
    (let s := small 2 0
     globalOk s (s.ctxOf 0) (readS s 0 8) .load = false ∧ globalOk s (s.ctxOf 0) (readS s 0 8) .store = false ∧
     (readS s 0 8).toNat / 4096 = (readS s 0 8).toNat / 4096) := by
  refine ⟨⟨issues_of rfl rfl rfl rfl rfl, by decide +kernel, settled_of (by decide +kernel), by decide +kernel, by decide +kernel,
    by decide +kernel, ?_, ?_⟩, by decide +kernel⟩ <;>
    exact globalOk_partner hd ho (by decide +kernel)

theorem witness_ScalesAndProbes_fatal :
    let s := small 2 0
    (s.core 0).scaleQ.length + 16 * (s.core 0).sclds.length ≤ 48 ∧ Settled s 0 [destS 6] ∧
    spadOk s 0 (s.ctxOf 0) (readS s 0 6 + (0 : BitVec 7).signExtend 64 * 512) = false :=
  ⟨by decide +kernel, settled_of (by decide +kernel), by decide +kernel⟩

/-- The Loom state for an FP8 window whose scales are queued and on their way; a handle no slot of which is held. -/
def loomedSq : State :=
  ((loomed false).onCore 0 (fun c => { c with
    active := [(0, { actShape with fmt := 3 })], scaleQ := [7], sclds := [aScld] })).onCtx 0 (fun x => { x with
      res := [(0, { Resid.zero with state := 2, held := true, fmt := 3, k := 128, charge := 8, src := 0x10000, loaded := true })]
      tiles := [(0, { fmt := 3, k := 128, bytes := 5 })] })

theorem witness_LoomAndResultStream_checks :
    (let s := loomedSq
     Issues s 0 4 ∧ (s.core 0).loomFree ≤ s.cycle ∧ lmmaCheck s (soleEnv s 0 4 0) (shapeIn s 0 0 0 0) 1 (readS s 0 4) (readS s 0 5) = none) ∧
    (let s := loomed false
     (∃ f, lmmaCheck s (soleEnv s 0 4 0) (shapeIn s 0 0 0 0) 0 (readS s 0 9) (readS s 0 5) = some f) ∧
     (∃ f, lmmarCheck s (soleEnv s 0 4 0) (shapeIn s 0 0 1 0) (readS s 0 4) (readS s 0 9) = some f) ∧
     (s.core 0).board = [] ∧ (s.core 0).steward = false) ∧
    (let s := withCore 4 (fun c => { c with loomFree := 101 })
     Issues s 0 4 ∧ s.cycle < (s.core 0).loomFree) :=
  ⟨⟨issues_of rfl rfl rfl rfl rfl, by decide +kernel, by decide +kernel⟩,
    ⟨⟨.trap 8 0 0 0, by decide +kernel⟩, ⟨.trap 2 32 0 0, by decide +kernel⟩, by decide +kernel, by decide +kernel⟩,
    issues_withCore 4 _, by decide +kernel⟩

theorem witness_CopyAndUpdateIssue_checks :
    let s := copying
    let sh := fun (h : Nat) => shapeIn s 0 1 h 0
    ccpyCheck s 0 (sh 0) (sh 1) true 0x8000000000001000 = none ∧ ccpyCheck s 0 (sh 0) (sh 1) true 0x30000 = some (.fatal 1 0x30000 0) ∧
    ccpyCheck s 0 (sh 2) (sh 3) false 0 = some (.trap 2 41 0 0) ∧ indexedCheck s 0 false (sh 2) (sh 3) 1 = some (.trap 2 41 0 0) ∧
    indexedCheck s 0 true (sh 2) (sh 3) 1 = some (.trap 2 41 0 0) ∧ ctopkCheck s 0 (sh 3) 8190 = some (.trap 2 41 0 0) ∧
    optuCheck s 0 (shapeIn s 0 2 0 0) (shapeIn s 0 2 1 0) (shapeIn s 0 2 2 0) (shapeIn s 0 2 3 0) = some (.trap 2 46 0 0) ∧
    (s.core 0).optu = none ∧ (s.core 0).board = [] ∧ (s.core 0).steward = false := by
  decide +kernel

/-- The thread of context 0 waits for a mailbox at 1_0300h, its word as before or changed. -/
def watching (same take : Bool) : State :=
  (streaming (if take then same else false)).onCtx 0 (fun x => { x with
    thr := { x.thr with
      watch := some (9, 0x10300, take)
      s := [(4, 0x10000), (9, if take then 0x10300 else if same then 3 else 4)] } })

theorem witness_GraphsAndMailboxes_watch :
    ∀ same take : Bool, let s := watching same take
      (s.ctx 0).thr.watch = some (9, 0x10300, take) ∧ (s.ctx 0).state = 1 ∧ (s.ctx 0).queue = [] ∧ s.ctxs.map Prod.fst = [0] ∧
      (objWord s 0 0x10300 0 = (if take then 0 else readAS s (.thread 0) 9) ↔ same = true) := by
  decide +kernel

theorem witness_CoreEventsAndResults_more :
    (let s := withCore 0 (fun c => { c with nextIssue := 101 })
     (s.core 0).run = .running ∧ s.cycle < (s.core 0).nextIssue ∧ (s.core 0).nextIssue = s.cycle + 1 ∧
     ∀ x ∈ s.ctxs, (s.ctx x.1).queue = [] ∧ (s.ctx x.1).thr.watch = none) ∧
    (eventful.core 0).loom = [] ∧
    (let s := eventful.onCore 0 (fun c => { c with loom := [{ aLoom with sq := true, owed := 2 }, aLoom] })
     (s.core 0).loom = { aLoom with sq := true, owed := 2 } :: [aLoom] ∧ (∀ x ∈ [aLoom], x.owed = 0) ∧ (s.core 0).sclds = [aScld]) ∧
    aFlight.flags ≠ 0 ∧ { aFlight with flags := 0 }.flags = 0 ∧
    (Tab.get Sticky.zero (eventful.core 0).sticky aFlight.slot).count = 0 ∧
    (∀ b : Bool, let s := eventful.onCore 0 (fun c => { c with
        sticky := [(0, { flags := 1, count := 3, addr := 2, stamp := if b then 91 else 90 })] })
      let old := Tab.get Sticky.zero (s.core 0).sticky aFlight.slot
      old.count ≠ 0 ∧ (aFlight.issue < old.stamp ↔ b = true)) := by
  decide +kernel

theorem witness_AccessesAndAtomicsReturn_unstored :
    ∀ remote : Bool, ∀ a ∈ [anAccess .ldg (.v 9) remote, anAccess .ldgs (.s 9) remote],
      let s := awaiting a
      (if loadKey s 0 (s.ctxOf 0) (rowVa a.addr) = a.key then a.mask else a.mask2) = 0 := by
  decide +kernel

/-- A copy under way in channel 3 of a core whose bank 0 is its context's. -/
def enginedHeld (j : Copy) : State :=
  withCore 4 (fun c => { c with chans := [(3, [j])], banks := [(0, { state := .owned, task := 1, held := 1 })] })

/-- A masked copy; a gather and a scatter of two rows; a CTOPK of one row. -/
def aMasked (spad : Bool) : Copy := { aCopy with masked := true, maskAt := if spad then 0x8000000000001000 else 0x10000 }
def aGather : Copy :=
  { aCopy with kind := .cgth, rows := 2, order := 5, src := { rowShape 0x8000000000001000 with ext := 0x100000002 } }
def aScatter : Copy := { aCopy with kind := .csct, rows := 2, dst := rowShape 0x8000000000001200 }
def aTopk : Copy := { aCopy with kind := .ctopk, dst := rowShape 0x8000000000001000, best := 1 }

theorem witness_EngineEvents_masks :
    (∀ spad : Bool, let j := aMasked spad
      let s := enginedHeld j
      Tab.get [] (s.core 0).chans 3 = [j] ∧ alive s j.ctx = true ∧ j.kind = .ccpy ∧ j.mask = none ∧ 0 < j.rows ∧ 0 ∉ j.done ∧
      isRemote j.maskAt = false ∧ isSpad j.maskAt = spad ∧ (spad = true → bankGone s 0 j.ctx j.maskAt = false) ∧
      poisoned s j.ctx (rowVa j.maskAt) = false) ∧
    (let j := { aMasked true with mask := some 2, rows := 2 }
     j.mask = some 2 ∧ (2 : Nat).testBit 0 = false ∧ (2 : Nat).testBit 1 = true ∧ j.kind = .ccpy ∧ 1 < j.rows ∧ 0 ∉ j.done) ∧
    (let s := enginedHeld aCopy
     bankGone s 0 aCopy.ctx (aCopy.src.rowAt 0) = false ∧ aCopy.told = 0 ∧ aCopy.remote = false) ∧
    (let j := { aCopy with dst := rowShape 0x3000000010000 }
     j.remote = true ∧ flowOpen (engined j) j.ctx (lcoreAt (engined j) 0 j.ctx) 3 = false) := by
  decide +kernel

theorem witness_EngineEvents_indexed :
    (∀ full : Bool, let q : List W32 := if full then [0] else []
      let s := (engined aGather).onCore 0 (fun c => { c with addrQ := q })
      (s.core 0).addrQ = q ∧ aGather.idx.length ≤ 0 ∧ aGather.idx.length = 0 ∧ aGather.masked = false ∧ aGather.mask = none ∧
      (s.core 0).chans = [(3, [aGather])]) ∧
    (let s := (engined aGather).onCore 0 (fun c => { c with chans := c.chans ++ [(2, [{ aGather with order := 4 }])] })
     Tab.get [] (s.core 0).chans 3 = [aGather] ∧
     (2, [{ aGather with order := 4 }]) ∈ (s.core 0).chans ∧ 4 < aGather.order ∧ aGather.idx.length < aGather.rows) ∧
    (0 < aGather.src.inner ∧ aGather.src.inner ≤ 9 ∧ aScatter.dst.inner ≤ 9) ∧
    (let j := { aGather with idx := [0, 0], read := [(1, 5)] }
     Tab.find j.read 1 = some 5 ∧ 1 < j.idx.length ∧ 0 < 1 ∧ 0 ∉ j.done ∧ j.src.fmt = j.dst.fmt ∧ 1 < j.rows) ∧
    (let j := { aGather with idx := [1], read := [(0, 5)] }
     Tab.find j.read 0 = some 5 ∧ (∀ q, q < 0 → q ∈ j.done) ∧ 0 < j.idx.length) ∧
    (let j := { aScatter with idx := [0, 0], read := [(0, 5)], done := [1] }
     (1 ∈ j.done ∧ 0 < 1 ∧ 1 ∉ j.refused ∧ j.idx.getD 1 0 = j.idx.getD 0 0) ∧
     isSpad (j.dst.base + BitVec.ofNat 64 0 * j.dst.st1) = true ∧ j.src.fmt = j.dst.fmt) ∧
    (let s := engined aTopk
     Tab.get [] (s.core 0).chans 3 = [aTopk] ∧ alive s aTopk.ctx = true ∧ aTopk.masked = false ∧ aTopk.mask = none ∧ 0 < aTopk.rows ∧
     Tab.find aTopk.read 0 = none ∧ aTopk.best ≤ 8 ∧ 0 < aTopk.dst.outer ∧ aTopk.dst.outer ≤ 8 * 0 + 1 ∧ aTopk.free = []) :=
  ⟨by decide +kernel, by decide +kernel, by decide +kernel, by decide +kernel, by decide +kernel, by decide +kernel, by decide +kernel⟩

theorem witness_LoomAndResidencyEvents_sum :
    (fpMul (fpOf 1 (elem (0 : Vec) (fmtBits 1) (0 + 0))) (aLoom.tile.weight (0 + 0 + 0) 1) = (.fin false 0 (-266), 0) ∧
      (-300 : Int) ≤ -266 ∧ (0 : Int) = signed false (0 * 2 ^ ((-266 : Int) - (-300)).toNat)) ∧
    (let s := withCore 4 (fun c => { c with loom := [{ aLoom with owed := 1 }] })
     (s.core 0).loom = { aLoom with owed := 1 } :: [] ∧ { aLoom with owed := 1 }.owed ≠ 0 ∧ aLoom.owed = 0) ∧
    (∀ own : Bool, let j := { aStream with own := own }
      let s := withCore 4 (fun c => { c with lmmar := [aStream, j] })
      (s.core 0).lmmar[1]? = some j ∧ j.own = own ∧ 0 < 2 ^ 32) :=
  ⟨by decide +kernel, by decide +kernel⟩

theorem witness_MapAndReeveEvents_images :
    (let s := mapping true true
     let j := aMapld true
     alive s 0 = true ∧ (s.ctx 0).mapld[0]? = some j ∧ isRemote j.addr = true ∧ j.asked = false ∧
     (s.core j.core).board = [] ∧ (s.core j.core).pubds = [] ∧
     ({ anImage true with poison := some 0x10000 }).poison ≠ none ∧ (anImage true).poison = none ∧ (anImage true).status = 0 ∧
     vaOf j.addr / 512 = (vaOf j.addr + 16 + 16 * 1 - 1) / 512 ∧
     ({ anImage true with header := 40 }).header.toNat ≤ 1024 ∧
     vaOf j.addr / 512 < (vaOf j.addr + 16 + 16 * 40 - 1) / 512) ∧
    (∀ good : Bool, let s := mapping false good
      imageFault s 0 (vaOf (aMapld false).addr) 0 = none ∧ imageFault s 0 (vaOf (aMapld false).addr) 1 = none) := by
  decide +kernel

theorem witness_MapAndReeve_keys :
    (let w : WorkItem := { aWork with tier := 2, resealed := true, key := 9 }
     let s := reeving w [(1, { Place.zero with tier := 2 })]
     w.alloc = true ∧ w.wait = 0 ∧ w.copy = true ∧ (placeOf s 0 1).tier ≠ 4 ∧ sealBroken s (placeOf s 0 1) = false ∧
     w.resealed = true ∧ keyUsable s (s.ctx 0).tenant w.key = false) ∧
    (let s := reeving aWork []
     reeveServes s 0 = true ∧ reeveServes State.reset 0 = false) := by
  decide +kernel

/-- A page to be pinned whose lines fit where it stands takes that place, and one whose lines do not is sought another. -/
theorem witness_MapAndReeve_pinned
    (h : let s := reeving { aWork with pin := true, alloc := false } []
         linesFit s (s.ctx 0).tenant (placeOf s 0 1) (homeKey (pageHome s 0 1)) = true) :
    let w : WorkItem := { aWork with pin := true, alloc := false }
    let s := reeving w []
    w.pin = true ∧ w.alloc = false ∧ workPlace s 0 w = some (0, 0, 0) := by
  refine ⟨rfl, rfl, ?_⟩
  have ht : (placeOf (reeving { aWork with pin := true, alloc := false } []) 0 1).tier = 0 := by decide +kernel
  simp only [workPlace, pinPlace, if_true]
  rw [if_pos ⟨ht, h⟩]
  rfl

/-- The state ready to commit into an entry action of a region that holds a swapped buffer. -/
def enteringSwapped : State :=
  (entering 1).onCtx 0 (fun x => { x with
    buffers := [(7, bufEntryOf { tag := 7, published := true, front := 0x18000, back := 0x19000, size := 512 } ||| 4)] })

theorem witness_PhaseCommit_swapped :
    (let s := enteringSwapped
     alive s 0 = true ∧ commitReady s 0 = true ∧ (s.ctx 0).tr.pend = true ∧ (s.ctx 0).staged = [] ∧
     swappedIn (s.ctx 0) (regEntry 0x10000 0x10000 false false) = true ∧ s.mem.undef = [] ∧
     meEntry (mapEntry (s.ctx 0) (s.ctx 0).tr.tgt.toNat 0) = 1) ∧
    (∀ entry ∈ [1, 2], swappedIn ((entering entry).ctx 0) (regEntry 0x10000 0x10000 false false) = false) := by
  decide +kernel

theorem witness_PageAndFault_dead :
    (∀ code ∈ [1, 2], let q := { aRequest 1 with dead := true }
      let s := paging 3 [q] (7 * 2 ^ 32 + code)
      0 ∈ s.answers ∧ freeSlot s = true ∧ s.reqs.find? (fun q => q.slot == 0) = some q ∧ q.dead = true ∧
      s.mgmtMem.read (s.ansBase + 8 * 0) 8 = q.gen.toNat * 2 ^ 32 + code) ∧
    (let s := (paging 4 [aRequest 1] (7 * 2 ^ 32 + 2)).onCtx 0 (fun x => { x with rising := [(1, 1)] })
     s.reqs.find? (fun q => q.slot == 0) = some (aRequest 1) ∧ (aRequest 1).dead = false ∧
     ((aRequest 1).page, (aRequest 1).slot + 1) ∈ (s.ctx 0).rising) ∧
    (((aRequest 1).page, (aRequest 1).slot + 1) ∉ ((paging 4 [aRequest 1] 0).ctx 0).rising) ∧
    (let s := { paging 4 [aRequest 1] 0 with rotaBank := 0, rota := [(12, 0x80)] }
     freeSlot s = false ∧ ∃ q ∈ s.reqs, q.slot = 0 ∧ q.kind = 1 ∧ q.dead = false) ∧
    (let s := paging 3 [] 0
     s.hostOps = [] ∧ freeSlot s = true ∧ aWork.alloc = true ∧ aWork.copy = true) ∧
    ((0 : Nat) < 4 ∧ ¬((8 : Nat) < 4)) := by
  decide +kernel

/-- The state in which the page that a piece of work waits for has come. -/
def arrivedFor : State :=
  imaged ((paging 4 [aRequest 1] (7 * 2 ^ 32 + 1)).onCtx 0 (fun x => { x with
    tr := { x.tr with work := [{ aWork with wait := 1 }] } })) 65536

theorem witness_PageAndFault_arrived (h : ∀ key nonce aad plain, Config.seal key nonce aad plain < 256 ^ 65536) :
    arrivedFor.hostMem.read (arrivedFor.poolBase + 65536 * 0) 65536
      = pageImage arrivedFor (pageHome arrivedFor 0 1) (placeOf arrivedFor 0 1) ∧
    (arrivedFor.ctx 0).tr.work.find? (fun v => v.page == (aRequest 1).page && v.wait == (aRequest 1).slot + 1)
      = some { aWork with wait := 1 } ∧
    freeSlot arrivedFor = true ∧ sealBroken arrivedFor (placeOf arrivedFor 0 1) = false ∧
    sealBroken { arrivedFor with keys := [] } (placeOf arrivedFor 0 1) = true ∧ 0 ∈ arrivedFor.answers ∧
    arrivedFor.reqs.find? (fun q => q.slot == 0) = some (aRequest 1) ∧
    arrivedFor.mgmtMem.read (arrivedFor.ansBase + 8 * 0) 8 = (aRequest 1).gen.toNat * 2 ^ 32 + 1 :=
  ⟨imaged_read _ _ (h _ _ _ _), by decide +kernel⟩

theorem witness_SavingAContext_engines :
    (let s := (saving true 0).onCore 0 (fun c => { c with chans := [(3, [aCopy])] })
     (0, s.core 0) ∈ s.cores ∧ (3, [aCopy]) ∈ (s.core 0).chans ∧ aCopy ∈ [aCopy] ∧ aCopy.ctx = 0) ∧
    (let s := (saving true 0).onCore 5 (fun c => { c with ctx := some 1, chans := [(3, [aCopy])] })
     (5, s.core 5) ∈ s.cores ∧ (s.core 5).ctx ≠ some 0 ∧ (3, [aCopy]) ∈ (s.core 5).chans) := by
  decide +kernel

theorem witness_RestoringLoadingEnding_rising :
    let s := (restoring true true).onCtx 0 (fun x => { x with rising := [(1, 0)] })
    restoreRefused s 0 = none ∧ restoreRecord s 0 = some (aSave, false) ∧ (s.ctx 0).rising ≠ [] := by
  decide +kernel

theorem witness_ManagementRequests_window :
    (let s := asking 5 0x10000 0x20000
     s.pageQ.armed = false ∧ windowBad s (s.mboxMem.read (64 + 0) 8) (s.mboxMem.read (64 + 8) 8) = false) ∧
    (let s := asking 5 0x10000 0x1000000000000
     s.mboxMem.read (64 + 0) 8 % 65536 = 0 ∧ s.mboxMem.read (64 + 8) 8 % 65536 = 0 ∧
     windowBad s (s.mboxMem.read (64 + 0) 8) (s.mboxMem.read (64 + 8) 8) = true) := by
  decide +kernel

theorem witness_HostRegisters_header :
    (let v := 3 + 16 * 2 ^ 8
     v < 2 ^ 128 ∧ v % 2 ^ 8 < 16 ∧ v / 2 ^ 8 % 2 ^ 8 ≤ 16 ∧ v / 2 ^ 24 % 2 ^ 8 < 64 ∧ v / 2 ^ 32 = 0) ∧
    (let s := withCtx 0 (fun x => { x with started := true })
     let x := s.ctx s.ctxSel
     ¬(x.state = 0 ∨ x.state = 3 ∨ (x.state = 1 ∧ x.started = false))) ∧
    (let s := withCtx 0 (fun x => { x with placement := [(0, 0x8000)] })
     let x := s.ctx s.ctxSel
     (x.state = 0 ∨ x.state = 3 ∨ (x.state = 1 ∧ x.started = false)) ∧ headBad s s.ctxSel (3 + 16 * 2 ^ 8) = true ∧
     headBad s s.ctxSel (16 * 2 ^ 8) = false) := by
  decide +kernel

theorem witness_HostMemoryAccess_tier :
    let s := ({ windowed 0 0x10000 with keys := [(0, { state := 1, tenant := 0, key := 5, epoch := 0 })] } : State).onCtx 0
      (fun x => { x with pages := [(1, { Place.zero with tier := 3 })] })
    (0 : Nat) ≤ s.vfs ∧ (16 : Nat) ≠ 8 ∧ hostPage s 0 (0x10000 + 496) ≠ [] ∧ hostPage (windowed 0 0x10000) 0 (0x10000 + 496) = [] ∧
    hostRange s 0 (0x10000 + 496) 16 .live = true := by
  decide +kernel

/-- A packet of class ADP keeps the link and version its flow used last. -/
theorem witness_LinkEvents_adp (h : Config.ownDevice.val = 0) (h' : Config.rowOrder = 2) :
    (let p : Packet := { aPacket .loadRow with rc := 1 }
     let s := { leaving true .loadRow with routes := [(3, 65552)], paths := [(pathKey true 3 p, (0, 0, 0))] }
     mayLeave s true 3 0 p = true ∧ Tab.find s.paths (pathKey true 3 p) = some (0, 0, 0) ∧ p.rc = 1) ∧
    (let s := leaving true .loadRow
     s.transit = [] ∧ s.out = [aPacket .loadRow] ∧ viaOf s (aPacket .loadRow).rc = none ∧ (aPacket .loadRow).ver = s.rsel) := by
  refine ⟨?_, rfl, rfl, ?_, rfl⟩
  · simp only [mayLeave, routeAllows, linkEnd, h, h']
    decide +kernel
  · simp [viaOf, aPacket]

/-- Packets of which one asks for an answer and one is an answer, on their way onward. -/
theorem witness_LinkEvents_asked (h : Config.packetOf [5] = some (3, aPacket .loadRow)) (h' : Config.ownDevice.val = 0)
    (ha : Config.packetOf [8] = some (3, aPacket (.answer 0 false 0 false)))
    (hv : Config.packetOf [9] = some (0, { aPacket .loadRow with via := some 5 })) :
    (∃ l d p, Config.packetOf l = some (d, p) ∧ d ≠ Config.ownDevice.val ∧ isAnswer p.kind = false ∧ p.kind ≠ .resync ∧ p.kind ≠ .ended) ∧
    (∃ l d p, Config.packetOf l = some (d, p) ∧ d ≠ Config.ownDevice.val ∧ isAnswer p.kind = true) ∧
    (∃ l d p, Config.packetOf l = some (d, p) ∧ d = Config.ownDevice.val ∧ p.via ≠ some Config.ownDevice.val ∧ p.via ≠ none) :=
  ⟨⟨[5], 3, _, h, by rw [h']; decide, rfl, by decide, by decide⟩, ⟨[8], 3, _, ha, by rw [h']; decide, rfl⟩,
    ⟨[9], 0, _, hv, by rw [h'], by rw [h']; decide, by decide⟩⟩

theorem witness_RemotePackets_more :
    (let s := partnerOf true
     let k := aPacket .prefetch
     k.kind ≠ .resync ∧ k.kind ≠ .ended ∧ isAnswer k.kind = false ∧ s.waiting = [] ∧ requestRefused (s.ctx 0) k = none ∧
     packetWaits s k = false ∧ mapRefuses (s.ctx 0) k.va .load = none) ∧
    (let k := aPacket .loadRow
     let s := { partnerOf true with waiting := [aPacket (.atomic .add true 9 0)] }
     s.waiting.any (fun j => sameStream j k) = true ∧ isAnswer k.kind = false) ∧
    (requestRefused ((partnerOf true).ctx 0) { aPacket .loadRow with va := 0x30008 }).isSome = true ∧
    (let k : Packet := { aPacket (.answer 0 false 9 true) with va := 3, chan := 8 }
     let u : Sent := { dev := 3, ctx := 0, core := 1, chan := 0, rc := 0, ver := 0 }
     let s := { partnerOf true with unacked := [{ u with core := 2 }, u] }
     isAnswer k.kind = true ∧ s.unacked = [{ u with core := 2 }] ++ u :: [] ∧
     u.dev = k.va ∧ u.ctx = k.dst ∧ u.core = k.core ∧ u.chan + 8 = k.chan ∧ u.rc = k.rc ∧ ({ u with core := 2 } : Sent).core ≠ k.core ∧
     (partnerOf true).unacked = []) ∧
    (let s := (partnerOf true).onCtx 0 (fun x => { x with state := 3, record := some aSave })
     (s.ctx 0).state = 3 ∧ (s.ctx 0).record = some aSave ∧ mapRefuses (s.ctx 0) (aPacket (.storeRow 9)).va .store = none ∧
     packetWaits s (aPacket (.storeRow 9)) = false ∧ requestRefused (s.ctx 0) (aPacket (.storeRow 9)) = none) := by
  decide +kernel

theorem witness_StepRunsTheDecodedInstruction_yields :
    (let s := (toRun (.core 0) 0x0200828C).onCore 0 (fun c => { c with yieldReq := true, atSafe := true })
     turnOf s = .core 0 ∧ coreReady (popTurn s) 0 = true ∧ s.powered = true ∧ mayYield (startTurn 0 (popTurn s)) 0 = true) ∧
    (let s := (toRun (.core 0) 0x0200828C).onCore 0 (fun c => { c with pc := 7 })
     turnOf s = .core 0 ∧ coreReady (popTurn s) 0 = true ∧
     let v := startTurn 0 (popTurn s)
     mayYield v 0 = false ∧ ¬(0 ≤ (v.core 0).pc ∧ (v.core 0).pc.toNat < (v.ctx (v.ctxOf 0)).code.length / 6)) ∧
    (∀ t ∈ [Turn.enableVfs 3, .bindVfs 1 2], turnOf (toRun t 0) = t) := by
  decide +kernel

end Sys2Proof.Tests
end

section
/-!
PROOF. Rounding to a format and the conversions between the formats 0 to 7 (R34 to R40): what `roundAt` answers, what the code of
a rounded magnitude decodes to, and the obligation assembled from the two.
-/

namespace Sys2Proof.Machine

/-! ### Rounding to a multiple of a power of two (R34) -/

theorem roundAt_of_le {e q : Int} (rm : Nat) (neg : Bool) (m : Nat) (h : q ≤ e) :
    roundAt rm neg m e q = (m * 2 ^ (e - q).toNat, false) := by
  rw [roundAt, if_pos h]

section
variable (neg : Bool) (m : Nat) (e : Int) (s : Nat)

theorem roundAt_nearest :
    (roundAt 0 neg m e (e + (s + 1))).1 =
      let k := m / (2 * 2 ^ s)
      let r := m % (2 * 2 ^ s)
      if 2 ^ s < r ∨ (r = 2 ^ s ∧ k % 2 = 1) then k + 1 else k := by
  rw [roundAt, if_neg (by omega)]
  simp [Nat.pow_succ']

theorem roundAt_towardZero {rm : Nat} (h : rm = 1 ∨ (rm = 2 ∧ neg = true) ∨ (rm = 3 ∧ neg = false)) :
    (roundAt rm neg m e (e + (s + 1))).1 = m / (2 * 2 ^ s) := by
  rw [roundAt, if_neg (by omega)]
  obtain rfl | ⟨rfl, rfl⟩ | ⟨rfl, rfl⟩ := h <;> simp [Nat.pow_succ']

theorem roundAt_away {rm : Nat} (h : (rm = 2 ∧ neg = false) ∨ (rm = 3 ∧ neg = true)) :
    (roundAt rm neg m e (e + (s + 1))).1 =
      if m % (2 * 2 ^ s) = 0 then m / (2 * 2 ^ s) else m / (2 * 2 ^ s) + 1 := by
  rw [roundAt, if_neg (by omega)]
  obtain ⟨rfl, rfl⟩ | ⟨rfl, rfl⟩ := h <;> simp [Nat.pow_succ']

end

/-- What `roundAt` answers is the value rounded under its mode (R34). -/
theorem roundAt_roundsTo (rm : Nat) (neg : Bool) (m : Nat) (e q : Int) :
    RoundsTo rm neg m e q (roundAt rm neg m e q).1 := by
  by_cases h : q ≤ e
  · have hx : (q - min e q).toNat = 0 := by omega
    have hm : min e q = q := by omega
    rw [roundAt_of_le rm neg m h]
    constructor <;> simp only [hm, Int.sub_self, Int.toNat_zero, Nat.pow_zero] <;> omega
  · obtain ⟨s, rfl⟩ : ∃ s : Nat, q = e + (s + 1) := ⟨(q - e - 1).toNat, by omega⟩
    have hm : min e (e + (s + 1)) = e := by omega
    have hs : (e + (s + 1) - e).toNat = s + 1 := by omega
    have hdiv := Nat.div_add_mod' m (2 * 2 ^ s)
    have hrest := Nat.mod_lt m (by positivity : 0 < 2 * 2 ^ s)
    constructor <;> intro hrm <;>
      simp only [hm, hs, Int.sub_self, Int.toNat_zero, Nat.pow_zero, Nat.mul_one, Nat.pow_succ']
    case near =>
      subst hrm
      rw [roundAt_nearest]
      dsimp only
      split
      · rw [Nat.succ_mul (m / _)]
        omega
      · omega
    case down =>
      rw [roundAt_towardZero neg m e s hrm, Nat.succ_mul (m / _)]
      omega
    case up =>
      rw [roundAt_away neg m e s hrm]
      split
      · omega
      · rw [Nat.succ_mul (m / _)]
        omega

/-- The multiple lies less than one unit from the value, whatever the mode. -/
theorem RoundsTo.near_value {rm : Nat} {neg : Bool} {m : Nat} {e q : Int} {k : Nat} (hrm : rm < 4) (h : RoundsTo rm neg m e q k) :
    let x := m * 2 ^ (e - min e q).toNat
    let y := 2 ^ (q - min e q).toNat
    k * y < x + y ∧ x < (k + 1) * y := by
  have hy : 0 < 2 ^ (q - min e q).toNat := by positivity
  obtain ⟨near, down, up⟩ := h
  dsimp only at *
  rw [Nat.succ_mul] at *
  generalize m * 2 ^ (e - min e q).toNat = x, 2 ^ (q - min e q).toNat = y at *
  generalize k * y = z at *
  have hmode : rm = 0 ∨ (rm = 1 ∨ (rm = 2 ∧ neg = true) ∨ (rm = 3 ∧ neg = false)) ∨
      ((rm = 2 ∧ neg = false) ∨ (rm = 3 ∧ neg = true)) := by
    cases neg <;> simp <;> omega
  obtain hrne | hdir | hdir := hmode
  · have := near hrne
    omega
  · have := down hdir
    omega
  · have := up hdir
    omega

/-- A number of units that the value reaches is reached after rounding. -/
theorem RoundsTo.le_of_not_magLt {rm : Nat} {neg : Bool} {m : Nat} {e q : Int} {k a : Nat} (hrm : rm < 4)
    (h : RoundsTo rm neg m e q k) (ha : ¬MagLt m e a q) : a ≤ k := by
  obtain ⟨-, hlt⟩ := h.near_value hrm
  exact Nat.lt_succ_iff.mp (Nat.lt_of_mul_lt_mul_right (Nat.lt_of_le_of_lt (Nat.not_lt.mp ha) hlt))

/-- A number of units that the value stays below is not exceeded by rounding. -/
theorem RoundsTo.le_of_magLt {rm : Nat} {neg : Bool} {m : Nat} {e q : Int} {k a : Nat} (hrm : rm < 4)
    (h : RoundsTo rm neg m e q k) (ha : MagLt m e a q) : k ≤ a := by
  obtain ⟨hlt, -⟩ := h.near_value hrm
  have hsum : k * 2 ^ (q - min e q).toNat < (a + 1) * 2 ^ (q - min e q).toNat := by
    rw [Nat.succ_mul]
    exact Nat.lt_trans hlt (Nat.add_lt_add_right ha _)
  exact Nat.lt_succ_iff.mp (Nat.lt_of_mul_lt_mul_right hsum)

theorem roundAt_inexact (rm : Nat) (neg : Bool) (m : Nat) (e q : Int) :
    (roundAt rm neg m e q).2 = (m * 2 ^ (e - min e q).toNat % 2 ^ (q - min e q).toNat != 0) := by
  by_cases h : q ≤ e
  · have hy : (q - min e q).toNat = 0 := by omega
    rw [roundAt_of_le rm neg m h, hy, Nat.pow_zero, Nat.mod_one]
    rfl
  · have hx : (e - min e q).toNat = 0 := by omega
    have hm : min e q = e := by omega
    rw [roundAt, if_neg h, hx, hm, Nat.pow_zero, Nat.mul_one]

/-- The flag of `roundAt` says that the rounded value is another than the exact one (R37). -/
theorem roundAt_inexact_iff {rm : Nat} (hrm : rm < 4) (neg : Bool) (m : Nat) (e q : Int) :
    (roundAt rm neg m e q).2 = true ↔ ¬MagEq m e (roundAt rm neg m e q).1 q := by
  obtain ⟨hlt, hgt⟩ := (roundAt_roundsTo rm neg m e q).near_value hrm
  rw [roundAt_inexact, bne_iff_ne, not_iff_not, MagEq]
  generalize (roundAt rm neg m e q).1 = k at *
  generalize m * 2 ^ (e - min e q).toNat = x, 2 ^ (q - min e q).toNat = y at *
  constructor
  · intro hrest
    obtain ⟨j, rfl⟩ := Nat.dvd_of_mod_eq_zero hrest
    rw [Nat.mul_comm y j, ← Nat.succ_mul] at hlt
    rw [Nat.mul_comm y j] at hgt ⊢
    have hk := Nat.lt_of_mul_lt_mul_right hlt
    have hj := Nat.lt_of_mul_lt_mul_right hgt
    rw [show j = k by omega]
  · rintro rfl
    exact Nat.mul_mod_left k y

/-! ### Magnitudes against powers of two -/

theorem magLt_of_pow {m k i j : Nat} {e q : Int} (hm : m < 2 ^ j) (hk : 2 ^ i ≤ k) (h : j + e ≤ i + q) : MagLt m e k q :=
  calc m * 2 ^ (e - min e q).toNat
    _ < 2 ^ j * 2 ^ (e - min e q).toNat := Nat.mul_lt_mul_of_pos_right hm (by positivity)
    _ = 2 ^ (j + (e - min e q).toNat) := (Nat.pow_add ..).symm
    _ ≤ 2 ^ (i + (q - min e q).toNat) := Nat.pow_le_pow_right (by omega) (by omega)
    _ = 2 ^ i * 2 ^ (q - min e q).toNat := Nat.pow_add ..
    _ ≤ k * 2 ^ (q - min e q).toNat := Nat.mul_le_mul_right _ hk

theorem not_magLt_of_pow {m i j : Nat} {e q : Int} (hm : 2 ^ j ≤ m) (h : i + q ≤ j + e) : ¬MagLt m e (2 ^ i) q :=
  Nat.not_lt.mpr <|
  calc 2 ^ i * 2 ^ (q - min e q).toNat
    _ = 2 ^ (i + (q - min e q).toNat) := (Nat.pow_add ..).symm
    _ ≤ 2 ^ (j + (e - min e q).toNat) := Nat.pow_le_pow_right (by omega) (by omega)
    _ = 2 ^ j * 2 ^ (e - min e q).toNat := Nat.pow_add ..
    _ ≤ m * 2 ^ (e - min e q).toNat := Nat.mul_le_mul_right _ hm

/-- A unit below the leading bit of a value leaves at least that bit after rounding. -/
theorem pow_le_roundAt {rm m w : Nat} {e q : Int} (hrm : rm < 4) (neg : Bool) (hm : m ≠ 0) (h : w + q ≤ Nat.log2 m + e) :
    2 ^ w ≤ (roundAt rm neg m e q).1 :=
  (roundAt_roundsTo rm neg m e q).le_of_not_magLt hrm (not_magLt_of_pow (Nat.log2_self_le hm) h)

/-- A value whose leading bit lies below `2 ^ w` units rounds to no more than `2 ^ w`. -/
theorem roundAt_le_pow {rm m w : Nat} {e q : Int} (hrm : rm < 4) (neg : Bool) (h : Nat.log2 m + 1 + e ≤ w + q) :
    (roundAt rm neg m e q).1 ≤ 2 ^ w :=
  (roundAt_roundsTo rm neg m e q).le_of_magLt hrm (magLt_of_pow Nat.lt_log2_self (Nat.le_refl _) (by omega))

/-- The model's test for a tiny magnitude (R37) is the comparison with the power of two. -/
theorem tiny_iff_magLt {k : Nat} (hk : 0 < k) (q least : Int) :
    (if least ≤ q then false else decide (k < 2 ^ (least - q).toNat)) = true ↔ MagLt k q 1 least := by
  unfold MagLt
  split
  · next h =>
    have hmin : min q least = least := by omega
    simp [hmin]
    omega
  · next h =>
    have hmin : min q least = q := by omega
    simp [hmin]

/-- A mantissa of one bit too many is one of the next binade. -/
theorem magEq_carry (w : Nat) (q : Int) : MagEq (2 ^ w) (q + 1) (2 ^ (w + 1)) q := by
  simp [MagEq, Nat.pow_succ]

/-! ### The codes of a floating format (R23 to R25) -/

/-- The code of `k` units of `2 ^ q`: a subnormal one, or one with the exponent field of `q`. -/
def floatCode (f k : Nat) (q : Int) : Nat :=
  if k < 2 ^ fracBits f then k else (q + fracBits f + expBias f).toNat * 2 ^ fracBits f + (k - 2 ^ fracBits f)

theorem fmtBits_float {f : Nat} (hf : f < 4) : fmtBits f = fracBits f + expBits f + 1 := by
  interval_cases f <;> rfl

section
variable {f E M : Nat} (hf : f < 4) (neg : Bool)
include hf

theorem withSign_fields :
    withSign f neg (E * 2 ^ fracBits f + M) = (neg.toNat * 2 ^ expBits f + E) * 2 ^ fracBits f + M := by
  have hb : fmtBits f - 1 = expBits f + fracBits f := by rw [fmtBits_float hf]; omega
  cases neg
  · simp [withSign]
  · simp only [withSign, hb, Nat.pow_add, if_true, Bool.toNat_true]
    ring

theorem withSign_lt (hE : E < 2 ^ expBits f) (hM : M < 2 ^ fracBits f) :
    withSign f neg (E * 2 ^ fracBits f + M) < 2 ^ fmtBits f := by
  have hb : fmtBits f = expBits f + 1 + fracBits f := by rw [fmtBits_float hf]; omega
  have hhigh : neg.toNat * 2 ^ expBits f + E + 1 ≤ 2 ^ (expBits f + 1) := by
    rw [Nat.pow_succ']
    cases neg <;> simp <;> omega
  rw [withSign_fields hf, hb, Nat.pow_add]
  calc (neg.toNat * 2 ^ expBits f + E) * 2 ^ fracBits f + M
    _ < (neg.toNat * 2 ^ expBits f + E + 1) * 2 ^ fracBits f := by rw [Nat.succ_mul]; omega
    _ ≤ 2 ^ (expBits f + 1) * 2 ^ fracBits f := Nat.mul_le_mul_right _ hhigh

theorem fracField_withSign (hM : M < 2 ^ fracBits f) :
    withSign f neg (E * 2 ^ fracBits f + M) % 2 ^ fracBits f = M := by
  rw [withSign_fields hf, Nat.mul_add_mod', Nat.mod_eq_of_lt hM]

theorem div_fracBits_withSign (hM : M < 2 ^ fracBits f) :
    withSign f neg (E * 2 ^ fracBits f + M) / 2 ^ fracBits f = neg.toNat * 2 ^ expBits f + E := by
  rw [withSign_fields hf, Nat.add_comm _ M, Nat.add_mul_div_right _ _ (by positivity), Nat.div_eq_of_lt hM, Nat.zero_add]

theorem expField_withSign (hE : E < 2 ^ expBits f) (hM : M < 2 ^ fracBits f) :
    withSign f neg (E * 2 ^ fracBits f + M) / 2 ^ fracBits f % 2 ^ expBits f = E := by
  rw [div_fracBits_withSign hf neg hM, Nat.mul_add_mod', Nat.mod_eq_of_lt hE]

theorem signField_withSign (hE : E < 2 ^ expBits f) (hM : M < 2 ^ fracBits f) :
    (withSign f neg (E * 2 ^ fracBits f + M) / 2 ^ (fmtBits f - 1) % 2 == 1) = neg := by
  have hb : fmtBits f - 1 = fracBits f + expBits f := by rw [fmtBits_float hf]; omega
  rw [hb, Nat.pow_add, ← Nat.div_div_eq_div_mul, div_fracBits_withSign hf neg hM,
    Nat.add_comm _ E, Nat.add_mul_div_right _ _ (by positivity), Nat.div_eq_of_lt hE]
  cases neg <;> rfl

theorem fpOf_subnormal (hM : M < 2 ^ fracBits f) :
    fpOf f (withSign f neg M) = .fin neg M (1 - expBias f - fracBits f) := by
  have hE : 0 < 2 ^ expBits f := by positivity
  have htop : 0 ≠ 2 ^ expBits f - 1 := by interval_cases f <;> decide
  have hs := signField_withSign hf neg hE hM
  have he := expField_withSign hf neg hE hM
  have hm := fracField_withSign (E := 0) hf neg hM
  rw [Nat.zero_mul, Nat.zero_add] at hs he hm
  simp [fpOf, hs, he, hm, htop]

theorem fpOf_normal (hM : M < 2 ^ fracBits f) (hE : 0 < E) (htop : E < 2 ^ expBits f)
    (hfin : E = 2 ^ expBits f - 1 → f = 3 ∧ M ≠ 7) :
    fpOf f (withSign f neg (E * 2 ^ fracBits f + M)) = .fin neg (2 ^ fracBits f + M) (E - expBias f - fracBits f) := by
  simp only [fpOf, signField_withSign hf neg htop hM, expField_withSign hf neg htop hM, fracField_withSign hf neg hM]
  by_cases h3 : f = 3
  · rw [if_pos h3, if_neg (fun h => (hfin h.1).2 h.2), if_neg hE.ne']
  · rw [if_neg h3, if_neg (fun h => h3 (hfin h).1), if_neg hE.ne']

end

/-! ### The largest finite value (R23, R24) -/

/-- The significand of the largest finite value. -/
def maxSig (f : Nat) : Nat := if f = 3 then 14 else 2 ^ (fracBits f + 1) - 1

/-- The exponent of the largest finite value, of its last bit. -/
def maxExp (f : Nat) : Int := if f = 3 then 4 else expBias f - fracBits f

theorem fpOf_maxFinite {f : Nat} (hf : f < 4) (neg : Bool) :
    fpOf f (withSign f neg (maxFiniteCode f)) = .fin neg (maxSig f) (maxExp f) := by
  interval_cases f <;> cases neg <;> decide

theorem exceedsMax_iff {f : Nat} (hf : f < 4) (k : Nat) (q : Int) :
    exceedsMax f k q = true ↔ MagLt (maxSig f) (maxExp f) k q := by
  have hmax : fpOf f (maxFiniteCode f) = .fin false (maxSig f) (maxExp f) := fpOf_maxFinite hf false
  simp only [exceedsMax, hmax, decide_eq_true_eq, MagLt, min_comm q]

/-- The exponent field of the largest finite value: all ones in AF8 alone. -/
theorem maxExp_field {f : Nat} (hf : f < 4) :
    maxExp f + fracBits f + expBias f = ((2 ^ expBits f - (if f = 3 then 1 else 2) : Nat) : Int) := by
  interval_cases f <;> decide

theorem pow_le_maxSig {f : Nat} (hf : f < 4) : 2 ^ fracBits f ≤ maxSig f := by
  interval_cases f <;> decide

theorem maxSig_lt_pow {f : Nat} (hf : f < 4) : maxSig f < 2 ^ (fracBits f + 1) := by
  interval_cases f <;> decide

/-- The exponent of a normal magnitude that does not exceed the largest finite one. -/
theorem le_maxExp {f k i : Nat} {q : Int} (hf : f < 4) (hk : 2 ^ i ≤ k) (h : ¬MagLt (maxSig f) (maxExp f) k q) :
    i + q ≤ fracBits f + maxExp f := by
  by_contra hlt
  exact h (magLt_of_pow (maxSig_lt_pow hf) hk (by omega))

theorem le_maxSig {f k : Nat} (h : ¬MagLt (maxSig f) (maxExp f) k (maxExp f)) : k ≤ maxSig f := by
  simpa [MagLt] using h

/-- The code of a magnitude that is subnormal or normalised and does not exceed the largest finite one holds it. -/
theorem fpOf_floatCode {f k : Nat} {q : Int} (hf : f < 4) (neg : Bool) (hk : k < 2 ^ (fracBits f + 1))
    (hq : 1 - expBias f - fracBits f ≤ q) (hsub : k < 2 ^ fracBits f → q = 1 - expBias f - fracBits f)
    (hfit : ¬MagLt (maxSig f) (maxExp f) k q) :
    withSign f neg (floatCode f k q) < 2 ^ fmtBits f ∧ fpOf f (withSign f neg (floatCode f k q)) = .fin neg k q := by
  unfold floatCode
  split
  · next hlt =>
    have := withSign_lt hf neg (E := 0) (by positivity) hlt
    rw [Nat.zero_mul, Nat.zero_add] at this
    exact ⟨this, by rw [hsub hlt, fpOf_subnormal hf neg hlt]⟩
  · next hge =>
    have hmax := le_maxExp hf (Nat.not_lt.mp hge) hfit
    rw [Nat.pow_succ'] at hk
    have hM : k - 2 ^ fracBits f < 2 ^ fracBits f := by omega
    have htop := maxExp_field hf
    have hpos : 2 ≤ 2 ^ expBits f := by interval_cases f <;> decide
    have hE : (q + fracBits f + expBias f).toNat < 2 ^ expBits f := by
      split at htop <;> omega
    refine ⟨withSign_lt hf neg hE hM, ?_⟩
    rw [fpOf_normal hf neg hM (by omega) hE ?_]
    · congr 1 <;> omega
    · intro hones
      have h3 : f = 3 := by
        by_contra h3
        rw [if_neg h3] at htop
        omega
      subst h3
      have hq9 : q = maxExp 3 := by
        rw [if_pos rfl] at htop
        omega
      subst hq9
      have h14 : k ≤ 14 := le_maxSig hfit
      have h8 : 2 ^ fracBits 3 = 8 := rfl
      exact ⟨rfl, by omega⟩

/-! ### One rounding to a format (R35 to R37) -/

/-- The unit of the last bit of a value at the precision of the format, unbounded in exponent. -/
def leadUnit (f m : Nat) (e : Int) : Int := Nat.log2 m + e - fracBits f

/-- The unit of the last bit that the format has for the value, subnormals included. -/
def lastUnit (f m : Nat) (e : Int) : Int := max (leadUnit f m e) (1 - expBias f - fracBits f)

/-- The rounded magnitude, carried to the next binade when it has one bit too many. -/
def carried (f k : Nat) (q : Int) : Nat × Int :=
  if k = 2 ^ (fracBits f + 1) then (2 ^ fracBits f, q + 1) else (k, q)

section
variable {f rm m : Nat} {e : Int} (sat neg : Bool) (hm : m ≠ 0)
include hm

theorem roundFinite_of_exceeds (h : exceedsMax f (roundAt rm neg m e (leadUnit f m e)).1 (leadUnit f m e) = true) :
    roundFinite f rm sat neg m e = (overflowCode f rm sat neg, flagOverflow) := by
  have hq : (bitLen m : Int) - 1 + e - fracBits f = leadUnit f m e := by simp [bitLen, hm, leadUnit]
  rw [roundFinite]
  simp only [hq, h, if_true]

theorem roundFinite_of_fits (h : exceedsMax f (roundAt rm neg m e (leadUnit f m e)).1 (leadUnit f m e) = false) :
    roundFinite f rm sat neg m e =
      let r := roundAt rm neg m e (lastUnit f m e)
      let p := carried f r.1 (lastUnit f m e)
      let k0 := (roundAt rm neg m e (leadUnit f m e)).1
      let least := 1 - expBias f
      (withSign f neg (floatCode f p.1 p.2),
        if (if least ≤ leadUnit f m e then false else decide (k0 < 2 ^ (least - leadUnit f m e).toNat)) && r.2 then flagUnderflow
        else 0) := by
  have hq : (bitLen m : Int) - 1 + e - fracBits f = leadUnit f m e := by simp [bitLen, hm, leadUnit]
  rw [roundFinite]
  simp only [hq, h, Bool.false_eq_true, if_false]
  rfl

end

section
variable {f rm m : Nat} {e : Int} (hf : f < 4) (hrm : rm < 4) (neg : Bool) (hm : m ≠ 0)
include hrm hm

/-- At the last unit of the format, a rounded magnitude is at most one bit too long, and below the leading bit only where the
format is subnormal. -/
theorem roundAt_lastUnit_bounds :
    let q := lastUnit f m e
    let k := (roundAt rm neg m e q).1
    (q = leadUnit f m e ∧ 2 ^ fracBits f ≤ k ∧ k ≤ 2 ^ (fracBits f + 1)) ∨
    (q = 1 - expBias f - fracBits f ∧ k ≤ 2 ^ fracBits f) := by
  dsimp only
  obtain h | h := le_or_gt (1 - expBias f - fracBits f) (leadUnit f m e)
  · have hq : lastUnit f m e = leadUnit f m e := max_eq_left h
    rw [hq]
    exact .inl ⟨rfl, pow_le_roundAt hrm neg hm (by unfold leadUnit; omega), roundAt_le_pow hrm neg (by unfold leadUnit; omega)⟩
  · have hq : lastUnit f m e = 1 - expBias f - fracBits f := max_eq_right h.le
    rw [hq]
    exact .inr ⟨rfl, roundAt_le_pow hrm neg (by unfold leadUnit at h; omega)⟩

include hf

/-- A rounded magnitude within the format, after the carry, is one that the format has a code for. -/
theorem carried_spec (hfit : ¬MagLt (maxSig f) (maxExp f) (roundAt rm neg m e (leadUnit f m e)).1 (leadUnit f m e)) :
    let q := lastUnit f m e
    let k := (roundAt rm neg m e q).1
    let p := carried f k q
    MagEq p.1 p.2 k q ∧ p.1 < 2 ^ (fracBits f + 1) ∧ 1 - expBias f - fracBits f ≤ p.2 ∧
      (p.1 < 2 ^ fracBits f → p.2 = 1 - expBias f - fracBits f) ∧ ¬MagLt (maxSig f) (maxExp f) p.1 p.2 := by
  have hleast : 1 - expBias f - fracBits f ≤ lastUnit f m e := le_max_right ..
  have hemin : 1 - expBias f - fracBits f ≤ maxExp f := by interval_cases f <;> decide
  have hpow : 2 ^ fracBits f < 2 ^ (fracBits f + 1) := Nat.pow_lt_pow_succ (by omega)
  dsimp only
  obtain ⟨hq, hlo, hhi⟩ | ⟨hq, hhi⟩ := roundAt_lastUnit_bounds (f := f) (e := e) hrm neg hm
  · rw [← hq] at hfit
    generalize (roundAt rm neg m e (lastUnit f m e)).1 = k at *
    unfold carried
    split
    · next hcarry =>
      subst hcarry
      have hmax := le_maxExp hf (Nat.le_refl _) hfit
      exact ⟨magEq_carry _ _, hpow, by omega, fun h => absurd h (Nat.lt_irrefl _), not_magLt_of_pow (pow_le_maxSig hf) (by omega)⟩
    · next hcarry => exact ⟨rfl, by omega, hleast, fun h => absurd h (by omega), hfit⟩
  · rw [hq] at hhi ⊢
    generalize (roundAt rm neg m e (1 - expBias f - fracBits f)).1 = k at *
    rw [carried, if_neg (by omega)]
    have hbelow : ¬MagLt (maxSig f) (maxExp f) (2 ^ fracBits f) (1 - expBias f - fracBits f) :=
      not_magLt_of_pow (pow_le_maxSig hf) (by omega)
    exact ⟨rfl, by omega, Int.le_refl _, fun _ => rfl, fun h => hbelow (Nat.lt_of_lt_of_le h (Nat.mul_le_mul_right _ hhi))⟩

/-- R35 to R37: a magnitude that is not zero, rounded once to a format. -/
theorem roundFinite_spec (sat : Bool) :
    let q0 := leadUnit f m e
    let q := lastUnit f m e
    let k0 := (roundAt rm neg m e q0).1
    let k := (roundAt rm neg m e q).1
    (MagLt (maxSig f) (maxExp f) k0 q0 → roundFinite f rm sat neg m e = (overflowCode f rm sat neg, flagOverflow)) ∧
    (¬MagLt (maxSig f) (maxExp f) k0 q0 → ∃ c m' e',
      roundFinite f rm sat neg m e = (c, if MagLt k0 q0 1 (1 - expBias f) ∧ ¬MagEq m e k q then flagUnderflow else 0) ∧
      c < 2 ^ fmtBits f ∧ fpOf f c = .fin neg m' e' ∧ MagEq m' e' k q) := by
  dsimp only
  refine ⟨fun h => roundFinite_of_exceeds sat neg hm ((exceedsMax_iff hf ..).mpr h), fun h => ?_⟩
  obtain ⟨heq, hk, hq, hsub, hfit⟩ := carried_spec hf hrm neg hm h
  obtain ⟨hlt, hval⟩ := fpOf_floatCode hf neg hk hq hsub hfit
  refine ⟨_, _, _, ?_, hlt, hval, heq⟩
  have hk0 : 0 < (roundAt rm neg m e (leadUnit f m e)).1 :=
    Nat.lt_of_lt_of_le (by positivity) (pow_le_roundAt (w := fracBits f) hrm neg hm (by unfold leadUnit; omega))
  rw [roundFinite_of_fits sat neg hm (by rwa [← Bool.not_eq_true, exceedsMax_iff hf])]
  simp only [Bool.and_eq_true, tiny_iff_magLt hk0, roundAt_inexact_iff hrm]

end

theorem overflowCode_eq (f rm : Nat) (sat neg : Bool) :
    overflowCode f rm sat neg =
      if sat = true then withSign f neg (maxFiniteCode f)
      else if f = 3 then 0x7F
      else if rm = 0 ∨ (rm = 2 ∧ neg = false) ∨ (rm = 3 ∧ neg = true) then withSign f neg (infCode f)
      else withSign f neg (maxFiniteCode f) := by
  unfold overflowCode canonNan
  split
  · next h3 =>
    subst h3
    rfl
  · rfl

theorem fpRound_inf (f rm : Nat) (sat neg : Bool) :
    fpRound f rm sat (.inf neg) =
      (if sat then withSign f neg (maxFiniteCode f) else if f = 3 then 0x7F else withSign f neg (infCode f),
        if f = 3 then flagInvalid else 0) := by
  rw [fpRound]
  split
  · next h3 =>
    subst h3
    rfl
  · rfl

theorem fpRound_fin {m : Nat} (f rm : Nat) (sat neg : Bool) (hm : m ≠ 0) (e : Int) :
    fpRound f rm sat (.fin neg m e) = roundFinite f rm sat neg m e := by
  rw [fpRound, if_neg hm]

/-! ### Codes of the integer formats (R27) -/

theorem intCode_lt (f : Nat) (i : Int) : intCode f i < 2 ^ fmtBits f := by
  have hpos : (0 : Int) < (2 ^ fmtBits f : Nat) := by positivity
  have := Int.emod_lt_of_pos i hpos
  have := Int.emod_nonneg i hpos.ne'
  unfold intCode
  omega

theorem intCode_cast (f : Nat) (i : Int) : (intCode f i : Int) = i % (2 ^ fmtBits f : Nat) :=
  Int.toNat_of_nonneg (Int.emod_nonneg i (by positivity))

section
variable {f : Nat} (hf : 4 ≤ f) (hf' : f < 8)
include hf hf'

theorem intMin_le_intMax : intMin f ≤ intMax f := by
  interval_cases f <;> decide

/-- The code of an integer in the range of its format holds it. -/
theorem holdsInt_intCode {i : Int} (hlo : intMin f ≤ i) (hhi : i ≤ intMax f) : HoldsInt f (intCode f i) i := by
  refine ⟨intCode_lt f i, ?_⟩
  have hcast := intCode_cast f i
  generalize intCode f i = c at hcast ⊢
  interval_cases f <;> simp [intMin, intMax, intOf, fmtBits, fmtBytes] at * <;> omega

theorem holdsInt_intMin : HoldsInt f (intCode f (intMin f)) (intMin f) :=
  holdsInt_intCode hf hf' (Int.le_refl _) (intMin_le_intMax hf hf')

theorem holdsInt_intMax : HoldsInt f (intCode f (intMax f)) (intMax f) :=
  holdsInt_intCode hf hf' (intMin_le_intMax hf hf') (Int.le_refl _)

theorem intClamp_of_gt {i : Int} (h : intMax f < i) : intClamp f i = intMax f := by
  have := intMin_le_intMax hf hf'
  rw [intClamp, if_neg (by omega), if_pos h]

end

theorem intClamp_of_lt {f : Nat} {i : Int} (h : i < intMin f) : intClamp f i = intMin f := by
  rw [intClamp, if_pos h]

/-! ### Conversions (R38 to R40) -/

section
variable {sf df rm : Nat} {sat : Bool} {c : Nat}

theorem convert_float_float (hs : sf < 4) (hd : df < 4) : convert sf df rm sat c = fpRound df rm sat (fpOf sf c) := by
  simp [convert, isFloat, hs, hd]

theorem convert_int_float (hs : 4 ≤ sf) (hd : df < 4) :
    convert sf df rm sat c = fpRound df rm sat (.fin (decide (intOf sf c < 0)) (intOf sf c).natAbs 0) := by
  simp [convert, isFloat, Nat.not_lt.mpr hs, hd]

theorem convert_int_int (hs : 4 ≤ sf) (hd : 4 ≤ df) :
    convert sf df rm sat c =
      (intCode df (if intMin df ≤ intOf sf c ∧ intOf sf c ≤ intMax df ∨ sat = false then intOf sf c else intClamp df (intOf sf c)),
        0) := by
  simp only [convert, isFloat, Nat.not_lt.mpr hs, Nat.not_lt.mpr hd]
  by_cases h : intMin df ≤ intOf sf c ∧ intOf sf c ≤ intMax df <;> cases sat <;> simp [h]

theorem convert_nan_int (hs : sf < 4) (hd : 4 ≤ df) (h : isNan (fpOf sf c) = true) :
    convert sf df rm sat c = (0, flagInvalid) := by
  simp only [convert, isFloat, hs, Nat.not_lt.mpr hd]
  cases hv : fpOf sf c with
  | nan signalling => rfl
  | inf neg => simp [hv, isNan] at h
  | fin neg m e => simp [hv, isNan] at h

theorem convert_inf_int {neg : Bool} (hs : sf < 4) (hd : 4 ≤ df) (h : fpOf sf c = .inf neg) :
    convert sf df rm sat c = (intCode df (if neg then intMin df else intMax df), flagInvalid) := by
  simp [convert, isFloat, hs, Nat.not_lt.mpr hd, h]

theorem convert_fin_int {neg : Bool} {m : Nat} {e : Int} (hs : sf < 4) (hd : 4 ≤ df) (h : fpOf sf c = .fin neg m e) :
    convert sf df rm sat c =
      let i := signed neg (roundAt rm neg m e 0).1
      if intMin df ≤ i ∧ i ≤ intMax df then (intCode df i, 0) else (intCode df (intClamp df i), flagInvalid) := by
  simp only [convert, isFloat, hs, Nat.not_lt.mpr hd, h]
  rfl

/-- R39: a finite value rounds to an integer under the mode, and one outside the range gives the nearer end with invalid. -/
theorem convert_fin_int_spec {neg : Bool} {m : Nat} {e : Int} (hs : sf < 4) (hd : 4 ≤ df) (hd' : df < 8)
    (h : fpOf sf c = .fin neg m e) :
    let r := convert sf df rm sat c
    let i := signed neg (roundAt rm neg m e 0).1
    (intMin df ≤ i → i ≤ intMax df → HoldsInt df r.1 i ∧ r.2 = 0) ∧
    (i < intMin df → HoldsInt df r.1 (intMin df) ∧ r.2 = flagInvalid) ∧
    (intMax df < i → HoldsInt df r.1 (intMax df) ∧ r.2 = flagInvalid) := by
  dsimp only
  rw [convert_fin_int hs hd h]
  dsimp only
  generalize signed neg (roundAt rm neg m e 0).1 = i
  refine ⟨fun hlo hhi => ?_, fun hlt => ?_, fun hgt => ?_⟩
  · rw [if_pos ⟨hlo, hhi⟩]
    exact ⟨holdsInt_intCode hd hd' hlo hhi, rfl⟩
  · rw [if_neg (by omega), intClamp_of_lt hlt]
    exact ⟨holdsInt_intMin hd hd', rfl⟩
  · rw [if_neg (by omega), intClamp_of_gt hd hd' hgt]
    exact ⟨holdsInt_intMax hd hd', rfl⟩

/-- R40: an integer goes to an integer format as it is where that holds it, else clamped with sat, or as its low bits without. -/
theorem convert_int_int_spec (hs : 4 ≤ sf) (hd : 4 ≤ df) (hd' : df < 8) :
    let r := convert sf df rm sat c
    let i := intOf sf c
    r.2 = 0 ∧
    (intMin df ≤ i → i ≤ intMax df → HoldsInt df r.1 i) ∧
    (sat = true → (i < intMin df → HoldsInt df r.1 (intMin df)) ∧ (intMax df < i → HoldsInt df r.1 (intMax df))) ∧
    (sat = false → r.1 < 2 ^ fmtBits df ∧ (r.1 : Int) = i % (2 ^ fmtBits df : Nat)) := by
  dsimp only
  rw [convert_int_int hs hd]
  generalize intOf sf c = i
  refine ⟨rfl, fun hlo hhi => ?_, ?_, ?_⟩
  · rw [if_pos (.inl ⟨hlo, hhi⟩)]
    exact holdsInt_intCode hd hd' hlo hhi
  · rintro rfl
    refine ⟨fun hlt => ?_, fun hgt => ?_⟩
    · rw [if_neg (by simp; omega), intClamp_of_lt hlt]
      exact holdsInt_intMin hd hd'
    · rw [if_neg (by simp; omega), intClamp_of_gt hd hd' hgt]
      exact holdsInt_intMax hd hd'
  · intro hsat
    rw [if_pos (.inr hsat)]
    exact ⟨intCode_lt df i, intCode_cast df i⟩

end

/-! ### The obligation -/

/-- Settles O9: the rounding of a magnitude by `roundFinite_spec`, the conversions to integer formats by `convert_fin_int_spec` and
`convert_int_int_spec`. -/
theorem roundingAndConversions : Obligations.RoundingAndConversions := by
  unfold Obligations.RoundingAndConversions
  refine ⟨fun f rm sat neg hf hrm => ?_, fun sf df rm sat c _ hdf _ _ => ?_, by decide, by decide⟩
  · refine ⟨fpOf_maxFinite hf neg, fun _ => rfl, fpRound_inf f rm sat neg, fun _ => rfl, fun m e hm => ?_⟩
    obtain ⟨hover, hfits⟩ := roundFinite_spec (e := e) hf hrm neg hm sat
    refine ⟨_, roundAt_roundsTo rm neg m e _, fun h => ?_, fun h => ?_⟩
    · rw [fpRound_fin f rm sat neg hm, hover h, overflowCode_eq]
    · obtain ⟨code, m', e', hround, hlt, hval, heq⟩ := hfits h
      exact ⟨_, code, m', e', roundAt_roundsTo rm neg m e _, (fpRound_fin f rm sat neg hm e).trans hround, hlt, hval, heq⟩
  · refine ⟨convert_float_float, fun hs hd => ⟨convert_nan_int hs hd, fun neg h => ?_, fun neg m e h => ?_⟩,
      convert_int_float, fun hs hd => convert_int_int_spec hs hd hdf⟩
    · rw [convert_inf_int hs hd h]
      cases neg
      · exact ⟨holdsInt_intMax hd hdf, rfl⟩
      · exact ⟨holdsInt_intMin hd hdf, rfl⟩
    · exact ⟨_, roundAt_roundsTo rm neg m e 0, convert_fin_int_spec hs hd hdf h⟩

end Sys2Proof.Machine
end

section
/-!
PROOF. The encoder and the decoder (R55 to R68): of each format, when a word is the one that its fields encode to; of each opcode
map, that it reads an encoded instruction back and that a clean row is the word of its instruction.
-/

namespace Sys2Proof

/-! ### The fields of a word -/

theorem bits_eq_iff {w lo len : Nat} {x : BitVec len} : bits w lo len = x ↔ w / 2 ^ lo % 2 ^ len = x.toNat := by
  rw [bits, ← BitVec.toNat_inj, BitVec.toNat_ofNat]

theorem zeroBits_iff {w lo len : Nat} : zeroBits w lo len = true ↔ w / 2 ^ lo % 2 ^ len = 0 :=
  beq_iff_eq

/-! ### The formats (R55 to R58): a word is an encoded one exactly when its fields, the unused ones zero, are those encoded -/

theorem encSR_eq_iff {op word : Nat} {g : BitVec 5} {n : BitVec 1} {d a b : BitVec 6} {w : BitVec 1} :
    encSR op g n d a b w = word ↔
      word / 2 ^ 25 = op ∧ bits word 20 5 = g ∧ bits word 19 1 = n ∧ bits word 13 6 = d ∧ bits word 7 6 = a ∧
      bits word 1 6 = b ∧ bits word 0 1 = w := by
  simp only [encSR, bits_eq_iff]
  omega

theorem encSI_eq_iff {op word : Nat} {d a : BitVec 6} {i : BitVec 13} :
    encSI op d a i = word ↔
      word / 2 ^ 25 = op ∧ bits word 19 6 = d ∧ bits word 13 6 = a ∧ bits word 0 13 = i := by
  simp only [encSI, bits_eq_iff]
  omega

theorem encSL_eq_iff {op word : Nat} {d : BitVec 6} {i : BitVec 19} :
    encSL op d i = word ↔
      word / 2 ^ 25 = op ∧ bits word 19 6 = d ∧ bits word 0 19 = i := by
  simp only [encSL, bits_eq_iff]
  omega

theorem encSB_eq_iff {op word : Nat} {g : BitVec 5} {n : BitVec 1} {o : BitVec 19} :
    encSB op g n o = word ↔
      word / 2 ^ 25 = op ∧ bits word 20 5 = g ∧ bits word 19 1 = n ∧ bits word 0 19 = o := by
  simp only [encSB, bits_eq_iff]
  omega

theorem encSC_eq_iff {op word : Nat} {g : BitVec 5} {n : BitVec 1} {p : BitVec 5} {a b : BitVec 6} :
    encSC op g n p a b = word ↔
      word / 2 ^ 25 = op ∧ bits word 20 5 = g ∧ bits word 19 1 = n ∧ bits word 14 5 = p ∧ bits word 8 6 = a ∧
      bits word 2 6 = b ∧ bits word 0 2 = 0 := by
  simp only [encSC, bits_eq_iff, BitVec.ofNat_eq_ofNat, BitVec.toNat_ofNat]
  omega

theorem encPlog_eq_iff {op word : Nat} {p x y : BitVec 5} {t : BitVec 4} :
    encPlog op p x y t = word ↔
      word / 2 ^ 25 = op ∧ bits word 14 5 = p ∧ bits word 9 5 = x ∧ bits word 4 5 = y ∧ bits word 0 4 = t ∧
      bits word 19 6 = 0 := by
  simp only [encPlog, bits_eq_iff, BitVec.ofNat_eq_ofNat, BitVec.toNat_ofNat]
  omega

theorem encSK_eq_iff {op word : Nat} {d a : BitVec 6} {k : BitVec 13} :
    encSK op d a k = word ↔
      word / 2 ^ 25 = op ∧ bits word 19 6 = d ∧ bits word 13 6 = a ∧ bits word 0 13 = k := by
  simp only [encSK, bits_eq_iff]
  omega

theorem encSW_eq_iff {op word : Nat} {e h : BitVec 2} {f : BitVec 3} {a : BitVec 6} :
    encSW op e h f a = word ↔
      word / 2 ^ 25 = op ∧ bits word 23 2 = e ∧ bits word 21 2 = h ∧ bits word 18 3 = f ∧ bits word 12 6 = a ∧
      bits word 0 12 = 0 := by
  simp only [encSW, bits_eq_iff, BitVec.ofNat_eq_ofNat, BitVec.toNat_ofNat]
  omega

theorem encVR_eq_iff {op word : Nat} {g : BitVec 5} {d a b : BitVec 6} {f : BitVec 3} :
    encVR op g d a b f = word ↔
      word / 2 ^ 26 = op ∧ bits word 21 5 = g ∧ bits word 15 6 = d ∧ bits word 9 6 = a ∧ bits word 3 6 = b ∧
      bits word 0 3 = f := by
  simp only [encVR, bits_eq_iff]
  omega

theorem encVC_eq_iff {op word : Nat} {g p : BitVec 5} {a b : BitVec 6} {f : BitVec 3} :
    encVC op g p a b f = word ↔
      word / 2 ^ 26 = op ∧ bits word 21 5 = g ∧ bits word 16 5 = p ∧ bits word 10 6 = a ∧ bits word 4 6 = b ∧
      bits word 1 3 = f ∧ bits word 0 1 = 0 := by
  simp only [encVC, bits_eq_iff, BitVec.ofNat_eq_ofNat, BitVec.toNat_ofNat]
  omega

theorem encVX_eq_iff {op word : Nat} {g : BitVec 5} {d a : BitVec 6} {s t : BitVec 3} {r : BitVec 2} {u : BitVec 1} :
    encVX op g d a s t r u = word ↔
      word / 2 ^ 26 = op ∧ bits word 21 5 = g ∧ bits word 15 6 = d ∧ bits word 9 6 = a ∧ bits word 6 3 = s ∧
      bits word 3 3 = t ∧ bits word 1 2 = r ∧ bits word 0 1 = u := by
  simp only [encVX, bits_eq_iff]
  omega

theorem encMV_eq_iff {op word : Nat} {g : BitVec 5} {v a : BitVec 6} {i : BitVec 7} {e : BitVec 2} :
    encMV op g v a i e = word ↔
      word / 2 ^ 26 = op ∧ bits word 21 5 = g ∧ bits word 15 6 = v ∧ bits word 9 6 = a ∧ bits word 2 7 = i ∧
      bits word 0 2 = e := by
  simp only [encMV, bits_eq_iff]
  omega

theorem encMG_eq_iff {op word : Nat} {g : BitVec 5} {v a : BitVec 6} {i : BitVec 5} {r c : BitVec 2} :
    encMG op g v a i r c = word ↔
      word / 2 ^ 26 = op ∧ bits word 21 5 = g ∧ bits word 15 6 = v ∧ bits word 9 6 = a ∧ bits word 4 5 = i ∧
      bits word 2 2 = r ∧ bits word 0 2 = c := by
  simp only [encMG, bits_eq_iff]
  omega

theorem encMS_eq_iff {op word : Nat} {g : BitVec 5} {d : BitVec 6} {o : BitVec 15} :
    encMS op g d o = word ↔
      word / 2 ^ 26 = op ∧ bits word 21 5 = g ∧ bits word 15 6 = d ∧ bits word 0 15 = o := by
  simp only [encMS, bits_eq_iff]
  omega

theorem encMA_eq_iff {op word : Nat} {g : BitVec 5} {d a b : BitVec 6} {o : BitVec 3} :
    encMA op g d a b o = word ↔
      word / 2 ^ 26 = op ∧ bits word 21 5 = g ∧ bits word 15 6 = d ∧ bits word 9 6 = a ∧ bits word 3 6 = b ∧
      bits word 0 3 = o := by
  simp only [encMA, bits_eq_iff]
  omega

theorem encFence_eq_iff {op word : Nat} {s c : BitVec 3} {k : BitVec 4} :
    encFence op s c k = word ↔
      word / 2 ^ 26 = op ∧ bits word 23 3 = s ∧ bits word 20 3 = c ∧ bits word 16 4 = k ∧ bits word 0 16 = 0 := by
  simp only [encFence, bits_eq_iff, BitVec.ofNat_eq_ofNat, BitVec.toNat_ofNat]
  omega

theorem encProbe_eq_iff {op word : Nat} {g p : BitVec 5} {a b : BitVec 6} {m : BitVec 4} :
    encProbe op g p a b m = word ↔
      word / 2 ^ 26 = op ∧ bits word 21 5 = g ∧ bits word 16 5 = p ∧ bits word 10 6 = a ∧ bits word 4 6 = b ∧
      bits word 0 4 = m := by
  simp only [encProbe, bits_eq_iff]
  omega

theorem encX_eq_iff {op word : Nat} {h : BitVec 2} {s : BitVec 1} {g : BitVec 5} {a b i : BitVec 6} :
    encX op h s g a b i = word ↔
      word / 2 ^ 26 = op ∧ bits word 24 2 = h ∧ bits word 23 1 = s ∧ bits word 18 5 = g ∧ bits word 12 6 = a ∧
      bits word 6 6 = b ∧ bits word 0 6 = i := by
  simp only [encX, bits_eq_iff]
  omega

/-! ### The opcode map of the scalar slots (R61, R65) -/

theorem rowScalar_encode {i : Instr} (h : i.cls = some .scalar) (hn : i ≠ .nop) : rowScalar (encode i) = some (true, i) := by
  cases i <;> cases h
  case nop => exact absurd rfl hn
  case halt => decide
  case padv => decide
  all_goals
    generalize hw : encode _ = w
    simp only [encode, encSR_eq_iff, encSI_eq_iff, encSL_eq_iff, encSB_eq_iff, encSC_eq_iff, encPlog_eq_iff, encSK_eq_iff,
      encSW_eq_iff] at hw
    unfold rowScalar
    rw [hw.1]
    dsimp only [Nat.reducePow, Nat.reduceMod]
    refine congrArg some (Prod.ext ?_ ?_)
    · simp only [bits_eq_iff, BitVec.ofNat_eq_ofNat, BitVec.toNat_ofNat] at hw
      simp only [Bool.and_eq_true, zeroBits_iff] <;> omega
    · simp only [hw]

theorem rowScalar_some {w : Nat} {clean : Bool} {i : Instr} (hw : w < 2 ^ 32) (h : rowScalar w = some (clean, i)) :
    i.cls = some .scalar ∧ encode i / 2 ^ 25 = w / 2 ^ 25 ∧ (clean = true → encode i = w) := by
  unfold rowScalar at h
  split at h <;> cases h
  all_goals
    refine ⟨rfl, ?_, ?_⟩
    · generalize he : encode _ = e
      simp only [encode, encSR_eq_iff, encSI_eq_iff, encSL_eq_iff, encSB_eq_iff, encSC_eq_iff, encPlog_eq_iff, encSK_eq_iff,
      encSW_eq_iff] at he
      omega
    · simp only [encode, encSR_eq_iff, encSI_eq_iff, encSL_eq_iff, encSB_eq_iff, encSC_eq_iff, encPlog_eq_iff, encSK_eq_iff,
      encSW_eq_iff,
        bits_eq_iff, zeroBits_iff, Bool.and_eq_true, BitVec.ofNat_eq_ofNat, BitVec.toNat_ofNat, forall_const, and_true, true_and]
      omega

theorem rowScalar_isSome {w x : Nat} (h : w / 2 ^ 25 = x / 2 ^ 25) : (rowScalar w).isSome = (rowScalar x).isSome := by
  unfold rowScalar
  rw [h]
  split <;> rfl

theorem rowScalar_of_lt {w : Nat} (h : w < 2 ^ 25) : rowScalar w = none := by
  unfold rowScalar
  rw [Nat.div_eq_of_lt h]
  rfl

/-! ### The opcode map of the V slot (R62) -/

theorem rowVec_encode {i : Instr} (h : i.cls = some .vec) : rowVec (encode i) = some (true, i) := by
  cases i <;> cases h
  all_goals
    generalize hw : encode _ = w
    simp only [encode, encVR_eq_iff, encVC_eq_iff, encVX_eq_iff] at hw
    unfold rowVec
    rw [hw.1]
    dsimp only [Nat.reducePow, Nat.reduceMod]
    refine congrArg some (Prod.ext ?_ ?_)
    · simp only [bits_eq_iff, BitVec.ofNat_eq_ofNat, BitVec.toNat_ofNat] at hw
      simp only [zeroBits_iff] <;> omega
    · simp only [hw]

theorem rowVec_some {w : Nat} {clean : Bool} {i : Instr} (hw : w < 2 ^ 32) (h : rowVec w = some (clean, i)) :
    i.cls = some .vec ∧ encode i / 2 ^ 26 = w / 2 ^ 26 ∧ (clean = true → encode i = w) := by
  unfold rowVec at h
  split at h <;> cases h
  all_goals
    refine ⟨rfl, ?_, ?_⟩
    · generalize he : encode _ = e
      simp only [encode, encVR_eq_iff, encVC_eq_iff, encVX_eq_iff] at he
      omega
    · simp only [encode, encVR_eq_iff, encVC_eq_iff, encVX_eq_iff,
        bits_eq_iff, zeroBits_iff, BitVec.ofNat_eq_ofNat, BitVec.toNat_ofNat, forall_const, and_true, true_and]
      omega

theorem rowVec_isSome {w x : Nat} (h : w / 2 ^ 26 = x / 2 ^ 26) : (rowVec w).isSome = (rowVec x).isSome := by
  unfold rowVec
  rw [h]
  split <;> rfl

theorem rowVec_of_lt {w : Nat} (h : w < 2 ^ 26) : rowVec w = none := by
  unfold rowVec
  rw [Nat.div_eq_of_lt h]
  rfl

/-! ### The opcode map of the M slot (R63) -/

theorem rowMem_encode {i : Instr} (h : i.cls = some .mem) : rowMem (encode i) = some (true, i) := by
  cases i <;> cases h
  all_goals
    generalize hw : encode _ = w
    simp only [encode, encMV_eq_iff, encMG_eq_iff, encMS_eq_iff, encMA_eq_iff, encFence_eq_iff, encProbe_eq_iff] at hw
    unfold rowMem
    rw [hw.1]
    dsimp only [Nat.reducePow, Nat.reduceMod]
    refine congrArg some (Prod.ext ?_ ?_)
    · simp only [bits_eq_iff, BitVec.ofNat_eq_ofNat, BitVec.toNat_ofNat] at hw
      simp only [Bool.and_eq_true, zeroBits_iff] <;> omega
    · simp only [hw]

theorem rowMem_some {w : Nat} {clean : Bool} {i : Instr} (hw : w < 2 ^ 32) (h : rowMem w = some (clean, i)) :
    i.cls = some .mem ∧ encode i / 2 ^ 26 = w / 2 ^ 26 ∧ (clean = true → encode i = w) := by
  unfold rowMem at h
  split at h <;> cases h
  all_goals
    refine ⟨rfl, ?_, ?_⟩
    · generalize he : encode _ = e
      simp only [encode, encMV_eq_iff, encMG_eq_iff, encMS_eq_iff, encMA_eq_iff, encFence_eq_iff, encProbe_eq_iff] at he
      omega
    · simp only [encode, encMV_eq_iff, encMG_eq_iff, encMS_eq_iff, encMA_eq_iff, encFence_eq_iff, encProbe_eq_iff,
        bits_eq_iff, zeroBits_iff, Bool.and_eq_true, BitVec.ofNat_eq_ofNat, BitVec.toNat_ofNat, forall_const, and_true, true_and]
      omega

theorem rowMem_isSome {w x : Nat} (h : w / 2 ^ 26 = x / 2 ^ 26) : (rowMem w).isSome = (rowMem x).isSome := by
  unfold rowMem
  rw [h]
  split <;> rfl

theorem rowMem_of_lt {w : Nat} (h : w < 2 ^ 26) : rowMem w = none := by
  unfold rowMem
  rw [Nat.div_eq_of_lt h]
  rfl

/-! ### The opcode map of the X slot (R64) -/

theorem rowEng_encode {i : Instr} (h : i.cls = some .eng) : rowEng (encode i) = some (true, i) := by
  cases i <;> cases h
  all_goals
    generalize hw : encode _ = w
    simp only [encode, encX_eq_iff] at hw
    unfold rowEng
    rw [hw.1]
    dsimp only [Nat.reducePow, Nat.reduceMod]
    refine congrArg some (Prod.ext ?_ ?_)
    · simp only [bits_eq_iff, BitVec.ofNat_eq_ofNat, BitVec.toNat_ofNat] at hw
      simp only [Bool.and_eq_true, zeroBits_iff] <;> omega
    · simp only [hw]

theorem rowEng_some {w : Nat} {clean : Bool} {i : Instr} (hw : w < 2 ^ 32) (h : rowEng w = some (clean, i)) :
    i.cls = some .eng ∧ encode i / 2 ^ 26 = w / 2 ^ 26 ∧ (clean = true → encode i = w) := by
  unfold rowEng at h
  split at h <;> cases h
  all_goals
    refine ⟨rfl, ?_, ?_⟩
    · generalize he : encode _ = e
      simp only [encode, encX_eq_iff] at he
      omega
    · simp only [encode, encX_eq_iff,
        bits_eq_iff, zeroBits_iff, Bool.and_eq_true, BitVec.ofNat_eq_ofNat, BitVec.toNat_ofNat, forall_const, and_true, true_and]
      omega

theorem rowEng_isSome {w x : Nat} (h : w / 2 ^ 26 = x / 2 ^ 26) : (rowEng w).isSome = (rowEng x).isSome := by
  unfold rowEng
  rw [h]
  split <;> rfl

theorem rowEng_of_lt {w : Nat} (h : w < 2 ^ 26) : rowEng w = none := by
  unfold rowEng
  rw [Nat.div_eq_of_lt h]
  rfl

/-! ### Any slot class -/

/-- The power of two that the opcode of a word of the class counts (R55 to R58). -/
abbrev opUnit (c : SlotClass) : Nat := if c = .scalar then 2 ^ 25 else 2 ^ 26

section
variable {c : SlotClass} {w : Nat} {i : Instr}

theorem opZero_iff : opZero c w = true ↔ w < opUnit c := by
  cases c <;> simp [opZero, opUnit, Nat.div_eq_zero_iff]

theorem rowOf_encode (h : i.cls = some c) (hn : i ≠ .nop) : rowOf c (encode i) = some (true, i) := by
  cases c
  case scalar => exact rowScalar_encode h hn
  case vec => exact rowVec_encode h
  case mem => exact rowMem_encode h
  case eng => exact rowEng_encode h

/-- A row of the opcode map is an instruction of the class with that opcode, and a clean row is its word. -/
theorem rowOf_some {clean : Bool} (hw : w < 2 ^ 32) (h : rowOf c w = some (clean, i)) :
    i.cls = some c ∧ encode i / opUnit c = w / opUnit c ∧ (clean = true → encode i = w) := by
  cases c
  case scalar => exact rowScalar_some hw h
  case vec => exact rowVec_some hw h
  case mem => exact rowMem_some hw h
  case eng => exact rowEng_some hw h

/-- Whether an opcode is defined depends on the opcode alone. -/
theorem rowOf_isSome {x : Nat} (h : w / opUnit c = x / opUnit c) : (rowOf c w).isSome = (rowOf c x).isSome := by
  cases c
  case scalar => exact rowScalar_isSome h
  case vec => exact rowVec_isSome h
  case mem => exact rowMem_isSome h
  case eng => exact rowEng_isSome h

/-- Opcode 0 is no row (R67). -/
theorem rowOf_of_lt (h : w < opUnit c) : rowOf c w = none := by
  cases c
  case scalar => exact rowScalar_of_lt h
  case vec => exact rowVec_of_lt h
  case mem => exact rowMem_of_lt h
  case eng => exact rowEng_of_lt h

theorem opUnit_le_of_row {r : Bool × Instr} (h : rowOf c w = some r) : opUnit c ≤ w := by
  by_contra hlt
  rw [rowOf_of_lt (Nat.lt_of_not_le hlt)] at h
  cases h

theorem opUnit_le_encode (h : i.cls = some c) (hn : i ≠ .nop) : opUnit c ≤ encode i :=
  opUnit_le_of_row (rowOf_encode h hn)

theorem opUnit_pos (c : SlotClass) : 0 < opUnit c := by
  cases c <;> decide

/-! ### What the decoder answers (R67, R153) -/

theorem decodeWord_of_lt (h0 : w ≠ 0) (h : w < opUnit c) : decodeWord c w = .error 1 := by
  rw [decodeWord, if_neg h0, if_pos (opZero_iff.mpr h)]

theorem decodeWord_of_le (h : opUnit c ≤ w) :
    decodeWord c w = (rowOf c w).elim (.error 2) (fun r =>
      if r.1 = true then r.2.detail.elim (.ok r.2) .error else .error 3) := by
  have h0 : w ≠ 0 := by have := opUnit_pos c; omega
  rw [decodeWord, if_neg h0, if_neg (fun hz => Nat.not_lt.mpr h (opZero_iff.mp hz))]
  cases rowOf c w with
  | none => rfl
  | some r =>
    obtain ⟨clean, j⟩ := r
    cases clean
    · rfl
    · cases hd : j.detail <;> simp [hd]

/-- The word of an instruction decodes to it, or to the detail code of the limit that it breaks (R60). -/
theorem decodeWord_encode (h : i.cls = some c) (hn : i ≠ .nop) : decodeWord c (encode i) = i.detail.elim (.ok i) .error := by
  rw [decodeWord_of_le (opUnit_le_encode h hn), rowOf_encode h hn]
  rfl

theorem decodeSlot_of_error {d : Nat} (h : decodeWord c w = .error d) : decodeSlot c w = .error d := by
  rw [decodeSlot, h]

theorem decodeSlot_of_ok (h : decodeWord c w = .ok i) : decodeSlot c w = if i.streamOnly then .error 6 else .ok i := by
  rw [decodeSlot, h]

end

/-! ### The obligations -/
/-- Settles O57: every opcode map reads an encoded instruction back (`rowOf_encode`), and a well-formed one breaks no limit. -/
theorem decodeReadsWhatEncodeWrites : Obligations.DecodeReadsWhatEncodeWrites := by
  unfold Obligations.DecodeReadsWhatEncodeWrites
  intro i c hc hwf
  by_cases hn : i = .nop
  · subst hn; cases hc; rfl
  · rw [decodeWord_encode hc hn, Option.isNone_iff_eq_none.mp hwf]
    rfl

/-- Settles O58: each word of the examples is evaluated. -/
theorem wordsOfTheManualDecode : Obligations.WordsOfTheManualDecode := by
  unfold Obligations.WordsOfTheManualDecode
  decide

end Sys2Proof
end

section
/-!
PROOF. What a step runs (R49, R66, R73, R243, R244): the slots of a bundle at the program counter, the turns of the agenda, and that time
passing keeps the module powered.
-/

namespace Sys2Proof.Machine

/-! ### Time passes on a powered module -/

/-- What each step of a fold keeps, the fold keeps. -/
theorem foldl_keeps {α β γ : Type} (g : β → γ) (f : β → α → β) (h : ∀ b a, g (f b a) = g b) (l : List α) (b : β) :
    g (l.foldl f b) = g b := by
  induction l generalizing b with
  | nil => rfl
  | cons a l ih => rw [List.foldl_cons, ih, h]

theorem gateOpen_powered (c i : Nat) (s : State) : (gateOpen c i s).powered = s.powered := by
  unfold gateOpen
  split
  · rfl
  · split <;> rfl

theorem openGates_powered (c : Nat) (s : State) : (openGates c s).powered = s.powered := by
  unfold openGates
  split
  · exact foldl_keeps State.powered _ (fun t i => gateOpen_powered c i t) _ _
  · rfl

theorem startTask_powered (c : Nat) (e : QEntry) (s : State) : (startTask c e s).powered = s.powered := by
  unfold startTask
  exact (foldl_keeps State.powered (fun t (k : Nat × Nat × Nat) => t.onCore k.1 _) (fun _ _ => rfl) _ _).trans rfl

theorem dispatchOne_powered (c : Nat) (a : BitVec 128 × State) (e : QEntry) :
    (dispatchOne c a e).2.powered = a.2.powered := by
  unfold dispatchOne
  split
  · rfl
  · split
    · exact startTask_powered c e a.2
    · rfl

theorem dispatch_powered (c : Nat) (s : State) : (dispatch c s).powered = s.powered := by
  unfold dispatch
  exact (foldl_keeps (fun a : BitVec 128 × State => a.2.powered) _ (dispatchOne_powered c) _ _).trans (openGates_powered c s)

theorem atomAct_powered (c : Nat) (k : AtomKind) (va : Nat) (x y : W64) (rel : Bool) (pubs : Tab Nat) (s : State) :
    (atomAct c k va x y rel pubs s).powered = s.powered := by
  unfold atomAct
  split <;> rfl

theorem mbxTake_powered (c : Nat) (d : BitVec 6) (a : W64) (take : Bool) (s : State) :
    (mbxTake c d a take s).powered = s.powered := by
  cases take
  · rfl
  · exact atomAct_powered c .xchg (vaOf a) 0 0 false [] s

theorem wakeThread_powered (c : Nat) (s : State) : (wakeThread c s).powered = s.powered := by
  unfold wakeThread
  split
  · rfl
  · split
    · exact (State.onCtx_powered ..).trans (mbxTake_powered ..)
    · rfl

theorem endCycleOf_powered (s : State) (c : Nat) : (endCycleOf s c).powered = s.powered := by
  unfold endCycleOf
  dsimp only
  split
  · exact wakeThread_powered c s
  · split
    · exact (dispatch_powered c _).trans (wakeThread_powered c s)
    · exact (openGates_powered c _).trans (wakeThread_powered c s)

theorem passCycles_powered (n : Nat) (s : State) : (passCycles n s).powered = s.powered := by
  induction n generalizing s with
  | zero => rfl
  | succ n ih => exact (ih _).trans (foldl_keeps State.powered _ endCycleOf_powered _ _)

theorem startTurn_powered (p : Nat) (s : State) : (startTurn p s).powered = s.powered :=
  passCycles_powered _ _

theorem startThread_powered (c : Nat) (s : State) : (startThread c s).powered = s.powered :=
  passCycles_powered _ _

@[simp] theorem popTurn_powered (s : State) : (popTurn s).powered = s.powered := rfl

/-! ### The slots of a bundle (R49) -/

/-- Slot `k` of the bundle at a PC, as decoded. -/
def slotAt (x : Ctx) (pc : Int) (k : Nat) : Nat × Except Nat Instr :=
  (k, decodeSlot (slotClass k) (bundleWord x pc (k + 1)).toNat)

section
variable {x : Ctx} {pc : Int}

theorem filled_bundleSlots :
    (bundleSlots x pc).filter filled = ((List.range 5).filter (fun k => filled (slotAt x pc k))).map (slotAt x pc) :=
  List.filter_map ..

/-- A word of zero is a NOP in every slot (R67). -/
theorem filled_slotAt_zero {k : Nat} (h : bundleWord x pc (k + 1) = 0) : filled (slotAt x pc k) = false := by
  rw [slotAt, h]
  rfl

theorem filter_range_one {P : Nat → Bool} {k : Nat} (hk : k < 5) (hP : P k = true) (h : ∀ j, j < 5 → j ≠ k → P j = false) :
    (List.range 5).filter P = [k] := by
  have hcongr : (List.range 5).filter P = (List.range 5).filter (· == k) := by
    refine List.filter_congr fun j hj => ?_
    by_cases hjk : j = k
    · simp [hjk, hP]
    · simp [hjk, h j (List.mem_range.mp hj) hjk]
  rw [hcongr]
  interval_cases k <;> rfl

theorem filter_range_two {P : Nat → Bool} {j k : Nat} (hjk : j < k) (hk : k < 5) (hj : P j = true) (hPk : P k = true)
    (h : ∀ i, i < 5 → i ≠ j → i ≠ k → P i = false) : (List.range 5).filter P = [j, k] := by
  have hcongr : (List.range 5).filter P = (List.range 5).filter (fun i => i == j || i == k) := by
    refine List.filter_congr fun i hi => ?_
    by_cases hij : i = j
    · simp [hij, hj]
    · by_cases hik : i = k
      · simp [hik, hPk]
      · simp [hij, hik, h i (List.mem_range.mp hi) hij hik]
  rw [hcongr]
  interval_cases k <;> interval_cases j <;> rfl

/-- The filled slots of a bundle with one word. -/
theorem bundleSlots_one {k : Nat} (hk : k < 5) (hf : filled (slotAt x pc k) = true)
    (h0 : ∀ j, j < 5 → j ≠ k → bundleWord x pc (j + 1) = 0) : (bundleSlots x pc).filter filled = [slotAt x pc k] := by
  rw [filled_bundleSlots, filter_range_one hk hf fun j hj hjk => filled_slotAt_zero (h0 j hj hjk)]
  rfl

/-- The filled slots of a bundle with two words. -/
theorem bundleSlots_two {j k : Nat} (hjk : j < k) (hk : k < 5) (hj : filled (slotAt x pc j) = true)
    (hf : filled (slotAt x pc k) = true) (h0 : ∀ i, i < 5 → i ≠ j → i ≠ k → bundleWord x pc (i + 1) = 0) :
    (bundleSlots x pc).filter filled = [slotAt x pc j, slotAt x pc k] := by
  rw [filled_bundleSlots, filter_range_two hjk hk hj hf fun i hi hij hik => filled_slotAt_zero (h0 i hi hij hik)]
  rfl

/-- The filled slots of an empty bundle. -/
theorem bundleSlots_none (h0 : ∀ j, j < 5 → bundleWord x pc (j + 1) = 0) : (bundleSlots x pc).filter filled = [] := by
  rw [filled_bundleSlots, List.filter_eq_nil_iff.mpr]
  · rfl
  · intro j hj
    rw [filled_slotAt_zero (h0 j (List.mem_range.mp hj))]
    exact Bool.false_ne_true

theorem slotAt_of_decode {k : Nat} {r : Except Nat Instr} (h : decodeSlot (slotClass k) (bundleWord x pc (k + 1)).toNat = r) :
    slotAt x pc k = (k, r) := by
  rw [slotAt, h]

theorem filled_ok {k : Nat} {i : Instr} (h : i ≠ .nop) : filled (k, .ok i) = true := by
  unfold filled
  split
  · next heq => exact absurd (Except.ok.inj heq) h
  · rfl

/-- The one instruction of a bundle with one word. -/
theorem soleSlot_one {k : Nat} {i : Instr} (hk : k < 5) (hi : i ≠ .nop)
    (hd : decodeSlot (slotClass k) (bundleWord x pc (k + 1)).toNat = .ok i)
    (h0 : ∀ j, j < 5 → j ≠ k → bundleWord x pc (j + 1) = 0) : soleSlot (bundleSlots x pc) = some (k, i) := by
  have hs := slotAt_of_decode hd
  rw [soleSlot, bundleSlots_one hk (by rw [hs]; exact filled_ok hi) h0, hs]

/-- An empty bundle runs NOP. -/
theorem soleSlot_none (h0 : ∀ j, j < 5 → bundleWord x pc (j + 1) = 0) : soleSlot (bundleSlots x pc) = some (0, .nop) := by
  rw [soleSlot, bundleSlots_none h0]

theorem inCode_iff : inCode x pc = true ↔ 0 ≤ pc ∧ pc.toNat < x.code.length / 6 := by
  rw [inCode, Bool.and_eq_true, decide_eq_true_eq, decide_eq_true_eq]
  rfl

end

/-! ### The turn of a core (R49, R73, R114, R121) -/

section
variable {s v : State} {p : Nat}

theorem step_core (h : turnOf s = .core p) : step s = stepCore p (popTurn s) := by
  rw [step, h]

/-- The one instruction of a turn that yields nothing, at a PC inside the code. -/
theorem turnInstr_sole (hy : mayYield v p = false) (hin : inCode (v.ctx (v.ctxOf p)) (v.core p).pc = true) :
    turnInstr v p = soleAt v p := by
  simp [turnInstr, hy, hin]

/-- A turn that runs no single instruction does the rest of what a turn does. -/
theorem turnInstr_none_of_outside (h : mayYield v p = true ∨ inCode (v.ctx (v.ctxOf p)) (v.core p).pc = false) :
    turnInstr v p = none := by
  obtain h | h := h <;> simp [turnInstr, h]

variable (hr : coreReady s p = true)
include hr

theorem stepCore_sole {k : Nat} {i : Instr} (hi : turnInstr (startTurn p s) p = some (k, i)) :
    stepCore p s = exec i (atSlot p k (startTurn p s)) := by
  rw [stepCore, if_pos hr, hi]

theorem stepCore_other (hpow : s.powered = true) (hi : turnInstr (startTurn p s) p = none) :
    stepCore p s = .next (drawn (startTurn p s) (otherTurn p (startTurn p s))) := by
  rw [stepCore, if_pos hr, hi]
  exact finish_of_powered _ ((startTurn_powered p s).trans hpow)

end

theorem stepCore_notReady {s : State} {p : Nat} (hpow : s.powered = true) (hr : coreReady s p = false) :
    stepCore p s = .next (drawn s s) := by
  rw [stepCore, if_neg (by simp [hr])]
  exact finish_of_powered _ hpow

/-! ### The turn of a stream thread (R243, R244) -/

section
variable {s v : State} {c : Nat}

theorem step_thread (h : turnOf s = .thread c) : step s = stepThread c (popTurn s) := by
  rw [step, h]

theorem threadWord_inside {x : Ctx} (h0 : 0 ≤ x.thr.pc) (h1 : x.thr.pc.toNat < x.stream.length) :
    threadWord x = some (decodeWord .scalar (x.stream.getD x.thr.pc.toNat 0).toNat) :=
  if_pos ⟨h0, h1⟩

theorem stepThread_ok {i : Instr} (hr : threadReady s c = true)
    (hw : threadWord ((startThread c s).ctx c) = some (.ok i)) :
    stepThread c s = exec i (atThread c (startThread c s)) := by
  rw [stepThread, if_pos hr, threadInstr, hw]

theorem badWord_error {d : Nat} (hw : threadWord (v.ctx c) = some (.error d)) :
    badWord c v = fatalThread c 6 0 (BitVec.ofNat 64 d) (BitVec.ofInt 64 (v.ctx c).thr.pc) v := by
  rw [badWord, hw]
  rfl

/-- A word that is no instruction is the fatal context error of cause 6 (R244). -/
theorem stepThread_error {d : Nat} (hpow : s.powered = true) (hr : threadReady s c = true)
    (hw : threadWord ((startThread c s).ctx c) = some (.error d)) :
    stepThread c s = .next (drawn (startThread c s) (fatalThread c 6 0 (BitVec.ofNat 64 d)
      (BitVec.ofInt 64 ((startThread c s).ctx c).thr.pc) (startThread c s))) := by
  rw [stepThread, if_pos hr, threadInstr, hw, ← badWord_error hw]
  exact finish_of_powered _ ((startThread_powered c s).trans hpow)

theorem stepThread_notReady (hpow : s.powered = true) (hr : threadReady s c = false) :
    stepThread c s = .next (drawn s s) := by
  rw [stepThread, if_neg (by simp [hr])]
  exact finish_of_powered _ hpow

end

/-- Settles O54: the turns of a core by `stepCore_sole` and `stepCore_other`, those of a thread by `stepThread_ok` and
`stepThread_error`; any other turn is its own function of the state. -/
theorem stepRunsTheDecodedInstruction : Obligations.StepRunsTheDecodedInstruction := by
  unfold Obligations.StepRunsTheDecodedInstruction
  refine ⟨fun s p k i hturn hready => ?_, fun s c d i hturn hready => ?_, fun s e hturn => ?_, fun s hpow => ?_⟩
  · rw [step_core hturn]
    refine ⟨fun hpow hy => ?_, fun hpow hy hout => ?_, fun hy hin hk hi hd h0 => ?_, fun hy hin h0 => ?_⟩
    · rw [stepCore_other hready hpow (turnInstr_none_of_outside (.inl hy)), otherTurn, if_pos hy]
    · rw [← inCode_iff, Bool.not_eq_true] at hout
      rw [stepCore_other hready hpow (turnInstr_none_of_outside (.inr hout)), otherTurn, if_neg (by simp [hy]),
        if_neg (by simp [hout])]
      rfl
    · exact stepCore_sole hready ((turnInstr_sole hy (inCode_iff.mpr hin)).trans (soleSlot_one hk hi hd h0))
    · exact stepCore_sole hready ((turnInstr_sole hy (inCode_iff.mpr hin)).trans (soleSlot_none h0))
  · rw [step_thread hturn]
    intro u r h0 h1 word
    refine ⟨fun hw => ?_, fun hw hpow => ?_⟩
    · exact stepThread_ok hready ((threadWord_inside h0 h1).trans (congrArg some hw))
    · exact stepThread_error hpow hready ((threadWord_inside h0 h1).trans (congrArg some hw))
  · rw [step, hturn]
  · have turns {f : State → State} (hf : step s = finish (popTurn s) f) :
        step s = .next (drawn (popTurn s) (f (popTurn s))) :=
      hf.trans (finish_of_powered f hpow)
    refine ⟨fun h => turns (by rw [step, h]), fun p h => turns (by rw [step, h]), fun fn off n h => turns (by rw [step, h]),
      fun fn k h => turns (by rw [step, h]), fun n h => turns (by rw [step, h]), fun fn gn h => turns (by rw [step, h]),
      fun m h => turns (by rw [step, h]), fun c va h => turns (by rw [step, h]),
      fun p h hr => (step_core h).trans (stepCore_notReady hpow hr),
      fun c h hr => (step_thread h).trans (stepThread_notReady hpow hr)⟩

end Sys2Proof.Machine
end

section
/-!
PROOF. Guards, bundles of several slots and decode checks (R51 to R54, R60, R67, R74, R75): what the tables of the instructions say
of their meanings, how `issueCore` treats a bundle of one bad slot or of two, and what the decoder answers.
-/

namespace Sys2Proof.Machine

/-! ### What the tables of the instructions say of their meanings (R51 to R53) -/

/-- The port, as the fields of the formats name it (R54). -/
theorem port_meaningOf (i : Instr) : (meaningOf i).port = needsPort i := by
  cases i <;> rfl

/-- The control transfers of R52. -/
theorem xfer_meaningOf (i : Instr) : (meaningOf i).xfer = isTransfer i := by
  cases i <;> rfl

/-- No decode check of the instruction reads the state. -/
theorem decode_meaningOf {i : Instr} (h : stateChecked i = false) (s : State) (p : Nat) : (meaningOf i).decode s p = none := by
  cases i <;> first | rfl | cases h

/-- The guard of the M and X formats is one that is not inverted (R53). -/
theorem guardM_eq (g : BitVec 5) : guardM g = guardN g 0 := by
  funext s a
  simp [guardM, guardN]

/-- An instruction with guard fields acts as its guard says (R53). -/
theorem acts_meaningOf {i : Instr} {g : BitVec 5} {n : BitVec 1} (h : guardOf i = some (g, n)) :
    (meaningOf i).acts = guardN g n := by
  cases i <;> cases h <;> first | rfl | exact guardM_eq g

theorem cls_of_guardOf {i : Instr} {q : BitVec 5 × BitVec 1} (h : guardOf i = some q) : i.cls ≠ none := by
  cases i <;> first | cases h; done | exact Option.some_ne_none _

theorem streamOnly_of_guardOf {i : Instr} {q : BitVec 5 × BitVec 1} (h : guardOf i = some q) : i.streamOnly = false := by
  cases i <;> first | rfl | cases h

theorem stateChecked_of_guardOf {i : Instr} {q : BitVec 5 × BitVec 1} (h : guardOf i = some q) : stateChecked i = false := by
  cases i <;> first | rfl | cases h

theorem detail_of_wf {i : Instr} (h : i.wf = true) : i.detail = none :=
  Option.isNone_iff_eq_none.mp h

/-- An event breaks no limit (R60): only an instruction has a detail code. -/
theorem cls_of_detail {i : Instr} {d : Nat} (h : i.detail = some d) : i.cls ≠ none := by
  cases i <;> first | exact Option.some_ne_none _ | cases h

/-- Settles O5: an instruction with guard fields acts as its guard says (`acts_meaningOf`), and one that does not act only lets its
bundle move on (`exec_guarded`). -/
theorem falseGuardDoesNothing : Obligations.FalseGuardDoesNothing := by
  unfold Obligations.FalseGuardDoesNothing
  intro s p k i g n hg hwf hi hport hoff
  have hacts : (meaningOf i).acts s (.core p) = false := by
    rw [acts_meaningOf hg, guardN, readAP, hoff, bne_self_eq_false]
  exact exec_guarded (cls_of_guardOf hg) hi (detail_of_wf hwf) (streamOnly_of_guardOf hg)
    (decode_meaningOf (stateChecked_of_guardOf hg) s p) (by rwa [port_meaningOf]) hacts

/-! ### A bundle that fails decode (R51, R52, R67, R74 step 2, R75) -/

section
variable {s : State} {p k d : Nat} {h : W32} {l : List SlotIn} {i : Instr}

/-- A bundle that a decode check fails takes its trap. -/
theorem issueCore_decodeFails {cause : Nat} (hd : decodeFirst s p h l = some (cause, k, d)) (hb : (s.core p).board = []) :
    drawn s (issueCore p h l s) =
      trapped s p { cause := cause, mask := decodeMask s p h l, slot := k, detail := d, addr := 0, arg := 0,
                    bundle := BitVec.ofInt 32 (s.core p).pc } := by
  unfold issueCore
  rw [hd]
  exact raise_taken _ hb

/-- The header's checks come before those of the slots (R75). -/
theorem decodeFirst_header (hh : (headerFails (s.core p) h l).head? = some d) : decodeFirst s p h l = some (1, 5, d) := by
  obtain ⟨r, hr⟩ := List.head?_eq_some_iff.mp hh
  simp only [decodeFirst, hr]

/-- TMASK of a bundle of one slot: bit 5 for its header, the bit of the slot for its word (R75). -/
theorem decodeMask_single (s : State) (p : Nat) (h : W32) (x : SlotIn) :
    decodeMask s p h [x] = (if (headerFails (s.core p) h [x]).isEmpty then 0 else 32) |||
      (if (slotBad s p x).isSome then 2 ^ x.k else 0) := by
  simp [decodeMask, pairMask]

/-- A header that fails a check, with at most a port read besides. -/
theorem decodeMask_header {x : SlotIn} (hh : (headerFails (s.core p) h [x]).head? = some d) :
    decodeMask s p h [x] = 32 ||| (if (slotBad s p x).isSome then 2 ^ x.k else 0) := by
  rw [decodeMask_single, if_neg]
  intro he
  rw [List.isEmpty_iff.mp he] at hh
  cases hh

theorem slotBad_of_detail (m : Meaning) (hd : i.detail = some d) : slotBad s p (slotOf i m k) = some d := by
  simp [slotBad, slotOf, hd]

/-- A word that decodes and whose checks read no state fails none. -/
theorem slotBad_slotOf (hw : i.detail = none) (hs : i.streamOnly = false) (hc : stateChecked i = false) :
    slotBad s p (slotOf i (meaningOf i) k) = none := by
  rw [slotOf_ok _ _ hw hs]
  exact decode_meaningOf hc s p

/-- An instruction of core `p` is the bundle that holds it alone. -/
theorem exec_core (hcls : i.cls ≠ none) (hpow : s.powered = true) (hcur : s.cur = .core p) (hslot : s.slot = k) :
    exec i s = .next (drawn s (issueCore p s.header [slotOf i (meaningOf i) k] s)) := by
  rw [exec_eq_issueOne i s hcls, issueOne, finish_of_powered _ hpow, issueFor, hcur, hslot]

/-- R51: the header checks that fail, by the first of them. -/
theorem headerFails_res (hr : headRes h ≠ 0) (c : Core) : (headerFails c h l).head? = some 9 := by
  simp [headerFails, hr]

theorem headerFails_bs (hr : headRes h = 0) (hb : headBe h = false ∧ headBs h ≠ 0) (c : Core) :
    (headerFails c h l).head? = some 10 := by
  rw [headerFails, if_neg (not_not.mpr hr), if_pos hb]
  rfl

theorem headerFails_le {c : Core} (hr : headRes h = 0) (hb : ¬(headBe h = false ∧ headBs h ≠ 0))
    (hl : headLe h = true ∧ c.seq.loops = []) : (headerFails c h l).head? = some 11 := by
  rw [headerFails, if_neg (not_not.mpr hr), if_neg hb, if_pos hl]
  rfl

theorem headerFails_port {c : Core} (hr : headRes h = 0) (hb : ¬(headBe h = false ∧ headBs h ≠ 0))
    (hl : ¬(headLe h = true ∧ c.seq.loops = [])) (hp : headBe h = false ∧ l.any (fun x => x.m.port) = true) :
    (headerFails c h l).head? = some 12 := by
  rw [headerFails, if_neg (not_not.mpr hr), if_neg hb, if_neg hl, if_pos hp]
  rfl

end

/-! ### What the decoder answers for a slot (R60, R67) -/

section
variable {c : SlotClass} {w : Nat} {i : Instr}

/-- An opcode of no instruction of the class (R67). -/
theorem decodeSlot_reserved (hw : w < 2 ^ 32) (h : opUnit c ≤ w)
    (hno : ∀ i : Instr, i.cls = some c → encode i / opUnit c ≠ w / opUnit c) : decodeSlot c w = .error 2 := by
  apply decodeSlot_of_error
  rw [decodeWord_of_le h]
  cases hr : rowOf c w with
  | none => rfl
  | some r =>
    obtain ⟨hcls, hop, -⟩ := rowOf_some hw hr
    exact absurd hop (hno r.2 hcls)

/-- A word with the opcode of an instruction, that no operands of it encode to. -/
theorem decodeSlot_unused (hw : w < 2 ^ 32) (h : opUnit c ≤ w)
    (hop : ∃ i : Instr, i.cls = some c ∧ encode i / opUnit c = w / opUnit c)
    (hno : ∀ i : Instr, i.cls = some c → encode i ≠ w) : decodeSlot c w = .error 3 := by
  apply decodeSlot_of_error
  obtain ⟨i, hcls, hi⟩ := hop
  have hnop : i ≠ .nop := by
    rintro rfl
    have : 0 < w / opUnit c := Nat.div_pos h (opUnit_pos c)
    rw [← hi, encode, Nat.zero_div] at this
    exact Nat.lt_irrefl 0 this
  have hsome : (rowOf c w).isSome = true := by rw [← rowOf_isSome hi, rowOf_encode hcls hnop]; rfl
  obtain ⟨⟨clean, j⟩, hr⟩ := Option.isSome_iff_exists.mp hsome
  obtain ⟨hj, -, hclean⟩ := rowOf_some hw hr
  rw [decodeWord_of_le h, hr, Option.elim_some, if_neg fun hc => hno j hj (hclean hc)]

/-- The word of an instruction: its first broken limit, then whether bundles may hold it. -/
theorem decodeSlot_encode (h : i.cls = some c) (hn : i ≠ .nop) :
    decodeSlot c (encode i) = i.detail.elim (if i.streamOnly then .error 6 else .ok i) .error := by
  have hw := decodeWord_encode h hn
  cases hd : i.detail with
  | none => rw [hd] at hw; exact decodeSlot_of_ok hw
  | some d => rw [hd] at hw; exact decodeSlot_of_error hw

/-- What decodes in a slot is NOP or an instruction of the slot's class, within its limits and allowed in bundles. -/
theorem decodeSlot_ok (hw : w < 2 ^ 32) (h : decodeSlot c w = .ok i) :
    i = .nop ∨ (i.cls = some c ∧ i.detail = none ∧ i.streamOnly = false) := by
  by_cases h0 : w = 0
  · subst h0
    have h' : Except.ok (ε := Nat) Instr.nop = .ok i := h
    exact .inl (Except.ok.inj h').symm
  refine .inr ?_
  obtain hlt | hle := Nat.lt_or_ge w (opUnit c)
  · rw [decodeSlot_of_error (decodeWord_of_lt h0 hlt)] at h
    cases h
  have hword := decodeWord_of_le hle
  cases hr : rowOf c w with
  | none =>
    rw [hr] at hword
    rw [decodeSlot_of_error hword] at h
    cases h
  | some r =>
    obtain ⟨clean, j⟩ := r
    rw [hr, Option.elim_some] at hword
    cases clean with
    | false =>
      rw [decodeSlot_of_error hword] at h
      cases h
    | true =>
      cases hd : j.detail with
      | some d =>
        simp only [if_true, hd] at hword
        rw [decodeSlot_of_error hword] at h
        cases h
      | none =>
        simp only [if_true, hd] at hword
        rw [decodeSlot_of_ok hword] at h
        cases hs : j.streamOnly with
        | true => rw [hs] at h; cases h
        | false =>
          rw [hs] at h
          cases h
          exact ⟨(rowOf_some hw hr).1, hd, hs⟩

end

/-! ### Bundles of several slots (R52, R74) -/

@[simp] theorem holdBundle_pc (n : Nat) (c : Core) : (holdBundle n c).pc = c.pc := by
  simp only [holdBundle]
  split <;> rfl

@[simp] theorem holdBundle_ctx (n : Nat) (c : Core) : (holdBundle n c).ctx = c.ctx := by
  simp only [holdBundle]
  split <;> rfl

section
variable {s u : State} {p : Nat} {h : W32} {w : Nat → W32}

/-- The slots of core `p`'s bundle that hold no NOP. -/
def filledAt (u : State) (p : Nat) : List (Nat × Except Nat Instr) :=
  (bundleSlots (u.ctx (u.ctxOf p)) (u.core p).pc).filter filled

theorem soleAt_eq_none (hn : ∀ k i, filledAt u p ≠ [(k, .ok i)]) (he : filledAt u p ≠ []) : soleAt u p = none := by
  unfold soleAt soleSlot
  split
  · next heq => exact absurd heq he
  · next k i heq => exact absurd heq (hn k i)
  · rfl

variable (hB : Bundles s p h w u)
include hB

theorem Bundles.bundleWord_succ {k : Nat} (hk : k < 5) :
    bundleWord (u.ctx (u.ctxOf p)) (u.core p).pc (k + 1) = w k := hB.words k hk

/-- The filled slots of a bundle with one word. -/
theorem Bundles.filledAt_one {k : Nat} {r : Except Nat Instr} (hk : k < 5) (hr : decodeSlot (slotClass k) (w k).toNat = r)
    (hf : filled (k, r) = true) (h0 : ∀ j, j < 5 → j ≠ k → w j = 0) : filledAt u p = [(k, r)] := by
  have hs : slotAt (u.ctx (u.ctxOf p)) (u.core p).pc k = (k, r) :=
    slotAt_of_decode (by rw [hB.bundleWord_succ hk, hr])
  rw [filledAt, bundleSlots_one hk (by rwa [hs]) fun j hj hjk => (hB.bundleWord_succ hj).trans (h0 j hj hjk), hs]

/-- The filled slots of a bundle with two words. -/
theorem Bundles.filledAt_two {j k : Nat} {q r : Except Nat Instr} (hjk : j < k) (hk : k < 5)
    (hq : decodeSlot (slotClass j) (w j).toNat = q) (hr : decodeSlot (slotClass k) (w k).toNat = r)
    (hfq : filled (j, q) = true) (hfr : filled (k, r) = true) (h0 : ∀ n, n < 5 → n ≠ j → n ≠ k → w n = 0) :
    filledAt u p = [(j, q), (k, r)] := by
  have hsj : slotAt (u.ctx (u.ctxOf p)) (u.core p).pc j = (j, q) :=
    slotAt_of_decode (by rw [hB.bundleWord_succ (hjk.trans hk), hq])
  have hsk : slotAt (u.ctx (u.ctxOf p)) (u.core p).pc k = (k, r) :=
    slotAt_of_decode (by rw [hB.bundleWord_succ hk, hr])
  rw [filledAt, bundleSlots_two hjk hk (by rwa [hsj]) (by rwa [hsk]) fun n hn hnj hnk =>
    (hB.bundleWord_succ hn).trans (h0 n hn hnj hnk), hsj, hsk]

/-- A bundle that holds no single instruction is issued as a whole (R74). -/
theorem Bundles.step_eq (hn : ∀ k i, filledAt u p ≠ [(k, .ok i)]) (he : filledAt u p ≠ []) :
    step s = .next (drawn u (issueCore p h ((filledAt u p).map slotInOf) u)) := by
  obtain ⟨hpow, hturn, hready, hbefore, hstays, hinside, hhead, -⟩ := hB
  set v := startTurn p (popTurn s) with hv
  have hcore : u.core p = holdBundle v.freeCtr (v.core p) := by rw [hbefore, State.core_onCore_self]
  have hpc : (v.core p).pc = (u.core p).pc := by rw [hcore, holdBundle_pc]
  have hctxOf : v.ctxOf p = u.ctxOf p := by rw [State.ctxOf, State.ctxOf, hcore, holdBundle_ctx]
  have hctx : v.ctx (v.ctxOf p) = u.ctx (u.ctxOf p) := by rw [hctxOf, hbefore, State.ctx_onCore]
  have hin : inCode (v.ctx (v.ctxOf p)) (v.core p).pc = true := by rw [hctx, hpc]; exact inCode_iff.mpr hinside
  have hsole : soleAt v p = none := by
    rw [soleAt, hctx, hpc]
    exact soleAt_eq_none hn he
  have hhead' : bundleWord (u.ctx (u.ctxOf p)) (u.core p).pc 0 = h := hhead
  have hfree : v.freeCtr = u.freeCtr := by rw [hbefore]; rfl
  have hmany : issueMany p v = issueCore p h ((filledAt u p).map slotInOf) u := by
    simp only [issueMany, hctx, hpc, hhead', ← hbefore]
    rfl
  rw [step_core hturn, stepCore_other hready hpow ((turnInstr_sole hstays hin).trans hsole), ← hv, otherTurn,
    if_neg (by simp [hstays]), if_pos hin, hmany, drawn, drawn, hfree]

end

section
variable {s u : State} {p : Nat} {h : W32} {w : Nat → W32}

/-- A bundle of one slot that fails decode, its header aside. -/
theorem Bundles.step_error {k d : Nat} (hB : Bundles s p h w u) (hk : k < 5)
    (hd : decodeSlot (slotClass k) (w k).toNat = .error d) (h0 : ∀ j, j < 5 → j ≠ k → w j = 0) :
    step s = .next (drawn u (issueCore p h [{ k := k, bad := some d, m := {} }] u)) := by
  have hf := hB.filledAt_one hk hd rfl h0
  rw [hB.step_eq (by simp [hf]) (by simp [hf]), hf]
  rfl

/-- A bundle of two words, neither of them NOP. -/
theorem Bundles.step_two {j k : Nat} {q r : Except Nat Instr} (hB : Bundles s p h w u) (hjk : j < k) (hk : k < 5)
    (hq : decodeSlot (slotClass j) (w j).toNat = q) (hr : decodeSlot (slotClass k) (w k).toNat = r)
    (hfq : filled (j, q) = true) (hfr : filled (k, r) = true) (h0 : ∀ n, n < 5 → n ≠ j → n ≠ k → w n = 0) :
    step s = .next (drawn u (issueCore p h [slotInOf (j, q), slotInOf (k, r)] u)) := by
  have hf := hB.filledAt_two hjk hk hq hr hfq hfr h0
  rw [hB.step_eq (by simp [hf]) (by simp [hf]), hf]
  rfl

/-- A bundle of two instructions, neither of them NOP. -/
theorem Bundles.step_two_ok {j k : Nat} {a b : Instr} (hB : Bundles s p h w u) (hjk : j < k) (hk : k < 5)
    (ha : decodeSlot (slotClass j) (w j).toNat = .ok a) (hb : decodeSlot (slotClass k) (w k).toNat = .ok b)
    (hna : a ≠ .nop) (hnb : b ≠ .nop) (h0 : ∀ n, n < 5 → n ≠ j → n ≠ k → w n = 0) :
    step s = .next (drawn u (issueCore p h
      [{ k := j, bad := none, m := meaningOf a }, { k := k, bad := none, m := meaningOf b }] u)) := by
  obtain ⟨-, hda, hsa⟩ := (decodeSlot_ok (w j).isLt ha).resolve_left hna
  obtain ⟨-, hdb, hsb⟩ := (decodeSlot_ok (w k).isLt hb).resolve_left hnb
  rw [hB.step_two hjk hk ha hb (filled_ok hna) (filled_ok hnb) h0]
  simp only [slotInOf, slotOf_ok _ _ hda hsa, slotOf_ok _ _ hdb hsb]

/-- A header that passes the checks of R51 on slots of which none reads a port that is not there. -/
theorem headerFails_of_good {l : List SlotIn} (hg : GoodHead u p h) (hp : l.any (fun x => x.m.port) = true → headBe h = true) :
    headerFails (u.core p) h l = [] := by
  obtain ⟨hres, hbe, hle⟩ := hg
  rw [headerFails, if_neg (not_not.mpr hres), if_neg fun hc => hc.2 (hbe hc.1), if_neg fun hc => hle hc.1 hc.2,
    if_neg fun hc => by rw [hp hc.2] at hc; cases hc.1]
  rfl

/-! ### Two slots that clash (R52) -/

variable {x y : SlotIn}

/-- The first of the checks of R52 that a bundle of two slots fails. -/
theorem decodeFirst_two (hh : headerFails (u.core p) h [x, y] = []) :
    decodeFirst u p h [x, y] =
      if destClash (u.core p) x y then some (1, y.k, 13)
      else if xferClash x y then some (1, y.k, 14)
      else if shwClash x y then some (1, y.k, 17)
      else ((slotBad u p x).map (fun d => (2, x.k, d))).or ((slotBad u p y).map (fun d => (2, y.k, d))) := by
  have find (f : SlotIn → SlotIn → Bool) : pairFind f [x, y] = if f x y then some y.k else none := by
    simp only [pairFind, List.find?_cons, List.find?_nil]
    cases f x y <;> rfl
  simp only [decodeFirst, hh, find, List.findSome?_cons, List.findSome?_nil]
  cases destClash (u.core p) x y
  · cases xferClash x y
    · cases shwClash x y
      · cases slotBad u p x <;> cases slotBad u p y <;> rfl
      · rfl
    · rfl
  · rfl

/-- TMASK of two slots that clash: both, whatever else fails (R75). -/
theorem decodeMask_two (hh : headerFails (u.core p) h [x, y] = [])
    (hc : (destClash (u.core p) x y || xferClash x y || shwClash x y) = true) :
    decodeMask u p h [x, y] = 2 ^ x.k ||| 2 ^ y.k := by
  have mask (f : SlotIn → SlotIn → Bool) : pairMask f [x, y] = if f x y then 2 ^ x.k ||| 2 ^ y.k else 0 := by
    simp [pairMask]
  simp only [decodeMask, hh, mask, List.isEmpty_nil, List.foldl_cons, List.foldl_nil, if_true]
  refine Nat.eq_of_testBit_eq fun n => ?_
  simp only [Nat.testBit_or, apply_ite (Nat.testBit · n), Nat.zero_testBit]
  grind

/-- The bits of two slots. -/
theorem two_pow_or {j k : Nat} (hjk : j < k) (hk : k < 5) : 2 ^ j ||| 2 ^ k = 2 ^ j + 2 ^ k := by
  interval_cases k <;> interval_cases j <;> rfl

end

/-! ### Past decode: freezes, checks, commit (R72 to R75) -/

/-- The bundle with slots `l` passes decode, of which the slots `act` act, and nothing freezes it: it comes to its issue-time checks. -/
structure Reaches (u : State) (p : Nat) (h : W32) (l act : List SlotIn) : Prop where
  decode  : decodeFirst u p h l = none
  goes    : u.stopped = false
  acts    : l.filter (fun x => x.m.acts u (.core p)) = act
  settled : act.any (slotAwaits (u.core p)) = false
  port    : act.any (fun x => x.m.port) = false
  ready   : act.any (fun x => !x.m.ready u (coreEnv u p h act x.k)) = false

/-- The issue-time checks that the acting slots fail. -/
def failsOf (u : State) (p : Nat) (h : W32) (act : List SlotIn) : List (Nat × Fail) :=
  act.filterMap (fun x => (x.m.check u (coreEnv u p h act x.k)).map (fun f => (x.k, f)))

section
variable {u : State} {p k : Nat} {h : W32} {l act : List SlotIn}

theorem Reaches.traps {cause d : Nat} {addr : W64} {arg : W32} (hr : Reaches u p h l act)
    (hf : firstFail (failsOf u p h act) = some (k, .trap cause d addr arg)) (hb : (u.core p).board = []) :
    drawn u (issueCore p h l u) =
      trapped u p { cause := cause, mask := failMask (failsOf u p h act), slot := k, detail := d, addr := addr, arg := arg,
                    bundle := BitVec.ofInt 32 (u.core p).pc } := by
  obtain ⟨hdec, hgo, rfl, hset, hport, hready⟩ := hr
  unfold failsOf at *
  simp only [issueCore, hdec, hgo, hset, hport, hready, hf, Bool.false_and, Bool.or_self, Bool.false_eq_true, if_false]
  exact raise_taken _ hb

theorem Reaches.fatal {cause : Nat} {addr info : W64} (hr : Reaches u p h l act)
    (hf : firstFail (failsOf u p h act) = some (k, .fatal cause addr info)) :
    issueCore p h l u = fatalCore p cause addr info u := by
  obtain ⟨hdec, hgo, rfl, hset, hport, hready⟩ := hr
  unfold failsOf at hf
  simp only [issueCore, hdec, hgo, hset, hport, hready, hf, Bool.false_and, Bool.or_self, Bool.false_eq_true, if_false]

theorem Reaches.commits (hr : Reaches u p h l act) (hf : failsOf u p h act = []) :
    issueCore p h l u = retire p h (nextOf u (coreEnv u p h act) act) (commitAll u (coreEnv u p h act) act u) := by
  obtain ⟨hdec, hgo, rfl, hset, hport, hready⟩ := hr
  unfold failsOf at hf
  simp only [issueCore, hdec, hgo, hset, hport, hready, hf, firstFail, Bool.false_and, Bool.or_self, Bool.false_eq_true, if_false]

/-- A bundle of which an acting slot waits on the scoreboard freezes (R72). -/
theorem issueCore_awaits (hdec : decodeFirst u p h l = none) (hgo : u.stopped = false)
    (hw : (l.filter (fun x => x.m.acts u (.core p))).any (slotAwaits (u.core p)) = true) :
    issueCore p h l u = freeze p (stallTags u p h (l.filter (fun x => x.m.acts u (.core p)))) u := by
  simp only [issueCore, hdec, hgo, hw, Bool.true_or, Bool.false_eq_true, if_false, if_true]

/-- A frozen core issues nothing for a cycle and is at no safe point. -/
theorem freeze_core (p : Nat) (tags : List Nat) (s : State) :
    (freeze p tags s).core p = { s.core p with nextIssue := s.cycle + 1, atSafe := false } := by
  simp only [freeze, State.core_onCore_self]
  rw [foldl_keeps (fun t : State => t.core p), foldl_keeps State.cycle] <;> exact fun _ _ => rfl

theorem nextOf_fall {s : State} {env : Nat → Env} (hn : ∀ x ∈ l, x.m.next s (env x.k) = .fall) : nextOf s env l = .fall := by
  induction l with
  | nil => rfl
  | cons x r ih =>
    rw [nextOf, hn x List.mem_cons_self]
    exact ih fun y hy => hn y (List.mem_cons_of_mem _ hy)

/-- Slots of rank 0 commit in their order. -/
theorem commitAll_rank_zero {s0 s : State} {env : Nat → Env} (hl : ∀ x ∈ l, x.m.rank = 0) :
    commitAll s0 env l s = l.foldl (fun s x => x.m.commit s0 (env x.k) s) s := by
  have skip (r : Nat) (hr : r ≠ 0) (t : State) : commitRank s0 env r l t = t :=
    (List.foldl_ext _ _ t fun t x hx => if_neg (by rw [hl x hx]; exact hr.symm)).trans (List.foldl_fixed l)
  rw [commitAll, skip 3 (by decide), skip 2 (by decide), skip 1 (by decide)]
  exact List.foldl_ext _ _ s fun t x hx => if_pos (hl x hx)

end

/-! ### An instruction of the M slot beside a TRAP (R75) -/

theorem port_of_mem {b : Instr} (h : b.cls = some .mem) : (meaningOf b).port = false := by
  cases b <;> first | rfl | cases h

theorem xfer_of_mem {b : Instr} (h : b.cls = some .mem) : (meaningOf b).xfer = false := by
  cases b <;> first | rfl | cases h

theorem stateChecked_of_mem {b : Instr} (h : b.cls = some .mem) : stateChecked b = false := by
  cases b <;> first | rfl | cases h

/-- TRAP in slot `k`. -/
def trapSlot (k : Nat) (m : BitVec 19) : SlotIn := { k := k, bad := none, m := mTrap m }

/-- A slot that names no register of another, holds no transfer and no SHW passes R52 beside it. -/
theorem no_clash {c : Core} {x y : SlotIn} (hd : destClash c x y = false) (hx : (x.m.xfer && y.m.xfer) = false)
    (hs : x.m.shw = none) : (destClash c x y || xferClash x y || shwClash x y) = false := by
  simp [hd, xferClash, hx, shwClash, hs]

section
variable {u : State} {p : Nat} {h : W32} {x y : SlotIn}

theorem decodeFirst_two_eq_none (hh : headerFails (u.core p) h [x, y] = [])
    (hc : (destClash (u.core p) x y || xferClash x y || shwClash x y) = false) (hx : slotBad u p x = none)
    (hy : slotBad u p y = none) : decodeFirst u p h [x, y] = none := by
  simp only [Bool.or_eq_false_iff] at hc
  obtain ⟨⟨hd, hx'⟩, hs⟩ := hc
  simp [decodeFirst_two hh, hd, hx', hs, hx, hy]

/-- The first of the checks that two slots clash by takes its trap with both slots in TMASK (R75). -/
theorem issueCore_clash {d : Nat} (hh : headerFails (u.core p) h [x, y] = [])
    (hc : (destClash (u.core p) x y || xferClash x y || shwClash x y) = true)
    (hd : decodeFirst u p h [x, y] = some (1, y.k, d)) (hb : (u.core p).board = []) :
    drawn u (issueCore p h [x, y] u) =
      trapped u p { cause := 1, mask := 2 ^ x.k ||| 2 ^ y.k, slot := y.k, detail := d, addr := 0, arg := 0,
                    bundle := BitVec.ofInt 32 (u.core p).pc } := by
  rw [issueCore_decodeFails hd hb, decodeMask_two hh hc]

/-- A slot waits on no register that is settled. -/
theorem slotAwaits_of_settled (hf : Settled u p (x.m.srcs (u.core p) ++ x.m.dests (u.core p))) :
    slotAwaits (u.core p) x = false := by
  simp only [slotAwaits, Bool.or_eq_false_iff, List.any_eq_false, Bool.not_eq_true]
  exact ⟨fun d hd => hf d (List.mem_append_left _ hd), fun d hd => hf d (List.mem_append_right _ hd)⟩

/-- A TRAP in S0 beside an acting instruction of the M slot that nothing freezes comes to the checks of both. -/
theorem reaches_trap_mem {m : BitVec 19} {b : Instr} (hg : GoodHead u p h) (hgo : u.stopped = false) (hb : b.cls = some .mem)
    (ha : (meaningOf b).acts u (.core p) = true)
    (hf : Settled u p ((meaningOf b).srcs (u.core p) ++ (meaningOf b).dests (u.core p)))
    (hr : (meaningOf b).ready u { agent := .core p, slot := 2, port := portValue u p h, pushed := (meaningOf b).pushes } = true) :
    Reaches u p h [trapSlot 0 m, { k := 2, bad := none, m := meaningOf b }]
      [trapSlot 0 m, { k := 2, bad := none, m := meaningOf b }] where
  decode := by
    refine decodeFirst_two_eq_none (headerFails_of_good hg ?_) (no_clash rfl ?_ rfl) rfl
      (decode_meaningOf (stateChecked_of_mem hb) u p)
    · simp [trapSlot, mTrap, port_of_mem hb]
    · simp [trapSlot, mTrap, xfer_of_mem hb]
  goes := hgo
  acts := by simp [trapSlot, mTrap, ha]
  settled := by
    rw [List.any_cons, List.any_cons, List.any_nil, slotAwaits_of_settled (x := ⟨2, none, meaningOf b⟩) hf]
    rfl
  port := by simp [trapSlot, mTrap, port_of_mem hb]
  ready := by simp [trapSlot, mTrap, coreEnv, hr]

/-- The checks that fail of a TRAP in S0 and of an instruction of the M slot. -/
theorem failsOf_trap_mem {m : BitVec 19} {b : Instr} {f : Fail}
    (hc : (meaningOf b).check u { agent := .core p, slot := 2, port := portValue u p h, pushed := (meaningOf b).pushes } = some f) :
    failsOf u p h [trapSlot 0 m, { k := 2, bad := none, m := meaningOf b }] = [(0, .trap 10 0 0 (m.setWidth 32)), (2, f)] := by
  simp [failsOf, trapSlot, mTrap, coreEnv, hc]

/-- Of two failures the second prevails when its order is below that of the first (R75). -/
theorem firstFail_two {j k : Nat} {f g : Fail} (hfg : g.order < f.order) : firstFail [(j, f), (k, g)] = some (k, g) := by
  simp [firstFail, hfg]

end

/-! ### Two scalar register instructions in one bundle (R52, R74) -/

/-- A sum wrapped to the width of a bit vector (R27). -/
theorem ofNat_wrap_add (n x y : Nat) : BitVec.ofNat n (wrap n (x + y)) = BitVec.ofNat n x + BitVec.ofNat n y := by
  apply BitVec.eq_of_toNat_eq
  simp only [wrap, BitVec.toNat_ofNat, BitVec.toNat_add]
  rw [← Int.natCast_add, ← Int.natCast_emod, Int.toNat_natCast]
  simp

theorem ofNat_low_half (x : W64) : BitVec.ofNat 32 (x.toNat % 2 ^ 32) = x.setWidth 32 := by
  apply BitVec.eq_of_toNat_eq
  simp

/-- ADD's value is that of R105 at both widths. -/
theorem aluResult_add (w : BitVec 1) (x y : W64) : aluResult .add w x y = atWidth w false (fun _ x y => x + y) x y := by
  simp only [aluResult, atWidth, aluValue, extend32, AluOp.zeroExt, ofNat_wrap_add, ofNat_low_half, BitVec.ofNat_toNat,
    BitVec.setWidth_eq, Bool.false_eq_true, if_false]

/-- XOR's value is that of R105 at both widths. -/
theorem aluResult_xor (w : BitVec 1) (x y : W64) : aluResult .xor w x y = atWidth w false (fun _ x y => x ^^^ y) x y := by
  simp only [aluResult, atWidth, aluValue, extend32, AluOp.zeroExt, BitVec.ofNat_xor, ofNat_low_half, BitVec.ofNat_toNat,
    BitVec.setWidth_eq, Bool.false_eq_true, if_false]

/-- What holds of two slots holds of those of them that a bundle keeps. -/
theorem forall_mem_filter_pair {q : SlotIn → Bool} {P : SlotIn → Prop} {x y : SlotIn} (hx : P x) (hy : P y) :
    ∀ z ∈ [x, y].filter q, P z := by
  intro z hz
  have hz' := List.mem_of_mem_filter hz
  simp only [List.mem_cons, List.not_mem_nil, or_false] at hz'
  obtain rfl | rfl := hz'
  · exact hx
  · exact hy

/-- A slot that writes one scalar register (R105). -/
def aluSlot (k : Nat) (o : AluOp) (g : BitVec 5) (n : BitVec 1) (d a b : BitVec 6) (w : BitVec 1) : SlotIn :=
  { k := k, bad := none, m := mAlu o g n d a b w }

/-- What a slot of a bundle sends when its guard is on, from the state before the bundle (R53, R74). -/
def sendsWhen (on : Bool) (u : State) (p k : Nat) (d : BitVec 6) (x : W64) (lat : Nat) (fl : Flags) (c : Core) : Core :=
  if on = true then sends u p k (destS d) (asVec x) lat fl c else c

/-- The slots of a bundle so far have changed `u` by `f` on core `p` alone, its PC kept. -/
structure Changed (u : State) (p : Nat) (f : Core → Core) (s : State) : Prop where
  onCore : ∀ g, s.onCore p g = u.onCore p (fun c => g (f c))
  pc     : (s.core p).pc = (u.core p).pc
  cycle  : s.cycle = u.cycle

theorem Changed.refl (u : State) (p : Nat) : Changed u p id u := ⟨fun _ => rfl, rfl, rfl⟩

section
variable {u s : State} {p k : Nat} {h : W32} {f : Core → Core}

theorem sends_congr (hpc : (s.core p).pc = (u.core p).pc) (hcy : s.cycle = u.cycle) : sends s p = sends u p := by
  funext k d x lat fl c
  simp only [sends, flightTo, hpc, hcy]

/-- A slot that sends one result from the state before the bundle adds it to what the slots before it have changed. -/
theorem Changed.emit {d : BitVec 6} {x : W64} {lat : Nat} {fl : Flags} (hs : Changed u p f s) :
    Changed u p (fun c => sends u p k (destS d) (asVec x) lat fl (f c)) (emit (.core p) k (destS d) (asVec x) lat fl s) := by
  rw [emit_core _ _ _ _ _ _ _ (destS_plain d), sends_congr hs.pc hs.cycle]
  refine ⟨fun g => ?_, ?_, hs.cycle⟩
  · rw [State.onCore_onCore, hs.onCore]
  · rw [State.core_onCore_self, sends_pc, hs.pc]

/-- The state after a bundle that has changed its own core alone and falls through. -/
theorem Changed.retire (hs : Changed u p f s) : drawn u (retire p h .fall s) = afterBundle u p h f := by
  simp only [Machine.retire, hs.onCore, hs.cycle, afterBundle]
  rfl

variable {o : AluOp} {g : BitVec 5} {n : BitVec 1} {d a b : BitVec 6} {w : BitVec 1}

/-- A register instruction commits from the state before the bundle, on what the slots before it have left (R74). -/
theorem Changed.aluSlot (act : List SlotIn) (hs : Changed u p f s) :
    Changed u p
      (fun c => sendsWhen (guardN g n u (.core p)) u p k d (aluResult o w (readS u p a) (readS u p b)) o.bound
        (o.flags w (readS u p b)) (f c))
      (if guardN g n u (.core p) = true then (aluSlot k o g n d a b w).m.commit u (coreEnv u p h act k) s else s) := by
  unfold sendsWhen
  split
  · exact hs.emit
  · exact hs

theorem destS_injective : Function.Injective destS := by
  intro d e hde
  unfold destS at hde
  split_ifs at hde with hd he
  · rw [hd, he]
  · exact BitVec.eq_of_toNat_eq (Dest.s.inj hde)

/-- A slot that writes s[d] clashes with no slot that writes another register alone. -/
theorem aluSlot_destClash {e : BitVec 6} {y : SlotIn} (hy : y.m.dests (u.core p) = [destS e]) (hd : d = 0 ∨ d ≠ e) :
    destClash (u.core p) (aluSlot k o g n d a b w) y = false := by
  have hdests : (aluSlot k o g n d a b w).m.dests (u.core p) = [destS d] := rfl
  simp only [destClash, hdests, hy, List.any_cons, List.any_nil, Bool.or_false, Bool.and_eq_false_iff]
  obtain rfl | hne := hd
  · exact .inl rfl
  · exact .inr (by simpa [destS_injective.eq_iff] using hne)

theorem aluSlot_awaits (hf : Settled u p [destS a, destS b, destS d]) :
    slotAwaits (u.core p) (aluSlot k o g n d a b w) = false :=
  slotAwaits_of_settled hf

variable {o' : AluOp} {g' : BitVec 5} {n' : BitVec 1} {d' a' b' : BitVec 6} {w' : BitVec 1}

/-- Two register instructions pass decode when they write different registers (R52). -/
theorem decodeFirst_alu_two (hg : GoodHead u p h) (hd : d = 0 ∨ d ≠ d') :
    decodeFirst u p h [aluSlot 0 o g n d a b w, aluSlot 1 o' g' n' d' a' b' w'] = none :=
  decodeFirst_two_eq_none (headerFails_of_good hg (fun hp => by cases hp)) (no_clash (aluSlot_destClash rfl hd) rfl rfl) rfl rfl

/-- Of two register instructions in one bundle each that acts sends its result, from the registers before the bundle (R52, R74). -/
theorem issueCore_alu_two (hg : GoodHead u p h) (hgo : u.stopped = false) (hd : d = 0 ∨ d ≠ d')
    (hf : Settled u p [destS a, destS b, destS d]) (hf' : Settled u p [destS a', destS b', destS d']) :
    drawn u (issueCore p h [aluSlot 0 o g n d a b w, aluSlot 1 o' g' n' d' a' b' w'] u) =
      afterBundle u p h (fun c =>
        sendsWhen (guardN g' n' u (.core p)) u p 1 d' (aluResult o' w' (readS u p a') (readS u p b')) o'.bound
          (o'.flags w' (readS u p b'))
          (sendsWhen (guardN g n u (.core p)) u p 0 d (aluResult o w (readS u p a) (readS u p b)) o.bound
            (o.flags w (readS u p b)) c)) := by
  set l := [aluSlot 0 o g n d a b w, aluSlot 1 o' g' n' d' a' b' w'] with hl
  set act := l.filter (fun x => x.m.acts u (.core p)) with hact
  have hr : Reaches u p h l act :=
    { decode := decodeFirst_alu_two hg hd
      goes := hgo
      acts := rfl
      settled := List.any_eq_false.mpr (forall_mem_filter_pair (by rw [aluSlot_awaits hf]; decide) (by rw [aluSlot_awaits hf']; decide))
      port := List.any_eq_false.mpr (forall_mem_filter_pair Bool.false_ne_true Bool.false_ne_true)
      ready := List.any_eq_false.mpr (forall_mem_filter_pair Bool.false_ne_true Bool.false_ne_true) }
  have hfails : failsOf u p h act = [] := List.filterMap_eq_nil_iff.mpr (forall_mem_filter_pair rfl rfl)
  rw [hr.commits hfails, nextOf_fall (forall_mem_filter_pair rfl rfl), commitAll_rank_zero (forall_mem_filter_pair rfl rfl), hact,
    List.foldl_filter]
  exact (((Changed.refl u p).aluSlot _).aluSlot _).retire

end

section
variable {u : State} {p : Nat} {h : W32}

/-- A TRAP in S1 is taken with its slot alone in TMASK, whether the register instruction in S0 acts or not (R74). -/
theorem issueCore_alu_trap {o : AluOp} {g : BitVec 5} {n : BitVec 1} {d a b : BitVec 6} {w : BitVec 1} {m : BitVec 19}
    (hg : GoodHead u p h) (hgo : u.stopped = false) (hf : Settled u p [destS a, destS b, destS d])
    (hb : (u.core p).board = []) :
    drawn u (issueCore p h [aluSlot 0 o g n d a b w, trapSlot 1 m] u) =
      trapped u p { cause := 10, mask := 2, slot := 1, detail := 0, addr := 0, arg := m.setWidth 32,
                    bundle := BitVec.ofInt 32 (u.core p).pc } := by
  set l := [aluSlot 0 o g n d a b w, trapSlot 1 m] with hl
  set act := l.filter (fun x => x.m.acts u (.core p)) with hact
  have hclash : destClash (u.core p) (aluSlot 0 o g n d a b w) (trapSlot 1 m) = false :=
    List.any_eq_false.mpr fun e _ => by rw [Bool.and_eq_true]; exact fun hc => Bool.false_ne_true hc.2
  have hr : Reaches u p h l act :=
    { decode := decodeFirst_two_eq_none (headerFails_of_good hg (fun hp => by cases hp)) (no_clash hclash rfl rfl) rfl rfl
      goes := hgo
      acts := rfl
      settled := List.any_eq_false.mpr (forall_mem_filter_pair (by rw [aluSlot_awaits hf]; decide) Bool.false_ne_true)
      port := List.any_eq_false.mpr (forall_mem_filter_pair Bool.false_ne_true Bool.false_ne_true)
      ready := List.any_eq_false.mpr (forall_mem_filter_pair Bool.false_ne_true Bool.false_ne_true) }
  have hfails : failsOf u p h act = [(1, .trap 10 0 0 (m.setWidth 32))] := by
    rw [hact, hl, List.filter_cons]
    split <;> rfl
  rw [hr.traps (k := 1) (cause := 10) (by rw [hfails]; rfl) hb, hfails]
  simp [failMask]

/-- While an operand of an acting register instruction is awaited the bundle waits (R52, R72). -/
theorem issueCore_alu_awaits {o : AluOp} {g : BitVec 5} {n : BitVec 1} {d a b : BitVec 6} {w : BitVec 1} {y : SlotIn}
    (hdec : decodeFirst u p h [aluSlot 0 o g n d a b w, y] = none) (hgo : u.stopped = false)
    (hon : guardN g n u (.core p) = true) (hw : awaited (u.core p) (destS a) = true) :
    ∃ tags, issueCore p h [aluSlot 0 o g n d a b w, y] u = freeze p tags u := by
  refine ⟨_, issueCore_awaits hdec hgo (List.any_eq_true.mpr ⟨aluSlot 0 o g n d a b w, ?_, ?_⟩)⟩
  · exact List.mem_filter.mpr ⟨List.mem_cons_self, hon⟩
  · have hsrcs : (aluSlot 0 o g n d a b w).m.srcs (u.core p) = [destS a, destS b] := rfl
    simp [slotAwaits, hsrcs, hw]

end

/-- NOP names nothing that a check of R52 reads. -/
theorem ne_nop_of_clash {a b : Instr} {c : Core} {j k : Nat}
    (h : (destClash c ⟨j, none, meaningOf a⟩ ⟨k, none, meaningOf b⟩ || xferClash ⟨j, none, meaningOf a⟩ ⟨k, none, meaningOf b⟩
      || shwClash ⟨j, none, meaningOf a⟩ ⟨k, none, meaningOf b⟩) = true) : a ≠ .nop ∧ b ≠ .nop := by
  constructor <;> rintro rfl
  · cases h
  · have hdests : (meaningOf .nop).dests c = [] := rfl
    have hxfer : (meaningOf .nop).xfer = false := rfl
    have hshw : (meaningOf .nop).shw = none := rfl
    simp only [destClash, xferClash, shwClash, hdests, hxfer, hshw, List.contains_nil, Bool.and_false,
      Bool.or_eq_true, Bool.and_eq_true, decide_eq_true_eq] at h
    obtain ((h | h) | ⟨h, h'⟩) := h
    · simp at h
    · cases h
    · simp [h'] at h

theorem destClash_iff {c : Core} {x y : SlotIn} :
    destClash c x y = true ↔ ∃ d, d ≠ Dest.none ∧ d ∈ x.m.dests c ∧ d ∈ y.m.dests c := by
  simp [destClash, and_left_comm]

/-! ### The parts of O6 -/

section
variable {s u : State} {p : Nat} {h : W32} {w : Nat → W32}

/-- R60: an instruction with a field out of limits. -/
theorem exec_detail_traps {k d : Nat} {i : Instr} (hd : i.detail = some d) (hi : Issues s p k)
    (hp : needsPort i = true → headBe s.header = true) (hb : (s.core p).board = []) :
    exec i s = .next (trapped s p { cause := 2, mask := 2 ^ k, slot := k, detail := d, addr := 0, arg := 0,
                                    bundle := BitVec.ofInt 32 (s.core p).pc }) := by
  have hport : (slotOf i (meaningOf i) k).m.port = true → headBe s.header = true := by
    rw [show (slotOf i (meaningOf i) k).m.port = needsPort i from port_meaningOf i]
    exact hp
  rw [exec_core (cls_of_detail hd) hi.powered hi.cur hi.slot, issueCore_badSlot hi rfl hport (slotBad_of_detail _ hd) hb]

/-- R51: a header check that fails, its instruction sound. -/
theorem exec_header_traps {k d : Nat} {i : Instr} (hcls : i.cls ≠ none) (hwf : i.wf = true) (hs : i.streamOnly = false)
    (hpow : s.powered = true) (hcur : s.cur = .core p) (hslot : s.slot = k) (hc : stateChecked i = false)
    (hb : (s.core p).board = [])
    (hh : (headerFails (s.core p) s.header [slotOf i (meaningOf i) k]).head? = some d) :
    exec i s = .next (trapped s p { cause := 1, mask := 32, slot := 5, detail := d, addr := 0, arg := 0,
                                    bundle := BitVec.ofInt 32 (s.core p).pc }) := by
  rw [exec_core hcls hpow hcur hslot, issueCore_decodeFails (decodeFirst_header hh) hb, decodeMask_header hh,
    slotBad_slotOf (detail_of_wf hwf) hs hc]
  simp

/-- R67: a bundle with one word that is no instruction of its slot. -/
theorem Bundles.error_traps {k d : Nat} (hB : Bundles s p h w u) (hb : (u.core p).board = []) (hk : k < 5)
    (hd : decodeSlot (slotClass k) (w k).toNat = .error d) (h0 : ∀ j, j < 5 → j ≠ k → w j = 0) (hg : GoodHead u p h) :
    step s = .next (trapped u p { cause := 2, mask := 2 ^ k, slot := k, detail := d, addr := 0, arg := 0,
                                  bundle := BitVec.ofInt 32 (u.core p).pc }) := by
  have hh : headerFails (u.core p) h [{ k := k, bad := some d, m := {} }] = [] :=
    headerFails_of_good hg fun hp => by cases hp
  have hdec : decodeFirst u p h [{ k := k, bad := some d, m := {} }] = some (2, k, d) := by
    rw [decodeFirst_single, hh]
    rfl
  rw [hB.step_error hk hd h0, issueCore_decodeFails hdec hb, decodeMask_single, hh]
  simp [slotBad]

/-- R51, R75: the same below a header with a reserved bit set. -/
theorem Bundles.error_header_traps {k d : Nat} (hB : Bundles s p h w u) (hb : (u.core p).board = []) (hk : k < 5)
    (hd : decodeSlot (slotClass k) (w k).toNat = .error d) (h0 : ∀ j, j < 5 → j ≠ k → w j = 0) (hr : headRes h ≠ 0) :
    step s = .next (trapped u p { cause := 1, mask := 32 + 2 ^ k, slot := 5, detail := 9, addr := 0, arg := 0,
                                  bundle := BitVec.ofInt 32 (u.core p).pc }) := by
  have hh := headerFails_res (l := [{ k := k, bad := some d, m := {} }]) hr (u.core p)
  have hor : 32 ||| 2 ^ k = 32 + 2 ^ k := by interval_cases k <;> rfl
  rw [hB.step_error hk hd h0, issueCore_decodeFails (decodeFirst_header hh) hb, decodeMask_header hh, ← hor]
  rfl

/-- R67, R75: two words that are no instructions of their slots. -/
theorem Bundles.two_errors_trap {j k d e : Nat} (hB : Bundles s p h w u) (hb : (u.core p).board = []) (hjk : j < k) (hk : k < 5)
    (hd : decodeSlot (slotClass j) (w j).toNat = .error d) (he : decodeSlot (slotClass k) (w k).toNat = .error e)
    (h0 : ∀ n, n < 5 → n ≠ j → n ≠ k → w n = 0) (hg : GoodHead u p h) :
    step s = .next (trapped u p { cause := 2, mask := 2 ^ j + 2 ^ k, slot := j, detail := d, addr := 0, arg := 0,
                                  bundle := BitVec.ofInt 32 (u.core p).pc }) := by
  set l : List SlotIn := [{ k := j, bad := some d, m := {} }, { k := k, bad := some e, m := {} }]
  have hh : headerFails (u.core p) h l = [] := headerFails_of_good hg fun hp => by cases hp
  have hdec : decodeFirst u p h l = some (2, j, d) := by
    rw [decodeFirst_two hh]
    rfl
  have hmask : decodeMask u p h l = 2 ^ j ||| 2 ^ k := by
    rw [decodeMask, hh]
    simp [l, pairMask, destClash, xferClash, shwClash, slotBad]
  rw [hB.step_two hjk hk hd he rfl rfl h0]
  exact congrArg Host.Outcome.next ((issueCore_decodeFails hdec hb).trans (by rw [hmask, two_pow_or hjk hk]))

/-- R52, R75: two instructions that clash trap by the first of their clashes, whatever their guards. -/
theorem Bundles.clash_traps {j k d : Nat} {a b : Instr} (hB : Bundles s p h w u) (hb : (u.core p).board = []) (hjk : j < k)
    (hk : k < 5) (hda : decodeSlot (slotClass j) (w j).toNat = .ok a) (hdb : decodeSlot (slotClass k) (w k).toNat = .ok b)
    (h0 : ∀ n, n < 5 → n ≠ j → n ≠ k → w n = 0) (hg : GoodHead u p h)
    (hport : needsPort a = true ∨ needsPort b = true → headBe h = true)
    (hd : (if destClash (u.core p) ⟨j, none, meaningOf a⟩ ⟨k, none, meaningOf b⟩ then some 13
      else if xferClash ⟨j, none, meaningOf a⟩ ⟨k, none, meaningOf b⟩ then some 14
      else if shwClash ⟨j, none, meaningOf a⟩ ⟨k, none, meaningOf b⟩ then some 17 else none) = some d) :
    step s = .next (trapped u p { cause := 1, mask := 2 ^ j + 2 ^ k, slot := k, detail := d, addr := 0, arg := 0,
                                  bundle := BitVec.ofInt 32 (u.core p).pc }) := by
  have hh : headerFails (u.core p) h [⟨j, none, meaningOf a⟩, ⟨k, none, meaningOf b⟩] = [] := by
    refine headerFails_of_good hg fun hp => hport ?_
    simpa [port_meaningOf] using hp
  have hdec : decodeFirst u p h [⟨j, none, meaningOf a⟩, ⟨k, none, meaningOf b⟩] = some (1, k, d) := by
    rw [decodeFirst_two hh]
    split_ifs at hd ⊢ <;> cases hd <;> rfl
  have hclash : (destClash (u.core p) ⟨j, none, meaningOf a⟩ ⟨k, none, meaningOf b⟩
      || xferClash ⟨j, none, meaningOf a⟩ ⟨k, none, meaningOf b⟩
      || shwClash ⟨j, none, meaningOf a⟩ ⟨k, none, meaningOf b⟩) = true := by
    split_ifs at hd <;> simp [*]
  obtain ⟨hna, hnb⟩ := ne_nop_of_clash hclash
  rw [hB.step_two_ok hjk hk hda hdb hna hnb h0, issueCore_clash hh hclash hdec hb, two_pow_or hjk hk]

/-- TRAP in S0 and an instruction of the M slot that fails a check. -/
theorem Bundles.step_trap_mem {m : BitVec 19} {b : Instr} {v : Env} {f : Fail} (hB : Bundles s p h w u)
    (ht : decodeSlot .scalar (w 0).toNat = .ok (.trap m)) (hd : decodeSlot .mem (w 2).toNat = .ok b)
    (h1 : w 1 = 0) (h3 : w 3 = 0) (h4 : w 4 = 0) (hc : (meaningOf b).check u v = some f) :
    b.cls = some .mem ∧ step s = .next (drawn u (issueCore p h [trapSlot 0 m, ⟨2, none, meaningOf b⟩] u)) := by
  have hnb : b ≠ .nop := by rintro rfl; cases hc
  refine ⟨((decodeSlot_ok (w 2).isLt hd).resolve_left hnb).1,
    hB.step_two_ok (by decide) (by decide) ht hd (by simp) hnb fun n hn hn0 hn2 => ?_⟩
  interval_cases n
  · exact absurd rfl hn0
  · exact h1
  · exact absurd rfl hn2
  · exact h3
  · exact h4

end

/-- Settles O6: each part by the lemma on its bundle: one bad word or header (`exec_detail_traps`, `exec_header_traps`), the
decoder's answers, and, at the program counter, bundles of one bad word, of two, of two instructions. -/
theorem bundlesAndDecodeChecks : Obligations.BundlesAndDecodeChecks := by
  unfold Obligations.BundlesAndDecodeChecks
  refine ⟨fun s p k i d hd hi hp hb _ => exec_detail_traps hd hi hp hb, ?_, ?_, ?_, ?_⟩
  · intro s p k i hcls hwf hs hpow hcur hslot hc hb _
    have traps {d : Nat} := exec_header_traps (d := d) hcls hwf hs hpow hcur hslot hc hb
    have hport : needsPort i = true → [slotOf i (meaningOf i) k].any (fun x => x.m.port) = true := fun hp => by
      rw [List.any_cons, show (slotOf i (meaningOf i) k).m.port = needsPort i from port_meaningOf i, hp, Bool.true_or]
    exact ⟨fun h9 => traps (headerFails_res h9 _),
      fun h9 h10 => traps (headerFails_bs (not_not.mp h9) h10 _),
      fun h9 h10 h11 => traps (headerFails_le (not_not.mp h9) h10 h11),
      fun h9 h10 h11 h12 => traps (headerFails_port (not_not.mp h9) h10 h11 ⟨h12.1, hport h12.2⟩)⟩
  · intro c w h0 hw
    refine ⟨fun hlt => decodeSlot_of_error (decodeWord_of_lt h0 hlt), decodeSlot_reserved hw, decodeSlot_unused hw,
      fun i hcls hi => ?_⟩
    have hn : i ≠ .nop := by rintro rfl; exact h0 hi
    rw [hi, decodeSlot_encode hcls hn]
    cases i.detail <;> rfl
  · intro s u p h w hB hb _
    refine ⟨fun k d hk hd h0 => ⟨hB.error_traps hb hk hd h0, hB.error_header_traps hb hk hd h0⟩,
      fun j k d e hjk hk hd he h0 hg => hB.two_errors_trap hb hjk hk hd he h0 hg, ?_, ?_⟩
    · intro j k a b hjk hk ha hb' h0 hg hport
      have traps {d : Nat} := hB.clash_traps (d := d) hb hjk hk ha hb' h0 hg hport
      refine ⟨fun hsh => traps (if_pos (destClash_iff.mpr hsh)), fun hsh hta htb => traps ?_, ?_⟩
      · rw [if_neg fun hc => hsh (destClash_iff.mp hc), if_pos]
        simp [xferClash, xfer_meaningOf, hta, htb]
      · rintro e g f x y rfl rfl
        exact traps (if_pos (decide_eq_true rfl))
    · intro m b ht hdb h1 h3 h4 hg hgo e ha hf hr
      refine ⟨fun cause detail addr arg hlo hhi hc => ?_, fun cause addr info hc => ?_⟩
      · obtain ⟨hmem, hstep⟩ := hB.step_trap_mem ht hdb h1 h3 h4 hc
        have hord : (Fail.trap cause detail addr arg).order < (Fail.trap 10 0 0 (m.setWidth 32)).order := by
          simp only [Fail.order]
          split_ifs <;> omega
        have hfails := failsOf_trap_mem (m := m) hc
        rw [hstep, (reaches_trap_mem hg hgo hmem ha hf hr).traps (by rw [hfails, firstFail_two hord]) hb, hfails]
        simp [failMask]
      · obtain ⟨hmem, hstep⟩ := hB.step_trap_mem ht hdb h1 h3 h4 hc
        have hord : (Fail.fatal cause addr info).order < (Fail.trap 10 0 0 (m.setWidth 32)).order := by
          simp [Fail.order]
        rw [hstep, (reaches_trap_mem hg hgo hmem ha hf hr).fatal (by rw [failsOf_trap_mem (m := m) hc, firstFail_two hord])]
        rfl
  · intro s u p h w g g' n n' d a b d' a' b' v v' hB hg hgo hadd h0
    have hz (n : Nat) (hn : n < 5) (hn0 : n ≠ 0) (hn1 : n ≠ 1) : w n = 0 := h0 n (by omega) hn
    refine ⟨fun hxor hd hf' => ?_, fun m htrap hf hb _ => ?_⟩
    · have hstep := hB.step_two_ok (by decide) (by decide) hadd hxor (by simp) (by simp) hz
      refine ⟨fun hf => ?_, fun hon hw => ?_⟩
      · have hissue := issueCore_alu_two (o := .add) (o' := .xor) (g := g) (g' := g') (n := n) (n' := n') (w := v) (w' := v')
          hg hgo hd hf hf'
        simp only [aluResult_add, aluResult_xor] at hissue
        exact hstep.trans (congrArg Host.Outcome.next hissue)
      · obtain ⟨tags, hissue⟩ := issueCore_alu_awaits (o := .add) (b := b) (w := v)
          (decodeFirst_alu_two (o' := .xor) (g' := g') (n' := n') (a' := a') (b' := b') (w' := v') hg hd) hgo hon hw
        exact ⟨_, hstep.trans (congrArg (fun t => Host.Outcome.next (drawn u t)) hissue), freeze_core p tags u⟩
    · have hstep := hB.step_two_ok (by decide) (by decide) hadd htrap (by simp) (by simp) hz
      exact hstep.trans (congrArg Host.Outcome.next (issueCore_alu_trap (o := .add) hg hgo hf hb))

end Sys2Proof.Machine
end

section
/-!
PROOF. Global accesses at issue (R160, R161, R173, R221): a failed check is a fatal context error, a local access becomes outstanding,
a remote one that nothing holds back goes to its device at once.
-/

namespace Sys2Proof.Machine

/-! ### One instruction alone comes to its checks (R74) -/

/-- The bundle that holds `i` alone, whose meaning is `m`, decodes and is not held: it comes to its issue-time check. -/
structure Alone (i : Instr) (m : Meaning) (s : State) (p k : Nat) : Prop where
  issues  : Issues s p k
  meaning : meaningOf i = m
  cls     : i.cls ≠ none
  detail  : i.detail = none
  stream  : i.streamOnly = false
  decode  : m.decode s p = none
  port    : m.port = false
  acts    : m.acts s (.core p) = true
  settled : Settled s p (m.srcs (s.core p) ++ m.dests (s.core p))
  ready   : m.ready s (soleEnv s p k m.pushes) = true

section
variable {i : Instr} {m : Meaning} {s : State} {p k cause d : Nat} {addr info : W64} {arg : W32}

theorem Alone.commits (h : Alone i m s p k) (hc : m.check s (soleEnv s p k m.pushes) = none) (hk : m.rank ≤ 3) :
    exec i s = .next (drawn s (retire p s.header (m.next s (soleEnv s p k m.pushes)) (m.commit s (soleEnv s p k m.pushes) s))) := by
  obtain ⟨hi, rfl, hcls, hw, hs, hd, hp, ha, hf, hr⟩ := h
  exact exec_commits hcls hi hw hs hd (fun h => by rw [hp] at h; cases h) ha hf hr hc hk

theorem Alone.traps (h : Alone i m s p k) (hc : m.check s (soleEnv s p k m.pushes) = some (.trap cause d addr arg))
    (hb : (s.core p).board = []) :
    exec i s = .next (trapped s p { cause := cause, mask := 2 ^ k, slot := k, detail := d, addr := addr, arg := arg,
                                    bundle := BitVec.ofInt 32 (s.core p).pc }) := by
  obtain ⟨hi, rfl, hcls, hw, hs, hd, hp, ha, hf, hr⟩ := h
  rw [exec_eq_issueOne i s hcls, issueOne_core hi hw hs,
    issueCore_fails hi hd (fun h => by rw [hp] at h; cases h) ha hf hr hc hb]

theorem Alone.fatal (h : Alone i m s p k) (hc : m.check s (soleEnv s p k m.pushes) = some (.fatal cause addr info)) :
    exec i s = .next (fatalIn s p cause addr info) := by
  obtain ⟨hi, rfl, hcls, hw, hs, hd, hp, ha, hf, hr⟩ := h
  set x : SlotIn := { k := k, bad := none, m := meaningOf i } with hx
  have henv : coreEnv s p s.header [x] k = soleEnv s p k (meaningOf i).pushes := by simp [coreEnv, soleEnv, hx]
  have hreach : Reaches s p s.header [x] [x] :=
    { decode := by
        rw [decodeFirst_single, headerFails_of_issues hi x fun h => by rw [hp] at h; cases h]
        simp [hx, slotBad, hd]
      goes := hi.goes
      acts := by simp [hx, ha]
      settled := by rw [List.any_cons, slotAwaits_of_settled (x := x) hf, List.any_nil]; rfl
      port := by simp [hx, hp]
      ready := by rw [List.any_cons, List.any_nil, henv, hr]; rfl }
  have hfails : failsOf s p s.header [x] = [(k, .fatal cause addr info)] := by
    rw [failsOf, List.filterMap_cons, henv, hc]
    rfl
  rw [exec_eq_issueOne i s hcls, issueOne_core hi hw hs, hreach.fatal (by rw [hfails]; rfl)]
  rfl

end

/-! ### Outstanding accesses (R72, R221) -/

/-- What changes a core alike is one change. -/
theorem State.onCore_congr {s : State} {p : Nat} {f g : Core → Core} (h : f (s.core p) = g (s.core p)) :
    s.onCore p f = s.onCore p g := by
  rw [State.onCore, State.onCore, h]

/-- The core of a bundle that falls through: its next bundle, and nothing of what its instructions left. -/
theorem retire_fall_core (p : Nat) (h : W32) (s : State) :
    (retire p h .fall s).core p = advanced { s with header := h } (s.core p) := by
  simp only [retire, State.core_onCore_self]
  rfl

section
variable (s : State) (c : Core)

@[simp] theorem advanced_board : (advanced s c).board = c.board := by unfold advanced; dsimp only; split <;> rfl
@[simp] theorem advanced_flights : (advanced s c).flights = c.flights := by unfold advanced; dsimp only; split <;> rfl
@[simp] theorem advanced_s : (advanced s c).s = c.s := by unfold advanced; dsimp only; split <;> rfl
@[simp] theorem advanced_v : (advanced s c).v = c.v := by unfold advanced; dsimp only; split <;> rfl
@[simp] theorem advanced_active : (advanced s c).active = c.active := by unfold advanced; dsimp only; split <;> rfl
@[simp] theorem advanced_shadow : (advanced s c).shadow = c.shadow := by unfold advanced; dsimp only; split <;> rfl
@[simp] theorem advanced_rloads : (advanced s c).rloads = c.rloads := by unfold advanced; dsimp only; split <;> rfl

end

section
variable {s : State} {p : Nat} {a : Access}

/-- A local access becomes outstanding. -/
theorem addAccess_local (h : a.remote = false) : addAccess p a s = s.onCore p (fun c => { c with board := c.board ++ [a] }) := by
  simp [addAccess, h]

/-- The packet that a remote access of core `p` goes out as (R214, R221). -/
def packetOf (s : State) (p : Nat) (a : Access) : Packet :=
  { dev := devOf a.addr, ctx := s.ctxOf p, dst := (Tab.get 0 (s.ctx (s.ctxOf p)).binding (devOf a.addr)).toNat % 64,
    core := lcoreAt s p (s.ctxOf p), chan := 4, rc := a.rc, ver := 0, va := vaOf a.addr, kind := a.packet, alloc := a.alloc }

/-- A remote access that releases and publishes nothing, with nothing outstanding before it, is injected (R214, R221). -/
theorem addAccess_remote (h : a.remote = true) (hrel : a.releases = false) (hpub : a.publishes = false)
    (hb : (s.core p).board = []) :
    addAccess p a s =
      { s with out := s.out ++ [packetOf s p a] }.onCore p (fun c => { c with board := [{ a with sent := true }] }) := by
  set u := s.onCore p (fun c => { c with board := c.board ++ [a] }) with hu
  have hcore : u.core p = { s.core p with board := [a] } := by rw [hu, State.core_onCore_self, hb]; rfl
  have hact : mayAct u p 0 = true := by simp [mayAct, hcore, discardHolds, hrel, hpub]
  have hout : packetOf u p a = packetOf s p a := by simp only [packetOf, State.ctxOf, lcoreAt, hcore]; rfl
  have hinject : inject p 0 u =
      { u with out := u.out ++ [packetOf u p a] }.onCore p
        (fun c => { c with board := listUpd c.board 0 (fun (x : Access) => { x with sent := true }) }) := by
    simp only [inject, hcore, List.getElem?_cons_zero, noteFar, hrel, Bool.false_eq_true, if_false, sendHinted]
    rfl
  have hadd : addAccess p a s = inject p 0 u := by
    simp only [addAccess, ← hu, hcore, h, List.length_singleton, Nat.sub_self, hact, Bool.and_self, if_true]
  rw [hadd, hinject, hout]
  have hput : { u with out := u.out ++ [packetOf s p a] } =
      { s with out := s.out ++ [packetOf s p a] }.onCore p (fun c => { c with board := c.board ++ [a] }) := rfl
  rw [hput, State.onCore_onCore]
  apply State.onCore_congr
  show ({ s.core p with board := listUpd ((s.core p).board ++ [a]) 0 (fun x => { x with sent := true }) } : Core) = _
  rw [hb]
  rfl

end

/-- The effective address of a format MG access (R160), as the manual writes it. -/
theorem effAddr_eq (x : W64) (m : BitVec 5) : effAddr x m = x + m.signExtend 64 * 512 := by
  have hm : BitVec.ofInt 64 (m.toInt * 512) = m.signExtend 64 * 512 := by
    rw [BitVec.ofInt_mul, BitVec.signExtend]
    rfl
  rw [effAddr, hm]

/-! ### LDG and LDGS (R173) -/

/-- The access that a global load leaves outstanding (R173). -/
def loadAccess (s : State) (p k : Nat) (kind : AccKind) (d : Dest) (ea : W64) (r c : BitVec 2) : Access :=
  { newAccess s (soleEnv s p k 0) kind d ea with x := c.setWidth 64, rc := if isRemote ea then r.toNat else 0 }

/-- The meaning of a global load of `kind` to the register that `d` names. -/
def loadMeaning (kind : AccKind) (d : Core → Dest) (g : BitVec 5) (a : BitVec 6) (m : BitVec 5) (r c : BitVec 2) : Meaning :=
  { acts := guardM g
    dests := fun k => [d k]
    srcs := fun _ => [destS a]
    check := fun s e => globalCheck s e (globalEa s e a m) .load
    commit := fun s0 e s => issueLoad kind (d (s0.core e.p)) s0 e (globalEa s0 e a m) r c s }

/-- Only the hint decides whether a load may allocate in L2 (R172). -/
theorem loadAccess_alloc {s : State} {p k : Nat} {kind : AccKind} (hk : kind = .ldg ∨ kind = .ldgs) (d : Dest) (ea : W64)
    (r c : BitVec 2) : (loadAccess s p k kind d ea r c).alloc = true ↔ c = 0 ∨ c = 2 := by
  have hx : (loadAccess s p k kind d ea r c).x = c.setWidth 64 := rfl
  have hc : (((c.setWidth 64 : W64) == 0 || (c.setWidth 64 : W64) == 2) = true) ↔ c = 0 ∨ c = 2 := by
    clear hx
    revert c
    decide
  obtain rfl | rfl := hk <;> exact hc

section
variable {s : State} {p k : Nat} {i : Instr} {kind : AccKind} {d : Core → Dest} {g : BitVec 5} {a : BitVec 6} {m : BitVec 5}
  {r c : BitVec 2}

/-- What a global load leaves (R161, R173, R221). -/
theorem exec_load (hk : kind = .ldg ∨ kind = .ldgs) (h : Alone i (loadMeaning kind d g a m r c) s p k) :
    let ea := effAddr (readS s p a) m
    (globalOk s (s.ctxOf p) ea .load = false → exec i s = .next (fatalIn s p 1 ea 0)) ∧
    (globalOk s (s.ctxOf p) ea .load = true → isRemote ea = false →
      exec i s = .next (after s p (fun q => { q with board := q.board ++ [loadAccess s p k kind (d (s.core p)) ea r c] }))) ∧
    (globalOk s (s.ctxOf p) ea .load = true → isRemote ea = true → (s.core p).board = [] →
      exec i s = .next (drawn s (retire p s.header .fall
        ({ s with out := s.out ++ [packetOf s p (loadAccess s p k kind (d (s.core p)) ea r c)] }.onCore p
          (fun q => { q with board := [{ loadAccess s p k kind (d (s.core p)) ea r c with sent := true }] }))))) := by
  intro ea
  have issues (hok : globalOk s (s.ctxOf p) ea .load = true) :
      exec i s = .next (drawn s (retire p s.header .fall (addAccess p (loadAccess s p k kind (d (s.core p)) ea r c) s))) :=
    h.commits (if_pos hok) (Nat.zero_le 3)
  refine ⟨fun hok => h.fatal (if_neg (by rw [Bool.not_eq_true]; exact hok)), fun hok hloc => ?_, fun hok hrem hb => ?_⟩
  · rw [issues hok, addAccess_local hloc, retire_fall]
  · rw [issues hok, addAccess_remote hrem (by rfl) ?_ hb]
    obtain rfl | rfl := hk <;> rfl

end

theorem detail_limitRc {r : BitVec 2} (hr : r ≠ 3) : limitRc r = none := by
  revert r
  decide

/-- Settles O26: LDG and LDGS are both loads (`exec_load`). -/
theorem globalLoads : Obligations.GlobalLoads := by
  unfold Obligations.GlobalLoads
  intro s p k g v a m r c hi ha hf hr ea loads
  have hea : effAddr (readS s p a) m = ea := effAddr_eq _ _
  have all {i : Instr} {d : Core → Dest} {kind : AccKind} (hk : kind = .ldg ∨ kind = .ldgs)
      (h : awaited (s.core p) (d (s.core p)) = false → Alone i (loadMeaning kind d g a m r c) s p k) :
      loads i (d (s.core p)) kind := by
    intro hd
    obtain ⟨hfatal, hlocal, hremote⟩ := exec_load hk (h hd)
    rw [hea] at hfatal hlocal hremote
    refine ⟨hfatal, fun hok hloc => ⟨_, rfl, rfl, rfl, hloc, rfl, hlocal hok hloc⟩, fun hok hrem hb => ?_⟩
    refine ⟨_, { loadAccess s p k kind (d (s.core p)) ea r c with sent := true },
      packetOf s p (loadAccess s p k kind (d (s.core p)) ea r c), hremote hok hrem hb, ?_, rfl, rfl, rfl, rfl, rfl, rfl, rfl,
      if_pos hrem, ?_, rfl, loadAccess_alloc hk _ _ _ _, rfl, ?_⟩
    · rw [drawn_core, retire_fall_core, advanced_board, State.core_onCore_self]
    · obtain rfl | rfl := hk <;> rfl
    · rw [drawn_core, retire_fall_core, advanced_flights, State.core_onCore_self]
      rfl
  have settled {d : Dest} (hd : awaited (s.core p) d = false) : Settled s p [destS a, d] :=
    List.forall_mem_cons.mpr ⟨hf _ List.mem_cons_self, List.forall_mem_singleton.mpr hd⟩
  have hw : limitRc r = none := detail_limitRc hr
  exact ⟨all (d := fun q => destV q v) (.inl rfl) fun hd =>
      ⟨hi, rfl, Option.some_ne_none _, hw, rfl, rfl, rfl, ha, settled hd, rfl⟩,
    all (d := fun _ => destS v) (.inr rfl) fun hd =>
      ⟨hi, rfl, Option.some_ne_none _, hw, rfl, rfl, rfl, ha, settled hd, rfl⟩⟩

end Sys2Proof.Machine
end

section
/-!
PROOF. Residencies (R301 to R306): a slot's entry read back after a change, the exchange of an X instruction, allocation by cases, the
handle check, and that making room touches no other part of the context's own slots.
-/

namespace Sys2Proof.Machine

/-! ### Entries of the residency tables (R299) -/

section
variable (s : State) (c l q : Nat) (f : Resid → Resid)

/-- The entry of a slot read back after its change. -/
theorem res_onRes (j : Nat) : Tab.get Resid.zero ((onRes c l q f s).ctx c).res j =
    if j = l * 1024 + q then f (resAt (s.ctx c) l q) else Tab.get Resid.zero (s.ctx c).res j := by
  rw [onRes, State.ctx_onCtx_self]
  exact Tab.get_set ..

/-- The entry of another context's slot is as it was. -/
theorem ctx_onRes_ne {d : Nat} (h : d ≠ c) : (onRes c l q f s).ctx d = s.ctx d := State.ctx_onCtx_ne _ _ _ h

@[simp] theorem onRes_core (p : Nat) : (onRes c l q f s).core p = s.core p := rfl
@[simp] theorem onRes_mem : (onRes c l q f s).mem = s.mem := rfl

end

/-! ### The exchange of an X instruction (R144) -/

/-- An exchange changes the two copies of the shape registers alone. -/
theorem exchangeAll_eq (e : Nat) (w : BitVec 1) (hs : List Nat) (c : Core) :
    exchangeAll e w hs c = { c with active := (exchangeAll e w hs c).active, shadow := (exchangeAll e w hs c).shadow } := by
  unfold exchangeAll
  split
  · induction hs generalizing c with
    | nil => rfl
    | cons h r ih => exact ih (exchange e h c)
  · rfl

@[simp] theorem exchangeAll_s (e : Nat) (w : BitVec 1) (hs : List Nat) (c : Core) : (exchangeAll e w hs c).s = c.s := by
  rw [exchangeAll_eq]

@[simp] theorem exchangeAll_v (e : Nat) (w : BitVec 1) (hs : List Nat) (c : Core) : (exchangeAll e w hs c).v = c.v := by
  rw [exchangeAll_eq]

@[simp] theorem exchangeAll_rloads (e : Nat) (w : BitVec 1) (hs : List Nat) (c : Core) :
    (exchangeAll e w hs c).rloads = c.rloads := by
  rw [exchangeAll_eq]

/-- The copies that an exchange of one register leaves (R144). -/
theorem exchangeAll_one (e h : Nat) (w : BitVec 1) (c : Core) (j : Nat) :
    Tab.get Shape.zero (exchangeAll e w [h] c).active j =
        (if w = 1 ∧ j ∈ [h].map (4 * e + ·) then Tab.get Shape.zero c.shadow j else Tab.get Shape.zero c.active j) ∧
      Tab.get Shape.zero (exchangeAll e w [h] c).shadow j =
        (if w = 1 ∧ j ∈ [h].map (4 * e + ·) then Tab.get Shape.zero c.active j else Tab.get Shape.zero c.shadow j) := by
  have hmem : j ∈ [h].map (4 * e + ·) ↔ j = 4 * e + h := by simp
  simp only [hmem]
  by_cases hw : w = 1
  · subst hw
    by_cases hj : j = 4 * e + h <;>
      simp [exchangeAll, exchange, Tab.get_put, hj, shadowShape, activeShape]
  · simp only [exchangeAll, hw, if_false, false_and, and_self]

/-! ### Allocation (R302, R310) -/

section
variable {s : State} {p c : Nat}

theorem victimCtxs_nil {k : Core} (h : k.left = []) : victimCtxs k c = [] := by
  simp [victimCtxs, h]

/-- Where the condition holds already no slot loses its granules. -/
theorem evictUntil_enough {enough : State → Bool} (h : enough s = true) (l : List Granules) : evictUntil p enough l s = s := by
  cases l with
  | nil => rfl
  | cons g r => exact if_pos h

/-- A slot of a logical core is free for RALLOC (R302): never allocated, or revoked and drained. -/
def openSlot (u : State) (p c l q : Nat) : Bool :=
  ((resAt (u.ctx c) l q).state == 0 && !(resAt (u.ctx c) l q).held) ||
    ((resAt (u.ctx c) l q).state == 7 && !draining (u.core p) c l q)

/-- The entry that RALLOC leaves in its slot (R302). -/
def heldEntry (n : Nat) (e : Resid) : Resid :=
  { e with held := true, state := 0, pin := false, charge := n, status := 0, loaded := false
           rgen := if e.state = 7 then 0 else e.rgen }

variable {l n : Nat}

theorem allocate_badCharge (h : n < 1 ∨ 1536 < n) : allocate p c l n s = (0x8000000000000003, s) := if_pos h

/-- Beyond the quota, with nothing to evict. -/
theorem allocate_overQuota (h1 : 1 ≤ n) (h2 : n ≤ 1536) (hl : ((s.onCore p (drainDue s.cycle)).core p).left = [])
    (hq : ¬chargeOf (s.onCore p (drainDue s.cycle)) p c l + n ≤ quotaOf s p (s.ctx c).tenant) :
    allocate p c l n s = (0x8000000000000002, s.onCore p (drainDue s.cycle)) := by
  rw [allocate, if_neg (by omega)]
  simp only [victimCtxs_nil hl, List.filter_nil, List.map_nil, List.flatten_nil, evictUntil, decide_eq_false hq, Bool.not_false,
    if_true]

section
variable (hq : chargeOf (s.onCore p (drainDue s.cycle)) p c l + n ≤ quotaOf s p (s.ctx c).tenant)
include hq

/-- Within the quota nothing is evicted. -/
theorem evictUntil_fits (v : List Granules) :
    evictUntil p (fun t => decide (chargeOf t p c l + n ≤ quotaOf s p (s.ctx c).tenant)) v (s.onCore p (drainDue s.cycle)) =
      s.onCore p (drainDue s.cycle) :=
  evictUntil_enough (enough := fun t => decide (chargeOf t p c l + n ≤ quotaOf s p (s.ctx c).tenant)) (decide_eq_true hq) v

/-- Within the quota with no free slot. -/
theorem allocate_noSlot (h1 : 1 ≤ n) (h2 : n ≤ 1536)
    (hno : (List.range 1024).find? (openSlot (s.onCore p (drainDue s.cycle)) p c l) = none) :
    allocate p c l n s = (0x8000000000000001, s.onCore p (drainDue s.cycle)) := by
  unfold openSlot at hno
  rw [allocate, if_neg (by omega)]
  simp only [evictUntil_fits hq, hno, decide_eq_true hq, Bool.not_true, Bool.false_eq_true, if_false]

/-- Within the quota the first free slot is taken. -/
theorem allocate_slot {q : Nat} (h1 : 1 ≤ n) (h2 : n ≤ 1536)
    (hsome : (List.range 1024).find? (openSlot (s.onCore p (drainDue s.cycle)) p c l) = some q) :
    allocate p c l n s =
      (handleOf (resAt (s.ctx c) l q) q, onRes c l q (heldEntry n) (s.onCore p (drainDue s.cycle))) := by
  unfold openSlot at hsome
  rw [allocate, if_neg (by omega)]
  simp only [evictUntil_fits hq, hsome, decide_eq_true hq, Bool.not_true, Bool.false_eq_true, if_false]
  rfl

end

/-- Eviction keeps the cycle. -/
theorem evictUntil_cycle (enough : State → Bool) (l : List Granules) (s : State) :
    (evictUntil p enough l s).cycle = s.cycle := by
  induction l generalizing s with
  | nil => rfl
  | cons g r ih =>
    rw [evictUntil]
    split
    · rfl
    · exact ih (evict p g s)

theorem allocate_cycle : (allocate p c l n s).2.cycle = s.cycle := by
  unfold allocate
  split
  · rfl
  · dsimp only
    split
    · exact evictUntil_cycle ..
    · split <;> exact evictUntil_cycle ..

end

/-! ### RALLOC and RQRY (R302, R306) -/

/-- The request that RALLOC or RQRY leaves outstanding (R72). -/
def requestAccess (s : State) (p k : Nat) (kind : AccKind) (d : BitVec 6) (x y : W64) : Access :=
  { newAccess s (soleEnv s p k 0) kind (destS d) 0 with x := x, y := y, mask := 0, own := 0 }

theorem issueRequest_eq (kind : AccKind) (d : BitVec 6) (s0 : State) (p k : Nat) (x y : W64) (s : State) :
    issueRequest kind d s0 (soleEnv s0 p k 0) x y s =
      s.onCore p (fun q => { q with board := q.board ++ [requestAccess s0 p k kind d x y] }) :=
  addAccess_local (by rfl)

section
variable {s : State} {p k : Nat} {g : BitVec 5} {a b : BitVec 6}

theorem exec_rqry (hi : Issues s p k) (ha : guardM g s (.core p) = true) (hf : Settled s p [destS b, destS a]) :
    exec (.rqry g a b) s = .next (after s p
      (fun q => { q with board := q.board ++ [requestAccess s p k .rqry a (readS s p b) 0] })) := by
  have h : Alone (.rqry g a b) (mRqry g a b) s p k := ⟨hi, rfl, Option.some_ne_none _, rfl, rfl, rfl, rfl, ha, hf, rfl⟩
  rw [h.commits rfl (Nat.zero_le 3)]
  exact congrArg (fun t => Host.Outcome.next (drawn s (retire p s.header .fall t))) (issueRequest_eq ..) |>.trans
    (congrArg Host.Outcome.next (retire_fall ..))

theorem exec_ralloc (hi : Issues s p k) (ha : guardM g s (.core p) = true) (hf : Settled s p [destS b, destS a]) :
    let r := allocate p (s.ctxOf p) (s.core p).lcore (readS s p b).toNat s
    exec (.ralloc g a b) s = .next (afterAll s p (r.2.onCore p
      (fun q => { q with board := q.board ++ [requestAccess s p k .ralloc a (readS s p b) r.1] }))) := by
  intro r
  have h : Alone (.ralloc g a b) (mRalloc g a b) s p k := ⟨hi, rfl, Option.some_ne_none _, rfl, rfl, rfl, rfl, ha, hf, rfl⟩
  rw [h.commits rfl (Nat.zero_le 3)]
  exact congrArg (fun t => Host.Outcome.next (drawn s (retire p s.header .fall t))) (issueRequest_eq ..) |>.trans
    (congrArg Host.Outcome.next (retire_fall_all _ _ _ allocate_cycle))

end

/-- NOP and an empty slot do nothing (R66). -/
theorem exec_nop {s : State} {p k : Nat} (hi : Issues s p k) : exec .nop s = .next (after s p id) := by
  have h : Alone .nop mNop s p k := ⟨hi, rfl, Option.some_ne_none _, rfl, rfl, rfl, rfl, rfl, fun _ hd => (nomatch hd), rfl⟩
  rw [h.commits rfl (Nat.zero_le 3)]
  rfl

/-! ### The handle check (R301) -/

theorem handleSlot_eq (h : W64) : handleSlot h = h.toNat % 2 ^ 16 := by simp [handleSlot, fld]

section
variable {s : State} {p k : Nat} {hd : W64}

theorem handleFail_some {cause : Nat} (h : handleCause (s.ctx (s.ctxOf p)) (s.core p).lcore hd = some cause) :
    handleFail s p hd = some (.trap cause 0 0 (hd.setWidth 32)) := by
  rw [handleFail, h]
  rfl

theorem handleFail_none (h : handleCause (s.ctx (s.ctxOf p)) (s.core p).lcore hd = none) : handleFail s p hd = none := by
  rw [handleFail, h]
  rfl

end

/-! ### RPIN, RUNPIN, RREV (R305) -/

/-- The entry that RPIN and that RUNPIN leaves (R305). -/
def pinned (e : Resid) : Resid := { e with pin := true, state := if e.state = 2 then 3 else e.state }
def unpinned (e : Resid) : Resid := { e with pin := false, state := if e.state = 3 then 2 else e.state }

/-- What an instruction of R305 leaves: the entry `r` under its key, every other entry of the context as it was, and the exchange of
its shape register. -/
structure SlotChange (s u : State) (p c key : Nat) (r : Resid) (w : BitVec 1) (h : Nat) : Prop where
  entry  : ∀ j, Tab.get Resid.zero (u.ctx c).res j = if j = key then r else Tab.get Resid.zero (s.ctx c).res j
  mem    : u.mem = s.mem
  sregs  : (u.core p).s = (s.core p).s
  vregs  : (u.core p).v = (s.core p).v
  active : (u.core p).active = (exchangeAll 0 w [h] (s.core p)).active
  shadow : (u.core p).shadow = (exchangeAll 0 w [h] (s.core p)).shadow

section
variable {s u : State} {p k c l q h : Nat} {w : BitVec 1}

theorem slotChange_onRes (f : Resid → Resid) :
    SlotChange s (onRes c l q f (s.onCore p (exchangeAll 0 w [h]))) p c (l * 1024 + q) (f (resAt (s.ctx c) l q)) w h where
  entry j := res_onRes _ _ _ _ _ j
  mem := rfl
  sregs := by rw [onRes_core, State.core_onCore_self, exchangeAll_s]
  vregs := by rw [onRes_core, State.core_onCore_self, exchangeAll_v]
  active := by rw [onRes_core, State.core_onCore_self]
  shadow := by rw [onRes_core, State.core_onCore_self]

theorem slotChange_revoke :
    SlotChange s (revoke p c l q (s.onCore p (exchangeAll 0 w [h]))) p c (l * 1024 + q)
      { resAt (s.ctx c) l q with
        rgen := (resAt (s.ctx c) l q).gen
        gen := if (resAt (s.ctx c) l q).gen = 4095 then 1 else (resAt (s.ctx c) l q).gen + 1
        state := 7, pin := false, held := false } w h := by
  obtain ⟨he, hm, hs, hv, ha, hsh⟩ := slotChange_onRes (s := s) (p := p) (c := c) (l := l) (q := q) (h := h) (w := w) (fun e =>
    { e with rgen := e.gen, gen := if e.gen = 4095 then 1 else e.gen + 1, state := 7, pin := false, held := false })
  refine ⟨fun j => ?_, hm, ?_, ?_, ?_, ?_⟩
  · rw [← he j, revoke, State.ctx_onCore, State.ctx_onCtx_self]
  · rw [← hs, revoke, State.core_onCore_self]; rfl
  · rw [← hv, revoke, State.core_onCore_self]; rfl
  · rw [← ha, revoke, State.core_onCore_self]; rfl
  · rw [← hsh, revoke, State.core_onCore_self]; rfl

/-- The state after the bundle reads as its instruction left it. -/
theorem SlotChange.retired {r : Resid} (hc : SlotChange s u p c (l * 1024 + q) r w h) :
    let t := drawn s (retire p s.header .fall u)
    Tab.get Resid.zero (t.ctx c).res (l * 1024 + q) = r ∧
      (∀ j, j ≠ l * 1024 + q → Tab.get Resid.zero (t.ctx c).res j = Tab.get Resid.zero (s.ctx c).res j) ∧
      t.mem = s.mem ∧ (t.core p).s = (s.core p).s ∧ (t.core p).v = (s.core p).v ∧ Exchanged t s p 0 w [h] := by
  obtain ⟨he, hm, hs, hv, ha, hsh⟩ := hc
  intro t
  have hcore : t.core p = advanced { u with header := s.header } (u.core p) := retire_fall_core ..
  refine ⟨(he _).trans (if_pos rfl), fun j hj => (he j).trans (if_neg hj), hm, ?_, ?_, fun j => ?_⟩
  · rw [hcore, advanced_s, hs]
  · rw [hcore, advanced_v, hv]
  · rw [hcore, advanced_active, advanced_shadow, ha, hsh]
    exact exchangeAll_one 0 h w (s.core p) j

variable {i : Instr} {hx : BitVec 2} {g : BitVec 5} {a : BitVec 6} {f : Nat → Nat → Nat → Nat → State → State}

/-- An instruction of R305 on a handle that passes R301. -/
theorem exec_slot (ha : Alone i (mSlot hx w g a f) s p k)
    (hok : handleCause (s.ctx (s.ctxOf p)) (s.core p).lcore (readS s p a) = none) :
    exec i s = .next (drawn s (retire p s.header .fall
      (f p (s.ctxOf p) (s.core p).lcore (handleSlot (readS s p a)) (s.onCore p (exchangeAll 0 w [hx.toNat]))))) :=
  ha.commits (handleFail_none hok) (by show 1 ≤ 3; decide)

end

/-! ### RLOAD (R303, R304) -/

/-- What making room on core `p` for context `c` keeps: the context, memory, and of the core all but granules. -/
structure RoomMade (p c : Nat) (s t : State) : Prop where
  ctx  : t.ctx c = s.ctx c
  mem  : t.mem = s.mem
  core : ∃ l, t.core p = { s.core p with granules := l }

section
variable {s t u : State} {p c : Nat}

theorem RoomMade.refl : RoomMade p c s s := ⟨rfl, rfl, _, rfl⟩

theorem RoomMade.trans (h : RoomMade p c s t) (h' : RoomMade p c t u) : RoomMade p c s u := by
  obtain ⟨hc, hm, l, hl⟩ := h
  obtain ⟨hc', hm', l', hl'⟩ := h'
  exact ⟨hc'.trans hc, hm'.trans hm, l', by rw [hl', hl]⟩

theorem evict_roomMade {g : Granules} (hg : g.ctx ≠ c) : RoomMade p c s (evict p g s) where
  ctx := by
    rw [evict]
    exact (State.ctx_onCtx_ne _ _ _ hg.symm).trans (ctx_onRes_ne _ _ _ _ _ hg.symm)
  mem := rfl
  core := ⟨(s.core p).granules.filter (fun y => !(y.isOf g.ctx g.lcore g.slotIx)), State.core_onCore_self s p fun k =>
    { k with granules := k.granules.filter (fun y => !(y.isOf g.ctx g.lcore g.slotIx)) }⟩

theorem evictUntil_roomMade {enough : State → Bool} {l : List Granules} (hl : ∀ g ∈ l, g.ctx ≠ c) :
    RoomMade p c s (evictUntil p enough l s) := by
  induction l generalizing s with
  | nil => exact .refl
  | cons g r ih =>
    rw [evictUntil]
    split
    · exact .refl
    · exact (evict_roomMade (hl g List.mem_cons_self)).trans (ih fun y hy => hl y (List.mem_cons_of_mem _ hy))

/-- No context gives way to itself (R310). -/
theorem ne_of_mem_victimCtxs {k : Core} {d : Nat} (h : d ∈ victimCtxs k c) : d ≠ c := by
  have hne {y : Nat} (hy : y ∈ k.left.filter (fun y => leftCtx y != c && (k.run == .idle || k.ctx != some (leftCtx y)))) :
      leftCtx y ≠ c := by
    have := (List.mem_filter.mp hy).2
    rw [Bool.and_eq_true] at this
    simpa using this.1
  unfold victimCtxs at h
  dsimp only at h
  split at h
  · obtain ⟨y, hy, rfl⟩ := List.mem_map.mp h
    exact hne hy
  · next y hfind =>
    obtain rfl | h := List.mem_cons.mp h
    · exact hne (List.mem_reverse.mp (List.mem_of_find?_eq_some hfind))
    · obtain ⟨z, hz, rfl⟩ := List.mem_map.mp h
      exact hne (List.mem_filter.mp hz).1

/-- A fold that inserts each element inserts no other. -/
theorem mem_of_mem_foldr {α : Type} {f : α → List α → List α} (hf : ∀ x m y, y ∈ f x m → y = x ∨ y ∈ m) {l : List α} {y : α}
    (h : y ∈ l.foldr f []) : y ∈ l := by
  induction l with
  | nil => exact h
  | cons x r ih =>
    obtain rfl | h := hf _ _ _ h
    · exact List.mem_cons_self
    · exact List.mem_cons_of_mem _ (ih h)

/-- The victims of a context are granules of it (R310). -/
theorem ctx_of_mem_victimsOf {g : Granules} (h : g ∈ victimsOf s p c) : g.ctx = c := by
  have hmem := mem_of_mem_foldr (fun x m y hy => ?_) h
  · have := (List.mem_filter.mp hmem).2
    simp only [Bool.and_eq_true, beq_iff_eq] at this
    exact this.1.1
  · simp only [List.mem_append, List.mem_cons, List.mem_filter] at hy
    tauto

theorem makeRoom_roomMade (n : Nat) : RoomMade p c s (makeRoom p c n s) := by
  refine evictUntil_roomMade fun g hg => ?_
  obtain ⟨l, hl, hgl⟩ := List.mem_flatten.mp hg
  obtain ⟨d, hd, rfl⟩ := List.mem_map.mp hl
  rw [ctx_of_mem_victimsOf hgl]
  exact ne_of_mem_victimCtxs hd

end

/-- A load of a tile leaves its slot LOADING, or FAULTED when its range is refused (R304). -/
def loadEntry (h : Shape) (off : W64) (pin ok : Bool) (e : Resid) : Resid :=
  { e with
    state := if ok then 1 else 6, status := if ok then 0 else 1, pin := e.pin || pin, fmt := h.code, k := h.inner,
    src := fld (h.base + off) 0 48, loaded := true }

theorem drainDue_roomMade {s : State} {p c n : Nat} : RoomMade p c s (s.onCore p (drainDue n)) :=
  ⟨rfl, rfl, ((s.core p).granules.filter fun g => !g.drain || windowOpen (s.core p) n g.ctx g.lcore g.slotIx),
    State.core_onCore_self s p (drainDue n)⟩

section
variable {s u : State} {p : Nat} {h : Shape} {hd off : W64} {pin : Bool}

/-- RLOAD's slot before room is made for its tile: no granules, no contents, its new entry (R304). -/
def slotLoading (p c l slot : Nat) (f : Resid → Resid) (u : State) : State :=
  onRes c l slot f ((u.onCore p (fun k =>
    { k with granules := k.granules.filter (fun (y : Granules) => !(y.isOf c l slot)) })).onCtx c (fun x =>
      { x with tiles := Tab.erase x.tiles (resKey l slot) }))

/-- Room for the granules of a tile whose range is let through (R304, R310). -/
def loadRoom (ok : Bool) (p c n : Nat) (s : State) : State :=
  if ok then makeRoom p c n (s.onCore p (drainDue s.cycle)) else s

theorem loadRoom_roomMade {ok : Bool} {c n : Nat} : RoomMade p c s (loadRoom ok p c n s) := by
  unfold loadRoom
  split
  · exact drainDue_roomMade.trans (makeRoom_roomMade _)
  · exact .refl

/-- RLOAD makes room for its tile and takes granules and a job for it (R304). -/
theorem startLoad_eq : ∃ (gs : Core → List Granules) (job : RloadJob),
    let c := s.ctxOf p
    let bytes := tileBytes h.code h.inner
    let ok := rangeOk s c (fld (h.base + off) 0 48) bytes
    startLoad p h hd off pin s u =
      (loadRoom ok p c (granulesOf bytes)
        (slotLoading p c (s.core p).lcore (handleSlot hd) (loadEntry h off pin ok) u)).onCore p
          (fun k => { k with granules := gs k, rloads := k.rloads ++ [job] }) :=
  ⟨fun k => if rangeOk s (s.ctxOf p) (fld (h.base + off) 0 48) (tileBytes h.code h.inner) then
      k.granules ++ [{ ctx := s.ctxOf p, lcore := (s.core p).lcore, slotIx := handleSlot hd,
                       count := granulesOf (tileBytes h.code h.inner), drain := false }] else k.granules,
    { ctx := s.ctxOf p, lcore := (s.core p).lcore, slotIx := handleSlot hd, fmt := h.code, k := h.inner,
      src := fld (h.base + off) 0 48, bytes := tileBytes h.code h.inner, bar := h.barAt, stale := false, revoked := false,
      failed := !rangeOk s (s.ctxOf p) (fld (h.base + off) 0 48) (tileBytes h.code h.inner), issue := s.cycle }, rfl⟩

/-- What RLOAD leaves of its slot, of memory and of the core (R304). -/
theorem startLoad_spec :
    let t := startLoad p h hd off pin s u
    let ok := rangeOk s (s.ctxOf p) (fld (h.base + off) 0 48) (tileBytes h.code h.inner)
    Tab.get Resid.zero (t.ctx (s.ctxOf p)).res ((s.core p).lcore * 1024 + handleSlot hd) =
        loadEntry h off pin ok (resAt (u.ctx (s.ctxOf p)) (s.core p).lcore (handleSlot hd)) ∧
      t.mem = u.mem ∧ (t.core p).s = (u.core p).s ∧ (t.core p).rloads.length = (u.core p).rloads.length + 1 := by
  intro t ok
  obtain ⟨gs, job, ht⟩ := startLoad_eq (s := s) (u := u) (p := p) (h := h) (hd := hd) (off := off) (pin := pin)
  set w := slotLoading p (s.ctxOf p) (s.core p).lcore (handleSlot hd) (loadEntry h off pin ok) u with hw
  set v := loadRoom ok p (s.ctxOf p) (granulesOf (tileBytes h.code h.inner)) w with hv
  obtain ⟨hctx, hmem, l, hcore⟩ : RoomMade p (s.ctxOf p) w v := loadRoom_roomMade
  have hslot : w.core p =
      { u.core p with granules := (u.core p).granules.filter fun y => !(y.isOf (s.ctxOf p) (s.core p).lcore (handleSlot hd)) } :=
    State.core_onCore_self u p fun k =>
      { k with granules := k.granules.filter fun y => !(y.isOf (s.ctxOf p) (s.core p).lcore (handleSlot hd)) }
  rw [hslot] at hcore
  have htc : t.core p = { v.core p with granules := gs (v.core p), rloads := (v.core p).rloads ++ [job] } := by
    rw [show t = _ from ht, State.core_onCore_self]
  refine ⟨?_, ?_, ?_, ?_⟩
  · rw [show t = _ from ht, State.ctx_onCore, hctx]
    refine (res_onRes _ _ _ _ _ _).trans ((if_pos rfl).trans ?_)
    rw [State.ctx_onCtx_self]
    rfl
  · rw [show t = _ from ht]
    exact hmem
  · rw [htc, hcore]
  · rw [htc, hcore]
    exact List.length_append

end

section
variable {s : State} {p k : Nat} {h : BitVec 2} {w : BitVec 1} {g : BitVec 5} {a b i : BitVec 6}

/-- RLOAD in a bundle of its own comes to its checks (R303). -/
theorem rload_alone (hi : Issues s p k) (ha : guardM g s (.core p) = true) (hfa : Settled s p [destS a])
    (hfb : Settled s p [destS b]) (hlim : i.toNat < 2) (hq : (s.core p).rloads.length < 4) :
    Alone (.rload h w g a b i) (mRload h w g a b i) s p k :=
  ⟨hi, rfl, Option.some_ne_none _, if_pos (decide_eq_true hlim), rfl, rfl, rfl, ha,
    List.forall_mem_cons.mpr ⟨hfa _ List.mem_cons_self, hfb⟩, decide_eq_true hq⟩

/-- The last check of RLOAD is that of its handle (R75, R303). -/
theorem rloadCheck_handle {sh : Shape} {hd off : W64} {cause : Nat}
    (hc : handleCause (s.ctx (s.ctxOf p)) (s.core p).lcore hd = some cause) (hsh : tileShapeFail sh = none)
    (hsrc : (sh.base + off).toNat < 2 ^ 48) (hbar : barrierOk s (s.ctxOf p) sh.barAt = true) :
    rloadCheck s p sh hd off = some (.trap cause 0 0 (hd.setWidth 32)) := by
  have hfld : fld (sh.base + off) 48 16 = 0 := by rw [fld, Nat.div_eq_of_lt hsrc]; rfl
  simp [rloadCheck, hsh, hc, hfld, hbar, handleFail_some hc]

/-- RLOAD whose checks pass takes effect (R304). -/
theorem exec_rload (hal : Alone (.rload h w g a b i) (mRload h w g a b i) s p k)
    (hc : rloadCheck s p (usedShape (s.core p) 0 h.toNat w) (readS s p a) (readS s p b) = none) :
    exec (.rload h w g a b i) s = .next (drawn s (retire p s.header .fall
      (startLoad p (usedShape (s.core p) 0 h.toNat w) (readS s p a) (readS s p b) (i.getLsbD 0) s
        (s.onCore p (exchangeAll 0 w [h.toNat]))))) :=
  hal.commits hc (by show 1 ≤ 3; decide)

end

theorem usedShape_eq (s : State) (p e h : Nat) (w : BitVec 1) : usedShape (s.core p) e h w = shapeIn s p e h w := by
  unfold usedShape shapeIn
  split <;> rfl

/-! ### The obligation -/

/-- RALLOC by the cases of R302. -/
theorem ralloc_spec {s : State} {p k : Nat} {g : BitVec 5} {a b : BitVec 6} (hi : Issues s p k)
    (ha : guardM g s (.core p) = true) (hf : Settled s p [destS a, destS b]) :
    let n := (readS s p b).toNat
    let c := s.ctxOf p
    let l := (s.core p).lcore
    let entry := fun (t : State) (q : Nat) => Tab.get Resid.zero (t.ctx c).res (l * 1024 + q)
    let u := s.onCore p (drainDue s.cycle)
    let fits := chargeOf u p c l + n ≤ quotaOf s p (s.ctx c).tenant
    let open_ := fun (q : Nat) => ((entry s q).state = 0 ∧ (entry s q).held = false) ∨
      ((entry s q).state = 7 ∧ draining (u.core p) c l q = false)
    ∃ e t, e.kind = .ralloc ∧ e.dest = destS a ∧ e.x = readS s p b ∧ e.issue = s.cycle ∧
      exec (.ralloc g a b) s = .next (afterAll s p (t.onCore p (fun q => { q with board := q.board ++ [e] }))) ∧
      (n < 1 ∨ 1536 < n → e.y = 0x8000000000000003 ∧ t = s) ∧
      (1 ≤ n → n ≤ 1536 → ¬fits → (u.core p).left = [] → e.y = 0x8000000000000002 ∧ t = u) ∧
      (1 ≤ n → n ≤ 1536 → fits → (∀ q, q < 1024 → ¬open_ q) → e.y = 0x8000000000000001 ∧ t = u) ∧
      (∀ q, 1 ≤ n → n ≤ 1536 → fits → q < 1024 → open_ q → (∀ j, j < q → ¬open_ j) →
        e.y = BitVec.ofNat 64 ((entry s q).gen.toNat * 2 ^ 20 + q) ∧
        (entry t q).held = true ∧ (entry t q).state = 0 ∧ (entry t q).charge = n ∧ (entry t q).pin = false ∧
        (entry t q).gen = (entry s q).gen ∧ (entry t q).status = 0 ∧ (entry t q).loaded = false ∧
        (entry t q).rgen = (if (entry s q).state = 7 then 0 else (entry s q).rgen) ∧ (∀ j, j ≠ q → entry t j = entry s j) ∧
        t = { u with ctxs := t.ctxs }) := by
  intro n c l entry u fits open_
  have hopen (q : Nat) : openSlot u p c l q = true ↔ open_ q := by
    simp only [openSlot, Bool.or_eq_true, Bool.and_eq_true, beq_iff_eq, Bool.not_eq_true']
    rfl
  refine ⟨requestAccess s p k .ralloc a (readS s p b) (allocate p c l n s).1, (allocate p c l n s).2, rfl, rfl, rfl, rfl,
    exec_ralloc hi ha (fun d hd => hf d (List.Perm.mem_iff (List.Perm.swap ..) |>.mp hd)), fun hn => ?_,
    fun h1 h2 hfit hl => ?_, fun h1 h2 hfit hno => ?_, fun q h1 h2 hfit hq ho hlow => ?_⟩
  · rw [allocate_badCharge hn]
    exact ⟨rfl, rfl⟩
  · rw [allocate_overQuota h1 h2 hl hfit]
    exact ⟨rfl, rfl⟩
  · rw [allocate_noSlot hfit h1 h2 (List.find?_eq_none.mpr fun q hq => ?_)]
    · exact ⟨rfl, rfl⟩
    · exact fun h => hno q (List.mem_range.mp hq) ((hopen q).mp h)
  · have hfind : (List.range 1024).find? (openSlot u p c l) = some q := by
      rw [List.find?_range_eq_some]
      exact ⟨(hopen q).mpr ho, List.mem_range.mpr hq, fun j hj => by simpa using fun h => hlow j hj ((hopen j).mp h)⟩
    rw [allocate_slot hfit h1 h2 hfind]
    have hentry (j : Nat) : entry (onRes c l q (heldEntry n) u) j = if l * 1024 + j = l * 1024 + q then heldEntry n (entry s q)
        else entry s j := res_onRes u c l q (heldEntry n) (l * 1024 + j)
    have hself := (hentry q).trans (if_pos rfl)
    refine ⟨rfl, ?_, ?_, ?_, ?_, ?_, ?_, ?_, ?_, fun j hj => (hentry j).trans (if_neg fun h => hj (Nat.add_left_cancel h)), rfl⟩ <;>
      rw [hself] <;> rfl

/-- The handle check as R301 writes it. -/
theorem handleCause_eq (x : Ctx) (l : Nat) (hd : W64) :
    let q := hd.toNat % 2 ^ 16
    let gen := hd.toNat / 2 ^ 20 % 4096
    let e := Tab.get Resid.zero x.res (l * 1024 + q)
    handleCause x l hd =
      if hd.toNat / 2 ^ 16 % 16 ≠ 0 ∨ 1024 ≤ q then some 8
      else if e.state = 7 ∧ gen = e.rgen.toNat then some 7
      else if e.held = false ∨ gen ≠ e.gen.toNat then some 8
      else none := by
  simp only [handleCause, handleSlot_eq, handleGen, fld, resAt, resKey]
  rfl

/-- Settles O33: RALLOC by `ralloc_spec`; the four instructions on a handle fail by `handleFail_some`, RPIN, RUNPIN and RREV change their
slot alone (`SlotChange.retired`), and RLOAD leaves what `startLoad_spec` says. -/
theorem residencies : Obligations.Residencies := by
  unfold Obligations.Residencies
  refine ⟨fun s p k g a b hi => ⟨exec_nop hi, fun ha hf => ⟨ralloc_spec hi ha hf, _, rfl, rfl, rfl, rfl, exec_rqry hi ha ?_⟩⟩, ?_⟩
  · exact fun d hd => hf d ((List.Perm.swap ..).mem_iff.mp hd)
  intro s p k h w g a b i hi ha hf c l hd q gen entry e stale traps becomes
  have hcause : handleCause (s.ctx (s.ctxOf p)) (s.core p).lcore hd = stale := handleCause_eq _ _ _
  have hslot : handleSlot hd = q := handleSlot_eq hd
  have alone {inst : Instr} {f : Nat → Nat → Nat → Nat → State → State} (hm : meaningOf inst = mSlot h w g a f)
      (hcls : inst.cls ≠ none) (hw : inst.detail = none) (hs : inst.streamOnly = false) : Alone inst (mSlot h w g a f) s p k :=
    ⟨hi, hm, hcls, hw, hs, rfl, rfl, ha, hf, rfl⟩
  have hpin := alone (inst := .rpin h w g a) (f := fun _ c l k => onRes c l k pinned) rfl (Option.some_ne_none _) rfl rfl
  have hunpin := alone (inst := .runpin h w g a) (f := fun _ c l k => onRes c l k unpinned) rfl (Option.some_ne_none _) rfl rfl
  have hrev := alone (inst := .rrev h w g a) (f := revoke) rfl (Option.some_ne_none _) rfl rfl
  have fails {inst : Instr} {f : Nat → Nat → Nat → Nat → State → State} (hal : Alone inst (mSlot h w g a f) s p k) : traps inst :=
    fun cause hst hb _ => hal.traps (handleFail_some (hcause.trans hst)) hb
  refine ⟨fun hst => ?_, fails hpin, fails hunpin, fails hrev, ?_, ?_⟩
  · have done {inst : Instr} {f : Nat → Nat → Nat → Nat → State → State} {r : Resid} (hal : Alone inst (mSlot h w g a f) s p k)
        (hch : SlotChange s (f p c l q (s.onCore p (exchangeAll 0 w [h.toNat]))) p c (l * 1024 + q) r w h.toNat) :
        becomes inst r :=
      ⟨_, (exec_slot hal (hcause.trans hst)).trans (by rw [hslot]), hch.retired⟩
    exact ⟨done hpin (slotChange_onRes _), done hunpin (slotChange_onRes _), done hrev slotChange_revoke⟩
  · intro hfb hlim hq hsh hsrc hbar cause hst hb _
    rw [← usedShape_eq] at hsh hsrc hbar
    exact (rload_alone hi ha hf hfb hlim hq).traps (rloadCheck_handle (hcause.trans hst) hsh hsrc hbar) hb
  · intro hfb hlim hq hc sh src ok
    have hex := exec_rload (rload_alone hi ha hf hfb hlim hq) (by rwa [usedShape_eq])
    rw [usedShape_eq] at hex
    obtain ⟨hentry, hmem, hsregs, hloads⟩ := startLoad_spec (s := s) (u := s.onCore p (exchangeAll 0 w [h.toNat])) (p := p)
      (h := sh) (hd := hd) (off := readS s p b) (pin := i.getLsbD 0)
    have hsrc : fld (sh.base + readS s p b) 0 48 = src := by simp [fld, src]
    rw [hslot, hsrc] at hentry
    set u := startLoad p sh hd (readS s p b) (i.getLsbD 0) s (s.onCore p (exchangeAll 0 w [h.toNat])) with hu
    have hkeep : entry (drawn s (retire p s.header .fall u)) (l * 1024 + q) = loadEntry sh (readS s p b) (i.getLsbD 0) ok e :=
      hentry
    refine ⟨_, hex, ?_, ?_, ?_, ?_, ?_, ?_, ?_, hmem, ?_, ?_⟩
    iterate 4 rw [hkeep]; rfl
    · rw [hkeep]; exact hsrc
    iterate 2 rw [hkeep]; rfl
    · rw [drawn_core, retire_fall_core, advanced_s, hsregs, State.core_onCore_self, exchangeAll_s]
    · rw [drawn_core, retire_fall_core, advanced_rloads, hloads, State.core_onCore_self, exchangeAll_rloads]

end Sys2Proof.Machine
end

section
/-!
PROOF. The events of a core's front end and of its results (R9, R50, R70, R73, R121, R148, R154, R259): a fetched bundle is held, cycles
pass, scales are given out, a result lands in its register and its record.
-/

namespace Sys2Proof.Machine

/-! ### Lists at an index -/

theorem mem_of_mem_listDrop {α : Type} {x : α} {l : List α} {i : Nat} (h : x ∈ listDrop l i) : x ∈ l := by
  induction l generalizing i with
  | nil => exact h
  | cons y r ih =>
    cases i with
    | zero => exact List.mem_cons_of_mem _ h
    | succ i =>
      obtain rfl | h := List.mem_cons.mp h
      · exact List.mem_cons_self
      · exact List.mem_cons_of_mem _ (ih h)

/-- A list without one of its elements is one shorter. -/
theorem length_listDrop {α : Type} {l : List α} {i : Nat} {x : α} (h : l[i]? = some x) :
    (listDrop l i).length + 1 = l.length := by
  induction l generalizing i with
  | nil => cases h
  | cons y r ih =>
    cases i with
    | zero => rfl
    | succ i => exact congrArg (· + 1) (ih h)

/-- A fold whose every step leaves its start leaves it. -/
theorem foldl_of_fixed {α β : Type} {f : β → α → β} {b : β} {l : List α} (h : ∀ a ∈ l, f b a = b) : l.foldl f b = b := by
  induction l with
  | nil => rfl
  | cons x r ih => rw [List.foldl_cons, h x List.mem_cons_self, ih fun a ha => h a (List.mem_cons_of_mem _ ha)]

/-! ### The instruction cache (R9, R73) -/

section
variable (n : Nat) (c : Core)

/-- Holding a bundle changes the instruction cache alone. -/
theorem holdBundle_eq : holdBundle n c = { c with icache := (holdBundle n c).icache } := by
  simp only [holdBundle]
  split <;> rfl

theorem mem_holdBundle : c.pc.toNat ∈ (holdBundle n c).icache := by
  simp only [holdBundle]
  split
  · assumption
  · exact List.mem_cons_self

/-- No bundle enters the cache but the one held. -/
theorem of_mem_holdBundle {b : Nat} (h : b ∈ (holdBundle n c).icache) : b = c.pc.toNat ∨ b ∈ c.icache := by
  simp only [holdBundle] at h
  split at h
  · exact .inr h
  · obtain h | h := List.mem_cons.mp h
    · exact .inl h
    · split at h
      · exact .inr h
      · exact .inr (mem_of_mem_listDrop h)

/-- A cache that is not full keeps what it holds. -/
theorem mem_holdBundle_of_room {b : Nat} (hl : c.icache.length < cacheBundles) (h : b ∈ c.icache) :
    b ∈ (holdBundle n c).icache := by
  simp only [holdBundle, hl, if_true]
  split
  · exact h
  · exact List.mem_cons_of_mem _ h

end

/-! ### Cycles that pass (R50) -/

section
variable {s : State}

/-- A context that waits for nothing sees a cycle pass. -/
theorem endCycleOf_idle {c : Nat} (hq : (s.ctx c).queue = []) (hw : (s.ctx c).thr.watch = none) : endCycleOf s c = s := by
  have hwake : wakeThread c s = s := by rw [wakeThread, hw]
  simp only [endCycleOf, hwake, hq, List.isEmpty_nil, if_true]

/-- With no task queued and no thread waiting, cycles change nothing but their count. -/
theorem passCycles_idle (h : ∀ x ∈ s.ctxs, (s.ctx x.1).queue = [] ∧ (s.ctx x.1).thr.watch = none) (n m : Nat) :
    passCycles n { s with cycle := m } = { s with cycle := m + n } := by
  induction n generalizing m with
  | zero => rfl
  | succ n ih =>
    have hend : endCycle { s with cycle := m } = { s with cycle := m } := by
      refine foldl_of_fixed fun c hc => ?_
      obtain ⟨x, hx, rfl⟩ := List.mem_map.mp hc
      exact endCycleOf_idle (h x hx).1 (h x hx).2
    rw [passCycles, hend, ih (m + 1), Nat.add_assoc, Nat.add_comm 1 n]

end

/-! ### Scales (R259) -/

/-- Loom instructions that have taken all their scales take no more. -/
theorem giveScales_none {l : List LoomJob} (h : ∀ x ∈ l, x.owed = 0) (v : List (BitVec 16)) : giveScales l v = (l, v) := by
  induction l generalizing v with
  | nil => rfl
  | cons x r ih =>
    have hx : x.owed = 0 := h x List.mem_cons_self
    rw [giveScales, hx, List.drop_zero, ih (fun y hy => h y (List.mem_cons_of_mem _ hy)), List.take_zero, List.append_nil,
      Nat.zero_sub, ← hx]

/-- A granule of a row that holds the scales an SCLD has read. -/
theorem scalesOf_eq {r : Vec} {g : Nat} {l : List (BitVec 16)} (hl : l.length = 16)
    (h : ∀ q, q < 16 → l[q]? = some (r.extractLsb' (256 * g + 16 * q) 16)) : scalesOf r g = l := by
  refine List.ext_getElem? fun q => ?_
  obtain hq | hq := Nat.lt_or_ge q 16
  · rw [h q hq, scalesOf, List.getElem?_map, List.getElem?_range hq, Option.map_some]
    have hoff : 16 * (16 * g + q) = 256 * g + 16 * q := by omega
    rw [elem, hoff]
    congr 1
    apply BitVec.eq_of_toNat_eq
    simp [BitVec.extractLsb', Nat.shiftRight_eq_div_pow]
  · rw [List.getElem?_eq_none (l := l) (by rw [hl]; exact hq), List.getElem?_eq_none (by simpa [scalesOf] using hq)]

/-- The scales of an SCLD go to the oldest Loom instruction that has still to take some; the others to the queue's tail. -/
theorem joinScales_cons {c : Core} {q : LoomJob} {l : List LoomJob} {v : List (BitVec 16)} (hc : c.loom = q :: l)
    (hl : ∀ x ∈ l, x.owed = 0) :
    joinScales v c = { c with
      loom := { q with scales := q.scales ++ v.take q.owed, owed := q.owed - v.length } :: l
      scaleQ := c.scaleQ ++ v.drop q.owed } := by
  simp only [joinScales, hc, giveScales, giveScales_none hl]

theorem joinScales_nil {c : Core} {v : List (BitVec 16)} (hc : c.loom = []) :
    joinScales v c = { c with scaleQ := c.scaleQ ++ v } := by
  rw [joinScales, hc, giveScales, ← hc]

/-! ### A result lands (R48, R70, R148) -/

section
variable {n : Nat} {c : Core} {f : Flight}

/-- A result that nothing has overtaken lands in its register and its record; later ones to that register are marked. -/
theorem landFlight_eq (hlate : f.late = false) (hfree : f.free = false) :
    landFlight n c f =
      { writeDest c f.dest f.val with
        sticky := Tab.upd Sticky.zero c.sticky f.slot (fun k => k.add f.flags f.bundle f.issue)
        flights := c.flights.map (fun g => if f.dest != .none && g.dest = f.dest then { g with late := true } else g) } := by
  simp only [landFlight, hlate, hfree, Bool.false_and, Bool.false_eq_true, if_false, landFlags]
  cases f.dest <;> rfl

/-- A result is read back from the register it landed in, and every other register is as it was (R70, R71). -/
theorem get_writeDest (c : Core) (d : Dest) (x : Vec) (k : Nat) :
    Tab.get 0 (writeDest c d x).s k = (if d = .s k then x.setWidth 64 else Tab.get 0 c.s k) ∧
    Tab.get 0 (writeDest c d x).p k = (if d = .p k then x.setWidth 128 else Tab.get 0 c.p k) ∧
    Tab.get 0 (writeDest c d x).v k = (if d = .v k then x else Tab.get 0 c.v k) ∧
    Tab.get 0 (writeDest c d x).acc k = (if d = .acc k then x else Tab.get 0 c.acc k) := by
  cases d <;> simp only [writeDest, Tab.get_put, Dest.s.injEq, Dest.p.injEq, Dest.v.injEq, Dest.acc.injEq, reduceCtorEq, if_false,
    eq_comm (a := k), and_self]

/-- Landing writes the registers of its kind and nothing else of the core. -/
theorem writeDest_eq (c : Core) (d : Dest) (x : Vec) :
    writeDest c d x = { c with s := (writeDest c d x).s, p := (writeDest c d x).p, v := (writeDest c d x).v,
                               acc := (writeDest c d x).acc } := by
  cases d <;> rfl

/-- The count of a record rises by one up to its maximum (R148). -/
theorem Sticky.add_count {k : Sticky} {fl : Flags} {b : W32} {i : Nat} (h : fl ≠ 0) :
    (k.add fl b i).count.toNat = min (k.count.toNat + 1) (2 ^ 24 - 1) := by
  have hlt := k.count.isLt
  rw [Sticky.add, if_neg h]
  dsimp only
  split
  · next hmax =>
    rw [hmax, BitVec.toNat_allOnes]
    rfl
  · next hmax =>
    have hne : k.count.toNat ≠ 2 ^ 24 - 1 := fun hc => hmax (BitVec.eq_of_toNat_eq (by rw [hc, BitVec.toNat_allOnes]))
    rw [BitVec.toNat_add]
    show (k.count.toNat + 1) % 2 ^ 24 = _
    omega

end

/-! ### The events -/

section
variable {s : State} {i : Instr} {e : State → Bool} {f : State → State}

/-- An instruction that is an event takes place where its condition holds. -/
theorem exec_happens (hx : exec i s = happen e f s) (hpow : s.powered = true) (he : e s = true) :
    exec i s = .next (drawn s (f s)) := by
  rw [hx, happen_of_enabled f hpow he]

/-- An event whose condition does not hold, or that does nothing where it holds, changes nothing. -/
theorem exec_happens_not (hx : exec i s = happen e f s) (hpow : s.powered = true) (h : e s = true → f s = s) :
    exec i s = .next (drawn s s) := by
  rw [hx]
  cases he : e s with
  | false => exact happen_of_disabled f hpow he
  | true => rw [happen_of_enabled f hpow he, h he]

end

section
variable {s : State} {p : Nat}

theorem drainedTrap_nothing (h : (s.core p).trapPend = none ∨ (s.core p).board ≠ []) : drainedTrap p s = s := by
  cases hq : (s.core p).trapPend with
  | none => rw [drainedTrap, hq]
  | some q =>
    obtain h | h := h
    · rw [hq] at h; cases h
    · rw [drainedTrap, hq]
      exact if_neg (by simpa using h)

/-- With no access outstanding the trap that is held back is taken (R154). -/
theorem drainedTrap_taken {q : TrapReq} (hq : (s.core p).trapPend = some q) (hb : (s.core p).board = []) :
    drawn s (drainedTrap p s) = trapped s p q := by
  rw [drainedTrap, hq, hb]
  rfl

theorem scldAppend_eq {j : ScldJob} {r : List ScldJob} (hs : (s.core p).sclds = j :: r)
    (hnow : scalesOf (Tab.get 0 (s.core j.owner).spad j.row) j.gran = j.scales) :
    scldAppend p s = s.onCore p (fun c => joinScales j.scales { c with sclds := r }) := by
  simp only [scldAppend, hs, hnow, ite_self]

theorem landOne_eq {i : Nat} {f : Flight} (hf : (s.core p).flights[i]? = some f) :
    landOne p i s = s.onCore p (fun c => landFlight s.freeCtr { c with flights := listDrop c.flights i } f) := by
  rw [landOne, hf]

end

/-- A core with something still to do does not yield (R121). -/
theorem mayYield_eq_false {s : State} {p : Nat} (h : (s.core p).atSafe = false ∨ (s.core p).yieldReq = false ∨
    (s.core p).steward = true ∨ (s.core p).board ≠ [] ∨ (s.core p).miss = true ∨ s.stopped = true) : mayYield s p = false := by
  rcases h with h | h | h | h | h | h <;> simp [mayYield, h]

/-- The core after BUNDLE_FETCH (R73): its miss is over and the bundle is held. -/
def fetched (n : Nat) (c : Core) : Core := holdBundle n { c with miss := false }

/-- BUNDLE_FETCH of a core with a miss (R9, R73). -/
theorem bundleFetch_spec {s : State} {p : Nat} (hpow : s.powered = true) (hm : (s.core p).miss = true) :
    let c := s.core p
    ∃ t, exec (.bundleFetch p) s = .next t ∧ c.pc.toNat ∈ (t.core p).icache ∧
       (∀ b ∈ (t.core p).icache, b = c.pc.toNat ∨ b ∈ c.icache) ∧
       (c.icache.length < 262144 / 24 → ∀ b ∈ c.icache, b ∈ (t.core p).icache) ∧
       t = drawn s (s.onCore p (fun c => { c with miss := false, icache := (t.core p).icache })) := by
  intro c
  have hcore : (drawn s (s.onCore p (fetched s.freeCtr))).core p = fetched s.freeCtr c := State.core_onCore_self ..
  refine ⟨_, exec_happens (e := fun s => (s.core p).miss) (f := fun s => s.onCore p (fetched s.freeCtr)) rfl hpow hm, ?_⟩
  rw [hcore]
  exact ⟨mem_holdBundle s.freeCtr { c with miss := false }, fun b hb => of_mem_holdBundle s.freeCtr { c with miss := false } hb,
    fun hl b hb => mem_holdBundle_of_room s.freeCtr { c with miss := false } hl hb,
    congrArg (drawn s) (State.onCore_congr (holdBundle_eq s.freeCtr { c with miss := false }))⟩

/-- The core after result `i` in flight, `f`, has landed. -/
def landedOne (n i : Nat) (f : Flight) (c : Core) : Core := landFlight n { c with flights := listDrop c.flights i } f

section
variable {n i : Nat} {f : Flight} {c : Core} (hlate : f.late = false) (hfree : f.free = false)
include hlate hfree

/-- A result lands in its register and its record and is in flight no more; the rest of the core is as it was. -/
theorem landedOne_eq : landedOne n i f c = { c with
    s := (writeDest c f.dest f.val).s, p := (writeDest c f.dest f.val).p, v := (writeDest c f.dest f.val).v
    acc := (writeDest c f.dest f.val).acc
    sticky := Tab.upd Sticky.zero c.sticky f.slot (fun k => k.add f.flags f.bundle f.issue)
    flights := (landedOne n i f c).flights } := by
  rw [landedOne, landFlight_eq hlate hfree]
  cases f.dest <;> rfl

theorem length_landedOne (hf : c.flights[i]? = some f) : (landedOne n i f c).flights.length + 1 = c.flights.length := by
  rw [landedOne, landFlight_eq hlate hfree]
  dsimp only
  rw [List.length_map]
  exact length_listDrop hf

end

/-- Settles O37: each event by its own lemma (`exec_bundleFetch` to `exec_resultLand`), and by `happen_nothing` where its condition does
not hold. -/
theorem coreEventsAndResults : Obligations.CoreEventsAndResults := by
  unfold Obligations.CoreEventsAndResults
  refine ⟨fun s p hpow => ?_, fun s p i f hpow hal hf hlate hfree => ?_⟩
  · intro c nothing
    have off {i : Instr} {e : State → Bool} {f : State → State} (hx : exec i s = happen e f s) (he : e s = false) : nothing i :=
      exec_happens_not hx hpow fun h => by rw [he] at h; cases h
    have waits (hr : c.run = .running) : exec (.waitCyclesExpire p) s = .next (drawn s (passCycles (c.nextIssue - s.cycle) s)) :=
      exec_happens (e := fun s => (s.core p).run == .running) (f := fun s => passTo (s.core p).nextIssue s) rfl hpow
        (beq_iff_eq.mpr hr)
    refine ⟨bundleFetch_spec hpow,
      off (e := fun s => (s.core p).miss) (f := fun s => s.onCore p (fetched s.freeCtr)) rfl,
      fun hr hle => ?_, fun hr hlt => ⟨waits hr, fun h1 => ?_, fun hidle => ?_⟩,
      fun hr => off (e := fun s => (s.core p).run == .running) (f := fun s => passTo (s.core p).nextIssue s) rfl
        (by simpa using hr),
      fun hy => exec_happens (e := fun s => mayYield s p) (f := yieldCore p) rfl hpow hy,
      fun h => off (e := fun s => mayYield s p) rfl (mayYield_eq_false h),
      fun q hal hq hb => (exec_happens (e := fun s => coreAlive s p) rfl hpow hal).trans
        (congrArg Host.Outcome.next (drainedTrap_taken hq hb)),
      fun h => exec_happens_not (e := fun s => coreAlive s p) rfl hpow fun _ => drainedTrap_nothing h, fun j r hal hs hsc hlen => ?_,
      fun hs => exec_happens_not (f := scldAppend p) (e := fun s => coreAlive s p) rfl hpow fun _ => ?_⟩
    · exact (waits hr).trans (by rw [Nat.sub_eq_zero_of_le hle]; rfl)
    · exact (waits hr).trans (by rw [h1, Nat.add_sub_cancel_left]; rfl)
    · have hpass := passCycles_idle hidle (c.nextIssue - s.cycle) s.cycle
      rw [Nat.add_sub_cancel' hlt.le] at hpass
      exact (waits hr).trans (congrArg (fun t => Host.Outcome.next (drawn s t)) hpass)
    · have hnow : scalesOf (Tab.get 0 (s.core j.owner).spad j.row) j.gran = j.scales := scalesOf_eq hlen hsc
      have happ : exec (.scldAppend p) s = .next (drawn s (s.onCore p (fun c => joinScales j.scales { c with sclds := r }))) :=
        (exec_happens (f := scldAppend p) (e := fun s => coreAlive s p) rfl hpow hal).trans (by rw [scldAppend_eq hs hnow])
      refine ⟨fun hl => happ.trans ?_, fun q l hl howed => happ.trans ?_⟩
      · exact congrArg (fun t => Host.Outcome.next (drawn s t)) (State.onCore_congr (joinScales_nil (c := { c with sclds := r }) hl))
      · refine congrArg (fun t => Host.Outcome.next (drawn s t)) (State.onCore_congr ?_)
        rw [joinScales_cons (c := { c with sclds := r }) hl howed, hlen]
    · rw [scldAppend, hs]
  · have hcore : (drawn s (s.onCore p (landedOne s.freeCtr i f))).core p = landedOne s.freeCtr i f (s.core p) :=
      State.core_onCore_self ..
    have hexec : exec (.resultLand p i) s = .next (drawn s (s.onCore p (landedOne s.freeCtr i f))) :=
      (exec_happens (f := landOne p i) (e := fun s => coreAlive s p) rfl hpow hal).trans (by rw [landOne_eq hf]; rfl)
    refine ⟨_, hexec, ?_⟩
    rw [hcore, landedOne_eq hlate hfree]
    have hregs := get_writeDest (s.core p) f.dest f.val
    have hsticky (k : Nat) : Tab.get Sticky.zero (Tab.upd Sticky.zero (s.core p).sticky f.slot
        (fun k => k.add f.flags f.bundle f.issue)) k = if k = f.slot
          then (Tab.get Sticky.zero (s.core p).sticky f.slot).add f.flags f.bundle f.issue
          else Tab.get Sticky.zero (s.core p).sticky k := Tab.get_set ..
    refine ⟨fun k => (hregs k).1, fun k => (hregs k).2.1, fun k => (hregs k).2.2.1, fun k => (hregs k).2.2.2, fun k hk => ?_,
      fun hfl => ?_, length_landedOne hlate hfree hf, ?_⟩
    · refine (hsticky k).trans ?_
      split
      · next h => rw [Sticky.add, if_pos (hk.resolve_left (not_not.mpr h)), h]
      · rfl
    · intro old new
      have hnew : new = old.add f.flags f.bundle f.issue := (hsticky f.slot).trans (if_pos rfl)
      have hadd := Sticky.add_count (k := old) (b := f.bundle) (i := f.issue) hfl
      rw [hnew]
      refine ⟨by rw [Sticky.add, if_neg hfl], hadd, fun hold => ?_, fun hc hst => ?_⟩ <;> rw [Sticky.add, if_neg hfl]
      · exact ⟨if_pos hold, if_pos hold⟩
      · have hyoung : ¬(old.count = 0 ∨ f.issue < old.stamp) := fun h => h.elim hc fun h => Nat.not_lt.mpr hst h
        exact ⟨if_neg hyoung, if_neg hyoung⟩
    · exact congrArg (drawn s) (State.onCore_congr (landedOne_eq hlate hfree))

end Sys2Proof.Machine
end

section
/-!
PROOF. What keeps AccessesAndAtomicsReturn from being settled (O38; R72, R161, R221). Its clauses on the local LDG and LDGS assume
`a.remote = false` but not that the address is local. `globalOk` of a system address asks for a partner device and for no region, so that
the load can find no region and bring 0 where the memory under that address holds another word. Which devices are partners is left open
(`Config.inDomain`, `Config.ownDevice`): with one partner the statement fails.
-/

namespace Sys2Proof.Machine

/-- An LDGS marked as local whose address names device 1, at a virtual address in no region. -/
def strayLoad : Access :=
  { kind := .ldgs, dest := .s 9, addr := 0x3000100000000, addr2 := 0, x := 0, y := 0, oc := 0, rc := 0, remote := false, mask := 0,
    own := 0, sent := false, issue := 0, slot := 2, bundle := 0 }

/-- Core 0 of a context bound to device 1 awaits that load; the memory under its address holds 5. -/
def strayState : State :=
  { State.reset with
    cores := [(0, { Core.zero with ctx := some 0, run := .running, board := [strayLoad] })]
    ctxs := [(0, { Ctx.zero with state := 1, binding := [(1, 0x8000)] })]
    mem := State.reset.mem.write 0x100000000 8 5 }

theorem strayLoad_brings_zero :
    Tab.get 0 ((drawn strayState (scoreboardArrive 0 0 { data := 0, poisoned := false } strayState)).core 0).s 9 = 0 ∧
      memWord strayState 0 (vaOf strayLoad.addr) = 5 := by
  decide +kernel

/-- With device 1 a partner, the checks of R161 let the load pass. -/
theorem strayLoad_globalOk (hd : Config.inDomain 1 = true) (ho : Config.ownDevice.val ≠ 1) :
    globalOk strayState 0 strayLoad.addr .load = true := by
  have hdev : devOf strayLoad.addr = 1 := by decide
  have hform : formOk strayLoad.addr = true ∧ isRemote strayLoad.addr = true := by decide
  have hbound : (Tab.get (0 : BitVec 16) (strayState.ctx 0).binding 1).getLsbD 15 = true := by decide +kernel
  rw [globalOk, if_pos hform.2, hform.1, partnerOk, hdev, hd, hbound]
  simp [Ne.symm ho]

/-- O38 fails as soon as another device than the own one, here device 1, is in the domain: `strayLoad` brings 0, not the word 5. This
does not settle O38, whose statement has no such hypothesis. -/
theorem not_accessesAndAtomicsReturn_of_inDomain (hd : Config.inDomain 1 = true) (ho : Config.ownDevice.val ≠ 1) :
    ¬ Obligations.AccessesAndAtomicsReturn := by
  intro h
  obtain ⟨-, -, -, -, hload, -⟩ := h.1 strayState 0 strayLoad [] { data := 0, poisoned := false } rfl rfl rfl
  obtain ⟨t, ht, -, hv, -⟩ := hload 9 rfl rfl (by decide +kernel) (by decide +kernel) ⟨rfl, rfl, rfl⟩ rfl
    (strayLoad_globalOk hd ho)
  rw [exec_happens (e := fun s => coreAlive s 0) (f := scoreboardArrive 0 0 { data := 0, poisoned := false }) rfl rfl rfl] at ht
  cases ht
  have hzero : memWord strayState 0 (vaOf strayLoad.addr) = 0 := hv.symm.trans strayLoad_brings_zero.1
  exact absurd (strayLoad_brings_zero.2.symm.trans hzero) (by decide)

end Sys2Proof.Machine
end

section
/-!
PROOF. The canonical form of every memory is kept (O60; R97, R157, log 48). `State.memOk.f` says that the operation
`f` keeps it, so that the proof for an operation names, in their order, the operations it is made of:
`h.writeMem.touchKey.onCtx`. Only a write, a clearing or an undefining of a range of a memory needs more than that;
the rest of the state is no part of the form.
This part: the rules, and the operations on accesses, rows and fault records.
-/

namespace Sys2Proof.Machine

/-- A meaning keeps the canonical form: what it does at commit (R74 step 6), and what it leaves behind while it waits
(R245). -/
structure Meaning.KeepsMemory (m : Meaning) : Prop where
  commit : ∀ {s0 : State} {e : Env} {s : State}, s.memOk → (m.commit s0 e s).memOk
  hold   : ∀ {s0 : State} {e : Env} {s : State}, s.memOk → (m.hold s0 e s).memOk

/-- A meaning that gives neither effects nor a wait. -/
theorem Meaning.KeepsMemory.default : Meaning.KeepsMemory {} := ⟨fun h => h, fun h => h⟩

/-! ### The memories of a state -/

section
variable {s t : State} {m : Memory}

protected theorem State.memOk.intro (hmem : s.mem.wf) (hhost : s.hostMem.wf) (hmgmt : s.mgmtMem.wf) (hmbox : s.mboxMem.wf) :
    s.memOk := ⟨hmem, hhost, hmgmt, hmbox⟩

protected theorem State.memOk.mem (h : s.memOk) : s.mem.wf := h.1
protected theorem State.memOk.hostMem (h : s.memOk) : s.hostMem.wf := h.2.1
protected theorem State.memOk.mgmtMem (h : s.memOk) : s.mgmtMem.wf := h.2.2.1
protected theorem State.memOk.mboxMem (h : s.memOk) : s.mboxMem.wf := h.2.2.2

/-- An update of anything but the memories. -/
protected theorem State.memOk.congr (h : s.memOk) (hmem : t.mem = s.mem) (hhost : t.hostMem = s.hostMem)
    (hmgmt : t.mgmtMem = s.mgmtMem) (hmbox : t.mboxMem = s.mboxMem) : t.memOk :=
  .intro (hmem ▸ h.mem) (hhost ▸ h.hostMem) (hmgmt ▸ h.mgmtMem) (hmbox ▸ h.mboxMem)

theorem State.reset_memOk : State.reset.memOk := .intro Memory.empty_wf Memory.empty_wf Memory.empty_wf Memory.empty_wf

protected theorem State.memOk.setMem (h : s.memOk) (hm : m.wf) : State.memOk { s with mem := m } :=
  .intro hm h.hostMem h.mgmtMem h.mboxMem

protected theorem State.memOk.setHostMem (h : s.memOk) (hm : m.wf) : State.memOk { s with hostMem := m } :=
  .intro h.mem hm h.mgmtMem h.mboxMem

section
variable {k n v : Nat}

protected theorem State.memOk.writeMem (h : s.memOk) : State.memOk { s with mem := s.mem.write k n v } :=
  h.setMem (Memory.write_wf h.mem k n v)

protected theorem State.memOk.writeHostMem (h : s.memOk) : State.memOk { s with hostMem := s.hostMem.write k n v } :=
  h.setHostMem (Memory.write_wf h.hostMem k n v)

protected theorem State.memOk.writeMgmtMem (h : s.memOk) : State.memOk { s with mgmtMem := s.mgmtMem.write k n v } :=
  .intro h.mem h.hostMem (Memory.write_wf h.mgmtMem k n v) h.mboxMem

protected theorem State.memOk.writeMboxMem (h : s.memOk) : State.memOk { s with mboxMem := s.mboxMem.write k n v } :=
  .intro h.mem h.hostMem h.mgmtMem (Memory.write_wf h.mboxMem k n v)

/-- A record in a ring of host memory (R263). -/
theorem ringWrite_wf {q : QueueCtl} (h : m.wf) : (ringWrite q m n v).2.wf := Memory.write_wf h _ _ _

end

theorem putBytes_wf {k : Nat} {l : List Byte} (h : m.wf) : (putBytes m k l).wf := by
  induction l generalizing m k with
  | nil => exact h
  | cons b r ih => exact ih (Memory.setByte_wf h k b)

/-! ### Branches and repetitions -/

protected theorem State.memOk.ite {q : Prop} [Decidable q]
    (hs : s.memOk) (ht : t.memOk) : (if q then s else t).memOk := by
  split
  · exact hs
  · exact ht

/-- A further operation under a condition. -/
protected theorem State.memOk.guarded {q : Prop} [Decidable q]
    (hs : s.memOk) (ht : s.memOk → t.memOk) : (if q then t else s).memOk :=
  .ite (ht hs) hs

protected theorem State.memOk.foldl_mem {α : Type} {f : State → α → State} {l : List α} (h : s.memOk)
    (hf : ∀ t, ∀ a ∈ l, t.memOk → (f t a).memOk) : (l.foldl f s).memOk :=
  List.foldlRecOn (motive := State.memOk) l f h fun t ht a ha => hf t a ha ht

protected theorem State.memOk.foldl {α : Type} {f : State → α → State} {l : List α} (h : s.memOk)
    (hf : ∀ t a, t.memOk → (f t a).memOk) : (l.foldl f s).memOk :=
  h.foldl_mem fun t a _ ht => hf t a ht

end

/-! ### Operations -/

section
variable {s : State} {p c k n cause va key tenant ch rc status : Nat} {a addr info : W64} {alloc bad : Bool} {r : FaultRec}
  {f : Place → Place} {q : TrapReq} {data : Vec}

protected theorem State.memOk.setCore {c : Core} (h : s.memOk) : (s.setCore p c).memOk := h

protected theorem State.memOk.onCore {f : Core → Core} (h : s.memOk) : (s.onCore p f).memOk := h.setCore

protected theorem State.memOk.setCtx {x : Ctx} (h : s.memOk) : (s.setCtx c x).memOk := h

protected theorem State.memOk.onCtx {f : Ctx → Ctx} (h : s.memOk) : (s.onCtx c f).memOk := h.setCtx

protected theorem State.memOk.emit {a : Agent} {slot : Nat} {d : Dest} {x : Vec} {lat : Nat} {fl : Flags}
    (h : s.memOk) : (emit a slot d x lat fl s).memOk := by
  unfold emit
  split
  · exact h.onCore
  · exact h.onCtx

protected theorem State.memOk.postFault (h : s.memOk) : (postFault r s).memOk :=
  .ite (.intro h.mem (ringWrite_wf h.hostMem) h.mgmtMem h.mboxMem) (.ite h h)

protected theorem State.memOk.countCtx (h : s.memOk) : (countCtx c k n s).memOk := h.onCtx

protected theorem State.memOk.countCore {lcore : Nat} (h : s.memOk) : (countCore c lcore k n s).memOk := h.onCtx

protected theorem State.memOk.fatal (h : s.memOk) : (fatal c r s).memOk := .ite h h.postFault

protected theorem State.memOk.fatalCore (h : s.memOk) : (fatalCore p cause addr info s).memOk := h.fatal

protected theorem State.memOk.fatalThread {at_ : W64}
    (h : s.memOk) : (fatalThread c cause addr info at_ s).memOk := h.fatal

protected theorem State.memOk.takeTrap (h : s.memOk) : (takeTrap p q s).memOk :=
  .ite h.fatalCore (.guarded h.onCore fun h₁ => h₁.countCore)

protected theorem State.memOk.raise (h : s.memOk) : (raise p q s).memOk := .ite h.onCore.takeTrap h.onCore.onCore

protected theorem State.memOk.setHome {q : Nat × Nat} (h : s.memOk) : (setHome q f s).memOk := .ite h.onCtx h

protected theorem State.memOk.setPlace {page : Nat} (h : s.memOk) : (setPlace c page f s).memOk := h.setHome

protected theorem State.memOk.stage {g : Stage} (h : s.memOk) : (stage c g s).memOk := h.onCtx

protected theorem State.memOk.liveWrite {v : W64} (h : s.memOk) : (liveWrite c va v s).memOk := h.writeMem.onCtx

protected theorem State.memOk.touchKey (h : s.memOk) : (touchKey key s).memOk := .ite h h

protected theorem State.memOk.touchHost (h : s.memOk) : (touchHost c va s).memOk := h.touchKey

protected theorem State.memOk.writeBacking {r : Vec}
    (h : s.memOk) : (writeBacking c va r s).memOk := h.writeMem.touchKey.onCtx

protected theorem State.memOk.staleRow {m : Nat} {sel : Nat → Bool}
    (h : s.memOk) : (staleRow c m sel va s).memOk := .ite h h

protected theorem State.memOk.useLine {line : Nat} (h : s.memOk) : (useLine tenant alloc line s).memOk := by
  unfold useLine
  dsimp only
  split
  · exact h
  · split
    · split
      · exact h
      · exact h
    · exact h

protected theorem State.memOk.useRow
    (h : s.memOk) : (useRow tenant alloc key s).memOk := h.useLine.useLine.useLine.useLine

protected theorem State.memOk.countBytes (h : s.memOk) : (countBytes c va n s).memOk := by
  unfold countBytes
  split
  · exact h
  · exact h.onCtx

protected theorem State.memOk.countTag {tag : Nat} (h : s.memOk) : (countTag c tag n s).memOk := h.onCtx

protected theorem State.memOk.cacheRow {ca : Nat} {dirty : Bool} (h : s.memOk) : (cacheRow p c a ca dirty s).memOk := by
  unfold cacheRow
  dsimp only
  split
  · exact h
  · split
    · exact h.onCore
    · exact .guarded h.useRow fun h₁ => h₁.onCore

protected theorem State.memOk.spadPut {r : Vec} {fe : Option W32} (h : s.memOk) : (spadPut p a r fe s).memOk := h.onCore

protected theorem State.memOk.spoilRow {j : Copy} {k : (Nat × Vec) × Nat × Vec}
    (h : s.memOk) : (spoilRow p j s k).memOk :=
  h.onCore

protected theorem State.memOk.spoilTopk {rows : Nat → Bool} (h : s.memOk) : (spoilTopk p rows s).memOk :=
  .onCore (.foldl h fun _ _ ht => .foldl ht fun _ _ hu => hu.spoilRow)

protected theorem State.memOk.sendHinted {k : PacketKind} (h : s.memOk) : (sendHinted p c ch rc a alloc k s).memOk := h

protected theorem State.memOk.sendPacket {k : PacketKind}
    (h : s.memOk) : (sendPacket p c ch rc a k s).memOk := h.sendHinted

protected theorem State.memOk.answerAs {dev : Nat} {k : Packet} {row : Bool}
    (h : s.memOk) : (answerAs dev k status data bad row s).memOk :=
  .ite h h

protected theorem State.memOk.reply {k : Packet} (h : s.memOk) : (reply k status data bad s).memOk := h.answerAs

end

end Sys2Proof.Machine
end

section
/-!
PROOF. The canonical form of every memory is kept (O60), continued: a bundle and a stream word through their steps
(R74, R244), by that of the meanings that they hold.
-/

namespace Sys2Proof.Machine

section
variable {s : State} {p c : Nat} {l : List SlotIn} {m : Meaning} {env : Nat → Env} {n : Next} {s0 : State} {w : W32}

protected theorem State.memOk.freeze {tags : List Nat} (h : s.memOk) : (freeze p tags s).memOk :=
  .onCore (.foldl h fun _ _ ht => ht.onCtx)

protected theorem State.memOk.commitRank {r : Nat} (hl : ∀ x ∈ l, x.m.KeepsMemory) (h : s.memOk) :
    (commitRank s0 env r l s).memOk :=
  .foldl_mem h fun _ x hx ht => .ite ((hl x hx).commit ht) ht

protected theorem State.memOk.commitAll (hl : ∀ x ∈ l, x.m.KeepsMemory) (h : s.memOk) :
    (commitAll s0 env l s).memOk :=
  .commitRank hl (.commitRank hl (.commitRank hl (.commitRank hl h)))

protected theorem State.memOk.retire (h : s.memOk) : (retire p w n s).memOk := h.onCore

protected theorem State.memOk.issueCore (hl : ∀ x ∈ l, x.m.KeepsMemory) (h : s.memOk) :
    (issueCore p w l s).memOk := by
  have hact : ∀ x ∈ l.filter (fun x => x.m.acts s (.core p)), x.m.KeepsMemory :=
    fun x hx => hl x (List.mem_of_mem_filter hx)
  unfold issueCore
  split
  · exact h.raise
  · refine .ite h.freeze (.ite h.freeze (.ite (.freeze ?_) ?_))
    · exact .foldl_mem h fun _ x hx ht => .ite ht ((hact x hx).hold ht)
    · dsimp only
      split
      · exact h.raise
      · exact h.fatalCore
      · exact .retire (h.commitAll hact)

protected theorem State.memOk.retireThread (h : s.memOk) : (retireThread c n s).memOk := h.onCtx

protected theorem State.memOk.issueThread {bad : Option Nat} (hm : m.KeepsMemory) (h : s.memOk) :
    (issueThread c bad m s).memOk := by
  unfold issueThread
  split
  · exact h.fatalThread
  · refine .ite h (.ite ?_ h.retireThread)
    split
    · exact h.fatalThread
    · exact h.fatalThread
    · exact .ite (.retireThread (hm.commit h)) (.onCtx (hm.hold h))

protected theorem State.memOk.issueFor {i : Instr} (hm : m.KeepsMemory)
    (h : s.memOk) : (issueFor i m s).memOk := by
  unfold issueFor
  split
  · exact .issueCore (fun x hx => List.mem_singleton.mp hx ▸ hm) h
  · exact .issueThread hm h

end

end Sys2Proof.Machine
end

section
/-!
PROOF. The canonical form of every memory is kept (O60), continued: atomics and their reads and writes, accesses as
they issue and return, the engines' rows and completions (R72, R173, R201, R202, R213, R223, R232).
-/

namespace Sys2Proof.Machine

section
variable {s : State} {p c va n i lcore ch cls dev row st status bytes u blk : Nat} {x y b ea : W64} {a : Access} {k : AtomKind}
  {rel : Bool} {j : Copy} {d : Dest} {e : Env} {packed : Option Nat} {r : Reply} {s0 : State} {pubs : Tab Nat} {v : Vec}

protected theorem State.memOk.pushLoop {start : Int} {count : W32} {ep : BitVec 4} {stg : Bool}
    (h : s.memOk) : (pushLoop p start count ep stg s).memOk :=
  h.onCore

protected theorem State.memOk.leaveTrap (h : s.memOk) : (leaveTrap p s).memOk := h.onCore

protected theorem State.memOk.acquireWord {key : Nat} (h : s.memOk) : (acquireWord p c key s).memOk := h.onCore

protected theorem State.memOk.atomAct (h : s.memOk) : (atomAct c k va x y rel pubs s).memOk := .ite h h.liveWrite.onCtx

protected theorem State.memOk.atomLine (h : s.memOk) : (atomLine c va s).memOk := h.useLine

protected theorem State.memOk.takeTicket {oc : Nat} (h : s.memOk) : (takeTicket oc s).memOk := .ite h h

protected theorem State.memOk.admissionAct {va2 : Nat} (h : s.memOk) : (admissionAct c va va2 rel pubs s).memOk :=
  .ite (.ite h.atomAct h.atomAct.atomAct) h

protected theorem State.memOk.releaseFar {rmw : Bool} {a : W64}
    (h : s.memOk) : (releaseFar c rmw pubs a s).memOk := h.onCtx

protected theorem State.memOk.noteFar
    (h : s.memOk) : (noteFar p a s).memOk := .ite (.foldl h fun _ _ ht => ht.releaseFar) h

protected theorem State.memOk.acquireFar {a : W64} (h : s.memOk) : (acquireFar p n a s).memOk := .ite h h.onCore

protected theorem State.memOk.acquireReply (h : s.memOk) : (acquireReply p a r s).memOk :=
  .ite (.guarded h.acquireFar fun h₁ => h₁.acquireFar) h

protected theorem State.memOk.inject (h : s.memOk) : (inject p i s).memOk := by
  unfold inject
  split
  · exact h
  · exact h.noteFar.sendHinted.onCore

protected theorem State.memOk.addAccess (h : s.memOk) : (addAccess p a s).memOk := .guarded h.onCore fun h₁ => h₁.inject

protected theorem State.memOk.dropAccess (h : s.memOk) : (dropAccess p i s).memOk := h.onCore

protected theorem State.memOk.arrive {x : Vec} (h : s.memOk) : (arrive p i a x s).memOk := h.dropAccess.onCore

protected theorem State.memOk.fatalAt {cause : Nat} {addr info : W64} {bundle : W32}
    (h : s.memOk) : (fatalAt p cause addr info bundle s).memOk :=
  h.fatal

protected theorem State.memOk.releaseCore {owner : Nat} (h : s.memOk) : (releaseCore owner s).memOk := h.setCore

protected theorem State.memOk.releaseCluster (h : s.memOk) : (releaseCluster p s).memOk :=
  h.releaseCore.releaseCore.releaseCore.releaseCore

protected theorem State.memOk.engineLine {a : W64} (h : s.memOk) : (engineLine c a s).memOk := .ite h h.useRow.touchHost

protected theorem State.memOk.landRow {a : W64} {back : Nat} (h : s.memOk) : (landRow p c a back v s).memOk :=
  .ite h.spadPut h.writeBacking.engineLine

protected theorem State.memOk.noteRefused (h : s.memOk) : (noteRefused c lcore ch cls dev s).memOk := h.onCtx

protected theorem State.memOk.markFault {row : Bool} (h : s.memOk) : (markFault c lcore ch row cls st dev s).memOk :=
  .ite h.onCtx h.onCtx.noteRefused

protected theorem State.memOk.engineAdd {a : W64} (h : s.memOk) : (engineAdd p c ch cls k a x st s).memOk :=
  .ite (.ite h.sendPacket h.sendPacket.countCtx) (.ite h.countCtx h.atomAct.atomLine)

protected theorem State.memOk.completeEarly (h : s.memOk) : (completeEarly p c ch cls b status packed st s).memOk := by
  unfold completeEarly
  dsimp only
  split
  · exact h
  · split
    · exact .ite h h.engineAdd
    · exact .engineAdd (.ite h h.engineAdd)

protected theorem State.memOk.completeLast
    (h : s.memOk) : (completeLast p c ch cls b bytes st s).memOk := .ite h h.engineAdd

protected theorem State.memOk.completeAt (h : s.memOk) : (completeAt p c ch cls b status packed bytes st s).memOk :=
  h.completeEarly.completeLast

protected theorem State.memOk.issueLoad {kind : AccKind} {r c : BitVec 2}
    (h : s.memOk) : (issueLoad kind d s0 e ea r c s).memOk :=
  h.addAccess

protected theorem State.memOk.issueStore {mask : BitVec 512} {data : Vec} {r c : BitVec 2}
    (h : s.memOk) : (issueStore s0 e ea mask data x r c n s).memOk :=
  .ite h.addAccess h.stage.cacheRow.countBytes.staleRow

protected theorem State.memOk.memError {kind : Nat} (h : s.memOk) : (memError kind c va s).memOk := .postFault h

protected theorem State.memOk.performLoad (h : s.memOk) : (performLoad p i a r s).memOk :=
  .ite (.fatalAt (.ite h.memError h))
    (.ite (.arrive (.ite h.memError h))
      (.touchHost (.countBytes (.cacheRow (.arrive (.ite h.memError h))))))

protected theorem State.memOk.fillFar {row : Vec} (h : s.memOk) : (fillFar a row s).memOk := h

protected theorem State.memOk.performKeyset
    (h : s.memOk) : (performKeyset p i a r s).memOk := .ite h.fatalAt h.fillFar.dropAccess

protected theorem State.memOk.refusalReturn (h : s.memOk) : (refusalReturn p i s).memOk := by
  unfold refusalReturn
  split
  · exact h
  · exact .ite h.dropAccess.fatalAt h

protected theorem State.memOk.acceptCopy (h : s.memOk) : (acceptCopy p u j s).memOk := h.onCore

protected theorem State.memOk.onCopy {j : Nat} {f : Copy → Copy} (h : s.memOk) : (onCopy p u j f s).memOk := h.onCore

protected theorem State.memOk.refuseRow {j code : Nat} {a : W64}
    (h : s.memOk) : (refuseRow p u j row code cls c a s).memOk :=
  h.onCopy.markFault

protected theorem State.memOk.askRow {a : W64} (h : s.memOk) : (askRow p u c cls a r s).memOk :=
  .guarded (.ite h.sendPacket h.engineLine) fun h₁ => h₁.memError

protected theorem State.memOk.readMaskRow (h : s.memOk) : (readMaskRow p u i j r st s).memOk :=
  .onCopy (.ite (.guarded h.askRow fun h₁ => h₁.noteRefused)
    (.countTag (.guarded h.askRow fun h₁ => h₁.noteRefused)))

protected theorem State.memOk.readCopyRow (h : s.memOk) : (readCopyRow p u i row j r st s).memOk :=
  .ite h.onCopy (.ite h.askRow.refuseRow (.ite h.askRow.refuseRow h.askRow.onCopy.countTag))

protected theorem State.memOk.rowDone {put : Option Vec}
    (h : s.memOk) : (rowDone p u i row j put s).memOk := h.onCopy.countTag

protected theorem State.memOk.landCopyRow (h : s.memOk) : (landCopyRow p u i row j v st s).memOk := by
  unfold landCopyRow
  dsimp only
  split
  · exact .ite h.rowDone (.ite h (.ite h.sendPacket.rowDone h.sendPacket.refuseRow))
  · split
    · exact h.refuseRow
    · exact .releaseCluster (.rowDone (.ite h h.landRow))

protected theorem State.memOk.copyRow (h : s.memOk) : (copyRow p u i row r st s).memOk := by
  unfold copyRow
  dsimp only
  split
  · exact h
  · split
    · exact h
    · split
      · exact h.readMaskRow
      · split
        · exact h.onCopy
        · split
          · split
            · exact h
            · exact .ite (.guarded h.onCore.onCopy fun h₁ => h₁.refuseRow) h
          · split
            · exact h.readCopyRow
            · exact .ite h h.landCopyRow

protected theorem State.memOk.markAdds {l : List (Nat × W64)} (h : s.memOk) : (markAdds p u j st l s).memOk := by
  unfold markAdds
  split
  · exact h
  · exact h.markFault

protected theorem State.memOk.copyFlags (h : s.memOk) : (copyFlags p j s).memOk := h.onCore

protected theorem State.memOk.copyEarly (h : s.memOk) : (copyEarly p u j st s).memOk := h.markAdds.completeEarly

protected theorem State.memOk.copyLast (h : s.memOk) : (copyLast p u j st s).memOk := .completeLast (.ite h h.markAdds)

protected theorem State.memOk.dropCopy (h : s.memOk) : (dropCopy p u i s).memOk := h.onCore.releaseCluster

protected theorem State.memOk.completeCopy (h : s.memOk) : (completeCopy p u i st s).memOk := by
  unfold completeCopy
  split
  · exact h
  · split
    · split
      · exact h.copyFlags.copyEarly.onCopy
      · exact h.copyLast.onCopy
      · exact .ite h.copyFlags.copyEarly.copyLast.onCopy h.copyFlags.copyEarly.copyLast.dropCopy
      · exact h.dropCopy
    · exact h

protected theorem State.memOk.onOptu {f : OptuJob → OptuJob} (h : s.memOk) : (onOptu p f s).memOk := h.onCore

protected theorem State.memOk.landBlock {j : OptuJob} {d : Shape} {f : Nat → Nat × Flags}
    (h : s.memOk) : (landBlock s0 p blk j d f s).memOk := by
  unfold landBlock
  dsimp only
  refine .foldl h fun _ _ ht => ?_
  split
  · exact ht.onOptu
  · split
    · exact ht.onOptu
    · exact ht.landRow.onOptu.countTag

protected theorem State.memOk.countBlock {tag : Nat} {sh : Shape} (h : s.memOk) : (countBlock c tag sh blk s).memOk :=
  .countTag (.foldl h fun _ _ ht => ht.engineLine)

protected theorem State.memOk.optuBlock {bad : Bool} {nth : Nat} (h : s.memOk) : (optuBlock p blk bad nth s).memOk := by
  unfold optuBlock
  split
  · exact h
  · exact .ite h (.landBlock (.landBlock (.landBlock (.onOptu (.countBlock (.countBlock (.countBlock (.countBlock
      (.ite h.memError h)))))))))

protected theorem State.memOk.optuFlags {j : OptuJob} (h : s.memOk) : (optuFlags p j s).memOk := h.onCore

protected theorem State.memOk.optuEarly {j : OptuJob} (h : s.memOk) : (optuEarly p j st s).memOk := h.completeEarly

protected theorem State.memOk.optuLast {j : OptuJob} (h : s.memOk) : (optuLast p j st s).memOk := h.completeLast

protected theorem State.memOk.dropOptu (h : s.memOk) : (dropOptu p s).memOk := h.onCore

protected theorem State.memOk.completeOptu (h : s.memOk) : (completeOptu p st s).memOk := by
  unfold completeOptu
  split
  · exact h
  · split
    · split
      · exact h.optuFlags.optuEarly.onOptu
      · exact h.optuLast.onOptu
      · exact .ite h.optuFlags.optuEarly.optuLast.onOptu h.optuFlags.optuEarly.optuLast.dropOptu
      · exact h.dropOptu
    · exact h

protected theorem State.memOk.pstwLand (h : s.memOk) : (pstwLand p i s).memOk := by
  unfold pstwLand
  split
  · exact h
  · exact .ite (.onCore (.ite h h.landRow.landRow)) h

protected theorem State.memOk.issueAtom {o : BitVec 3}
    (h : s.memOk) : (issueAtom k d s0 e ea x y o s).memOk := h.addAccess

protected theorem State.memOk.actWord (h : s.memOk) : (actWord p a s).memOk := by
  unfold actWord
  dsimp only
  split
  · exact .atomAct (.foldl (.takeTicket (.ite (.foldl h fun _ _ ht => ht.acquireWord) h)) fun _ _ ht => ht.atomLine)
  · exact .admissionAct (.foldl (.takeTicket (.ite (.foldl h fun _ _ ht => ht.acquireWord) h)) fun _ _ ht => ht.atomLine)
  · exact .foldl (.takeTicket (.ite (.foldl h fun _ _ ht => ht.acquireWord) h)) fun _ _ ht => ht.atomLine

protected theorem State.memOk.performAtom (h : s.memOk) : (performAtom p i a r s).memOk :=
  .ite (.ite h.fatalAt h.acquireReply.arrive)
    (.ite h.dropAccess.fatalAt
      (.ite h.memError.fatalAt
        (.ite h.fatalAt h.actWord.touchHost.arrive)))

end

end Sys2Proof.Machine
end

section
/-!
PROOF. The canonical form of every memory is kept (O60), continued: residencies (R302 to R305), phase maps, the Reeves
and the pages (R271 to R293).
-/

namespace Sys2Proof.Machine

section
variable {s : State} {c lcore slot p n i r st k page item chunk m lo hi v pool tier number : Nat} {bad first : Bool}
  {e : BitVec 128} {j : MapldJob} {q : PageReq} {s0 : State} {w : WorkItem}

protected theorem State.memOk.onRes {f : Resid → Resid} (h : s.memOk) : (onRes c lcore slot f s).memOk := h.onCtx

protected theorem State.memOk.evict {g : Granules} (h : s.memOk) : (evict p g s).memOk := h.onCore.onRes.countCore

protected theorem State.memOk.evictUntil {enough : State → Bool} {l : List Granules}
    (h : s.memOk) : (evictUntil p enough l s).memOk := by
  induction l generalizing s with
  | nil => exact h
  | cons g r ih => exact .ite h (ih h.evict)

protected theorem State.memOk.makeRoom (h : s.memOk) : (makeRoom p c n s).memOk := h.evictUntil

protected theorem State.memOk.allocate (h : s.memOk) : (allocate p c lcore n s).2.memOk := by
  unfold allocate
  split
  · exact h
  · dsimp only
    split
    · exact h.onCore.evictUntil
    · split
      · exact h.onCore.evictUntil
      · exact h.onCore.evictUntil.onRes

protected theorem State.memOk.issueRequest {kind : AccKind} {d : BitVec 6} {e : Env} {x y : W64}
    (h : s.memOk) : (issueRequest kind d s0 e x y s).memOk :=
  h.addAccess

protected theorem State.memOk.performRequest {a : Access} (h : s.memOk) : (performRequest p i a s).memOk := h.arrive

protected theorem State.memOk.scoreboardArrive {r : Reply} (h : s.memOk) : (scoreboardArrive p i r s).memOk := by
  unfold scoreboardArrive
  split
  · exact h
  · split
    · exact h
    · split
      · exact .ite h.inject h
      · split
        · exact h
        · split
          · exact h.performLoad
          · exact h.performLoad
          · exact h.performRequest
          · exact h.performRequest
          · exact h.performKeyset
          · exact h.performAtom

protected theorem State.memOk.startLoad {sh : Shape} {hd off : W64} {pin : Bool}
    (h : s.memOk) : (startLoad p sh hd off pin s0 s).memOk :=
  .onCore (.guarded h.onCore.onCtx.onRes fun h₁ => h₁.onCore.makeRoom)

protected theorem State.memOk.tileLines {src bytes : Nat} (h : s.memOk) : (tileLines c src bytes s).memOk :=
  .foldl h fun _ _ ht => ht.engineLine

protected theorem State.memOk.finishLoad {j : RloadJob} (h : s.memOk) : (finishLoad p j bad st s).memOk :=
  .ite h.completeAt (.ite h.completeAt (.ite
    (.completeAt (.onCore (.onRes (.ite h.memError h))))
    (.completeAt (.ite h.tileLines.onCtx.onRes.countCore h.tileLines.onCtx.onRes.countCore))))

protected theorem State.memOk.rloadComplete (h : s.memOk) : (rloadComplete p slot bad st s).memOk := by
  unfold rloadComplete
  split
  · exact h
  · exact .ite h.onCore.finishLoad h

protected theorem State.memOk.revoke {l : Nat} (h : s.memOk) : (revoke p c l k s).memOk := h.onRes.onCtx.onCore

protected theorem State.memOk.rrevDrain (h : s.memOk) : (rrevDrain p slot s).memOk := h.onCore

protected theorem State.memOk.settleRota (h : s.memOk) : (settleRota s).memOk := .ite h h

protected theorem State.memOk.unpinIdle (h : s.memOk) : (unpinIdle s).memOk := h

protected theorem State.memOk.beginTo {t : Nat}
    (h : s.memOk) : (beginTo c t s).memOk := .ite (.onCtx h) (.unpinIdle (.onCtx h))

protected theorem State.memOk.padvHold (h : s.memOk) : (padvHold p s).memOk := .ite h.beginTo h

protected theorem State.memOk.askImage {a : W64} (h : s.memOk) : (askImage p c a s).memOk := h.sendPacket

protected theorem State.memOk.putImage {good : Bool} {l : List (BitVec 128)}
    (h : s.memOk) : (putImage c j good l s).memOk :=
  .guarded (.ite h.onCtx h.onCtx) fun h₁ => h₁.onCtx.unpinIdle

protected theorem State.memOk.askRest (h : s.memOk) : (askRest j c n s).memOk := .foldl h fun _ _ ht => ht.askImage

protected theorem State.memOk.mapldComplete {img : RemoteImage} (h : s.memOk) : (mapldComplete c i img s).memOk := by
  unfold mapldComplete
  split
  · exact h
  · next j _ =>
    -- names that keep the kernel from evaluating the image while it compares the goals
    obtain ⟨fault, hfault⟩ : ∃ f, imageFault s c = f := ⟨_, rfl⟩
    obtain ⟨word, hword⟩ : ∃ w, imageWord s j.core c = w := ⟨_, rfl⟩
    rw [hfault, hword]
    refine .ite h (.ite ?_ ?_)
    · split
      · exact h.onCtx.fatal
      · exact .ite h.onCtx.askRest h.onCtx.putImage
    · split
      · exact h.onCtx.fatal
      · refine .ite h.onCtx.putImage ?_
        split
        · exact h.onCtx.fatal
        · exact h.onCtx.putImage

protected theorem State.memOk.failTransition {why : Nat} {addr : W64}
    (h : s.memOk) : (failTransition c why addr s).memOk :=
  .unpinIdle h

protected theorem State.memOk.pinLine {tenant : Nat} {l : Place} {line : Nat}
    (h : s.memOk) : (pinLine tenant l line s).memOk := by
  unfold pinLine
  split
  · exact h
  · split
    · exact h
    · exact h

protected theorem State.memOk.pinPage (h : s.memOk) : (pinPage c page s).memOk := by
  unfold pinPage
  refine .foldl (.ite h ?_) fun _ _ ht => ht.pinLine
  split
  · exact h
  · exact h.setHome

protected theorem State.memOk.becomeReady (h : s.memOk) : (becomeReady c s).memOk := .ite h.onCtx h

protected theorem State.memOk.allocWork (h : s.memOk) : (allocWork c item w s).memOk := by
  unfold allocWork
  split
  · exact h.onCtx.becomeReady
  · exact .ite h h.failTransition

protected theorem State.memOk.reeveChunk (h : s.memOk) : (reeveChunk c item chunk s).memOk := by
  unfold reeveChunk
  dsimp only
  split
  · exact h
  · split
    · exact h.becomeReady
    · refine .ite h.allocWork (.ite h (.ite h.failTransition (.ite h.failTransition ?_)))
      exact .becomeReady (.onCtx (.ite (.foldl h fun _ _ ht => ht.pinLine) h))

protected theorem State.memOk.reworkFor {q : Nat × Nat} {y : Nat × Ctx} (h : s.memOk) : (reworkFor q s y).memOk := by
  unfold reworkFor
  dsimp only
  split
  · exact h
  · split
    · exact h
    · exact .ite h h.onCtx.becomeReady

protected theorem State.memOk.reworkPage {q : Nat × Nat} (h : s.memOk) : (reworkPage q s).memOk :=
  .foldl h fun _ _ ht => ht.reworkFor

protected theorem State.memOk.abandonKeys
    (h : s.memOk) : (abandonKeys s).memOk := .foldl h fun _ _ ht => .ite ht ht.onCtx

protected theorem State.memOk.countConflicts {l : List Stage} {key : Nat}
    (h : s.memOk) : (countConflicts c l s key).memOk := by
  unfold countConflicts
  dsimp only
  split
  · exact h
  · refine .countCtx ?_
    exact h.congr rfl rfl rfl rfl

protected theorem State.memOk.staleRange (h : s.memOk) : (staleRange c m lo hi s).memOk := .ite h.onCtx h

protected theorem State.memOk.takePrivate (h : s.memOk) : (takePrivate c m r page v s).memOk :=
  .onCtx (h.setMem (Memory.write_wf (Memory.clear_wf h.mem _ _) _ _ _))

protected theorem State.memOk.makePrivate {va : Nat} (h : s.memOk) : (makePrivate c m va s).memOk := by
  unfold makePrivate
  dsimp only
  split
  · exact h
  · exact .ite h (.foldl h.takePrivate fun _ _ ht => ht.staleRow)

protected theorem State.memOk.applyStage {g : Stage}
    (h : s.memOk) : (applyStage c m g s).memOk := h.makePrivate.writeMem.staleRow

protected theorem State.memOk.freshRows (h : s.memOk) : (freshRows lo hi s).memOk := h

protected theorem State.memOk.ownPages
    (h : s.memOk) : (ownPages c m r e s).memOk := .foldl h fun _ _ ht => .ite ht ht.takePrivate

protected theorem State.memOk.ownBacking (h : s.memOk) : (ownBacking c m r e s).memOk :=
  .guarded (.ite h.ownPages h) fun h₁ => .foldl h₁ fun _ _ ht => ht.makePrivate

protected theorem State.memOk.newContents {undef : Bool} {q : Nat × Nat}
    (h : s.memOk) : (newContents undef s q).memOk := by
  refine .freshRows (h.setMem ?_)
  split
  · exact Memory.makeUndef_wf h.mem _ _ _
  · exact Memory.clear_wf h.mem _ _

protected theorem State.memOk.entryAction {k : Nat × BitVec 128} (h : s.memOk) : (entryAction c m k s).memOk :=
  .ite h (.staleRange (.foldl h.ownBacking fun _ _ ht => ht.newContents))

protected theorem State.memOk.placeWork (h : s.memOk) : (placeWork c w s).memOk := .ite h h.setPlace

protected theorem State.memOk.pinPrivate {k : Nat × BitVec 128} (h : s.memOk) : (pinPrivate c m k s).memOk :=
  .ite (.foldl h fun _ _ ht => ht.pinPage) h

protected theorem State.memOk.commitPhase (h : s.memOk) : (commitPhase c s).memOk := by
  unfold commitPhase
  refine State.memOk.countCtx (c := c) (k := 0x820) (n := 1) (.foldl (.unpinIdle (.onCtx ?_)) fun _ _ ht => ht.pinPrivate)
  refine .guarded (.foldl (.foldl h fun _ _ ht => ht.countConflicts) fun _ _ ht => ht.applyStage) fun h₁ => ?_
  exact .foldl (.foldl h₁ fun _ _ ht => ht.placeWork) fun _ _ ht => ht.entryAction

protected theorem State.memOk.writeRequest {kind : Nat} (h : s.memOk) : (writeRequest c kind page slot pool s).memOk :=
  .countCtx (.intro h.mem (ringWrite_wf h.hostMem) (Memory.write_wf h.mgmtMem _ _ _) h.mboxMem)

protected theorem State.memOk.risingRequest (h : s.memOk) : (risingRequest c k slot pool s).memOk := by
  unfold risingRequest
  split
  · exact h
  · exact .ite h.writeRequest.onCtx h

protected theorem State.memOk.pageRequest (h : s.memOk) : (pageRequest c item slot pool s).memOk := by
  unfold pageRequest
  dsimp only
  split
  · exact h.risingRequest
  · exact .ite h.writeRequest.onCtx h

protected theorem State.memOk.risingDone (h : s.memOk) : (risingDone c page s).memOk := h.onCtx

protected theorem State.memOk.riseTo (h : s.memOk) : (riseTo c page s).memOk := by
  unfold riseTo
  split
  · exact h
  · exact .reworkPage (.guarded h.setPlace.risingDone fun h₁ => h₁.pinPage)

protected theorem State.memOk.risingStep (h : s.memOk) : (risingStep c k s).memOk := by
  unfold risingStep
  split
  · exact h
  · exact .ite h.risingDone (.ite h (.ite h.risingDone h.riseTo))

protected theorem State.memOk.risingArrives
    (h : s.memOk) : (risingArrives q v s).memOk := .ite h.onCtx.writeMem.riseTo h

protected theorem State.memOk.risingBroken (h : s.memOk) : (risingBroken q s).memOk := .ite (.risingDone h) h

protected theorem State.memOk.pageArrives (h : s.memOk) : (pageArrives q s).memOk := by
  unfold pageArrives
  dsimp only
  split
  · exact h.risingBroken
  · exact h.risingArrives
  · exact h.failTransition
  · split
    · exact h.failTransition
    · exact h.writeMem.setHome.onCtx.becomeReady

protected theorem State.memOk.discardAnswer (h : s.memOk) : (discardAnswer slot s).memOk := .ite (.countCtx h) h

protected theorem State.memOk.pageFails (h : s.memOk) : (pageFails q s).memOk := .ite h.onCtx h.failTransition

protected theorem State.memOk.pageAnswer (h : s.memOk) : (pageAnswer slot s).memOk := by
  unfold pageAnswer
  dsimp only
  split
  · exact .discardAnswer h
  · refine .ite (.discardAnswer h) (.ite h (.ite (.discardAnswer h) (.ite ?_ (.ite h ?_))))
    · exact .ite (.pageArrives h) (.pageFails h)
    · exact .ite (.reworkPage (.setHome h)) h

protected theorem State.memOk.reeveStep
    (h : s.memOk) : (reeveStep c item chunk s).memOk := .ite h.risingStep h.reeveChunk

protected theorem State.memOk.demotePage (h : s.memOk) : (demotePage tier c number s).memOk := by
  unfold demotePage
  dsimp only
  split
  · exact h
  · exact h.setHome.reworkPage

protected theorem State.memOk.writeOut (h : s.memOk) : (writeOut c number s).memOk := .ite h.writeHostMem.writeRequest h

protected theorem State.memOk.demote {die : Nat} (h : s.memOk) : (demote tier die s).memOk := by
  have hmarked : State.memOk (if highMark s tier die < usedPages s tier die then
      { s with demoting := engineNo tier die :: s.demoting.filter (fun k => k != engineNo tier die) } else s) := .ite h h
  unfold demote
  refine .ite h (.ite hmarked (.ite (hmarked.congr rfl rfl rfl rfl) ?_))
  split
  · exact hmarked.congr rfl rfl rfl rfl
  · exact .ite hmarked.writeOut hmarked.demotePage

protected theorem State.memOk.promotePage (h : s.memOk) : (promotePage c page s).memOk := by
  unfold promotePage
  split
  · exact h
  · exact h.setPlace.reworkPage

protected theorem State.memOk.loadPage {t : State} (h : s.memOk) (ht : loadPage c first page s = some t) :
    t.memOk := by
  unfold loadPage at ht
  dsimp only at ht
  split at ht
  · cases ht
  · cases ht
    exact h.onCtx

protected theorem State.memOk.loadPages {l : List (Nat × Nat)} {t : State} (h : s.memOk)
    (ht : loadPages c first l s = .ok t) : t.memOk := by
  induction l generalizing s with
  | nil => cases ht; exact h
  | cons g r ih =>
    unfold loadPages at ht
    split at ht
    · cases ht
    · next u hu => exact ih (h.loadPage hu) ht

end

end Sys2Proof.Machine
end

section
/-!
PROOF. The canonical form of every memory is kept (O60), continued: publishing, keys and counters, the words of stream
code and the dispatch of tasks (R248 to R260, R312 to R330), and with the dispatcher the passing of cycles.
-/

namespace Sys2Proof.Machine

section
variable {s : State} {p c tag t n va i k : Nat} {a v g : W64} {e : QEntry}

protected theorem State.memOk.scldAppend (h : s.memOk) : (scldAppend p s).memOk := by
  unfold scldAppend
  split
  · exact h
  · exact h.onCore

protected theorem State.memOk.staleBuffer {b : BitVec 256} (h : s.memOk) : (staleBuffer c b s).memOk :=
  .foldl h fun _ _ ht => ht.staleRow.staleRow

protected theorem State.memOk.swapBuffer (h : s.memOk) : (swapBuffer p c tag s).memOk := h.onCtx.onCore.staleBuffer

protected theorem State.memOk.swapGroup
    (h : s.memOk) : (swapGroup p c t n s).memOk := .foldl h fun _ _ ht => ht.swapBuffer

protected theorem State.memOk.guardedSwap
    (h : s.memOk) : (guardedSwap p c va t n s).memOk := .ite h.swapGroup.atomAct h.atomAct

protected theorem State.memOk.performPub {a : Access} (h : s.memOk) : (performPub p a s).memOk :=
  .ite (.ite h.fatalAt (.ite h.fatalAt h.atomLine.guardedSwap)) h.swapGroup

protected theorem State.memOk.issuePub {a : Access}
    (h : s.memOk) : (issuePub p a s).memOk := .ite h.performPub h.addAccess

protected theorem State.memOk.copyFront (h : s.memOk) : (copyFront c tag s).memOk :=
  .foldl h fun _ _ ht => .ite ht ht.writeBacking

protected theorem State.memOk.pubdComplete (h : s.memOk) : (pubdComplete p i s).memOk := by
  unfold pubdComplete
  dsimp only
  split
  · exact h
  · exact .ite (.foldl h.onCore fun _ _ ht => ht.copyFront) h

protected theorem State.memOk.acknowledge (h : s.memOk) : (acknowledge p i s).memOk := by
  unfold acknowledge
  split
  · exact h
  · refine .ite h (.ite ?_ (.ite ?_ h))
    · exact .ite h.dropAccess (.ite h.inject h)
    · exact .ite h.dropAccess.performPub (.ite h.dropAccess.fatalAt h.actWord.dropAccess)

protected theorem State.memOk.fillKey {tenant : Nat} {key : BitVec 256}
    (h : s.memOk) : (fillKey tenant k key s).memOk := h

protected theorem State.memOk.askKey {s0 : State} {e : Env} {y : W64} (h : s.memOk) : (askKey s0 e k y s).memOk :=
  .guarded h.addAccess fun h₁ => h₁.addAccess

protected theorem State.memOk.killKey (h : s.memOk) : (killKey k s).memOk := .abandonKeys h

protected theorem State.memOk.resync {ch : Nat} (h : s.memOk) : (resync p ch s).memOk :=
  .foldl h.onCtx fun _ _ ht => ht.sendPacket

protected theorem State.memOk.counterClear (h : s.memOk) : (counterClear p k s).memOk :=
  .ite h.onCtx.resync (.ite h.onCtx (.ite h (.ite h.onCtx h)))

protected theorem State.memOk.writeHeld (h : s.memOk) : (writeHeld s).memOk := by
  unfold writeHeld
  split
  · exact h
  · exact .ite (.intro h.mem (ringWrite_wf h.hostMem) h.mgmtMem h.mboxMem) h

protected theorem State.memOk.liveStore (h : s.memOk) : (liveStore c va v s).memOk := h.atomAct

protected theorem State.memOk.liveBump (h : s.memOk) : (liveBump c va s).memOk := h.atomAct

protected theorem State.memOk.liveBytes {v : Nat} (h : s.memOk) : (liveBytes c va n v s).memOk :=
  .ite h (.foldl h fun _ _ ht => ht.liveStore)

protected theorem State.memOk.enqueue {args : W64} {graph : Option (Nat × Nat)}
    (h : s.memOk) : (enqueue c a args graph s).memOk :=
  h.liveBump.onCtx

protected theorem State.memOk.fixNow (h : s.memOk) : (fixNow c v s).memOk := h.onCtx

protected theorem State.memOk.setGraphState {v : Nat} (h : s.memOk) : (setGraphState c g v s).memOk := h.liveStore

protected theorem State.memOk.refreshBack (h : s.memOk) : (refreshBack c g s).memOk := .ite h.liveBytes h

protected theorem State.memOk.applyPatch {b : W64} (h : s.memOk) : (applyPatch c a b s).memOk :=
  .liveBytes (.guarded h.refreshBack fun h₁ => h₁.setGraphState)

protected theorem State.memOk.startReplay {r : W64} (h : s.memOk) : (startReplay c g r s).memOk :=
  h.refreshBack.setGraphState.liveBump.enqueue

protected theorem State.memOk.mbxTake {d : BitVec 6} {take : Bool} (h : s.memOk) : (mbxTake c d a take s).memOk :=
  .emit (.ite h.atomAct h)

protected theorem State.memOk.wakeThread (h : s.memOk) : (wakeThread c s).memOk := by
  unfold wakeThread
  split
  · exact h
  · exact .ite h.mbxTake.retireThread h

protected theorem State.memOk.gateOpen (h : s.memOk) : (gateOpen c i s).memOk := by
  unfold gateOpen
  split
  · exact h
  · exact .ite h.onCtx h

protected theorem State.memOk.openGates
    (h : s.memOk) : (openGates c s).memOk := .ite (.foldl h fun _ _ ht => ht.gateOpen) h

protected theorem State.memOk.startTask
    (h : s.memOk) : (startTask c e s).memOk := .foldl h.onCtx fun _ _ ht => ht.onCore

protected theorem State.memOk.dispatchOne {a : BitVec 128 × State} (h : a.2.memOk) :
    (dispatchOne c a e).2.memOk := by
  unfold dispatchOne
  split
  · exact h
  · split
    · exact h.startTask
    · exact h

protected theorem State.memOk.dispatch (h : s.memOk) : (dispatch c s).memOk :=
  List.foldlRecOn (motive := fun a : BitVec 128 × State => a.2.memOk) _ _ h.openGates fun _ ha _ _ => .dispatchOne ha

protected theorem State.memOk.endCycleOf (h : s.memOk) : (endCycleOf s c).memOk :=
  .ite h.wakeThread (.ite h.wakeThread.dispatch h.wakeThread.openGates)

protected theorem State.memOk.endCycle (h : s.memOk) : (endCycle s).memOk := .foldl h fun _ _ ht => ht.endCycleOf

protected theorem State.memOk.passCycles (h : s.memOk) : (passCycles n s).memOk := by
  induction n generalizing s with
  | zero => exact h
  | succ n ih => exact ih h.endCycle

protected theorem State.memOk.passTo (h : s.memOk) : (passTo t s).memOk := h.passCycles

protected theorem State.memOk.endReplay {g : Nat × Nat} (h : s.memOk) : (endReplay c g s).memOk :=
  .liveBump (.ite h.setGraphState h)

protected theorem State.memOk.taskEnd (h : s.memOk) : (taskEnd c i s).memOk := by
  unfold taskEnd
  dsimp only
  split
  · exact h
  · split
    · refine .liveBump ?_
      split
      · exact .onCtx (.foldl h fun _ _ ht => ht.onCore)
      · exact .endReplay (.onCtx (.foldl h fun _ _ ht => ht.onCore))
    · exact h

protected theorem State.memOk.bankStall (h : s.memOk) : (bankStall p s).memOk := by
  unfold bankStall
  split
  · exact h
  · exact .ite h h.onCore.countCtx.postFault

end

end Sys2Proof.Machine
end

section
/-!
PROOF. The canonical form of every memory is kept (O60), continued: saving, restoring and ending of contexts, the
host's writes and requests (R341 to R349).
-/

namespace Sys2Proof.Machine

section
variable {s : State} {c cmd p lcore off n v fn at_ size img val x va : Nat} {e : BitVec 128} {b : Block} {f : State → State}

protected theorem State.memOk.refuseCommand {result : Nat} (h : s.memOk) : (refuseCommand c cmd result s).memOk :=
  .ite h.onCtx.postFault h.onCtx.postFault

protected theorem State.memOk.saveCommand
    (h : s.memOk) : (saveCommand c s).memOk := .ite h (.ite h.onCtx h.refuseCommand)

protected theorem State.memOk.yieldCore (h : s.memOk) : (yieldCore p s).memOk := h.onCore

protected theorem State.memOk.appendStaged {g : Stage} (h : s.memOk) : (appendStaged c g s).memOk := by
  unfold appendStaged
  split
  · exact h
  · exact h.writeMgmtMem.onCtx

protected theorem State.memOk.finishSave (h : s.memOk) : (finishSave c s).memOk := .postFault h.writeMgmtMem

protected theorem State.memOk.saveRecordWrite
    (h : s.memOk) : (saveRecordWrite c s).memOk := .ite h.onCtx.postFault h.finishSave

protected theorem State.memOk.reloadSlot {slot : Nat} (h : s.memOk) : (reloadSlot p c lcore slot s).memOk :=
  .ite h.onCore.makeRoom.onCore.onCtx.onRes h.onRes.countCore

protected theorem State.memOk.dropElsewhere (h : s.memOk) : (dropElsewhere p c lcore s).memOk := h

protected theorem State.memOk.restoreResidencies {q : Nat × Tab (BitVec 128)}
    (h : s.memOk) : (restoreResidencies c s q).memOk := by
  unfold restoreResidencies
  split
  · exact h
  · exact .foldl h.dropElsewhere.onCore fun _ _ ht => .ite ht ht.reloadSlot

protected theorem State.memOk.restoreCore {w : SavedCore} (h : s.memOk) : (restoreCore c s w).memOk := by
  unfold restoreCore
  split
  · exact h
  · exact .ite h.onCore h

protected theorem State.memOk.resumeCtx (h : s.memOk) : (resumeCtx c s).memOk := .guarded h.onCtx fun h₁ => h₁.beginTo

protected theorem State.memOk.restoreFrom {r : SaveRecord} {foreign : Bool}
    (h : s.memOk) : (restoreFrom c r foreign s).memOk :=
  .resumeCtx (.foldl (.foldl (.ite h.onCtx h) fun _ _ ht => ht.restoreCore) fun _ _ ht => ht.restoreResidencies)

protected theorem State.memOk.restoreCommand (h : s.memOk) : (restoreCommand c s).memOk := by
  unfold restoreCommand
  split
  · exact h.refuseCommand
  · exact h
  · exact .ite h.restoreFrom h.onCtx

protected theorem State.memOk.sendEnded (h : s.memOk) : (sendEnded c s).memOk := .foldl h fun _ _ ht => ht

protected theorem State.memOk.refuseWaiting (h : s.memOk) : (refuseWaiting c s).memOk := .foldl h fun _ _ ht => ht.reply

protected theorem State.memOk.refuseHostOps (h : s.memOk) : (refuseHostOps c s).memOk := h

protected theorem State.memOk.endCommand (h : s.memOk) : (endCommand c s).memOk :=
  .ite (.postFault (.refuseHostOps (.refuseWaiting h.sendEnded))) h.refuseCommand

protected theorem State.memOk.unloadCtx (h : s.memOk) : (unloadCtx c s).memOk :=
  .intro (Memory.clear_wf (Memory.clear_wf h.mem _ _) _ _) h.hostMem h.mgmtMem h.mboxMem

protected theorem State.memOk.refuseWrite {cause : Nat} (h : s.memOk) : (refuseWrite off cause s).memOk :=
  .postFault (h.congr rfl rfl rfl rfl)

protected theorem State.memOk.writeUnless {l : List (Bool × Nat)} (h : s.memOk) (hf : (f s).memOk) :
    (writeUnless off l f s).memOk := by
  unfold writeUnless
  split
  · exact h.refuseWrite
  · exact hf

protected theorem State.memOk.rotaRequest (h : s.memOk) : (rotaRequest s).memOk := h.settleRota

protected theorem State.memOk.routeSelect (h : s.memOk) : (routeSelect s).memOk := .ite h h.refuseWrite

protected theorem State.memOk.routeValidate (h : s.memOk) : (routeValidate s).memOk := .ite h.refuseWrite h

protected theorem State.memOk.routeRetire (h : s.memOk) : (routeRetire s).memOk := .ite h h

protected theorem State.memOk.mailAnswer {status : Nat} (h : s.memOk) : (mailAnswer status n v s).memOk :=
  .intro h.mem h.hostMem h.mgmtMem (Memory.write_wf h.mboxMem _ _ _)

protected theorem State.memOk.mailDescribe (h : s.memOk) : (mailDescribe s).memOk := by
  unfold mailDescribe
  dsimp only
  split
  · exact h.mailAnswer
  · refine .mailAnswer ?_
    exact h.congr rfl rfl rfl rfl

protected theorem State.memOk.mailFirmware (h : s.memOk) : (mailFirmware s).memOk :=
  .ite (.mailAnswer (h.congr rfl rfl rfl rfl)) h.mailAnswer

protected theorem State.memOk.mailTelemetry (h : s.memOk) : (mailTelemetry s).memOk := h.mailAnswer

protected theorem State.memOk.mailTeardown (h : s.memOk) : (mailTeardown s).memOk := .ite h.mailAnswer (.mailAnswer h)

protected theorem State.memOk.mailWindow (h : s.memOk) : (mailWindow s).memOk := .ite h.mailAnswer (.mailAnswer h)

protected theorem State.memOk.releaseRange {lo hi : Nat} (h : s.memOk) : (releaseRange c lo hi s).memOk :=
  .onCtx (.intro (Memory.clear_wf (Memory.clear_wf h.mem _ _) _ _) h.hostMem h.mgmtMem h.mboxMem)

protected theorem State.memOk.releaseBacking (h : s.memOk) : (releaseBacking c e s).memOk := h.releaseRange

protected theorem State.memOk.raisePages {l : List Nat} (h : s.memOk) : (raisePages c l s).memOk := h.onCtx

protected theorem State.memOk.bindBase {src dst rs rt : Nat} (h : s.memOk) : (bindBase src dst rs rt s).memOk :=
  h.releaseBacking.onCtx.onCtx.raisePages.staleRange

protected theorem State.memOk.mailBind (h : s.memOk) : (mailBind s).memOk := .ite h.bindBase.mailAnswer h.mailAnswer

protected theorem State.memOk.mailUnknown (h : s.memOk) : (mailUnknown s).memOk := h.mailAnswer

protected theorem State.memOk.mailCommand {code : Nat} (h : s.memOk) : (mailCommand code s).memOk := by
  refine .ite (.ite (.mailFirmware h) h) (.ite (.mailDescribe h) (.ite (.mailFirmware h) (.ite (.mailTelemetry h) ?_)))
  exact .ite (.mailTeardown h) (.ite (.mailWindow h) (.ite (.mailBind h) (.mailUnknown h)))

protected theorem State.memOk.command (h : s.memOk) : (command c cmd s).memOk :=
  .ite h (.ite h.saveCommand (.ite h.restoreCommand (.ite h.endCommand h.refuseCommand)))

protected theorem State.memOk.configRequest (h : s.memOk) (hf : (f s).memOk) :
    (configRequest fn f s).memOk :=
  .ite hf h

protected theorem State.memOk.sizeBar {k : Nat} (h : s.memOk) : (sizeBar fn k s).memOk := .configRequest h (.ite h h)

protected theorem State.memOk.enableVfs (h : s.memOk) : (enableVfs n s).memOk := .configRequest h (.ite h h)

protected theorem State.memOk.bindVfs {gn : Nat} (h : s.memOk) : (bindVfs fn gn s).memOk := .configRequest h (.ite h h)

protected theorem State.memOk.putRegion {r : Nat} {t : State} (h : s.memOk) (ht : putRegion c r e s = some t) :
    t.memOk := by
  unfold putRegion at ht
  dsimp only at ht
  split at ht
  · cases ht
    exact .onCtx (.foldl h fun _ _ hu => hu.staleRange.releaseRange)
  · split at ht
    · cases ht
    · next u hu =>
      cases ht
      exact .raisePages (.foldl (.loadPages (.onCtx (.foldl h fun _ _ hv => hv.staleRange.releaseRange)) hu)
        fun _ _ hv => hv.staleRange)

protected theorem State.memOk.hostCounterClear (h : s.memOk) : (hostCounterClear off s).memOk :=
  .ite h.onCtx (.ite h.onCtx (.ite h (.ite h (.ite h (.ite h (.ite h (.ite h h)))))))

protected theorem State.memOk.devicePut (h : s.memOk) : (devicePut off at_ size img s b).memOk := by
  cases b with
  | queue page => cases page <;> exact .writeUnless h h
  | area | select | window | rota | route | marks | quota | owner => exact .writeUnless h h
  | tenant t => exact .writeUnless h (.abandonKeys h)
  | control c => exact .guarded h.onCtx fun h₁ => h₁.command
  | mailHead => exact .ite (.mailCommand h) h
  | status => exact .ite h h
  | rotaCtl => exact .ite h.rotaRequest h
  | routeCtl => exact .guarded (.ite h.routeValidate h) fun h₁ => h₁.routeSelect
  | policy k => exact .ite (.writeUnless h h) (.ite h h)
  | counter off => exact .ite h.hostCounterClear h
  | _ => exact h

protected theorem State.memOk.contextPut (h : s.memOk) : (contextPut off img s b).memOk := by
  cases b with
  | sched | place | binding | rank => exact .writeUnless h h.onCtx
  | vector c k => exact .writeUnless h (.ite h.onCtx h)
  | region c r =>
    refine .writeUnless h ?_
    cases ht : putRegion c r (BitVec.ofNat 128 img) s with
    | none => exact h
    | some t => exact h.putRegion ht
  | _ => exact h

protected theorem State.memOk.blockPut {len : Nat} (h : s.memOk) : (blockPut off at_ len size val b s).memOk := by
  cases b with
  | mailData => exact h.writeMboxMem
  | counter off => exact .ite h.hostCounterClear h
  | sched | place | binding | vector | rank | region => exact h.contextPut
  | _ => exact h.devicePut

protected theorem State.memOk.hostWrite {fuel : Nat} (h : s.memOk) : (hostWrite fn fuel off size val s).memOk := by
  induction fuel generalizing off size val s with
  | zero => exact h
  | succ fuel ih => exact .ite h (ih h.blockPut)

protected theorem State.memOk.hostAnswer {bad : Bool} (h : s.memOk) : (hostAnswer fn v bad s).memOk := h

protected theorem State.memOk.hostRead (h : s.memOk) : (hostRead fn off size s).memOk := .ite h.hostAnswer h

protected theorem State.memOk.doeMessage {request : Nat}
    (h : s.memOk) : (doeMessage request s).memOk := .configRequest h h

protected theorem State.memOk.refuseAccess (h : s.memOk) : (refuseAccess c fn va s).memOk := .postFault h

protected theorem State.memOk.noteAnswers {a : Nat} (h : s.memOk) : (noteAnswers a size s).memOk := h

protected theorem State.memOk.touchRange (h : s.memOk) : (touchRange c va size s).memOk := h.touchHost.touchHost

protected theorem State.memOk.bar2Load (h : s.memOk) : (bar2Load fn off size s).memOk := by
  unfold bar2Load
  split
  · split
    · exact h
    · exact h.hostAnswer
  · exact .ite h.touchRange.hostAnswer h.refuseAccess

protected theorem State.memOk.staleRows
    (h : s.memOk) : (staleRows c va size s).memOk := .foldl h fun _ _ ht => ht.staleRow

protected theorem State.memOk.bar2Write (h : s.memOk) : (bar2Write fn off size val s).memOk := by
  unfold bar2Write
  split
  · split
    · exact h
    · exact h.writeMgmtMem.noteAnswers
  · exact .ite h.touchRange.liveBytes.staleRows h.refuseAccess

protected theorem State.memOk.hostAtom {k : HostAtom} (h : s.memOk) : (hostAtom k s).memOk :=
  .ite (.ite h h.touchRange.liveBytes.hostAnswer) h.refuseAccess

protected theorem State.memOk.serveHost (h : s.memOk) : (serveHost s).memOk := .foldl h fun _ _ ht => ht.hostAtom

protected theorem State.memOk.bar2Atomic {op : HostOp} {y : Nat}
    (h : s.memOk) : (bar2Atomic fn off op size x y s).memOk := by
  unfold bar2Atomic
  split
  · split
    · exact h
    · exact h.writeMgmtMem.noteAnswers.hostAnswer
  · exact h.hostAtom

end

end Sys2Proof.Machine
end

section
/-!
PROOF. The canonical form of every memory is kept (O60), continued: packets and links, the load of an object file and
bring-up (R97, R320, R353, R354, R358).
-/

namespace Sys2Proof.Machine

section
variable {s : State} {status c dev l payload kind : Nat} {f : Flit} {img : Image} {k : Packet}

protected theorem State.memOk.refusePacket (h : s.memOk) : (refusePacket k status s).memOk := .reply h

protected theorem State.memOk.stageRemote {mask : BitVec 512} {data : Vec}
    (h : s.memOk) : (stageRemote k mask data s).memOk :=
  .stage (.ite h.appendStaged h)

protected theorem State.memOk.packetLine (h : s.memOk) : (packetLine k s).memOk := h.useRow

protected theorem State.memOk.packetWord {va : Nat} (h : s.memOk) : (packetWord c va s).memOk := h.touchHost.atomLine

protected theorem State.memOk.performPacket (h : s.memOk) : (performPacket k s).memOk := by
  unfold performPacket
  split
  · exact h.touchHost.packetLine.answerAs
  · exact h.packetLine.stageRemote.reply
  · exact h.packetLine.stageRemote.reply
  · exact h.packetLine.reply
  · exact h.takeTicket.packetWord.atomAct.reply
  · exact h.takeTicket.packetWord.packetWord.admissionAct.reply
  · exact h.packetWord.atomAct.reply
  · exact h.writeBacking.engineLine.reply
  · exact h
  · exact h
  · exact h

protected theorem State.memOk.acceptPacket (h : s.memOk) : (acceptPacket k s).memOk := .ite h h.performPacket

protected theorem State.memOk.clearFlows {lc ch : Nat} (h : s.memOk) : (clearFlows dev c lc ch s).memOk := .ite h h

protected theorem State.memOk.endFlows (h : s.memOk) : (endFlows dev c s).memOk := h

protected theorem State.memOk.turnAway (h : s.memOk) : (turnAway k status s).memOk := .ite h.reply h.refusePacket

protected theorem State.memOk.meetPacket (h : s.memOk) : (meetPacket k s).memOk := by
  unfold meetPacket
  split
  · exact h
  · split
    · exact h.turnAway
    · split
      · exact h.turnAway
      · exact .ite h.turnAway h.acceptPacket

protected theorem State.memOk.takeAnswer (h : s.memOk) : (takeAnswer k s).memOk := h

protected theorem State.memOk.receivePacket (h : s.memOk) : (receivePacket k s).memOk :=
  .ite h.clearFlows (.ite h.endFlows (.ite h.takeAnswer h.meetPacket))

protected theorem State.memOk.serveAll (h : s.memOk) : (serveAll s).memOk := .foldl h fun _ _ ht => ht.meetPacket

protected theorem State.memOk.onLink {f : Link → Link} (h : s.memOk) : (s.onLink l f).memOk := h

protected theorem State.memOk.passedOn {ver : Nat} (h : s.memOk) : (passedOn ver s).memOk := h

protected theorem State.memOk.injected (h : s.memOk) : (injected k s).memOk := h

protected theorem State.memOk.flitGoes {j : Sending} (h : s.memOk) : (flitGoes l payload j s).memOk :=
  .guarded (.guarded h.onLink fun h₁ => h₁) fun h₁ => h₁.passedOn

protected theorem State.memOk.transmitNew (h : s.memOk) : (transmitNew l payload s).memOk := by
  unfold transmitNew
  split
  · exact .ite h.flitGoes h
  · split
    · exact .flitGoes h
    · split
      · exact .flitGoes (.injected h)
      · exact .ite h h.onLink

protected theorem State.memOk.transmit
    (h : s.memOk) : (transmit l payload s).memOk := .ite h.onLink (.ite h.transmitNew h)

protected theorem State.memOk.routePacket {dest : Nat} (h : s.memOk) : (routePacket l dest k s).memOk :=
  .ite h h.answerAs.postFault

protected theorem State.memOk.deliverFlit (h : s.memOk) : (deliverFlit l f s).memOk := by
  unfold deliverFlit
  dsimp only
  split
  · split
    · exact h.onLink
    · exact .ite h.onLink.receivePacket h.onLink.routePacket
  · exact h

protected theorem State.memOk.receiveFlit
    (h : s.memOk) : (receiveFlit l f s).memOk := .ite h.onLink.deliverFlit h.onLink

protected theorem State.memOk.laneFails {lane : Nat} (h : s.memOk) : (laneFails l lane s).memOk :=
  .ite h.onLink (.ite h.onLink.postFault (.ite h.onLink.postFault h.onLink.postFault))

protected theorem State.memOk.calibrate {lanes : Nat} (h : s.memOk) : (calibrate l lanes s).memOk := h.onLink

protected theorem State.memOk.retrainDone
    (h : s.memOk) : (retrainDone l s).memOk := .guarded h.onLink fun h₁ => h₁.postFault

protected theorem State.memOk.placeAll {t : State} (h : s.memOk) (ht : placeAll c s = .ok t) : t.memOk := by
  unfold placeAll at ht
  split at ht
  · cases ht
  · next u hu => exact (h.loadPages hu).loadPages ht

protected theorem State.memOk.loadData (h : s.memOk) : (loadData c img s).memOk :=
  h.setMem (List.foldlRecOn (motive := Memory.wf) _ _ (Memory.clear_wf h.mem _ _) fun _ hm _ _ => putBytes_wf hm)

protected theorem State.memOk.enterMapZero {t : State} (h : s.memOk) (ht : enterMapZero c s = .ok t) : t.memOk := by
  unfold enterMapZero at ht
  dsimp only at ht
  split at ht
  · cases ht
  · cases ht
    exact .foldl (.foldl h fun _ _ hu => hu.entryAction) fun _ _ hu => .foldl hu fun _ _ hv => hv.pinPage

protected theorem State.memOk.preloadOne {r : ResRec} {t : State} (h : s.memOk) (ht : preloadOne c r s = some t) :
    t.memOk := by
  unfold preloadOne at ht
  split at ht
  · cases ht
  · dsimp only at ht
    split at ht
    · cases ht
    · split at ht
      · cases ht
      · cases ht
        exact h.onCore.onCore.onCtx.onRes.writeMem

protected theorem State.memOk.preloadAll {i : Nat} {l : List ResRec} {t : State} (h : s.memOk)
    (ht : preloadAll c i l s = .ok t) : t.memOk := by
  induction l generalizing i s with
  | nil => cases ht; exact h
  | cons r l ih =>
    unfold preloadAll at ht
    split at ht
    · split at ht
      · cases ht
      · next u hu => exact ih (h.preloadOne hu) ht
    · exact ih h ht

protected theorem State.memOk.loadImage {t : State} (h : s.memOk) (ht : loadImage c img s = .ok t) : t.memOk := by
  unfold loadImage at ht
  split at ht
  · cases ht
  · split at ht
    · cases ht
    · split at ht
      · cases ht
      · next u hu =>
        split at ht
        · cases ht
        · split at ht
          · cases ht
          · next v hv =>
            split at ht
            · cases ht
            · next w hw =>
              cases ht
              exact ((h.onCtx.placeAll hu).loadData.enterMapZero hv).preloadAll hw

protected theorem State.memOk.loadFile {tenant : Nat} {file : List Byte}
    (h : s.memOk) : (loadFile c tenant file s).memOk := by
  unfold loadFile
  split
  · exact h
  · split
    · exact h
    · next u hu => exact State.memOk.loadImage (t := u) h hu

protected theorem State.memOk.bringUp {b : BootOutcome} (h : s.memOk) : (bringUp b s).memOk := by
  have hreset : State.memOk { State.reset with hostMem := s.hostMem } := State.reset_memOk.setHostMem h.hostMem
  exact .ite hreset (.foldl hreset fun _ _ ht => .ite ht ht.postFault)

protected theorem State.memOk.stopIssue (h : s.memOk) : (stopIssue s).memOk := h

protected theorem State.memOk.policyAct (h : s.memOk) : (policyAct kind s).memOk := .ite h (.ite h.stopIssue (.ite h h))

protected theorem State.memOk.outOfRange {source value : Nat} (h : s.memOk) : (outOfRange kind source value s).memOk :=
  h.postFault.policyAct

protected theorem State.memOk.poisonRow {row : Nat} (h : s.memOk) : (poisonRow row s).memOk := h

end

end Sys2Proof.Machine
end

section
/-!
PROOF. The canonical form of every memory is kept (O60), concluded: the Loom, every instruction and every event, the
turns and the step.
-/

namespace Sys2Proof.Machine

section
variable {s : State} {p st : Nat} {e : Env} {sh : Shape} {s0 : State} {hd : W64}

protected theorem State.memOk.drainedTrap (h : s.memOk) : (drainedTrap p s).memOk := by
  unfold drainedTrap
  split
  · exact h
  · exact .ite h.onCore.takeTrap h

protected theorem State.memOk.landOne {i : Nat} (h : s.memOk) : (landOne p i s).memOk := by
  unfold landOne
  split
  · exact h
  · exact h.onCore

protected theorem State.memOk.startLoom {first : Bool} {i : BitVec 6} {row : W64}
    (h : s.memOk) : (startLoom first s0 e sh i hd row s).memOk :=
  h.onCore.spoilTopk

protected theorem State.memOk.loomRowLand (h : s.memOk) : (loomRowLand p s).memOk := by
  unfold loomRowLand
  split
  · exact h
  · exact .ite h.onCore h

protected theorem State.memOk.loomAccept (h : s.memOk) : (loomAccept p s).memOk := .ite h.onCore h

protected theorem State.memOk.startLmmar {sw : BitVec 1} {off : W64}
    (h : s.memOk) : (startLmmar s0 e sw sh hd off s).memOk :=
  h.onCore

protected theorem State.memOk.rowAdds {n : Nat} {j : LmmarJob} (h : s.memOk) : (rowAdds p j st n s).memOk := by
  induction n generalizing s with
  | zero => exact h
  | succ n ih => exact ih h.engineAdd

protected theorem State.memOk.lmmarRow {n row : Nat} {r : Reply} (h : s.memOk) : (lmmarRow p n row r st s).memOk := by
  unfold lmmarRow
  dsimp only
  split
  · exact h
  · split
    · exact h
    · split
      · exact h.sendPacket.onCore
      · split
        · exact h.sendPacket.onCore
        · refine .ite (.onCore ?_) (.onCore ?_) <;>
            exact .ite h.sendPacket.writeBacking.countTag.countTag h.sendPacket.writeBacking.countTag.countTag.rowAdds

end

/-! ### Instructions and events -/

/-- A write of a predicate register (R110 to R112), by a core or by a stream thread. -/
theorem predWrite_commit_memOk {acts : State → Agent → Bool} {d : BitVec 5}
    {srcs : List (BitVec 6)} {f : State → Env → Pred}
    {s0 s : State} {e : Env} (h : s.memOk) : ((predWrite acts d srcs f).commit s0 e s).memOk := by
  unfold predWrite
  dsimp only
  split
  · exact h.emit
  · exact h.emit

/-- What an instruction of any kind does at commit; the rest of the instructions, and every event, leave the state as
it is. -/
theorem meaningOf_commit_memOk {i : Instr} {s0 s : State} {e : Env}
    (h : s.memOk) : ((meaningOf i).commit s0 e s).memOk := by
  cases i with
  | add | sub | and | or | xor | andn | shl | shr | sra | mul | mulh | mulhn | div | divn | rem | remn | min | max | minn
    | maxn | sel | clz | popc | bfx | addi | andi | ori | xori | shli | shri | srai | muli | liu | lih | pto | call | lidx
    | krd | shrd | exrd | cnrd | pqry | taskw | gwait | vadd | vsub | vmul | vfma | vfms | vmin | vmax | vabs | vneg | vrcp
    | vrsq | vexp2 | vlog2 | vand | vor | vxor | vshl | vshr | vsra | vadds | vsubs | vmov | vsel | vperm | vrsum | vrmax
    | vrmin | vminn | vmaxn | vceq | vcne | vclt | vcle | vcltn | vclen | vcvt | vpack | vunpkl | vunpkh | vrotm | vacr | lds
    | fil | fils | probe => exact h.emit
  | lbrk | kwr | shw | exclr | pubd | spl | spls | pstw | scld | optu | pushix | shsw => exact h.onCore
  | ald | ast | aadd | amin | amax | aminn | amaxn | aand | aor | axchg | acas | bara => exact h.issueAtom
  | cmpeq | cmpne | cmplt | cmple | cmpltn | cmplen | cmpbit | plog | pfrom =>
    exact predWrite_commit_memOk h
  | ccpy | cgth | csct | ctopk => exact h.onCore.acceptCopy
  | loop | loopi => exact h.pushLoop
  | pbeg | pbega => exact h.beginTo
  | pub | pubg => exact h.issuePub
  | vacw | vacc => exact h.emit.spoilTopk
  | stv | sts => exact h.spadPut
  | ldg | ldgs => exact h.issueLoad
  | stg | stgs => exact h.issueStore
  | lmma | lmmaz => exact h.onCore.startLoom
  | rpin | runpin => exact h.onCore.onRes
  | loops => exact h.pushLoop.emit
  | tret => exact h.leaveTrap
  | cnclr => exact h.counterClear
  | keyset => exact .guarded h.fillKey fun h₁ => h₁.askKey
  | keykill => exact h.killKey
  | mapld => exact .guarded h.onCtx fun h₁ => h₁.askImage
  | launch => exact h.enqueue
  | grun => exact h.startReplay
  | patch => exact h.applyPatch
  | mbxw => exact .emit (.ite h h.atomAct)
  | vacz => exact .spoilTopk (.foldl h fun _ _ ht => ht.emit)
  | ldv => exact .guarded h.emit fun h₁ => h₁.spadPut
  | bacq => exact .foldl h.onCore fun _ _ ht => ht.onCore
  | brel => exact h.onCore.releaseCore
  | prfg => exact .ite (.ite h.sendHinted h.cacheRow) h
  | barw => exact .ite h.acquireWord h
  | admitEntry => exact h.addAccess
  | lmmar => exact h.onCore.startLmmar
  | ralloc => exact .issueRequest h.allocate
  | rload => exact h.onCore.startLoad
  | rrev => exact h.onCore.revoke
  | rqry => exact h.issueRequest
  | _ => exact h

/-- Only PADV, the waits for a count and MBXW leave something behind while they wait. -/
theorem meaningOf_hold_memOk {i : Instr} {s0 s : State} {e : Env}
    (h : s.memOk) : ((meaningOf i).hold s0 e s).memOk := by
  cases i with
  | padv => exact h.padvHold
  | taskw | gwait => exact h.fixNow
  | mbxw => exact h.onCtx
  | _ => exact h

theorem meaningOf_keepsMemory (i : Instr) : (meaningOf i).KeepsMemory := ⟨meaningOf_commit_memOk, meaningOf_hold_memOk⟩

theorem slotInOf_keepsMemory (w : Nat × Except Nat Instr) : (slotInOf w).m.KeepsMemory := by
  unfold slotInOf
  split
  · exact meaningOf_keepsMemory _
  · exact .default

/-- The slots of the bundle that a turn issues (R74). -/
theorem slotsAt_keepMemory {l : List (Nat × Except Nat Instr)} : ∀ x ∈ l.map slotInOf, x.m.KeepsMemory := by
  intro x hx
  obtain ⟨w, -, rfl⟩ := List.mem_map.mp hx
  exact slotInOf_keepsMemory w

section
variable {s t : State} {f : State → State} {i : Instr}

theorem finish_memOk (hf : (f s).memOk) (hx : finish s f = .next t) : t.memOk := by
  obtain ⟨-, rfl⟩ := finish_cases hx
  exact hf

theorem happen_memOk {en : State → Bool} (h : s.memOk) (hx : happen en f s = .next t) (hf : (f s).memOk) : t.memOk :=
  finish_memOk (f := fun s => if en s then f s else s) (.ite hf h) hx

theorem exec_event_memOk (hev : i.cls = none) (h : s.memOk) (hx : exec i s = .next t) : t.memOk := by
  unfold exec at hx
  cases i with
  | bundleFetch | loopEnd => exact happen_memOk h hx h.onCore
  | preciseTrap => exact happen_memOk h hx h.drainedTrap
  | resultLand => exact happen_memOk h hx h.landOne
  | scoreboardArrive => exact happen_memOk h hx h.scoreboardArrive
  | loomRowLand => exact happen_memOk h hx h.loomRowLand
  | waitCyclesExpire => exact happen_memOk h hx h.passTo
  | safePointYield => exact happen_memOk h hx h.yieldCore
  | remoteRefusalReturn => exact happen_memOk h hx h.refusalReturn
  | remotePacketReceive => exact happen_memOk h hx h.receivePacket
  | resyncMarker => exact happen_memOk h hx h.clearFlows
  | scldAppend => exact happen_memOk h hx h.scldAppend
  | engineRowLand p u j row r st =>
    refine happen_memOk h hx ?_
    split
    · exact h.optuBlock
    · exact h.copyRow
  | engineComplete p u j st =>
    refine happen_memOk h hx ?_
    split
    · exact h.completeOptu
    · exact h.completeCopy
  | lmmarRow => exact happen_memOk h hx h.lmmarRow
  | pstwLand => exact happen_memOk h hx h.pstwLand
  | rloadComplete => exact happen_memOk h hx h.rloadComplete
  | rrevDrain => exact happen_memOk h hx h.rrevDrain
  | pubdComplete => exact happen_memOk h hx h.pubdComplete
  | mapldComplete => exact happen_memOk h hx h.mapldComplete
  | reeveChunkCopy => exact happen_memOk h hx h.reeveStep
  | phaseCommit => exact happen_memOk h hx h.commitPhase
  | pageDemote => exact happen_memOk h hx h.demote
  | pagePromote => exact happen_memOk h hx h.promotePage.serveAll.serveHost
  | pageRequest => exact happen_memOk h hx h.pageRequest
  | pageAnswer => exact happen_memOk h hx h.pageAnswer
  | faultRecordWrite => exact happen_memOk h hx h.writeHeld
  | taskDispatch => exact happen_memOk h hx h.dispatch
  | gateOpen => exact happen_memOk h hx h.gateOpen
  | taskEnd => exact happen_memOk h hx h.taskEnd
  | bankStall => exact happen_memOk h hx h.bankStall
  | streamThreadHalted | yieldOverdue => exact happen_memOk h hx h.onCtx.postFault
  | saveCommand => exact happen_memOk h hx h.saveCommand
  | saveRecordWrite => exact happen_memOk h hx h.saveRecordWrite
  | restoreCommand => exact happen_memOk h hx h.restoreCommand
  | endCommand => exact happen_memOk h hx h.endCommand
  | contextLoad => exact happen_memOk h hx h.loadFile
  | mgmtDescribeCxl => exact happen_memOk h hx h.mailDescribe
  | mgmtLoadFirmware => exact happen_memOk h hx h.mailFirmware
  | mgmtReadTelemetry => exact happen_memOk h hx h.mailTelemetry
  | mgmtTenantTeardown => exact happen_memOk h hx h.mailTeardown
  | mgmtSetMgmtWindow => exact happen_memOk h hx h.mailWindow
  | mgmtBindSharedBase => exact happen_memOk h hx h.mailBind
  | mgmtUnknownCommand => exact happen_memOk h hx h.mailUnknown
  | hostRegisterWrite => exact happen_memOk h hx h.hostWrite
  | tableStatusClear | atsInvalidate | memoryRefresh | telemetrySample | hostReleaseStop => exact happen_memOk h hx h
  | hostCounterClear => exact happen_memOk h hx h.hostCounterClear
  | rotaSwitchRequest => exact happen_memOk h hx h.rotaRequest
  | rotaSwitch => exact happen_memOk h hx h.settleRota
  | routingSelect => exact happen_memOk h hx h.routeSelect
  | routingValidate => exact happen_memOk h hx h.routeValidate
  | routingRetire => exact happen_memOk h hx h.routeRetire
  | hostBar2Load => exact happen_memOk h hx h.bar2Load
  | hostBar2Write => exact happen_memOk h hx h.bar2Write
  | hostAtomicop => exact happen_memOk h hx h.bar2Atomic
  | flitTransmit => exact happen_memOk h hx h.transmit
  | flitReceive => exact happen_memOk h hx h.receiveFlit
  | laneFailure => exact happen_memOk h hx h.laneFails
  | linkRetrainDone => exact happen_memOk h hx h.retrainDone
  | linkCalibration => exact happen_memOk h hx h.calibrate
  | supplyOutOfRange | coolantOutOfRange => exact happen_memOk h hx h.outOfRange
  | scrub => exact happen_memOk h hx (.ite h.poisonRow.postFault h)
  | cxlError => exact happen_memOk h hx (.postFault (.ite h.poisonRow h))
  | loomAccept => exact happen_memOk h hx h.loomAccept
  | acknowledgementReturn => exact happen_memOk h hx h.acknowledge
  | hostLinkRetrain => exact happen_memOk h hx h.onLink
  | contextUnload => exact happen_memOk h hx h.unloadCtx
  | powerOnReset b =>
    cases hx
    exact h.bringUp
  | _ => cases hev

/-- An instruction or an event, whatever its outcome. -/
theorem exec_memOk (h : s.memOk) (hx : exec i s = .next t) : t.memOk := by
  by_cases hev : i.cls = none
  · exact exec_event_memOk hev h hx
  · rw [exec_eq_issueOne i s hev] at hx
    exact finish_memOk (.issueFor (meaningOf_keepsMemory i) h) hx

end

/-! ### Turns -/

section
variable {s : State} {p c : Nat}

protected theorem State.memOk.popTurn (h : s.memOk) : (popTurn s).memOk := h

protected theorem State.memOk.tick (h : s.memOk) : (tick s).memOk := h.passTo

protected theorem State.memOk.missFetch (h : s.memOk) : (missFetch p s).memOk := .ite h.onCore h

protected theorem State.memOk.startTurn (h : s.memOk) : (startTurn p s).memOk := h.passTo.onCore

protected theorem State.memOk.issueMany (h : s.memOk) : (issueMany p s).memOk := .issueCore slotsAt_keepMemory h.onCore

protected theorem State.memOk.fetchFault (h : s.memOk) : (fetchFault p s).memOk := h.fatalCore

protected theorem State.memOk.atSlot {k : Nat} (h : s.memOk) : (atSlot p k s).memOk := h

protected theorem State.memOk.otherTurn
    (h : s.memOk) : (otherTurn p s).memOk := .ite h.yieldCore (.ite h.issueMany h.fetchFault)

protected theorem State.memOk.startThread (h : s.memOk) : (startThread c s).memOk := h.passTo

protected theorem State.memOk.threadFault (h : s.memOk) : (threadFault c s).memOk := h.fatalThread

protected theorem State.memOk.badWord (h : s.memOk) : (badWord c s).memOk := by
  unfold badWord
  split
  · exact .issueThread .default h
  · exact h.threadFault

protected theorem State.memOk.atThread (h : s.memOk) : (atThread c s).memOk := h

end

section
variable {s t : State}

theorem stepCore_memOk {p : Nat} (h : s.memOk) (hx : stepCore p s = .next t) : t.memOk := by
  unfold stepCore at hx
  split at hx
  · split at hx
    · exact exec_memOk h.startTurn.atSlot hx
    · exact finish_memOk h.startTurn.otherTurn hx
  · exact finish_memOk h hx

theorem stepThread_memOk {c : Nat} (h : s.memOk) (hx : stepThread c s = .next t) : t.memOk := by
  unfold stepThread at hx
  split at hx
  · split at hx
    · exact exec_memOk h.startThread.atThread hx
    · exact finish_memOk h.startThread.badWord hx
  · exact finish_memOk h hx

theorem step_memOk (h : s.memOk) (hx : step s = .next t) : t.memOk := by
  unfold step at hx
  split at hx
  · exact stepCore_memOk h.popTurn hx
  · exact stepThread_memOk h.popTurn hx
  · exact finish_memOk h.popTurn.tick hx
  · exact finish_memOk h.popTurn.missFetch hx
  · exact finish_memOk h.popTurn.hostRead hx
  · exact finish_memOk h.popTurn.sizeBar hx
  · exact finish_memOk h.popTurn.enableVfs hx
  · exact finish_memOk h.popTurn.bindVfs hx
  · exact finish_memOk h.popTurn.doeMessage hx
  · exact finish_memOk h.popTurn.memError hx
  · exact exec_memOk h.popTurn hx

end

/-- Settles O60: whatever turn or event the step is, the operations it is made of keep the form. -/
theorem stepKeepsMemoryForm : Obligations.StepKeepsMemoryForm := by
  unfold Obligations.StepKeepsMemoryForm
  exact fun _ _ => step_memOk

end Sys2Proof.Machine
end

section
/-!
PROOF. The operations of the scalar slots as bit-vector operations of every width (R105 to R107): `AluOp.ComputedBy` says that one
computes the other, and `AluOp.ComputedBy.aluResult_eq` takes it to the two widths of an instruction.
-/

namespace Sys2Proof.Machine

/-! ### Integers of a width (R27) -/

theorem wrap_eq_toNat_ofInt (w : Nat) (z : Int) : wrap w z = (BitVec.ofInt w z).toNat :=
  (BitVec.toNat_ofInt z).symm

theorem toSigned_toNat {w : Nat} (hw : 0 < w) (x : BitVec w) : toSigned w x.toNat = x.toInt := by
  have hpow : 2 ^ w = 2 * 2 ^ (w - 1) := by rw [← pow_succ', Nat.sub_add_cancel hw]
  rw [toSigned, BitVec.toInt_eq_toNat_cond, hpow]
  split_ifs <;> omega

/-! ### The values of an operation at both widths (R105) -/

/-- `f` computes the values of the operation `o` on operands of every width (R105 to R107). -/
def AluOp.ComputedBy (o : AluOp) (f : (m : Nat) → BitVec m → BitVec m → BitVec m) : Prop :=
  ∀ m, 0 < m → ∀ x y : BitVec m, aluValue o m x.toNat y.toNat = (f m x y).toNat

section
variable {o : AluOp} {f : (m : Nat) → BitVec m → BitVec m → BitVec m}

/-- A 32-bit result extended to the register (R105). -/
theorem extend32_toNat (zero : Bool) (r : W32) :
    extend32 zero r.toNat = if zero then r.setWidth 64 else r.signExtend 64 := by
  cases zero
  · simp [extend32]
  · exact BitVec.eq_of_toNat_eq (by simp [extend32])

/-- The register value of an instruction is that of the bit-vector operation at the width that `w` selects. -/
theorem AluOp.ComputedBy.aluResult_eq (h : o.ComputedBy f) (w : BitVec 1) (x y : W64) :
    aluResult o w x y = atWidth w o.zeroExt f x y := by
  have hlow (z : W64) : z.toNat % 2 ^ 32 = (z.setWidth 32).toNat := (BitVec.toNat_setWidth 32 z).symm
  rw [aluResult, atWidth, hlow, hlow, h 64 (by decide), h 32 (by decide), extend32_toNat, BitVec.ofNat_toNat, BitVec.setWidth_eq]

end

/-! ### Sums, logic, shifts (R105) -/

theorem computedBy_sub : AluOp.sub.ComputedBy (fun _ x y => x - y) := by
  intro m _ x y
  show wrap m ((x.toNat : Int) - y.toNat) = (x - y).toNat
  rw [wrap_eq_toNat_ofInt, Int.sub_eq_add_neg, BitVec.ofInt_add, BitVec.ofInt_neg, BitVec.ofInt_natCast, BitVec.ofInt_natCast,
    BitVec.ofNat_toNat, BitVec.ofNat_toNat, BitVec.setWidth_eq, BitVec.setWidth_eq, BitVec.sub_eq_add_neg]

theorem computedBy_and : AluOp.and.ComputedBy (fun _ x y => x &&& y) :=
  fun _ _ x y => (BitVec.toNat_and x y).symm

theorem computedBy_or : AluOp.or.ComputedBy (fun _ x y => x ||| y) :=
  fun _ _ x y => (BitVec.toNat_or x y).symm

theorem computedBy_andn : AluOp.andn.ComputedBy (fun _ x y => x &&& ~~~y) := by
  intro m _ x y
  show x.toNat &&& _ = _
  rw [BitVec.toNat_and, BitVec.toNat_not]

theorem computedBy_shl : AluOp.shl.ComputedBy (fun m x y => x <<< (y.toNat % m)) := by
  intro m _ x y
  show x.toNat * _ % _ = _
  rw [BitVec.toNat_shiftLeft, Nat.shiftLeft_eq]

theorem computedBy_shr : AluOp.shr.ComputedBy (fun m x y => x >>> (y.toNat % m)) := by
  intro m _ x y
  show x.toNat / _ = _
  rw [BitVec.toNat_ushiftRight, Nat.shiftRight_eq_div_pow]

theorem computedBy_sra : AluOp.sra.ComputedBy (fun m x y => x.sshiftRight (y.toNat % m)) := by
  intro m hm x y
  show wrap m (toSigned m x.toNat / (2 ^ (y.toNat % m) : Nat)) = (BitVec.ofInt m (x.toInt >>> (y.toNat % m))).toNat
  rw [wrap_eq_toNat_ofInt, toSigned_toNat hm, Int.shiftRight_eq_div_pow]

/-! ### Products (R105) -/

theorem computedBy_mul : AluOp.mul.ComputedBy (fun _ x y => x * y) :=
  fun _ _ x y => (BitVec.toNat_mul x y).symm

theorem computedBy_mulhn : AluOp.mulhn.ComputedBy
    (fun m x y => ((x.setWidth (2 * m) * y.setWidth (2 * m)) >>> m).setWidth m) := by
  intro m _ x y
  show x.toNat * y.toNat / 2 ^ m = _
  have hlt : x.toNat * y.toNat < 2 ^ m * 2 ^ m := Nat.mul_lt_mul'' x.isLt y.isLt
  have hle : 2 ^ m ≤ 2 ^ (2 * m) := Nat.pow_le_pow_right (by decide) (by omega)
  have hsq : 2 ^ (2 * m) = 2 ^ m * 2 ^ m := by rw [← pow_add, two_mul]
  rw [BitVec.toNat_setWidth, BitVec.toNat_ushiftRight, BitVec.toNat_mul, BitVec.toNat_setWidth, BitVec.toNat_setWidth,
    Nat.shiftRight_eq_div_pow, Nat.mod_eq_of_lt (x.isLt.trans_le hle), Nat.mod_eq_of_lt (y.isLt.trans_le hle), hsq,
    Nat.mod_eq_of_lt hlt, Nat.mod_eq_of_lt (Nat.div_lt_of_lt_mul hlt)]

/-- The second digit to the base `a` survives cutting to two digits. -/
theorem emod_square_ediv_emod (z : Int) {a : Int} (ha : a ≠ 0) : z % (a * a) / a % a = z / a % a := by
  rw [Int.emod_def z, Int.mul_assoc, Int.sub_mul_ediv_left _ _ ha, Int.sub_mul_emod_self_left]

theorem computedBy_mulh : AluOp.mulh.ComputedBy
    (fun m x y => ((x.signExtend (2 * m) * y.signExtend (2 * m)) >>> m).setWidth m) := by
  intro m hm x y
  have hpos : (0 : Int) < (2 ^ m : Nat) := by exact_mod_cast Nat.two_pow_pos m
  have hsq : ((2 ^ (2 * m) : Nat) : Int) = (2 ^ m : Nat) * (2 ^ m : Nat) := by rw [two_mul, pow_add, Int.natCast_mul]
  show wrap m (toSigned m x.toNat * toSigned m y.toNat / (2 ^ m : Nat)) =
    (((BitVec.ofInt (2 * m) x.toInt * BitVec.ofInt (2 * m) y.toInt) >>> m).setWidth m).toNat
  rw [toSigned_toNat hm, toSigned_toNat hm, ← BitVec.ofInt_mul, BitVec.toNat_setWidth, BitVec.toNat_ushiftRight,
    BitVec.toNat_ofInt, Nat.shiftRight_eq_div_pow, wrap, hsq, ← emod_square_ediv_emod _ hpos.ne']
  refine Int.natCast_inj.mp ?_
  rw [Int.natCast_emod, Int.natCast_ediv, Int.toNat_of_nonneg (Int.emod_nonneg _ hpos.ne'),
    Int.toNat_of_nonneg (Int.emod_nonneg _ (mul_pos hpos hpos).ne')]

/-! ### Minima and maxima (R105); of two equal values either is the result -/

theorem computedBy_min : AluOp.min.ComputedBy (fun _ x y => if x.sle y then x else y) := by
  intro m hm x y
  show (if toSigned m y.toNat < toSigned m x.toNat then y.toNat else x.toNat) = (if x.sle y then x else y).toNat
  rw [toSigned_toNat hm, toSigned_toNat hm, BitVec.sle_eq_decide, apply_ite BitVec.toNat]
  simp only [decide_eq_true_eq, ← not_lt, ite_not]

theorem computedBy_max : AluOp.max.ComputedBy (fun _ x y => if x.sle y then y else x) := by
  intro m hm x y
  show (if toSigned m x.toNat < toSigned m y.toNat then y.toNat else x.toNat) = (if x.sle y then y else x).toNat
  rw [toSigned_toNat hm, toSigned_toNat hm, BitVec.sle_eq_decide, apply_ite BitVec.toNat]
  simp only [decide_eq_true_eq]
  obtain hlt | heq | hgt := lt_trichotomy x.toInt y.toInt
  · rw [if_pos hlt, if_pos hlt.le]
  · rw [BitVec.toInt_inj.mp heq, ite_self, ite_self]
  · rw [if_neg hgt.not_gt, if_neg hgt.not_ge]

theorem computedBy_minn : AluOp.minn.ComputedBy (fun _ x y => if x.ule y then x else y) := by
  intro m _ x y
  show (if y.toNat < x.toNat then y.toNat else x.toNat) = (if x.ule y then x else y).toNat
  rw [BitVec.ule_eq_decide, apply_ite BitVec.toNat]
  simp only [decide_eq_true_eq, ← not_lt, ite_not]

theorem computedBy_maxn : AluOp.maxn.ComputedBy (fun _ x y => if x.ule y then y else x) := by
  intro m _ x y
  show (if x.toNat < y.toNat then y.toNat else x.toNat) = (if x.ule y then y else x).toNat
  rw [BitVec.ule_eq_decide, apply_ite BitVec.toNat]
  simp only [decide_eq_true_eq]
  obtain hlt | heq | hgt := lt_trichotomy x.toNat y.toNat
  · rw [if_pos hlt, if_pos hlt.le]
  · rw [heq, ite_self, ite_self]
  · rw [if_neg hgt.not_gt, if_neg hgt.not_ge]

/-! ### Divisions (R107) -/

theorem computedBy_div : AluOp.div.ComputedBy (fun m x y => if y = 0 then BitVec.allOnes m else x.sdiv y) := by
  intro m hm x y
  show wrap m (quot (toSigned m x.toNat) (toSigned m y.toNat)) = (if y = 0 then BitVec.allOnes m else x.sdiv y).toNat
  rw [wrap_eq_toNat_ofInt, toSigned_toNat hm, toSigned_toNat hm, quot]
  congr 1
  split_ifs with h0 hy hy
  · rw [← BitVec.neg_one_eq_allOnes, BitVec.ofInt_neg]; rfl
  · exact absurd (BitVec.toInt_inj.mp (h0.trans BitVec.toInt_zero.symm)) hy
  · exact absurd (by rw [hy]; exact BitVec.toInt_zero) h0
  · rw [← BitVec.toInt_inj, BitVec.toInt_sdiv, BitVec.toInt_ofInt]

theorem computedBy_divn : AluOp.divn.ComputedBy (fun m x y => if y = 0 then BitVec.allOnes m else x / y) := by
  intro m _ x y
  show (if y.toNat = 0 then 2 ^ m - 1 else x.toNat / y.toNat) = (if y = 0 then BitVec.allOnes m else x / y).toNat
  rw [apply_ite BitVec.toNat, BitVec.toNat_allOnes, BitVec.toNat_udiv]
  simp only [← BitVec.toNat_inj]
  rfl

theorem computedBy_rem : AluOp.rem.ComputedBy (fun _ x y => if y = 0 then x else x.srem y) := by
  intro m hm x y
  show wrap m (remainder (toSigned m x.toNat) (toSigned m y.toNat)) = (if y = 0 then x else x.srem y).toNat
  rw [wrap_eq_toNat_ofInt, toSigned_toNat hm, toSigned_toNat hm, remainder, ← Int.tmod_def, ← BitVec.toInt_srem]
  congr 1
  split_ifs with h0 hy hy
  · exact BitVec.ofInt_toInt
  · exact absurd (BitVec.toInt_inj.mp (h0.trans BitVec.toInt_zero.symm)) hy
  · exact absurd (by rw [hy]; exact BitVec.toInt_zero) h0
  · exact BitVec.ofInt_toInt

theorem computedBy_remn : AluOp.remn.ComputedBy (fun _ x y => if y = 0 then x else x % y) := by
  intro m _ x y
  show (if y.toNat = 0 then x.toNat else x.toNat % y.toNat) = (if y = 0 then x else x % y).toNat
  rw [apply_ite BitVec.toNat, BitVec.toNat_umod]
  simp only [← BitVec.toNat_inj]
  rfl

/-! ### Counts and fields (R105, R106) -/

/-- The zeros above the leading one bit. -/
theorem bitLen_toNat {m : Nat} (hm : 0 < m) (x : BitVec m) : m - bitLen x.toNat = x.clz.toNat := by
  by_cases hx : x = 0#m
  · rw [BitVec.clz_eq_iff_eq_zero.mpr hx, hx, BitVec.toNat_zero, BitVec.natCast_eq_ofNat, BitVec.toNat_ofNat, Nat.mod_eq_of_lt Nat.lt_two_pow_self]
    rfl
  · have hne : x.toNat ≠ 0 := fun h => hx (BitVec.eq_of_toNat_eq h)
    have hlt : x.clz.toNat < m := by
      have := BitVec.clz_lt_iff_ne_zero.mpr hx
      rwa [BitVec.lt_def, BitVec.natCast_eq_ofNat, BitVec.toNat_ofNat, Nat.mod_eq_of_lt Nat.lt_two_pow_self] at this
    have hlog : x.toNat.log2 = m - 1 - x.clz.toNat := (Nat.log2_eq_iff hne).mpr
      ⟨BitVec.two_pow_sub_clz_le_toNat_of_ne_zero hm hx, by
        rw [show m - 1 - x.clz.toNat + 1 = m - x.clz.toNat by omega]
        exact BitVec.toNat_lt_two_pow_sub_clz⟩
    rw [bitLen, if_neg hne, hlog]
    omega

theorem computedBy_clz : AluOp.clz.ComputedBy (fun _ x _ => x.clz) := fun _ hm x _ => bitLen_toNat hm x

/-- The one bits below bit `n`. -/
theorem popCount_toNat {m : Nat} (x : BitVec m) (n : Nat) : popCount x.toNat n = x.cpopNatRec n 0 := by
  induction n with
  | zero => rfl
  | succ n ih =>
    rw [popCount, ih, BitVec.cpopNatRec_succ, BitVec.cpopNatRec_eq (0 + _), Nat.zero_add, BitVec.getLsbD, Nat.toNat_testBit]

theorem computedBy_popc : AluOp.popc.ComputedBy (fun _ x _ => x.cpop) := fun m _ x _ =>
  (popCount_toNat x m).trans (BitVec.toNat_cpop x).symm

theorem computedBy_bfx : AluOp.bfx.ComputedBy
    (fun m x y => (x >>> (y.toNat % m)) &&& BitVec.ofNat m (2 ^ (y.toNat / 256 % m + 1) - 1)) := by
  intro m hm x y
  have hlen : y.toNat / 256 % m + 1 ≤ m := Nat.mod_lt _ hm
  have hmask : 2 ^ (y.toNat / 256 % m + 1) - 1 < 2 ^ m :=
    Nat.lt_of_lt_of_le (Nat.sub_one_lt (Nat.two_pow_pos _).ne') (Nat.pow_le_pow_right (by decide) hlen)
  show x.toNat / 2 ^ (y.toNat % m) % 2 ^ (y.toNat / 256 % m + 1) = _
  rw [BitVec.toNat_and, BitVec.toNat_ushiftRight, BitVec.toNat_ofNat, Nat.mod_eq_of_lt hmask, Nat.and_two_pow_sub_one_eq_mod,
    Nat.shiftRight_eq_div_pow]

end Sys2Proof.Machine
end

section
/-!
PROOF. Scalar arithmetic, divisions, immediates, constants, compares and predicates (R105 to R112): what each instruction alone in its
bundle sends. The facts about an instruction that hold by `rfl` are plain arguments and not arguments with a default tactic: to run such a
tactic Lean waits for the kernel to check all that stands before it, with a thread and its stack held by each theorem that waits.
-/

namespace Sys2Proof.Machine

/-! ### What a scalar instruction sends (R105 to R109) -/

section
variable {i : Instr} {s : State} {p k : Nat} {g : BitVec 5} {n : BitVec 1} {d a b : BitVec 6} {w : BitVec 1}

/-- A register instruction with two operands that nothing holds back sends the value of its operation. -/
theorem exec_alu (o : AluOp) (hi : Issues s p k) (hon : guardN g n s (.core p) = true)
    (hf : Settled s p [destS a, destS b, destS d]) (hm : meaningOf i = mAlu o g n d a b w)
    (hg : guardOf i = some (g, n)) (hw : i.detail = none) :
    exec i s = .next (givesS s p k d (aluResult o w (readS s p a) (readS s p b)) o.bound (o.flags w (readS s p b))) :=
  exec_scalarWrite (cls_of_guardOf hg) hm hi hw (streamOnly_of_guardOf hg) hon hf

/-- A register instruction with one operand that nothing holds back sends the value of its operation. -/
theorem exec_alu1 (o : AluOp) (hi : Issues s p k) (hon : guardN g n s (.core p) = true)
    (hf : Settled s p [destS a, destS d]) (hm : meaningOf i = mAlu1 o g n d a w)
    (hg : guardOf i = some (g, n)) (hw : i.detail = none) :
    exec i s = .next (givesS s p k d (aluResult o w (readS s p a) 0) o.bound 0) :=
  exec_scalarWrite (cls_of_guardOf hg) hm hi hw (streamOnly_of_guardOf hg) hon hf

/-- The low half of a register, extended as R105 says. -/
theorem extend32_low (zero : Bool) (x : W64) :
    extend32 zero (x.toNat % 2 ^ 32) = if zero then (x.setWidth 32).setWidth 64 else (x.setWidth 32).signExtend 64 := by
  rw [← extend32_toNat, BitVec.toNat_setWidth]

/-- SEL chooses by its predicate and is not guarded by it (R105). -/
theorem exec_sel (hi : Issues s p k) (hf : Settled s p [destS a, destS b, destS d]) :
    exec (.sel g n d a b w) s = .next (givesS s p k d
      (atWidth w false (fun _ x y => if guardN g n s (.core p) then x else y) (readS s p a) (readS s p b)) 1 0) := by
  have hsel : exec (.sel g n d a b w) s = .next (givesS s p k d
      (let x := if guardN g n s (.core p) then readS s p a else readS s p b
       if w = 0 then x else extend32 false (x.toNat % 2 ^ 32)) 1 0) :=
    exec_scalarWrite (i := .sel g n d a b w) (Option.some_ne_none _) rfl hi rfl rfl rfl hf
  rw [hsel, atWidth]
  cases guardN g n s (.core p) <;> simp only [extend32_low, Bool.false_eq_true, if_true, if_false]

/-- An immediate instruction that nothing holds back sends the value of its operation. -/
theorem exec_imm (o : ImmOp) {m : BitVec 13} (hi : Issues s p k) (hf : Settled s p [destS a, destS d]) (hw : i.detail = none)
    (hm : meaningOf i = mImm o d a m) (hcls : i.cls = some .scalar) (hs : i.streamOnly = false) :
    exec i s = .next (givesS s p k d (immResult o (readS s p a) m) o.bound 0) :=
  exec_scalarWrite (by rw [hcls]; exact Option.some_ne_none _) hm hi hw hs rfl hf

end

/-! ### Arithmetic (R105 to R107) -/

/-- A division raises divide-by-zero when the divisor is zero at its width (R107). -/
theorem flags_div {o : AluOp} (ho : o = .div ∨ o = .divn ∨ o = .rem ∨ o = .remn) (w : BitVec 1) (y : W64) :
    o.flags w y = if (if w = 0 then y == 0 else y.setWidth 32 == (0 : W32)) then flagDivZero else 0 := by
  have hlow : y.toNat % 2 ^ 32 = (y.setWidth 32).toNat := (BitVec.toNat_setWidth 32 y).symm
  have hflag {m : Nat} (x : BitVec m) : divFlag x.toNat = if x == 0 then flagDivZero else 0 := by
    simp only [divFlag, beq_iff_eq, ← BitVec.toNat_inj]
    rfl
  have hfl : o.flags w y = divFlag (if w = 0 then y.toNat else y.toNat % 2 ^ 32) := by
    rcases ho with rfl | rfl | rfl | rfl <;> rfl
  rw [hfl, hlow]
  by_cases hw : w = 0
  · rw [if_pos hw, if_pos hw]
    exact hflag y
  · rw [if_neg hw, if_neg hw]
    exact hflag (y.setWidth 32)

/-- Settles O1: each instruction sends the value of its operation (`exec_alu`), which the bit-vector operation of its row computes at
both widths (`AluOp.ComputedBy.aluResult_eq`). -/
theorem registerArithmeticResults : Obligations.RegisterArithmeticResults := by
  unfold Obligations.RegisterArithmeticResults
  intro s p k g n d a b w hi hon hf gives
  have sends (o : AluOp) {i : Instr} {f : (m : Nat) → BitVec m → BitVec m → BitVec m}
      (ho : ∀ x y, aluResult o w x y = atWidth w o.zeroExt f x y) (hm : meaningOf i = mAlu o g n d a b w)
      (hfl : o.flags w (readS s p b) = 0) (hg : guardOf i = some (g, n)) (hw : i.detail = none) : exec i s = gives o.zeroExt o.bound f := by
    rw [exec_alu o hi hon hf hm hg hw, hfl, ho]
  exact ⟨sends .add (aluResult_add w) rfl rfl rfl rfl, sends .sub (computedBy_sub.aluResult_eq w) rfl rfl rfl rfl,
    sends .and (computedBy_and.aluResult_eq w) rfl rfl rfl rfl, sends .or (computedBy_or.aluResult_eq w) rfl rfl rfl rfl,
    sends .xor (aluResult_xor w) rfl rfl rfl rfl, sends .andn (computedBy_andn.aluResult_eq w) rfl rfl rfl rfl,
    sends .shl (computedBy_shl.aluResult_eq w) rfl rfl rfl rfl, sends .shr (computedBy_shr.aluResult_eq w) rfl rfl rfl rfl,
    sends .sra (computedBy_sra.aluResult_eq w) rfl rfl rfl rfl, sends .mul (computedBy_mul.aluResult_eq w) rfl rfl rfl rfl,
    sends .mulh (computedBy_mulh.aluResult_eq w) rfl rfl rfl rfl, sends .mulhn (computedBy_mulhn.aluResult_eq w) rfl rfl rfl rfl,
    sends .min (computedBy_min.aluResult_eq w) rfl rfl rfl rfl, sends .max (computedBy_max.aluResult_eq w) rfl rfl rfl rfl,
    sends .minn (computedBy_minn.aluResult_eq w) rfl rfl rfl rfl, sends .maxn (computedBy_maxn.aluResult_eq w) rfl rfl rfl rfl⟩

/-- Settles O2: a division sends its value with the flag of a zero divisor (`exec_alu`, `flags_div`); SEL, CLZ, POPC and BFX send theirs
without one (`exec_sel`, `exec_alu1`, `exec_alu`). -/
theorem divisionAndSelectResults : Obligations.DivisionAndSelectResults := by
  unfold Obligations.DivisionAndSelectResults
  refine ⟨fun s p k g n d a b w hi hon hf => ?_,
    fun s p k g n d a b w hi => ⟨exec_sel hi, fun hon hf => ⟨?_, ?_⟩, fun hon hf => ?_⟩⟩
  · intro zeroDivisor gives
    have sends (o : AluOp) {i : Instr} {f : (m : Nat) → BitVec m → BitVec m → BitVec m}
        (ho : o = .div ∨ o = .divn ∨ o = .rem ∨ o = .remn) (hc : o.ComputedBy f)
        (hm : meaningOf i = mAlu o g n d a b w) (hb : o.bound = 20) (hg : guardOf i = some (g, n)) (hw : i.detail = none) :
        exec i s = gives o.zeroExt f := by
      rw [exec_alu o hi hon hf hm hg hw, hc.aluResult_eq, flags_div ho, hb]
    exact ⟨sends .div (by simp) computedBy_div rfl rfl rfl rfl, sends .divn (by simp) computedBy_divn rfl rfl rfl rfl,
      sends .rem (by simp) computedBy_rem rfl rfl rfl rfl, sends .remn (by simp) computedBy_remn rfl rfl rfl rfl⟩
  · rw [exec_alu1 .clz hi hon hf rfl rfl rfl, computedBy_clz.aluResult_eq]
    rfl
  · rw [exec_alu1 .popc hi hon hf rfl rfl rfl, computedBy_popc.aluResult_eq]
    rfl
  · rw [exec_alu .bfx hi hon hf rfl rfl rfl, computedBy_bfx.aluResult_eq]
    rfl

/-! ### Immediates and constants (R108, R109) -/

theorem exec_liu {s : State} {p k : Nat} {d : BitVec 6} {m : BitVec 19} (hi : Issues s p k) (hf : Settled s p [destS d]) :
    exec (.liu d m) s = .next (givesS s p k d (m.setWidth 64) 1 0) :=
  exec_scalarWrite (i := .liu d m) (Option.some_ne_none _) rfl hi rfl rfl rfl hf

theorem exec_lih {s : State} {p k : Nat} {d : BitVec 6} {m : BitVec 19} (hi : Issues s p k) (hf : Settled s p [destS d]) :
    exec (.lih d m) s = .next (givesS s p k d (readS s p d * BitVec.ofNat 64 (2 ^ 19) ||| m.setWidth 64) 1 0) := by
  have hlih : exec (.lih d m) s = .next (givesS s p k d (readS s p d <<< 19 ||| m.setWidth 64) 1 0) :=
    exec_scalarWrite (i := .lih d m) (Option.some_ne_none _) rfl hi rfl rfl rfl (by simpa [Settled] using hf)
  rw [hlih, BitVec.shiftLeft_eq_mul_twoPow]
  rfl

/-- Settles O3: an immediate instruction sends the value of its operation (`exec_imm`); a shift decodes when its amount is below 64. -/
theorem immediateAndConstantResults : Obligations.ImmediateAndConstantResults := by
  unfold Obligations.ImmediateAndConstantResults
  refine ⟨fun s p k d a m hi hf => ?_, fun s p k d m hi hf => ⟨exec_liu hi hf, exec_lih hi hf⟩⟩
  intro gives x
  refine ⟨exec_imm .addi hi hf rfl rfl rfl rfl, exec_imm .andi hi hf rfl rfl rfl rfl, exec_imm .ori hi hf rfl rfl rfl rfl,
    exec_imm .xori hi hf rfl rfl rfl rfl, exec_imm .muli hi hf rfl rfl rfl rfl, fun hlt => ?_⟩
  have hshift : limit (decide (m.toNat < 64)) = none := if_pos (decide_eq_true hlt)
  exact ⟨exec_imm .shli hi hf hshift rfl rfl rfl, exec_imm .shri hi hf hshift rfl rfl rfl, exec_imm .srai hi hf hshift rfl rfl rfl⟩

/-! ### Compares and predicates (R110 to R112) -/

section
variable {i : Instr} {s : State} {p k : Nat} {g : BitVec 5} {n : BitVec 1} {pd : BitVec 5} {a b : BitVec 6}

/-- A compare that nothing holds back sends its relation to every lane. -/
theorem exec_cmp (o : CmpOp) (hi : Issues s p k) (hon : guardN g n s (.core p) = true)
    (hf : Settled s p [destS a, destS b, destP (s.core p) pd]) (hm : meaningOf i = mCmp o g n pd a b)
    (hg : guardOf i = some (g, n)) (hw : i.detail = none) :
    exec i s = .next (givesP s p k pd (predAll (cmpResult o (readS s p a) (readS s p b))) 1) :=
  exec_predWrite (acts := guardN g n) (srcs := [a, b])
    (f := fun s e => predAll (cmpResult o (readAS s e.agent a) (readAS s e.agent b)))
    (cls_of_guardOf hg) hm hi hw (streamOnly_of_guardOf hg) hon hf

/-- PFROM sends lanes 63:0 from s[a] and lanes 127:64 from s[b] (R111). -/
theorem exec_pfrom (hi : Issues s p k) (hon : guardN g n s (.core p) = true)
    (hf : Settled s p [destS a, destS b, destP (s.core p) pd]) :
    exec (.pfrom g n pd a b) s = .next (givesP s p k pd (readS s p b ++ readS s p a) 1) := by
  have hpfrom := exec_predWrite (i := .pfrom g n pd a b) (acts := guardN g n) (srcs := [a, b])
    (f := fun s e => (readAS s e.agent b).setWidth 128 <<< 64 ||| (readAS s e.agent a).setWidth 128)
    (Option.some_ne_none _) rfl hi rfl rfl hon hf
  rw [hpfrom, BitVec.append_def, BitVec.shiftLeftZeroExtend_eq, BitVec.setWidth'_eq]
  rfl

/-- PTO sends the half of the predicate that `w` selects (R111). -/
theorem exec_pto {d : BitVec 6} {w : BitVec 1} (hi : Issues s p k) (hon : guardN g n s (.core p) = true) (hf : Settled s p [destS d])
    (ha : a.toNat < 32) :
    exec (.pto g n d a w) s =
      .next (givesS s p k d (BitVec.extractLsb' (if w = 0 then 0 else 64) 64 (readP s p (a.setWidth 5))) 1 0) := by
  have hpto : exec (.pto g n d a w) s = .next (givesS s p k d
      (let x := readP s p (a.setWidth 5); if w = 0 then x.setWidth 64 else (x >>> 64).setWidth 64) 1 0) :=
    exec_scalarWrite (i := .pto g n d a w) (Option.some_ne_none _) rfl hi (if_pos (decide_eq_true ha)) rfl hon hf
  rw [hpto]
  congr 2
  split_ifs
  · rw [BitVec.setWidth_eq_extractLsb' (by decide)]
  · rw [BitVec.setWidth_ushiftRight_eq_extractLsb]

/-- The number of lanes given as bits has them as its bits. -/
theorem testBit_gather_one (f : Nat → Bool) (n i : Nat) :
    (gather 1 (fun i => (if f i then 1 else 0, 0)) n).1 < 2 ^ n ∧
    (gather 1 (fun i => (if f i then 1 else 0, 0)) n).1.testBit i = (decide (i < n) && f i) := by
  induction n with
  | zero => simp [gather]
  | succ n ih =>
    obtain ⟨hlt, hbit⟩ := ih
    have hlane : (if f n then 1 else 0) % 2 ^ 1 = (f n).toNat := by cases f n <;> rfl
    have hsum : (gather 1 (fun i => (if f i then 1 else 0, 0)) (n + 1)).1 =
        2 ^ n * (f n).toNat + (gather 1 (fun i => (if f i then 1 else 0, 0)) n).1 := by
      rw [gather, hlane, one_mul, Nat.mul_comm, Nat.add_comm]
    rw [hsum]
    refine ⟨?_, ?_⟩
    · have := Bool.toNat_le (f n)
      rw [pow_succ]
      nlinarith
    · rw [Nat.testBit_two_pow_mul_add _ hlt]
      split_ifs with h
      · rw [hbit, decide_eq_true h, decide_eq_true (Nat.lt_succ_of_lt h)]
      · obtain rfl | hgt := Nat.eq_or_lt_of_not_lt h
        · cases f i <;> simp
        · rw [decide_eq_false (by omega : ¬i < n + 1), Bool.false_and]
          exact Nat.testBit_lt_two_pow ((Bool.toNat_lt _).trans_le (Nat.le_self_pow (Nat.sub_ne_zero_of_lt hgt) 2))

/-- Each lane of a predicate built lane by lane (R100). -/
theorem getLsbD_predOf (f : Nat → Bool) (i : Nat) : (predOf f).getLsbD i = (decide (i < 128) && f i) := by
  rw [predOf, BitVec.getLsbD_ofNat, (testBit_gather_one f 128 i).2]
  simp

theorem exec_plog {x y : BitVec 5} {t : BitVec 4} (hi : Issues s p k) (hf : Settled s p [destP (s.core p) pd]) :
    exec (.plog pd x y t) s = .next (givesP s p k pd (plogResult (readP s p x) (readP s p y) t) 1) :=
  exec_predWrite (i := .plog pd x y t) (acts := fun _ _ => true) (srcs := [])
    (f := fun s e => plogResult (readAP s e.agent x) (readAP s e.agent y) t) (Option.some_ne_none _) rfl hi rfl rfl rfl hf

end

/-- A result for p0 is discarded (R100). -/
theorem givesP_zero (s : State) (p k : Nat) (r : Pred) : givesP s p k 0 r 1 = after s p id := by
  rfl

/-- Settles O4: each instruction sends its predicate or half (`exec_cmp`, `exec_pfrom`, `exec_pto`, `exec_plog`), one whose guard is false
does nothing (`exec_guarded`), and the opcodes are those of the encoder's formats. -/
theorem comparesAndPredicates : Obligations.ComparesAndPredicates := by
  unfold Obligations.ComparesAndPredicates
  refine ⟨fun s p k g n pd a b hi hon hf => ?_, fun s p k g n pd a b d w x y t hi => ⟨fun hon => exec_pfrom hi hon,
    fun hon => exec_pto hi hon, fun hf => ⟨_, exec_plog hi hf, fun i hlt => ?_⟩⟩, fun s p k g n pd a b d w hi hoff => ?_,
    givesP_zero, fun g n pd a b d w x y t => ?_⟩
  · intro gives x y
    have sends (o : CmpOp) {i : Instr} {r : Bool} (ho : cmpResult o x y = r) (hm : meaningOf i = mCmp o g n pd a b)
        (hg : guardOf i = some (g, n)) (hw : i.detail = none) : exec i s = gives r := by
      rw [exec_cmp o hi hon hf hm hg hw, ho]
      rfl
    exact ⟨sends .eq (beq_eq_decide ..) rfl rfl rfl, sends .ne (by rw [decide_not, ← beq_eq_decide]; rfl) rfl rfl rfl,
      sends .lt (BitVec.slt_eq_decide ..) rfl rfl rfl, sends .le (BitVec.sle_eq_decide ..) rfl rfl rfl,
      sends .ltn (BitVec.ult_eq_decide ..) rfl rfl rfl, sends .len (BitVec.ule_eq_decide ..) rfl rfl rfl, sends .bit rfl rfl rfl rfl⟩
  · rw [plogResult, getLsbD_predOf, decide_eq_true hlt]
    rfl
  · intro nothing
    have off {i : Instr} (hg : guardOf i = some (g, n)) (hw : i.detail = none) (hc : stateChecked i = false)
        (hp : needsPort i = false) : nothing i :=
      exec_guarded (cls_of_guardOf hg) hi hw (streamOnly_of_guardOf hg) (decode_meaningOf hc s p)
        (fun h => by rw [port_meaningOf, hp] at h; cases h) (by rw [acts_meaningOf hg, hoff])
    exact ⟨off rfl rfl rfl rfl, off rfl rfl rfl rfl, off rfl rfl rfl rfl, off rfl rfl rfl rfl, off rfl rfl rfl rfl, off rfl rfl rfl rfl,
      off rfl rfl rfl rfl, off rfl rfl rfl rfl, fun ha => off rfl (if_pos (decide_eq_true ha)) rfl rfl⟩
  · intro op
    exact ⟨(encSC_eq_iff.mp rfl).1, (encSC_eq_iff.mp rfl).1, (encSC_eq_iff.mp rfl).1, (encSC_eq_iff.mp rfl).1,
      (encSC_eq_iff.mp rfl).1, (encSC_eq_iff.mp rfl).1, (encSC_eq_iff.mp rfl).1, (encPlog_eq_iff.mp rfl).1,
      (encSC_eq_iff.mp rfl).1, (encSR_eq_iff.mp rfl).1⟩

end Sys2Proof.Machine
end

section
/-!
PROOF. Control transfers and loops (R113 to R120): where each goes, what it does to the loop stack, and its traps.
-/

namespace Sys2Proof.Machine

/-! ### A bundle of one instruction that transfers control (R113, R118) -/

/-- A change of a core that keeps its PC. -/
theorem Changed.of_onCore {s : State} {p : Nat} {f : Core → Core} (hpc : (f (s.core p)).pc = (s.core p).pc) :
    Changed s p f (s.onCore p f) :=
  ⟨fun g => State.onCore_onCore s p f g, by rw [State.core_onCore_self, hpc], rfl⟩

/-- The state after a bundle that has changed its own core alone and transfers control. -/
theorem Changed.retire_to {u s : State} {p : Nat} {f : Core → Core} (hs : Changed u p f s) (t : Int) :
    drawn u (Machine.retire p u.header (.jump t) s) = afterTo u p t f := by
  simp only [Machine.retire, hs.onCore, hs.cycle, afterTo]
  rfl

/-- What the model says of a scalar instruction that any bundle may hold: its meaning, its class, and that it needs no port. -/
structure ScalarMeaning (i : Instr) (m : Meaning) : Prop where
  meaning : meaningOf i = m
  cls     : i.cls = some .scalar
  stream  : i.streamOnly = false
  port    : m.port = false

section
variable {i : Instr} {m : Meaning} {s : State} {p k : Nat} {f : Core → Core} {t : Int}

/-- A scalar instruction alone that nothing holds back. -/
theorem ScalarMeaning.alone (h : ScalarMeaning i m) (hi : Issues s p k) (ha : m.acts s (.core p) = true)
    (hf : Settled s p (m.srcs (s.core p) ++ m.dests (s.core p))) (hw : i.detail = none) (hd : m.decode s p = none)
    (hr : m.ready s (soleEnv s p k m.pushes) = true) : Alone i m s p k where
  issues := hi
  meaning := h.meaning
  cls := by rw [h.cls]; exact Option.some_ne_none _
  detail := hw
  stream := h.stream
  decode := hd
  port := h.port
  acts := ha
  settled := hf
  ready := hr

/-- An instruction alone that changes its own core and transfers control. -/
theorem Alone.jumps (h : Alone i m s p k) (hf : Changed s p f (m.commit s (soleEnv s p k m.pushes) s))
    (hn : m.next s (soleEnv s p k m.pushes) = .jump t) (hc : m.check s (soleEnv s p k m.pushes) = none) (hk : m.rank = 0) :
    exec i s = .next (afterTo s p t f) := by
  rw [h.commits hc (by omega), hn, hf.retire_to]

end

/-- A bundle waits for no register of an empty list. -/
theorem settled_nil (s : State) (p : Nat) : Settled s p [] := fun _ h => by cases h

/-! ### BR, CALL, JMP, HALT (R113, R115) -/

section
variable {g : BitVec 5} {n : BitVec 1} {o : BitVec 19} {a : BitVec 6}

theorem scalarMeaning_br : ScalarMeaning (.br g n o) (mBr g n o) := ⟨rfl, rfl, rfl, rfl⟩

theorem scalarMeaning_call : ScalarMeaning (.call g n o) (mCall g n o) := ⟨rfl, rfl, rfl, rfl⟩

theorem scalarMeaning_jmp : ScalarMeaning (.jmp g n a) (mJmp g n a) := ⟨rfl, rfl, rfl, rfl⟩

theorem scalarMeaning_halt : ScalarMeaning .halt mHalt := ⟨rfl, rfl, rfl, rfl⟩

variable {s : State} {p k : Nat} (hi : Issues s p k)
include hi

theorem exec_br (hon : guardN g n s (.core p) = true) : exec (.br g n o) s = .next (afterTo s p ((s.core p).pc + o.toInt) id) :=
  (scalarMeaning_br.alone hi hon (settled_nil s p) rfl rfl rfl).jumps (Changed.refl s p) rfl rfl rfl

theorem exec_call (hon : guardN g n s (.core p) = true) (hf : Settled s p [.s 62]) :
    exec (.call g n o) s = .next (afterTo s p ((s.core p).pc + o.toInt)
      (sends s p k (.s 62) (asVec ((BitVec.ofInt 32 ((s.core p).pc + 1)).setWidth 64)) 1 0)) := by
  refine (scalarMeaning_call.alone hi hon hf rfl rfl rfl).jumps ?_ rfl rfl rfl
  have hlink := emit_core s p k (.s 62) (asVec ((BitVec.ofInt 32 ((s.core p).pc + 1)).setWidth 64)) 1 0 rfl
  show Changed s p _ (emit (.core p) k (.s 62) (asVec ((BitVec.ofInt 32 ((s.core p).pc + 1)).setWidth 64)) 1 0 s)
  rw [hlink]
  exact Changed.of_onCore (sends_pc ..)

theorem exec_jmp (hon : guardN g n s (.core p) = true) (hf : Settled s p [destS a]) :
    exec (.jmp g n a) s = .next (afterTo s p (readS s p a).toNat id) :=
  (scalarMeaning_jmp.alone hi hon hf rfl rfl rfl).jumps (Changed.refl s p) rfl rfl rfl

/-- HALT leaves the PC at the next bundle (log 90). -/
theorem exec_halt :
    exec .halt s = .next (afterTo s p ((s.core p).pc + 1)
      (fun c => { c with run := .halted, seq := { loops := [], vrb := 0, prb := 0 } })) := by
  rw [(scalarMeaning_halt.alone hi rfl (settled_nil s p) rfl rfl rfl).commits rfl (by decide)]
  exact congrArg (fun u => Host.Outcome.next (drawn s u)) (State.onCore_congr rfl)

end

/-- Settles O7: a transfer goes to its target (`Alone.jumps`), and HALT commits its bundle and stops the core (`exec_halt`). -/
theorem transfersAndHalt : Obligations.TransfersAndHalt := by
  unfold Obligations.TransfersAndHalt
  exact ⟨fun s p k g n o a hi hon => ⟨exec_br hi hon, exec_call hi hon, exec_jmp hi hon⟩, fun s p k hi => exec_halt hi⟩

/-! ### Pushes onto the loop stack (R116) -/

/-- The core after a push onto its loop stack of a loop that starts at the bundle after `pc`. -/
def pushed (pc : Int) (count : W32) (ep : BitVec 4) (stg : Bool) (c : Core) : Core :=
  { c with seq := { c.seq with loops :=
      { start := BitVec.ofInt 32 (pc + 1), count := count, index := 0, ep := ep, stg := stg } :: c.seq.loops } }

theorem pushDecode_room {s : State} {p : Nat} (h : (s.core p).seq.loops.length < 6) : pushDecode s p = none :=
  if_neg (Nat.not_le.mpr h)

theorem pushDecode_full {s : State} {p : Nat} (h : 6 ≤ (s.core p).seq.loops.length) : pushDecode s p = some 7 :=
  if_pos h

section
variable {a : BitVec 6} {n : BitVec 19} {m : BitVec 13}

theorem scalarMeaning_loop : ScalarMeaning (.loop a) (mLoop a) := ⟨rfl, rfl, rfl, rfl⟩

theorem scalarMeaning_loopi : ScalarMeaning (.loopi n) (mLoopi n) := ⟨rfl, rfl, rfl, rfl⟩

theorem scalarMeaning_loops : ScalarMeaning (.loops a m) (mLoops a m) := ⟨rfl, rfl, rfl, rfl⟩

end

section
variable {s : State} {p k : Nat} {a : BitVec 6} (hi : Issues s p k)
include hi

section
variable (hroom : (s.core p).seq.loops.length < 6)
include hroom

theorem exec_loop (hf : Settled s p [destS a]) :
    exec (.loop a) s = .next (afterTo s p ((s.core p).pc + 1)
      (pushed (s.core p).pc ((readS s p a).setWidth 32) 0 false)) :=
  (scalarMeaning_loop.alone hi rfl hf rfl (pushDecode_room hroom) rfl).jumps (Changed.of_onCore rfl) rfl rfl rfl

theorem exec_loopi {n : BitVec 19} :
    exec (.loopi n) s = .next (afterTo s p ((s.core p).pc + 1) (pushed (s.core p).pc (n.setWidth 32) 0 false)) :=
  (scalarMeaning_loopi.alone hi rfl (settled_nil s p) rfl (pushDecode_room hroom) rfl).jumps (Changed.of_onCore rfl) rfl rfl rfl

theorem exec_loops {m : BitVec 13} (hm : m.toNat < 16) (hf : Settled s p [destS a, destP (s.core p) 16]) :
    exec (.loops a m) s = .next (afterTo s p ((s.core p).pc + 1) (fun c =>
      sends s p k (destP (s.core p) 16) (asVec (predAll ((readS s p a).setWidth 32 != 0))) 1 0
        (pushed (s.core p).pc ((readS s p a).setWidth 32) (m.setWidth 4) true c))) := by
  refine (scalarMeaning_loops.alone hi rfl hf (if_pos (decide_eq_true hm)) (pushDecode_room hroom) rfl).jumps ?_ rfl rfl rfl
  set q := pushed (s.core p).pc ((readS s p a).setWidth 32) (m.setWidth 4) true
  have hpc : ((s.onCore p q).core p).pc = (s.core p).pc := by rw [State.core_onCore_self]; rfl
  have hsend := emit_core (s.onCore p q) p k (destP (s.core p) 16) (asVec (predAll ((readS s p a).setWidth 32 != 0))) 1 0
    (destP_plain _ _)
  rw [sends_congr hpc rfl, State.onCore_onCore] at hsend
  have hchange : Changed s p (fun c => sends s p k (destP (s.core p) 16) (asVec (predAll ((readS s p a).setWidth 32 != 0))) 1 0 (q c)) _ :=
    Changed.of_onCore (sends_pc s p k _ _ 1 0 (q (s.core p)))
  rwa [← hsend] at hchange

end

/-- A precise illegal-instruction trap of the instruction in slot `k` (R153, R154). -/
theorem exec_badSlot {i : Instr} {d : Nat} (hbad : slotBad s p (slotOf i (meaningOf i) k) = some d)
    (hb : (s.core p).board = []) (hcls : i.cls = some .scalar) (hp : needsPort i = false) :
    exec i s = .next (trapped s p { cause := 2, mask := 2 ^ k, slot := k, detail := d, addr := 0, arg := 0,
                                    bundle := BitVec.ofInt 32 (s.core p).pc }) := by
  have hport : (slotOf i (meaningOf i) k).m.port = true → headBe s.header = true := by
    intro h
    rw [show (slotOf i (meaningOf i) k).m = meaningOf i from rfl, port_meaningOf, hp] at h
    cases h
  rw [exec_core (by rw [hcls]; exact Option.some_ne_none _) hi.powered hi.cur hi.slot, issueCore_badSlot hi rfl hport hbad hb]

/-- A push onto a stack of depth 6 (R116, R154). -/
theorem exec_push_full {i : Instr} (h : (∃ a, i = .loop a) ∨ (∃ n, i = .loopi n) ∨ (∃ a m, i = .loops a m ∧ m.toNat < 16))
    (hfull : 6 ≤ (s.core p).seq.loops.length) (hb : (s.core p).board = []) :
    exec i s = .next (trapped s p { cause := 2, mask := 2 ^ k, slot := k, detail := 7, addr := 0, arg := 0,
                                    bundle := BitVec.ofInt 32 (s.core p).pc }) := by
  have hbad {m : Meaning} (hw : i.detail = none) (hs : i.streamOnly = false) (hm : m.decode = pushDecode) :
      slotBad s p (slotOf i m k) = some 7 := by
    rw [slotOf_ok m k hw hs, slotBad, hm, pushDecode_full hfull]
  rcases h with ⟨a, rfl⟩ | ⟨n, rfl⟩ | ⟨a, m, rfl, hm⟩
  · exact exec_badSlot hi (hbad rfl rfl rfl) hb rfl rfl
  · exact exec_badSlot hi (hbad rfl rfl rfl) hb rfl rfl
  · exact exec_badSlot hi (hbad (if_pos (decide_eq_true hm)) rfl rfl) hb rfl rfl

end

/-! ### Loop ends (R117) -/

section
variable {s : State} {p : Nat} {e : LoopEntry} {r : List LoopEntry}

theorem exec_loopEnd (hpow : s.powered = true) (hle : (s.core p).lePend = true) :
    exec (.loopEnd p) s = .next (drawn s (s.onCore p (resolveLe s.cycle))) :=
  exec_happens (e := fun s => (s.core p).lePend) (f := fun s => s.onCore p (resolveLe s.cycle)) rfl hpow hle

/-- The body of the loop of an entry runs again (R117). -/
def LoopEntry.Turns (e : LoopEntry) : Prop := e.index.toNat + 1 < max (e.count.toNat + e.ep.toNat) 1

/-- The 33-bit index of a loop that turns does not wrap. -/
theorem LoopEntry.Turns.index_succ (h : e.Turns) : (e.index + 1).toNat = e.index.toNat + 1 := by
  have hcount := e.count.isLt
  have hep := e.ep.isLt
  have hlt : e.index.toNat + 1 < 2 ^ 33 := by
    unfold LoopEntry.Turns at h
    omega
  rw [BitVec.toNat_add]
  exact Nat.mod_eq_of_lt hlt

variable {c : Core} (hl : c.seq.loops = e :: r)
include hl

/-- A loop that is not left goes to its start, its index one up and both bases one down (R117). -/
theorem loopEndOf_turns (h : e.Turns) :
    loopEndOf c.seq c.pc = ({ loops := { e with index := e.index + 1 } :: r, vrb := c.seq.vrb - 1, prb := c.seq.prb - 1 },
      (e.start.toNat : Int), if e.stg then some (decide (e.index.toNat + 1 < e.count.toNat)) else none) := by
  simp only [loopEndOf, hl]
  refine (if_pos h).trans ?_
  rw [h.index_succ]

/-- A loop that is left is popped and control falls through (R117). -/
theorem loopEndOf_leaves (h : ¬e.Turns) : loopEndOf c.seq c.pc = ({ c.seq with loops := r }, c.pc + 1, none) := by
  simp only [loopEndOf, hl]
  exact if_neg h

/-- The core after a loop end that turns a loop of LOOP or LOOPI. -/
theorem resolveLe_turns (t : Nat) (h : e.Turns) (hs : e.stg = false) :
    resolveLe t c = { c with
      pc := e.start.toNat, lePend := false
      seq := { loops := { e with index := e.index + 1 } :: r, vrb := c.seq.vrb - 1, prb := c.seq.prb - 1 } } := by
  rw [resolveLe, loopEndOf_turns hl h, hs]
  rfl

/-- The core after a loop end that turns a loop of LOOPS: p16 is on its way, under its name after the rotation. -/
theorem resolveLe_turns_staged (t : Nat) (h : e.Turns) (hs : e.stg = true) :
    resolveLe t c = { c with
      pc := e.start.toNat, lePend := false
      seq := { loops := { e with index := e.index + 1 } :: r, vrb := c.seq.vrb - 1, prb := c.seq.prb - 1 }
      flights := c.flights ++ [
        { dest := .p (16 + (c.seq.prb - 1).toNat)
          val := asVec (if e.index.toNat + 1 < e.count.toNat then BitVec.allOnes 128 else (0 : Pred))
          issue := t, due := t + 1, flags := 0, slot := 0
          bundle := BitVec.ofInt 32 c.pc, late := false, free := false }] } := by
  have hp16 : 16 + (0 + (c.seq.prb - 1).toNat) % 16 = 16 + (c.seq.prb - 1).toNat := by
    rw [Nat.zero_add, Nat.mod_eq_of_lt (c.seq.prb - 1).isLt]
  have hval : predAll (decide (e.index.toNat + 1 < e.count.toNat)) =
      if e.index.toNat + 1 < e.count.toNat then BitVec.allOnes 128 else (0 : Pred) := by
    simp only [predAll, decide_eq_true_eq]
  rw [resolveLe, loopEndOf_turns hl h, hs, ← hp16, ← hval]
  rfl

theorem resolveLe_leaves (t : Nat) (h : ¬e.Turns) :
    resolveLe t c = { c with pc := c.pc + 1, lePend := false, seq := { c.seq with loops := r } } := by
  rw [resolveLe, loopEndOf_leaves hl h]

end

/-- The predicate of a count that is not 0 (R116). -/
theorem predAll_bne_zero (n : W32) : predAll (n != 0) = if n = 0 then (0 : Pred) else BitVec.allOnes 128 := by
  by_cases h : n = 0
  · rw [h]; rfl
  · rw [if_neg h, bne_iff_ne.mpr h]; rfl

section
variable {i : Instr} {m : Meaning} {s : State} {p k lat : Nat} {d : BitVec 6} {x : W64} {fl : Flags}

/-- An instruction alone that sends one scalar result and falls through. -/
theorem Alone.sendsS (h : Alone i m s p k)
    (hf : m.commit s (soleEnv s p k m.pushes) s = emit (.core p) k (destS d) (asVec x) lat fl s)
    (hn : m.next s (soleEnv s p k m.pushes) = .fall) (hc : m.check s (soleEnv s p k m.pushes) = none) (hk : m.rank = 0) :
    exec i s = .next (givesS s p k d x lat fl) := by
  rw [h.commits hc (by omega), hn, hf, emit_core _ _ _ _ _ _ _ (destS_plain d), retire_fall]
  rfl

end

/-! ### LBRK and LIDX (R119, R120) -/

section
variable {g : BitVec 5} {n : BitVec 1} {d : BitVec 6} {m : BitVec 13}

theorem scalarMeaning_lbrk : ScalarMeaning (.lbrk g n) (mLbrk g n) := ⟨rfl, rfl, rfl, rfl⟩

theorem scalarMeaning_lidx : ScalarMeaning (.lidx d m) (mLidx d m) := ⟨rfl, rfl, rfl, rfl⟩

variable {s : State} {p k : Nat} (hi : Issues s p k)
include hi

theorem exec_lbrk (hon : guardN g n s (.core p) = true) (hne : (s.core p).seq.loops ≠ []) :
    exec (.lbrk g n) s = .next (afterTo s p ((s.core p).pc + 1)
      (fun c => { c with seq := { c.seq with loops := c.seq.loops.tail } })) :=
  (scalarMeaning_lbrk.alone hi hon (settled_nil s p) rfl rfl rfl).jumps (Changed.of_onCore rfl) rfl (if_neg hne) rfl

theorem exec_lbrk_empty (hon : guardN g n s (.core p) = true) (hnil : (s.core p).seq.loops = []) (hb : (s.core p).board = []) :
    exec (.lbrk g n) s = .next (trapped s p { cause := 2, mask := 2 ^ k, slot := k, detail := 8, addr := 0, arg := 0,
                                              bundle := BitVec.ofInt 32 (s.core p).pc }) :=
  (scalarMeaning_lbrk.alone hi hon (settled_nil s p) rfl rfl rfl).traps (if_pos hnil) hb

theorem exec_lbrk_off (hoff : guardN g n s (.core p) = false) : exec (.lbrk g n) s = .next (after s p id) :=
  exec_guarded (i := .lbrk g n) (Option.some_ne_none _) hi rfl rfl rfl (fun h => by cases h) hoff

/-- LIDX sends the index of a level, 0 of one deeper than the stack (R120). -/
theorem exec_lidx (hm : m.toNat < 6) (hf : Settled s p [destS d]) :
    exec (.lidx d m) s = .next (givesS s p k d
      ((s.core p).seq.loops[m.toNat]?.elim 0 fun e => e.index.setWidth 64) 1 0) := by
  refine (scalarMeaning_lidx.alone hi rfl hf (if_pos (decide_eq_true hm)) rfl rfl).sendsS ?_ rfl rfl rfl
  simp only [mLidx, scalarWrite, soleEnv, Env.p]
  cases (s.core p).seq.loops[m.toNat]? <;> rfl

/-- A level above 5 is none that LIDX takes (R60, R120). -/
theorem exec_lidx_deep (hm : 6 ≤ m.toNat) (hb : (s.core p).board = []) :
    exec (.lidx d m) s = .next (trapped s p { cause := 2, mask := 2 ^ k, slot := k, detail := 4, addr := 0, arg := 0,
                                              bundle := BitVec.ofInt 32 (s.core p).pc }) :=
  exec_badSlot hi (slotBad_of_detail _ (if_neg (by simpa using hm))) hb rfl rfl

end

/-- Settles O8: the pushes by `exec_loop`, `exec_loopi`, `exec_loops` and `exec_push_full`, the loop end by what `resolveLe` leaves, the
rest by the lemmas of LBRK and LIDX. -/
theorem loopPushesEndsAndBreaks : Obligations.LoopPushesEndsAndBreaks := by
  unfold Obligations.LoopPushesEndsAndBreaks
  refine ⟨fun s p k a n m hi hroom => ?_, fun s p k i h hi hfull hb _ => exec_push_full hi h hfull hb,
    fun s p e r hpow hle hl => ?_, fun s p k g n d m hi => ⟨exec_lbrk hi, fun hon hnil hb _ => exec_lbrk_empty hi hon hnil hb,
      ?_, exec_lbrk_off hi, fun hm hb _ => exec_lidx_deep hi hm hb⟩⟩
  · intro pc pushes count
    refine ⟨exec_loop hi hroom, exec_loopi hi hroom, fun hm hf => ?_⟩
    rw [exec_loops hi hroom hm hf, predAll_bne_zero]
    rfl
  · intro q turns p16 core
    have resolved {f : Core → Core} (h : resolveLe s.cycle (s.core p) = f (s.core p)) : exec (.loopEnd p) s = core f := by
      rw [exec_loopEnd hpow hle, State.onCore_congr h]
    exact ⟨fun h hs => resolved (resolveLe_turns hl s.cycle h hs), fun h hs => resolved (resolveLe_turns_staged hl s.cycle h hs),
      fun h => resolved (resolveLe_leaves hl s.cycle h)⟩
  · intro hm hf
    rw [exec_lidx hi hm hf]
    cases (s.core p).seq.loops[m.toNat]? <;> rfl

end Sys2Proof.Machine
end

section
/-!
PROOF. What reset leaves, and the names that read a constant or rotate (R100, R103, R243).
-/

namespace Sys2Proof.Machine

/-! ### Module reset (R100, R358) -/

theorem reset_core (p : Nat) : State.reset.core p = Core.zero := rfl

theorem reset_ctx (c : Nat) : State.reset.ctx c = Ctx.zero := rfl

/-! ### Names of registers (R100, R103) -/

theorem destV_low (c : Core) {n : BitVec 6} (h : n.toNat < 32) : destV c n = .v n.toNat := by
  rw [destV, physV, if_pos h]

theorem destV_rotating (c : Core) {n : BitVec 6} (h : 32 ≤ n.toNat) :
    destV c n = .v (32 + (n.toNat - 32 + c.seq.vrb.toNat) % 32) := by
  rw [destV, physV, if_neg (Nat.not_lt.mpr h)]

theorem destP_low (c : Core) {n : BitVec 5} (h0 : n ≠ 0) (h : n.toNat < 16) : destP c n = .p n.toNat := by
  rw [destP, if_neg h0, physP, if_pos h]

theorem destP_rotating (c : Core) {n : BitVec 5} (h : 16 ≤ n.toNat) :
    destP c n = .p (16 + (n.toNat - 16 + c.seq.prb.toNat) % 16) := by
  have h0 : n ≠ 0 := fun hn => by rw [hn] at h; cases h
  rw [destP, if_neg h0, physP, if_neg (Nat.not_lt.mpr h)]

/-- A name other than p0 stands for a register other than p0 (R103). -/
theorem physP_ne_zero (c : Core) {n : BitVec 5} (h0 : n ≠ 0) : physP c n ≠ 0 := by
  have hn : n.toNat ≠ 0 := fun h => h0 (BitVec.eq_of_toNat_eq h)
  unfold physP
  split_ifs <;> omega

/-! ### Reads with no result pending (R71) -/

section
variable {s : State} {p k : Nat}

theorem readS_of_not_pending {n : BitVec 6} (hn : n ≠ 0) (h : pending (s.core p) (.s n.toNat) = false) :
    readS s p n = Tab.get 0 (s.core p).s n.toNat := by
  have hk : n.toNat ≠ 0 := fun h => hn (BitVec.eq_of_toNat_eq h)
  rw [readS, if_neg hn, h, Core.sreg, if_neg hk]
  rfl

theorem readV_of_not_pending {n : BitVec 6} (hd : destV (s.core p) n = .v k) (h : pending (s.core p) (.v k) = false) :
    readV s p n = Tab.get 0 (s.core p).v k := by
  obtain rfl : physV (s.core p) n = k := Dest.v.inj hd
  simp only [readV, h]
  rfl

theorem readP_of_not_pending {n : BitVec 5} (hd : destP (s.core p) n = .p k) (h : pending (s.core p) (.p k) = false) :
    readP s p n = Tab.get 0 (s.core p).p k := by
  have hn : n ≠ 0 := fun hn => by rw [destP, if_pos hn] at hd; cases hd
  rw [destP, if_neg hn] at hd
  obtain rfl : physP (s.core p) n = k := Dest.p.inj hd
  simp only [readP, h, if_neg hn, Core.preg, if_neg (physP_ne_zero _ hn)]
  rfl

end

/-- Settles O55: the state of reset lists nothing, so that each part reads its default; the names by the lemmas of `destV` and `destP`, the
reads by `readS_of_not_pending` and its like. -/
theorem resetAndFixedRegisters : Obligations.ResetAndFixedRegisters := by
  unfold Obligations.ResetAndFixedRegisters
  refine ⟨?_, fun s p c => ⟨rfl, rfl, rfl, rfl, fun _ _ _ _ => ⟨rfl, rfl⟩, fun n => readS_of_not_pending,
    fun n => destV_low _, fun n => destV_rotating _, fun n => destP_low _, fun n => destP_rotating _,
    fun n k => readV_of_not_pending, fun n k => readP_of_not_pending⟩⟩
  intro s
  refine ⟨fun p k => ?_, fun c => ?_, fun k => ?_, ?_⟩
  · rw [reset_core]
    exact ⟨rfl, rfl, rfl, rfl, rfl, rfl, rfl, rfl, rfl, rfl, rfl, rfl, rfl, rfl⟩
  · rw [reset_ctx]
    exact ⟨rfl, rfl, rfl, rfl⟩
  · exact ⟨rfl, rfl, rfl, rfl, rfl, rfl, rfl, rfl, rfl, rfl, rfl, rfl, rfl⟩
  · exact ⟨rfl, rfl, rfl, rfl, rfl, rfl, rfl, rfl, rfl, rfl, rfl, rfl, rfl, rfl, rfl, rfl, rfl, rfl, rfl, rfl, rfl, rfl, rfl,
      State.reset_memOk⟩

end Sys2Proof.Machine
end

section
/-!
PROOF. Words of memory read and changed live (R218, R247): what a live change of a word writes, and what it leaves.
-/

namespace Sys2Proof.Machine

/-! ### What a word of a context is read from (R221, R270, R312) -/

/-- The parts of a context that say where its addresses lie. -/
structure Ctx.SameView (x y : Ctx) : Prop where
  regions : y.regions = x.regions
  buffers : y.buffers = x.buffers
  priv    : y.priv = x.priv
  shared  : y.shared = x.shared
  code    : y.code = x.code
  stream  : y.stream = x.stream

section
variable {s t : State} {c va : Nat} (h : Ctx.SameView (s.ctx c) (t.ctx c))
include h

theorem keyOf_congr : keyOf t c va = keyOf s c va := by
  obtain ⟨hreg, hbuf, hpriv, hshared, -, -⟩ := h
  simp only [keyOf, backKey, sideVa, regionAt, hreg, hbuf, hpriv, hshared]
  rfl

theorem memByte_congr (hm : t.mem.byte (keyOf s c va) = s.mem.byte (keyOf s c va)) : memByte t c va = memByte s c va := by
  have hkey := keyOf_congr (va := va) h
  obtain ⟨hreg, -, -, -, hcode, hstream⟩ := h
  simp only [memByte, hkey, hm, regionAt, hreg, codeByte, streamOff, hcode, hstream]
  rfl

theorem memWord_congr (hm : ∀ j, j < 8 → t.mem.byte (keyOf s c (va / 8 * 8 + j)) = s.mem.byte (keyOf s c (va / 8 * 8 + j))) :
    memWord t c va = memWord s c va := by
  have hread {n : Nat} (hn : n ≤ 8) : memRead t c (va / 8 * 8) n = memRead s c (va / 8 * 8) n := by
    induction n with
    | zero => rfl
    | succ n ih =>
      have hb := memByte_congr h (hm n hn)
      have hr := ih (Nat.le_of_succ_le hn)
      simp only [memRead] at hr ⊢
      simp only [gather, hr, hb]
  rw [memWord, memWord, hread (Nat.le_refl 8)]

end

/-! ### A word changed live (R218) -/

section
variable {s : State} {c va : Nat} {k : AtomKind} {x y : W64} {rel : Bool} {pubs : Tab Nat}

theorem atomAct_mem (hk : k ≠ .ld) : (atomAct c k va x y rel pubs s).mem =
    s.mem.write (keyOf s c (va / 8 * 8)) 8 (atomNew k (memWord s c va) x y).toNat := by
  rw [atomAct, if_neg hk]
  rfl

theorem atomAct_core (q : Nat) : (atomAct c k va x y rel pubs s).core q = s.core q := by
  unfold atomAct
  split <;> rfl

/-- A live change of a word changes no part of its context but the transition and what is noted of the words of this phase. -/
theorem atomAct_ctx :
    let u := (atomAct c k va x y rel pubs s).ctx c
    u = { s.ctx c with tr := u.tr, live := u.live, rel := u.rel } := by
  unfold atomAct
  split
  · rfl
  · simp only [liveWrite, State.onCtx_onCtx, State.ctx_onCtx_self]
    rfl

theorem atomAct_sameView : Ctx.SameView (s.ctx c) ((atomAct c k va x y rel pubs s).ctx c) := by
  rw [atomAct_ctx]
  exact ⟨rfl, rfl, rfl, rfl, rfl, rfl⟩

theorem atomAct_tasks : ((atomAct c k va x y rel pubs s).ctx c).tasks = (s.ctx c).tasks := by
  rw [atomAct_ctx]

theorem liveBump_mem : (liveBump c va s).mem = s.mem.write (keyOf s c (va / 8 * 8)) 8 (memWord s c va + 1).toNat :=
  atomAct_mem (by decide)

/-- Eight bytes read back as the word written. -/
theorem Memory.read_write_word (m : Memory) (key : Nat) (v : W64) : (m.write key 8 v.toNat).read key 8 = v.toNat := by
  rw [Memory.read_write]
  exact Nat.mod_eq_of_lt v.isLt

/-! ### Words of a context whose addresses name backing of its own -/

theorem Plain.keyOf (h : Plain s c) (va : Nat) : Machine.keyOf s c va = c * 2 ^ 48 + va := by
  simp only [Machine.keyOf, backKey, sideVa, h.buffers, h.shared, h.priv, bufferAt, Tab.find, List.contains_nil, Bool.false_eq_true,
    if_false]
  split <;> rfl

theorem Plain.congr {t : State} (h : Plain s c) (hv : Ctx.SameView (s.ctx c) (t.ctx c)) : Plain t c :=
  ⟨hv.buffers.trans h.buffers, hv.shared.trans h.shared, hv.priv.trans h.priv⟩

/-- The aligned word at `va` of a context has been changed to `v`, and no other. -/
structure WordChanged (s t : State) (c va : Nat) (v : W64) : Prop where
  plain : Plain t c
  there : t.mem.read (c * 2 ^ 48 + va) 8 = v.toNat
  other : ∀ vb, vb % 8 = 0 → vb ≠ va → t.mem.read (c * 2 ^ 48 + vb) 8 = s.mem.read (c * 2 ^ 48 + vb) 8
  word  : ∀ vb, vb % 8 = 0 → vb ≠ va → memWord t c vb = memWord s c vb

theorem atomAct_wordChanged (h : Plain s c) (hva : va % 8 = 0) (hk : k ≠ .ld) :
    WordChanged s (atomAct c k va x y rel pubs s) c va (atomNew k (memWord s c va) x y) := by
  have hmem := atomAct_mem (s := s) (c := c) (va := va) (x := x) (y := y) (rel := rel) (pubs := pubs) hk
  rw [h.keyOf, show va / 8 * 8 = va by omega] at hmem
  have hout {vb j : Nat} (hvb : vb % 8 = 0) (hne : vb ≠ va) (hj : j < 8) :
      (atomAct c k va x y rel pubs s).mem.byte (c * 2 ^ 48 + (vb + j)) = s.mem.byte (c * 2 ^ 48 + (vb + j)) := by
    rw [hmem]
    exact Memory.byte_write_out _ _ (by omega)
  refine ⟨h.congr atomAct_sameView, ?_, fun vb hvb hne => Memory.read_congr fun i h1 h2 => ?_, fun vb hvb hne => ?_⟩
  · rw [hmem, Memory.read_write_word]
  · obtain ⟨j, rfl⟩ := Nat.exists_eq_add_of_le h1
    rw [Nat.add_assoc]
    exact hout hvb hne (by omega)
  · refine memWord_congr atomAct_sameView fun j hj => ?_
    rw [h.keyOf, show vb / 8 * 8 = vb by omega]
    exact hout hvb hne hj

end

/-! ### The end of a replay (R255, R257) -/

section
variable {s : State} {c g f : Nat}

theorem vaOf_ofNat {a : Nat} (h : a < 2 ^ 48) : vaOf (BitVec.ofNat 64 a) = a := by
  simp only [vaOf, fld, BitVec.toNat_ofNat]
  omega

/-- The word of a graph's size and state with the busy bit of a block cleared. -/
theorem fld_clearBusy {w : W64} (hf : f < 2) (hbusy : w.toNat / 2 ^ (34 + f) % 2 = 1) :
    fld w 0 32 + (fld w 32 32 - 2 ^ (2 + f)) % 2 ^ 32 * 2 ^ 32 = w.toNat - 2 ^ (34 + f) := by
  have hw := w.isLt
  simp only [fld]
  interval_cases f <;> omega

/-- The busy bit of a block as a bit of the state field. -/
theorem fld_busy {w : W64} (hf : f < 2) : fld w 32 32 / 2 ^ (2 + f) % 2 = w.toNat / 2 ^ (34 + f) % 2 := by
  simp only [fld]
  interval_cases f <;> omega

/-- At the end of a replay its block is no longer busy and `ended` is one more (R257). -/
theorem endReplay_spec (h : Plain s c) (hg : g + 64 ≤ 2 ^ 48) (hg8 : g % 8 = 0) (hf : f < 2)
    (hbusy : (memWord s c g).toNat / 2 ^ (34 + f) % 2 = 1) :
    ∃ u, WordChanged s u c g (BitVec.ofNat 64 ((memWord s c g).toNat - 2 ^ (34 + f))) ∧
      WordChanged u (endReplay c (g, f) s) c (g + 16) (memWord s c (g + 16) + 1) := by
  have hva : vaOf (BitVec.ofNat 64 g) = g := vaOf_ofNat (by omega)
  have hstate : graphState s c (BitVec.ofNat 64 g) = fld (memWord s c g) 32 32 := by rw [graphState, objWord, hva]; rfl
  have hsize : graphSize s c (BitVec.ofNat 64 g) = fld (memWord s c g) 0 32 := by rw [graphSize, objWord, hva]; rfl
  set u := setGraphState c (BitVec.ofNat 64 g) (fld (memWord s c g) 32 32 - 2 ^ (2 + f)) s with hu
  have hend : endReplay c (g, f) s = liveBump c (g + 16) u := by
    simp only [endReplay, hstate, fld_busy hf, hbusy, if_true, hu]
  have h1 : WordChanged s u c g (BitVec.ofNat 64 ((memWord s c g).toNat - 2 ^ (34 + f))) := by
    have hu' : u = atomAct c .st g (BitVec.ofNat 64 ((memWord s c g).toNat - 2 ^ (34 + f))) 0 false [] s := by
      rw [hu, setGraphState, liveStore, hsize, hva, fld_clearBusy hf hbusy]
    rw [hu']
    exact atomAct_wordChanged h hg8 (by decide)
  refine ⟨u, h1, ?_⟩
  rw [hend, ← h1.word (g + 16) (by omega) (by omega)]
  exact atomAct_wordChanged h1.plain (by omega) (by decide)

end

end Sys2Proof.Machine
end

section
/-!
PROOF. The dispatcher (R100, R245, R250 to R253, R257): gates, the order of the queue, the start and the end of a task, and the
records it makes.
-/

namespace Sys2Proof.Machine

/-! ### Lists at an index, and folds over cores -/

theorem listDrop_eq_eraseIdx {α : Type} (l : List α) (i : Nat) : listDrop l i = l.eraseIdx i := by
  induction l generalizing i with
  | nil => rfl
  | cons x r ih =>
    cases i with
    | zero => rfl
    | succ i => exact congrArg (x :: ·) (ih i)

theorem listUpd_eq_set {α : Type} {l : List α} {i : Nat} {x : α} (f : α → α) (h : l[i]? = some x) : listUpd l i f = l.set i (f x) := by
  induction l generalizing i with
  | nil => cases h
  | cons y r ih =>
    cases i with
    | zero => rw [List.getElem?_cons_zero, Option.some.injEq] at h; rw [h]; rfl
    | succ i => exact congrArg (y :: ·) (ih h)

section
variable {α : Type} {key : α → Nat} {f : α → Core → Core} {l : List α} {s : State} {p : Nat}

@[simp] theorem foldl_onCore_ctx (c : Nat) : (l.foldl (fun t a => t.onCore (key a) (f a)) s).ctx c = s.ctx c :=
  foldl_keeps (State.ctx · c) (fun t a => t.onCore (key a) (f a)) (fun _ _ => rfl) l s

@[simp] theorem foldl_onCore_mem : (l.foldl (fun t a => t.onCore (key a) (f a)) s).mem = s.mem :=
  foldl_keeps State.mem (fun t a => t.onCore (key a) (f a)) (fun _ _ => rfl) l s

/-- A core that no element names is left alone. -/
theorem foldl_onCore_other (h : ∀ a ∈ l, key a ≠ p) : (l.foldl (fun t a => t.onCore (key a) (f a)) s).core p = s.core p := by
  induction l generalizing s with
  | nil => rfl
  | cons a l ih =>
    rw [List.foldl_cons, ih fun b hb => h b (List.mem_cons_of_mem _ hb)]
    exact State.core_onCore_ne _ _ _ (h a List.mem_cons_self).symm

/-- What every change of a core gives, from what `Q` says of it at first, it has at the end. -/
theorem foldl_onCore_core {P Q : Core → Prop} (hf : ∀ a ∈ l, key a = p → ∀ k, Q k → P (f a k)) (hPQ : ∀ k, P k → Q k)
    (hQ : Q (s.core p)) (h : P (s.core p) ∨ ∃ a ∈ l, key a = p) :
    P ((l.foldl (fun t a => t.onCore (key a) (f a)) s).core p) := by
  induction l generalizing s with
  | nil =>
    obtain h | ⟨a, ha, -⟩ := h
    · exact h
    · cases ha
  | cons a l ih =>
    have hf' : ∀ b ∈ l, key b = p → ∀ k, Q k → P (f b k) := fun b hb => hf b (List.mem_cons_of_mem _ hb)
    by_cases hap : key a = p
    · have hP : P ((s.onCore (key a) (f a)).core p) := by
        rw [hap, State.core_onCore_self]
        exact hf a List.mem_cons_self hap _ hQ
      exact ih hf' (hPQ _ hP) (.inl hP)
    · have hcore : (s.onCore (key a) (f a)).core p = s.core p := State.core_onCore_ne _ _ _ (Ne.symm hap)
      refine ih hf' (hcore ▸ hQ) ?_
      rw [hcore]
      refine h.imp_right fun ⟨b, hb, hbp⟩ => ⟨b, ?_, hbp⟩
      obtain rfl | hb := List.mem_cons.mp hb
      · exact absurd hbp hap
      · exact hb

end

/-! ### The start of a task (R100, R251, R252) -/

section
variable {c : Nat} {e : QEntry} {s : State}

theorem startTask_ctx : (startTask c e s).ctx c = { s.ctx c with
    queue := (s.ctx c).queue.erase e, nextTask := (s.ctx c).nextTask + 1
    tasks := (s.ctx c).tasks ++ [{ id := (s.ctx c).nextTask, record := e.record, clusters := e.clusters, graph := e.graph }] } := by
  simp only [startTask, foldl_onCore_ctx, State.ctx_onCtx_self]

/-- The first task of a queue leaves it when it starts. -/
theorem startTask_queue_head {l : List QEntry} (hq : (s.ctx c).queue = e :: l) : ((startTask c e s).ctx c).queue = l := by
  rw [startTask_ctx, hq, List.erase_cons_head]

/-- The second task of a queue leaves it when it starts. -/
theorem startTask_queue_second {f : QEntry} (hne : f ≠ e) (hq : (s.ctx c).queue = [f, e]) :
    ((startTask c e s).ctx c).queue = [f] := by
  rw [startTask_ctx, hq, List.erase_cons_tail (by simpa using hne), List.erase_cons_head]

theorem startTask_mem : (startTask c e s).mem = s.mem := foldl_onCore_mem

/-- A core of no cluster of the task is left alone. -/
theorem startTask_other {p : Nat} (h : ∀ l r, (p, l, r) ∉ taskCores (s.ctx c) e.clusters) : (startTask c e s).core p = s.core p :=
  (foldl_onCore_other fun a ha hp => h a.2.1 a.2.2 (by rw [← hp]; exact ha)).trans rfl

/-- Every core of the task runs (R252). -/
theorem startTask_run {p l r : Nat} (h : (p, l, r) ∈ taskCores (s.ctx c) e.clusters) : ((startTask c e s).core p).run = .running :=
  foldl_onCore_core (P := fun k => k.run = .running) (Q := fun _ => True) (fun _ _ _ _ _ => rfl) (fun _ _ => trivial) trivial
    (.inr ⟨(p, l, r), h, rfl⟩)

/-- A core at the start of a task (R100): s1 to s3 as the task gives them, every other register zero. -/
structure Started (c : Nat) (x : Ctx) (e : QEntry) (l r : Nat) (spad : Tab Vec) (k : Core) : Prop where
  run     : k.run = .running
  ctx     : k.ctx = some c
  lcore   : k.lcore = l
  task    : k.task = x.nextTask
  pc      : k.pc = e.entry.toNat
  seq     : k.seq = { loops := [], vrb := 0, prb := 0 }
  steward : k.steward = false
  scaleQ  : k.scaleQ = []
  s       : ∀ j, Tab.get 0 k.s j = if j = 1 then e.args else if j = 2 then BitVec.ofNat 64 l
              else if j = 3 then BitVec.ofNat 64 r else 0
  p       : ∀ j, Tab.get 0 k.p j = 0
  v       : ∀ j, Tab.get 0 k.v j = 0
  spad    : k.spad = spad

theorem startCore_started (t c : Nat) (x : Ctx) (e : QEntry) (l r : Nat) (k : Core) :
    Started c x e l r k.spad (startCore t c x e x.nextTask l r k) where
  run := rfl
  ctx := rfl
  lcore := rfl
  task := rfl
  pc := rfl
  seq := rfl
  steward := rfl
  scaleQ := rfl
  s j := by
    simp only [startCore, Tab.get_put, Tab.get_nil]
    grind
  p _ := rfl
  v _ := rfl
  spad := rfl

/-- A core that one logical core of the task names starts as that one. -/
theorem startTask_started {p l r : Nat} (h : (p, l, r) ∈ taskCores (s.ctx c) e.clusters)
    (hone : ∀ l' r', (p, l', r') ∈ taskCores (s.ctx c) e.clusters → l' = l ∧ r' = r) :
    Started c (s.ctx c) e l r (s.core p).spad ((startTask c e s).core p) := by
  refine foldl_onCore_core (Q := fun k => k.spad = (s.core p).spad) (fun a ha hp k hk => ?_) (fun k hk => hk.spad) rfl
    (.inr ⟨(p, l, r), h, rfl⟩)
  obtain ⟨q, l', r'⟩ := a
  obtain rfl : q = p := hp
  obtain ⟨rfl, rfl⟩ := hone l' r' ha
  exact hk ▸ startCore_started s.cycle c (s.ctx c) e l' r' k

end

/-! ### Gates (R250) -/

section
variable {c i : Nat} {e : QEntry} {s : State}

/-- A queued task whose gate is open, with the releases that its start acquires (R219, R250). -/
def gateOpened (s : State) (c : Nat) (e : QEntry) : QEntry :=
  { e with opened := true, acq := Tab.get [] (s.ctx c).rel (keyOf s c (vaOf (e.gate &&& ~~~7)) / 8) }

theorem gateFlipped_iff : gateFlipped s c e = true ↔ (memWord s c (vaOf (e.gate &&& ~~~7))).getLsbD 63 ≠ e.gate.getLsbD 0 :=
  bne_iff_ne

theorem not_gateFlipped_iff : gateFlipped s c e = false ↔ (memWord s c (vaOf (e.gate &&& ~~~7))).getLsbD 63 = e.gate.getLsbD 0 :=
  bne_eq_false_iff_eq

/-- A gate that is open, or whose barrier has not left the phase waited away from, stays as it is. -/
theorem gateOpen_stays (hq : (s.ctx c).queue[i]? = some e) (h : e.opened = true ∨ gateFlipped s c e = false) : gateOpen c i s = s := by
  simp only [gateOpen, hq]
  refine if_neg fun hb => ?_
  rw [Bool.and_eq_true, Bool.not_eq_true'] at hb
  obtain h | h := h
  · rw [h] at hb; cases hb.1
  · rw [h] at hb; cases hb.2

theorem gateOpen_opens (hq : (s.ctx c).queue[i]? = some e) (ho : e.opened = false) (hf : gateFlipped s c e = true) :
    gateOpen c i s = s.onCtx c (fun x => { x with queue := x.queue.set i (gateOpened s c e) }) := by
  simp only [gateOpen, hq, ho, hf]
  exact congrArg (fun q => s.setCtx c { s.ctx c with queue := q }) (listUpd_eq_set _ hq)

/-- A queue of open gates is not read (R250). -/
theorem openGates_open (h : ∀ e ∈ (s.ctx c).queue, e.opened = true) : openGates c s = s := by
  refine if_neg fun hc => ?_
  obtain ⟨e, he, hne⟩ := List.any_eq_true.mp hc.2
  rw [h e he] at hne
  cases hne

/-- The gates of a queue of one task with a closed gate. -/
theorem openGates_one (hst : (s.ctx c).state = 1) (hq : (s.ctx c).queue = [e]) (ho : e.opened = false) :
    openGates c s = gateOpen c 0 s := by
  rw [openGates, hq, if_pos ⟨hst, by rw [List.any_cons, ho]; rfl⟩]
  rfl

end

/-! ### The order of the queue (R251) -/

section
variable {aging now : Nat} {e f : QEntry}

theorem effPrio_lt (h : e.prio < 8) : effPrio aging now e < 8 := by
  unfold effPrio
  split_ifs
  · exact h
  · exact Nat.lt_of_le_of_lt (Nat.min_le_left _ _) (by decide)

theorem dispatchOrder_one (he : effPrio aging now e < 8) : dispatchOrder aging now [e] = [e] := by
  simp only [dispatchOrder, List.filter_cons, List.filter_nil]
  generalize effPrio aging now e = i at he
  interval_cases i <;> rfl

/-- Of two tasks the one of the higher effective priority comes first, the earlier one when they are equal (R251). -/
theorem dispatchOrder_two (he : effPrio aging now e < 8) (hf : effPrio aging now f < 8) :
    dispatchOrder aging now [e, f] = if effPrio aging now f ≤ effPrio aging now e then [e, f] else [f, e] := by
  simp only [dispatchOrder, List.filter_cons, List.filter_nil]
  generalize effPrio aging now e = i at he
  generalize effPrio aging now f = j at hf
  interval_cases i <;> interval_cases j <;> rfl

end

/-! ### Clusters (R250, R344) -/

section
variable {s : State} {c k : Nat} {b : BitVec 128}

theorem mem_clusterList : k ∈ clusterList b ↔ k < 80 ∧ b.getLsbD k = true := by
  rw [clusterList, List.mem_filter, List.mem_range]

theorem all_clusterFree_iff :
    (clusterList b).all (clusterFree s c) = true ↔ ∀ k, k < 80 → b.getLsbD k = true → clusterFree s c k = true := by
  simp only [List.all_eq_true, mem_clusterList, and_imp]

theorem clusterFree_congr {t : State} (hx : (t.ctx c).placement = (s.ctx c).placement) (ht : (t.ctx c).tenant = (s.ctx c).tenant)
    (hc : t.cores = s.cores) (ho : t.owner = s.owner) : clusterFree t c k = clusterFree s c k := by
  simp only [clusterFree, clusterCores, physOf, hx, ht, State.core, hc, ownedBy, ho]

/-- The cores of a cluster are cores of each task that names the cluster. -/
theorem mem_taskCores {x : Ctx} {p : Nat} (hk : k ∈ clusterList b) (hp : p ∈ clusterCores x k) :
    ∃ l r, (p, l, r) ∈ taskCores x b := by
  obtain ⟨n, hn⟩ := List.getElem?_of_mem hk
  obtain ⟨j, hj, hphys⟩ := List.mem_filterMap.mp hp
  refine ⟨4 * k + j, 4 * n + j, List.mem_flatten.mpr ⟨_, List.mem_map.mpr ⟨(k, n), List.mem_zipIdx_iff_getElem?.mpr hn, rfl⟩, ?_⟩⟩
  exact List.mem_filterMap.mpr ⟨j, hj, by rw [hphys]; rfl⟩

/-- A free cluster has a core (R250). -/
theorem exists_mem_clusterCores (h : clusterFree s c k = true) : ∃ p, p ∈ clusterCores (s.ctx c) k := by
  simp only [clusterFree, Bool.and_eq_true, beq_iff_eq] at h
  exact List.exists_mem_of_length_pos (by omega)

/-- A cluster with a core that is not idle is not free (R250). -/
theorem clusterFree_of_run {p : Nat} (hp : p ∈ clusterCores (s.ctx c) k) (h : (s.core p).run ≠ .idle) : clusterFree s c k = false := by
  rw [Bool.eq_false_iff]
  intro hf
  simp only [clusterFree, Bool.and_eq_true, List.all_eq_true, beq_iff_eq] at hf
  exact h (hf.2 p hp).1

end

/-! ### The decision (R251) -/

section
variable {s : State} {c : Nat} {e f : QEntry}

/-- A task may start: its gate is open and its clusters are free. -/
structure QEntry.Startable (s : State) (c : Nat) (e : QEntry) : Prop where
  opened : e.opened = true
  free   : ∀ k, k < 80 → e.clusters.getLsbD k = true → clusterFree s c k = true

theorem dispatchOne_closed (a : BitVec 128 × State) (ho : e.opened = false) : dispatchOne c a e = a := by
  rw [dispatchOne, ho]
  rfl

theorem dispatchOne_starts (h : e.Startable s c) : dispatchOne c (0, s) e = (0, startTask c e s) := by
  simp [dispatchOne, h.opened, all_clusterFree_iff.mpr h.free]

/-- A task with a cluster that is not free reserves its clusters and stays. -/
theorem dispatchOne_stays {k : Nat} (hk : k ∈ clusterList e.clusters) (hf : clusterFree s c k = false) (b : BitVec 128) :
    (dispatchOne c (b, s) e).2 = s := by
  have hall : (clusterList e.clusters).all (clusterFree s c) = false :=
    List.all_eq_false.mpr ⟨k, hk, by rw [hf]; exact Bool.false_ne_true⟩
  rw [dispatchOne, hall, Bool.and_false]
  split <;> rfl

/-- Once a task has started, its clusters are free for no other. -/
theorem clusterFree_startTask {k : Nat} (hk : k ∈ clusterList e.clusters) (hf : clusterFree s c k = true) :
    clusterFree (startTask c e s) c k = false := by
  obtain ⟨p, hp⟩ := exists_mem_clusterCores hf
  obtain ⟨l, r, hm⟩ := mem_taskCores hk hp
  refine clusterFree_of_run (p := p) ?_ ?_
  · rw [startTask_ctx]
    exact hp
  · rw [startTask_run hm]
    decide

/-- Of two tasks that share a cluster the first starts and the second stays. -/
theorem dispatch_first_of_two (he : e.Startable s c) {k : Nat} (hk : k < 80) (hke : e.clusters.getLsbD k = true)
    (hkf : f.clusters.getLsbD k = true) : ([e, f].foldl (dispatchOne c) (0, s)).2 = startTask c e s := by
  rw [List.foldl_cons, List.foldl_cons, List.foldl_nil, dispatchOne_starts he]
  exact dispatchOne_stays (mem_clusterList.mpr ⟨hk, hkf⟩)
    (clusterFree_startTask (mem_clusterList.mpr ⟨hk, hke⟩) (he.free k hk hke)) 0

theorem exec_taskDispatch (hpow : s.powered = true) (hst : (s.ctx c).state = 1) (hsave : (s.ctx c).saveAt = 0) :
    exec (.taskDispatch c) s = .next (drawn s (dispatch c s)) :=
  exec_happens (e := fun s => dispatching s c) (f := dispatch c) rfl hpow (by simp [dispatching, hst, hsave])

theorem exec_taskDispatch_off (hpow : s.powered = true) (h : (s.ctx c).state ≠ 1 ∨ (s.ctx c).saveAt ≠ 0) :
    exec (.taskDispatch c) s = .next (drawn s s) :=
  exec_happens_not (e := fun s => dispatching s c) (f := dispatch c) rfl hpow fun hd => by
    simp only [dispatching, Bool.and_eq_true, beq_iff_eq] at hd
    exact absurd hd (by tauto)

/-- A queue of one task that may start, after the gates are read. -/
theorem dispatch_one {t : State} (ht : openGates c s = t) (hq : (t.ctx c).queue = [e]) (he : e.Startable t c) (hp : e.prio < 8) :
    dispatch c s = startTask c e t := by
  rw [dispatch, ht, hq, dispatchOrder_one (effPrio_lt hp), List.foldl_cons, List.foldl_nil, dispatchOne_starts he]

theorem mem_of_mem_dispatchOrder {aging now : Nat} {l : List QEntry} (h : e ∈ dispatchOrder aging now l) : e ∈ l := by
  obtain ⟨m, hm, he⟩ := List.mem_flatten.mp h
  obtain ⟨k, -, rfl⟩ := List.mem_map.mp hm
  exact List.mem_of_mem_filter he

/-- Tasks that stay leave the state alone. -/
theorem foldl_dispatchOne_stays {l : List QEntry} (h : ∀ x ∈ l, ∀ b, (dispatchOne c (b, s) x).2 = s) (b : BitVec 128) :
    (l.foldl (dispatchOne c) (b, s)).2 = s := by
  induction l generalizing b with
  | nil => rfl
  | cons x l ih =>
    have hx : dispatchOne c (b, s) x = ((dispatchOne c (b, s) x).1, s) := Prod.ext rfl (h x List.mem_cons_self b)
    rw [List.foldl_cons, hx]
    exact ih (fun y hy => h y (List.mem_cons_of_mem _ hy)) _

/-- A queue of one task that may not start, after the gates are read. -/
theorem dispatch_none {t : State} (ht : openGates c s = t) (hq : (t.ctx c).queue = [e])
    (he : e.opened = false ∨ ∃ k, k < 80 ∧ e.clusters.getLsbD k = true ∧ clusterFree t c k = false) : dispatch c s = t := by
  rw [dispatch, ht, hq]
  refine foldl_dispatchOne_stays (fun x hx b => ?_) 0
  obtain rfl := List.mem_singleton.mp (mem_of_mem_dispatchOrder hx)
  obtain ho | ⟨k, hk, hb, hf⟩ := he
  · rw [dispatchOne_closed _ ho]
  · exact dispatchOne_stays (mem_clusterList.mpr ⟨hk, hb⟩) hf b

end

/-! ### Landing leaves the scratchpad alone (R70, R157) -/

section
variable (n t : Nat) (c : Core)

theorem landFlight_spad (f : Flight) : (landFlight n c f).spad = c.spad := by
  unfold landFlight landFlags
  cases f.dest <;> dsimp only <;> split <;> rfl

theorem landWhere_spad (due : Flight → Bool) (k : Nat) : (landWhere n due k c).spad = c.spad := by
  induction k generalizing c with
  | zero => rfl
  | succ k ih =>
    unfold landWhere
    split
    · rfl
    · rw [ih, landFlight_spad]

theorem landScales_spad (k : Nat) : (landScales t k c).spad = c.spad := by
  induction k generalizing c with
  | zero => rfl
  | succ k ih =>
    unfold landScales
    split
    · rfl
    · split
      · rw [ih]; rfl
      · rfl

theorem landLoomRow_spad (now : Option Vec) : (landLoomRow n now c).spad = c.spad := by
  unfold landLoomRow
  split
  · rfl
  · dsimp only
    split <;> rfl

theorem landLoomDue_spad (k : Nat) : (landLoomDue n t k c).spad = c.spad := by
  induction k generalizing c with
  | zero => rfl
  | succ k ih =>
    unfold landLoomDue
    split
    · rfl
    · split
      · rw [ih, landLoomRow_spad]
      · rfl

theorem landDue_spad : (landDue n t c).spad = c.spad :=
  (landLoomDue_spad ..).trans ((landScales_spad ..).trans (landWhere_spad ..))

end

/-! ### The end of a task (R101, R252, R257) -/

section
variable {s : State} {c i : Nat} {k : Task}

theorem coreEnded_iff {id q : Nat} : coreEnded s c id q = true ↔
    (s.core q).ctx = some c ∧ (s.core q).task = id ∧ (s.core q).run = .halted ∧ settled s q = true := by
  simp only [coreEnded, Bool.and_eq_true, decide_eq_true_eq, beq_iff_eq, and_assoc]

/-- Every core of a task has halted and landed. -/
def Ended (s : State) (c : Nat) (k : Task) : Prop :=
  ∀ q l r, (q, l, r) ∈ taskCores (s.ctx c) k.clusters →
    (s.core q).ctx = some c ∧ (s.core q).task = k.id ∧ (s.core q).run = .halted ∧ settled s q = true

theorem all_coreEnded_iff : (taskCores (s.ctx c) k.clusters).all (fun q => coreEnded s c k.id q.1) = true ↔ Ended s c k := by
  simp only [List.all_eq_true, coreEnded_iff]
  exact ⟨fun h q l r hq => h (q, l, r) hq, fun h a ha => h a.1 a.2.1 a.2.2 ha⟩

/-- The state once the cores of a task are released and the task is no longer listed. -/
def taskReleased (s : State) (c i : Nat) (k : Task) : State :=
  ((taskCores (s.ctx c) k.clusters).foldl (fun u q => u.onCore q.1 (releaseFromTask s.freeCtr s.cycle c)) s).onCtx c
    (fun y => { y with tasks := listDrop y.tasks i })

theorem taskReleased_mem : (taskReleased s c i k).mem = s.mem := foldl_onCore_mem

theorem taskReleased_ctx : (taskReleased s c i k).ctx c = { s.ctx c with tasks := (s.ctx c).tasks.eraseIdx i } := by
  rw [taskReleased, State.ctx_onCtx_self, foldl_onCore_ctx, listDrop_eq_eraseIdx]

theorem taskReleased_sameView : Ctx.SameView (s.ctx c) ((taskReleased s c i k).ctx c) := by
  rw [taskReleased_ctx]
  exact ⟨rfl, rfl, rfl, rfl, rfl, rfl⟩

/-- A core released from its task is idle and keeps its scratchpad. -/
theorem taskReleased_core {q l r : Nat} (h : (q, l, r) ∈ taskCores (s.ctx c) k.clusters) :
    ((taskReleased s c i k).core q).run = .idle ∧ ((taskReleased s c i k).core q).spad = (s.core q).spad :=
  foldl_onCore_core (P := fun d => d.run = .idle ∧ d.spad = (s.core q).spad) (Q := fun d => d.spad = (s.core q).spad)
    (fun _ _ _ d hd => ⟨rfl, (landDue_spad _ _ d).trans hd⟩) (fun _ hd => hd.2) rfl (.inr ⟨(q, l, r), h, rfl⟩)

theorem taskReleased_memWord (va : Nat) : memWord (taskReleased s c i k) c va = memWord s c va :=
  memWord_congr taskReleased_sameView fun _ _ => by rw [taskReleased_mem]

section
variable (hk : (s.ctx c).tasks[i]? = some k)
include hk

theorem taskEnd_waits (h : ¬Ended s c k) : taskEnd c i s = s := by
  rw [taskEnd, hk]
  exact if_neg (mt all_coreEnded_iff.mp h)

theorem taskEnd_plain (h : Ended s c k) (hg : k.graph = none) :
    taskEnd c i s = liveBump c (k.record + 48) (taskReleased s c i k) := by
  rw [taskEnd, hk]
  refine (if_pos (all_coreEnded_iff.mpr h)).trans ?_
  rw [hg]
  rfl

theorem taskEnd_replay {g : Nat × Nat} (h : Ended s c k) (hg : k.graph = some g) :
    taskEnd c i s = liveBump c (k.record + 48) (endReplay c g (taskReleased s c i k)) := by
  rw [taskEnd, hk]
  refine (if_pos (all_coreEnded_iff.mpr h)).trans ?_
  rw [hg]
  rfl

theorem taskEnd_plain_tasks (h : Ended s c k) (hg : k.graph = none) :
    ((taskEnd c i s).ctx c).tasks = (s.ctx c).tasks.eraseIdx i := by
  rw [taskEnd_plain hk h hg, liveBump, atomAct_tasks, taskReleased_ctx]

/-- The cores of a task that has ended are idle, and their scratchpads stay (R252). -/
theorem taskEnd_plain_core (h : Ended s c k) (hg : k.graph = none) {q l r : Nat} (hq : (q, l, r) ∈ taskCores (s.ctx c) k.clusters) :
    ((taskEnd c i s).core q).run = .idle ∧ ((taskEnd c i s).core q).spad = (s.core q).spad := by
  rw [taskEnd_plain hk h hg, liveBump, atomAct_core]
  exact taskReleased_core hq

/-- `done` goes up, and no byte beside it changes (R252). -/
theorem taskEnd_plain_mem (h : Ended s c k) (hg : k.graph = none) :
    let key := keyOf s c ((k.record + 48) / 8 * 8)
    (taskEnd c i s).mem.read key 8 = (memWord s c (k.record + 48) + 1).toNat ∧
    ∀ m, m < key ∨ key + 8 ≤ m → (taskEnd c i s).mem.byte m = s.mem.byte m := by
  rw [taskEnd_plain hk h hg, liveBump_mem, taskReleased_mem, taskReleased_memWord, keyOf_congr taskReleased_sameView]
  exact ⟨Memory.read_write_word .., fun m hm => Memory.byte_write_out _ _ hm⟩

/-- At the end of a replay its block is no longer busy, and `ended` and `done` go up (R257). -/
theorem taskEnd_replay_mem {g f : Nat} (h : Ended s c k) (hg : k.graph = some (g, f)) (hp : Plain s c) (hlt : g + 64 ≤ 2 ^ 48)
    (hg8 : g % 8 = 0) (hr8 : k.record % 8 = 0) (hf : f < 2) (hsep : k.record + 56 ≤ g ∨ g + 64 ≤ k.record)
    (hbusy : (memWord s c g).toNat / 2 ^ (34 + f) % 2 = 1) :
    (taskEnd c i s).mem.read (c * 2 ^ 48 + g) 8 = (memWord s c g).toNat - 2 ^ (34 + f) ∧
    (taskEnd c i s).mem.read (c * 2 ^ 48 + g + 16) 8 = (memWord s c (g + 16) + 1).toNat ∧
    (taskEnd c i s).mem.read (c * 2 ^ 48 + k.record + 48) 8 = (memWord s c (k.record + 48) + 1).toNat := by
  obtain ⟨u, hu, hv⟩ := endReplay_spec (hp.congr taskReleased_sameView) hlt hg8 hf
    (show (memWord (taskReleased s c i k) c g).toNat / 2 ^ (34 + f) % 2 = 1 by rwa [taskReleased_memWord])
  rw [taskReleased_memWord] at hu hv
  have hw : WordChanged (endReplay c (g, f) (taskReleased s c i k)) (taskEnd c i s) c (k.record + 48) (memWord s c (k.record + 48) + 1) := by
    rw [taskEnd_replay hk h hg, ← taskReleased_memWord (i := i) (k := k), ← hu.word (k.record + 48) (by omega) (by omega),
      ← hv.word (k.record + 48) (by omega) (by omega)]
    exact atomAct_wordChanged hv.plain (by omega) (by decide)
  refine ⟨?_, ?_, ?_⟩
  · rw [hw.other g hg8 (by omega), hv.other g hg8 (by omega), hu.there, BitVec.toNat_ofNat]
    exact Nat.mod_eq_of_lt (Nat.lt_of_le_of_lt (Nat.sub_le _ _) (memWord s c g).isLt)
  · rw [Nat.add_assoc, hw.other (g + 16) (by omega) (by omega), hv.there]
  · rw [Nat.add_assoc, hw.there]

end

end

/-! ### Records of the dispatcher (R245, R253) -/

section
variable {s : State} {c p : Nat}

/-- A record that the ring does not take joins those held (R263). -/
theorem postFault_held {r : FaultRec} (ha : s.faultQ.armed = false) (hl : s.held.length < 256) :
    (postFault r s).held = s.held ++ [r] := by
  have hopen : s.faultQ.open = false := by rw [QueueCtl.open, ha]; rfl
  rw [postFault, hopen, Bool.false_and, if_neg Bool.false_ne_true, if_pos hl]

theorem postFault_ctxs (r : FaultRec) : (postFault r s).ctxs = s.ctxs := by
  unfold postFault
  dsimp only
  split_ifs <;> rfl

theorem postFault_cores (r : FaultRec) : (postFault r s).cores = s.cores := by
  unfold postFault
  dsimp only
  split_ifs <;> rfl

theorem postFault_ctx (r : FaultRec) (d : Nat) : (postFault r s).ctx d = s.ctx d := by
  rw [State.ctx, postFault_ctxs, State.ctx]

theorem postFault_core (r : FaultRec) (q : Nat) : (postFault r s).core q = s.core q := by
  rw [State.core, postFault_cores, State.core]

theorem threadDone_iff {x : Ctx} : threadDone x = true ↔
    x.state = 1 ∧ x.thr.halted = true ∧ x.queue = [] ∧ x.tasks = [] ∧ x.haltRec = false := by
  simp only [threadDone, Bool.and_eq_true, beq_iff_eq, List.isEmpty_iff, Bool.not_eq_true', and_assoc]

theorem bankStall_nothing (h : (s.core p).stallSeen = true ∨ stalledOn s p = none) : bankStall p s = s := by
  unfold bankStall
  split
  · rfl
  · next m hm =>
    exact if_pos (h.resolve_right (by rw [hm]; exact Option.some_ne_none m))

end

/-! ### TASK_DISPATCH, by the queue (R250 to R252) -/

section
variable {s : State} {c : Nat} {e f : QEntry}

theorem clusterFree_gateOpened {q : List QEntry} {k : Nat} :
    clusterFree (s.onCtx c fun x => { x with queue := q }) c k = clusterFree s c k := by
  refine clusterFree_congr ?_ ?_ rfl rfl <;> rw [State.ctx_onCtx_self]

/-- A task alone in the queue whose barrier has left the phase waited away from: the gate is open before the decision (R250). -/
theorem openGates_flipped (hst : (s.ctx c).state = 1) (hq : (s.ctx c).queue = [e]) (ho : e.opened = false)
    (hf : gateFlipped s c e = true) : openGates c s = s.onCtx c (fun x => { x with queue := [gateOpened s c e] }) := by
  rw [openGates_one hst hq ho, gateOpen_opens (by rw [hq]; rfl) ho hf, State.onCtx, State.onCtx, hq]
  rfl

section
variable (hst : (s.ctx c).state = 1) (hq : (s.ctx c).queue = [e]) (ho : e.opened = false) (hf : gateFlipped s c e = true)
include hst hq ho hf

/-- With its gate opened and a cluster taken, the task stays. -/
theorem dispatch_opened_stays (hbusy : ∃ k, k < 80 ∧ e.clusters.getLsbD k = true ∧ clusterFree s c k = false) :
    dispatch c s = s.onCtx c (fun x => { x with queue := [gateOpened s c e] }) := by
  obtain ⟨k, hk, hb, hfree⟩ := hbusy
  exact dispatch_none (e := gateOpened s c e) (openGates_flipped hst hq ho hf) (by rw [State.ctx_onCtx_self])
    (.inr ⟨k, hk, hb, clusterFree_gateOpened.trans hfree⟩)

/-- With its gate opened and its clusters free, the task starts. -/
theorem dispatch_opened_starts (hp : e.prio < 8)
    (hfree : ∀ k, k < 80 → e.clusters.getLsbD k = true → clusterFree s c k = true) :
    dispatch c s = startTask c (gateOpened s c e) (s.onCtx c fun x => { x with queue := [gateOpened s c e] }) :=
  dispatch_one (e := gateOpened s c e) (openGates_flipped hst hq ho hf) (by rw [State.ctx_onCtx_self])
    ⟨rfl, fun k hk hb => clusterFree_gateOpened.trans (hfree k hk hb)⟩ hp

end

section
variable (hq : (s.ctx c).queue = [e, f]) (he : e.Startable s c) (hf : f.Startable s c) (hpe : e.prio < 8) (hpf : f.prio < 8)
  {k : Nat} (hk : k < 80) (hke : e.clusters.getLsbD k = true) (hkf : f.clusters.getLsbD k = true)
include hq he hf hpe hpf hk hke hkf

theorem dispatch_two :
    dispatch c s = if effPrio (s.ctx c).aging s.cycle f ≤ effPrio (s.ctx c).aging s.cycle e
      then startTask c e s else startTask c f s := by
  have hopen : openGates c s = s := openGates_open fun a ha => by
    rw [hq, List.mem_pair] at ha
    obtain rfl | rfl := ha
    · exact he.opened
    · exact hf.opened
  rw [dispatch, hopen, hq, dispatchOrder_two (effPrio_lt hpe) (effPrio_lt hpf)]
  split_ifs
  · exact dispatch_first_of_two he hk hke hkf
  · exact dispatch_first_of_two hf hk hkf hke

theorem dispatch_two_first (hle : effPrio (s.ctx c).aging s.cycle f ≤ effPrio (s.ctx c).aging s.cycle e) :
    dispatch c s = startTask c e s :=
  (dispatch_two hq he hf hpe hpf hk hke hkf).trans (if_pos hle)

theorem dispatch_two_second (hlt : effPrio (s.ctx c).aging s.cycle e < effPrio (s.ctx c).aging s.cycle f) :
    dispatch c s = startTask c f s :=
  (dispatch_two hq he hf hpe hpf hk hke hkf).trans (if_neg (Nat.not_le.mpr hlt))

end

end

/-! ### The records by their events (R245, R253) -/

section
variable {s : State} {c p : Nat} {m : W64}

/-- The state that BANK_STALL makes its record in. -/
def stallNoted (s : State) (p : Nat) : State :=
  countCtx (s.ctxOf p) 0x822 1 (s.onCore p fun k => { k with stallSeen := true })

/-- The record of BANK_STALL (R253). -/
theorem bankStall_record (hm : stalledOn s p = some m) (hseen : (s.core p).stallSeen = false) :
    ∃ r : FaultRec, bankStall p s = postFault r (stallNoted s p) ∧ r.kind = 2 ∧ r.core = (s.core p).lcore ∧ r.phys = physWord p := by
  simp only [bankStall, hm, hseen, Bool.false_eq_true, if_false]
  refine ⟨_, rfl, rfl, ?_, rfl⟩
  rw [coreRecord, State.core_onCore_self]

theorem stallNoted_core : (stallNoted s p).core p = { s.core p with stallSeen := true } :=
  (State.core_onCtx ..).trans (State.core_onCore_self ..)

theorem stallNoted_counter : Tab.get 0 ((stallNoted s p).ctx (s.ctxOf p)).ctr 0x822 =
    min (Tab.get 0 (s.ctx (s.ctxOf p)).ctr 0x822 + 1) (2 ^ 32 - 1) := by
  rw [stallNoted, countCtx, State.ctx_onCtx_self]
  exact Tab.get_set_self ..

end

section
variable {s : State} {c : Nat}

theorem exec_gateOpen {i : Nat} : exec (.gateOpen c i) s = happen (fun s => (s.ctx c).state == 1) (gateOpen c i) s := rfl

theorem exec_taskEnd {i : Nat} : exec (.taskEnd c i) s = happen (fun s => (s.ctx c).state == 1) (taskEnd c i) s := rfl

theorem exec_bankStall {p : Nat} : exec (.bankStall p) s = happen (fun s => coreAlive s p) (bankStall p) s := rfl

/-- The state after the record of a halted stream thread (R245). -/
def haltNoted (c : Nat) (s : State) : State :=
  postFault { ctxRecord s 3 0 c 0 with at_ := BitVec.ofNat 64 (s.ctx c).thr.haltAt } (s.onCtx c fun x => { x with haltRec := true })

theorem exec_streamThreadHalted :
    exec (.streamThreadHalted c) s = happen (fun s => threadDone (s.ctx c)) (haltNoted c) s := rfl

theorem haltNoted_haltRec : ((haltNoted c s).ctx c).haltRec = true := by
  rw [haltNoted, postFault_ctx, State.ctx_onCtx_self]

/-- Settles O41: the dispatcher by the queue (`dispatch_one`, `dispatch_none`, `dispatch_two`), a core's start by `startTask_started`, the
end of a task by what `taskReleased` leaves and the words that `liveBump` and `endReplay` change, the records by `postFault_held`. -/
theorem taskDispatchAndEnd : Obligations.TaskDispatchAndEnd := by
  unfold Obligations.TaskDispatchAndEnd
  refine ⟨fun s c hpow => ?_, fun s c i p hpow => ?_⟩
  · intro x ready eff runs
    have hruns {e : QEntry} {t : State} {q : List QEntry} (hx : t.ctx c = { x with queue := q }) :
        runs (drawn s (startTask c e t)) e := by
      simp only [runs, drawn_ctx, startTask_ctx, hx, and_self]
    refine ⟨exec_taskDispatch_off hpow, fun hst hsave => ?_⟩
    rw [exec_taskDispatch hpow hst hsave]
    refine ⟨fun e hq ⟨ho, hp, hfree⟩ => ?_, fun e hq ho => ?_,
      fun e f hq ⟨ho, hp, hfree⟩ ⟨ho', hp', hfree'⟩ ⟨k, hk, hke, hkf⟩ => ?_⟩
    · have hopen : openGates c s = s := openGates_open fun a ha => by
        rw [hq, List.mem_singleton] at ha
        rw [ha, ho]
      rw [dispatch_one hopen hq ⟨ho, hfree⟩ hp]
      refine ⟨_, rfl, startTask_queue_head hq, hruns rfl, startTask_mem, fun q l r hm hone => ?_, fun q hno => startTask_other hno⟩
      obtain ⟨hrun, hctx, hlcore, htask, hpc, hseq, hstew, hscale, hs, hps, hv, hspad⟩ := startTask_started hm hone
      exact ⟨hrun, hctx, hlcore, htask, hpc, hseq, hstew, hscale, hs, hps, hv, hspad⟩
    · refine ⟨fun hbit => ?_, fun hbit => ⟨fun hbusy => ?_, fun hp hfree => ?_⟩⟩
      · have hstays : gateOpen c 0 s = s := gateOpen_stays (by rw [hq]; rfl) (.inr (not_gateFlipped_iff.mpr hbit))
        rw [dispatch_none ((openGates_one hst hq ho).trans hstays) hq (.inl ho)]
      · rw [dispatch_opened_stays hst hq ho (gateFlipped_iff.mpr hbit) hbusy]
        exact ⟨_, _, rfl, by rw [drawn_ctx, State.ctx_onCtx_self]; rfl, rfl, rfl⟩
      · rw [dispatch_opened_starts hst hq ho (gateFlipped_iff.mpr hbit) hp hfree]
        exact ⟨_, rfl, startTask_queue_head (State.ctx_onCtx_self .. ▸ rfl), hruns (e := gateOpened s c e) (State.ctx_onCtx_self ..),
          startTask_mem⟩
    · refine ⟨_, rfl, fun hle => ?_, fun hlt => ?_⟩
      · rw [dispatch_two_first hq ⟨ho, hfree⟩ ⟨ho', hfree'⟩ hp hp' hk hke hkf hle]
        exact ⟨startTask_queue_head hq, hruns rfl⟩
      · have hne : e ≠ f := fun h => by rw [h] at hlt; exact lt_irrefl _ hlt
        rw [dispatch_two_second hq ⟨ho, hfree⟩ ⟨ho', hfree'⟩ hp hp' hk hke hkf hlt]
        exact ⟨startTask_queue_second hne hq, hruns rfl⟩
  · intro x nothing word
    have hstay {f : State → State} {j : Instr} {en : State → Bool} (hx : exec j s = happen en f s) (h : en s = true → f s = s) :
        nothing j := exec_happens_not hx hpow h
    have hoff {j : Instr} {f : State → State} (hx : exec j s = happen (fun s => (s.ctx c).state == 1) f s) (hst : x.state ≠ 1) :
        nothing j := hstay hx fun h => absurd (beq_iff_eq.mp h) hst
    have hdoes {j : Instr} {f : State → State} (hx : exec j s = happen (fun s => (s.ctx c).state == 1) f s) (hst : x.state = 1) :
        exec j s = .next (drawn s (f s)) := exec_happens hx hpow (beq_iff_eq.mpr hst)
    refine ⟨fun e hst hq ho => hstay exec_gateOpen fun _ => gateOpen_stays hq (.inl ho), fun e hst hq ho => ⟨fun hbit => ?_,
      fun hbit => ?_⟩, fun hst => ⟨hoff exec_gateOpen hst, hoff exec_taskEnd hst, ?_⟩, fun k hst hk => ?_,
      fun hst hh hq ht hr => ?_, fun h => ?_, fun h => hstay exec_bankStall fun _ => bankStall_nothing h,
      fun m ha hm hseen => ?_⟩
    · exact hstay exec_gateOpen fun _ => gateOpen_stays hq (.inr (not_gateFlipped_iff.mpr hbit))
    · have hopens := hdoes (exec_gateOpen (i := i)) hst
      rw [gateOpen_opens hq ho (gateFlipped_iff.mpr hbit)] at hopens
      refine ⟨_, (gateOpened s c e).acq, hopens, ?_, ?_⟩ <;> rw [drawn_ctx, State.ctx_onCtx_self] <;> rfl
    · exact hstay exec_streamThreadHalted fun h => absurd (threadDone_iff.mp h).1 hst
    · intro ended key
      refine ⟨fun hn => hstay exec_taskEnd fun _ => taskEnd_waits hk hn, fun hend hg => ?_,
        fun g f hend hg hp hlt hg8 hr8 hf hsep hbusy => ?_⟩
      · exact ⟨_, hdoes exec_taskEnd hst, taskEnd_plain_tasks hk hend hg, fun q l r => taskEnd_plain_core hk hend hg,
          taskEnd_plain_mem hk hend hg⟩
      · exact ⟨_, hdoes exec_taskEnd hst, taskEnd_replay_mem hk hend hg hp hlt hg8 hr8 hf hsep hbusy⟩
    · exact ⟨_, exec_happens exec_streamThreadHalted hpow (threadDone_iff.mpr ⟨hst, hh, hq, ht, hr⟩), haltNoted_haltRec,
        postFault_held (s := s.onCtx c fun x => { x with haltRec := true })⟩
    · exact hstay exec_streamThreadHalted fun hd => by
        obtain ⟨-, hhalted, hqueue, htasks, hrec⟩ := threadDone_iff.mp hd
        rw [hhalted, hrec] at h
        tauto
    · obtain ⟨r, hrec, hkind, hcore, hphys⟩ := bankStall_record hm hseen
      refine ⟨_, exec_happens exec_bankStall hpow ha, ?_⟩
      rw [hrec]
      refine ⟨?_, ?_, fun harm hlen => ⟨r, postFault_held (s := stallNoted s p) harm hlen, hkind, hcore, hphys⟩⟩
      · rw [drawn_core, postFault_core, stallNoted_core]
      · rw [drawn_ctx, postFault_ctx, stallNoted_counter]

end

end Sys2Proof.Machine
end

section
/-!
PROOF. Vector registers element by element (R122, R123, R125): what a gathered register holds, and what an instruction of the V slot alone
in its bundle sends.
-/

namespace Sys2Proof.Machine

/-! ### Elements gathered into a number -/

section
variable (z : Nat) (f : Nat → Nat × Flags)

theorem gather_lt (n : Nat) : (gather z f n).1 < 2 ^ (z * n) := by
  induction n with
  | zero => exact Nat.one_pos
  | succ n ih =>
    have hdigit : (f n).1 % 2 ^ z + 1 ≤ 2 ^ z := Nat.mod_lt _ (Nat.two_pow_pos z)
    calc (gather z f n).1 + (f n).1 % 2 ^ z * 2 ^ (z * n)
        < ((f n).1 % 2 ^ z + 1) * 2 ^ (z * n) := by rw [Nat.add_mul, Nat.one_mul, Nat.add_comm]; exact Nat.add_lt_add_left ih _
      _ ≤ 2 ^ z * 2 ^ (z * n) := Nat.mul_le_mul_right _ hdigit
      _ = 2 ^ (z * (n + 1)) := by rw [← pow_add, Nat.mul_succ, Nat.add_comm]

theorem gather_digit {j n : Nat} (h : j < n) : (gather z f n).1 / 2 ^ (z * j) % 2 ^ z = (f j).1 % 2 ^ z := by
  induction n with
  | zero => exact absurd h (Nat.not_lt_zero j)
  | succ n ih =>
    rw [gather]
    obtain hlt | rfl := Nat.lt_succ_iff_lt_or_eq.mp h
    · have hpow : 2 ^ (z * n) = 2 ^ (z * j) * (2 ^ z * 2 ^ (z * (n - j - 1))) := by
        obtain ⟨m, rfl⟩ := Nat.exists_eq_add_of_lt hlt
        rw [← pow_add, ← pow_add, Nat.add_assoc, Nat.add_sub_cancel_left, Nat.add_sub_cancel, Nat.mul_add, Nat.mul_succ,
          Nat.add_comm (z * m)]
      rw [hpow, Nat.mul_left_comm, Nat.add_mul_div_left _ _ (Nat.two_pow_pos _), Nat.mul_left_comm, Nat.add_mul_mod_self_left, ih hlt]
    · rw [Nat.add_mul_div_right _ _ (Nat.two_pow_pos _), Nat.div_eq_of_lt (gather_lt z f j), Nat.zero_add, Nat.mod_mod]

theorem getLsbD_gather_flags (n b : Nat) :
    (gather z f n).2.getLsbD b = true ↔ ∃ j, j < n ∧ (f j).2.getLsbD b = true := by
  induction n with
  | zero => simp [gather]
  | succ n ih => rw [gather, BitVec.getLsbD_or, Bool.or_eq_true, ih, Nat.exists_lt_succ_right]

end

/-! ### The views of a register (R123) -/

theorem fmtBytes_cases (f : Nat) : fmtBytes f = 4 ∨ fmtBytes f = 2 ∨ fmtBytes f = 1 := by
  unfold fmtBytes
  split_ifs <;> decide

theorem fmtBits_pos (f : Nat) : 0 < fmtBits f := by
  unfold fmtBits
  obtain h | h | h := fmtBytes_cases f <;> rw [h] <;> decide

theorem two_pow_fmtBits (f : Nat) : 2 ^ fmtBits f = 2 * 2 ^ (fmtBits f - 1) := by
  rw [← pow_succ', Nat.sub_add_cancel (fmtBits_pos f)]

/-- The elements of a view fill the register. -/
theorem fmtBits_mul_viewLen (f : Nat) : fmtBits f * viewLen f = 4096 := by
  unfold viewLen fmtBits
  obtain h | h | h := fmtBytes_cases f <;> rw [h]

theorem elem_lt (v : Vec) (z j : Nat) : elem v z j < 2 ^ z := Nat.mod_lt _ (Nat.two_pow_pos z)

theorem toNat_ofNat_of_lt {w n : Nat} (h : n < 2 ^ w) : (BitVec.ofNat w n).toNat = n := by
  rw [BitVec.toNat_ofNat, Nat.mod_eq_of_lt h]

/-- The elements of a register gathered from its view. -/
theorem elem_gather (f : Nat) (op : Nat → Nat × Flags) {j : Nat} (hj : j < viewLen f) :
    elem (BitVec.ofNat 4096 (gather (fmtBits f) op (viewLen f)).1) (fmtBits f) j = (op j).1 % 2 ^ fmtBits f := by
  have hfits := gather_lt (fmtBits f) op (viewLen f)
  rw [fmtBits_mul_viewLen] at hfits
  rw [elem, toNat_ofNat_of_lt hfits, gather_digit _ _ hj]

/-- A register built under the lane guard holds `op` in the lanes that are on (R125, R140). -/
theorem laned_mapLanes (f : Nat) (g : Pred) (old : Vec) (op : Nat → Nat × Flags) :
    Laned f g old op (mapLanes f g old op).1 (mapLanes f g old op).2 := by
  have helem {j : Nat} (hj : j < 4096 / fmtBits f) : elem (mapLanes f g old op).1 (fmtBits f) j =
      (if g.getLsbD (j * fmtBytes f / 4) then op j else (elem old (fmtBits f) j, 0)).1 % 2 ^ fmtBits f :=
    elem_gather f _ hj
  refine ⟨fun j hj hon => ?_, fun j hj hoff => ?_, fun b => (getLsbD_gather_flags _ _ _ b).trans ?_⟩
  · rw [helem hj, if_pos hon]
  · rw [helem hj, if_neg (by rw [hoff]; decide), Nat.mod_eq_of_lt (elem_lt _ _ _)]
  · refine exists_congr fun j => and_congr_right fun _ => ?_
    rw [laneBit, laneOf]
    cases g.getLsbD (j * fmtBytes f / 4) <;> simp

/-! ### What an instruction of the V slot sends -/

theorem streamOnly_of_vec {i : Instr} (h : i.cls = some .vec) : i.streamOnly = false := by
  cases i <;> first | rfl | cases h

section
variable {i : Instr} {s : State} {p k lat : Nat} {g : BitVec 5} {d a b : BitVec 6} {f : BitVec 3}

theorem settled_append {l m : List Dest} (hl : Settled s p l) (hm : Settled s p m) : Settled s p (l ++ m) := fun d hd =>
  (List.mem_append.mp hd).elim (hl d) (hm d)

/-- The b operand as the instruction sees it in its bundle (R54, R125). -/
theorem bElem_eq_bOf (hb : BSettled s p b) (n j : Nat) : bElem s (soleEnv s p k 0) b n j = bOf s p b n j := by
  by_cases h : b = 63
  · rw [BSettled, if_pos h] at hb
    rw [bElem, bOf, if_pos h, if_pos h, soleEnv, portElem, portValue, if_pos hb.1]
  · rw [bElem, bOf, if_neg h, if_neg h]
    rfl

theorem bOf_lt (n j : Nat) : bOf s p b n j < 2 ^ fmtBits n := by
  unfold bOf
  split_ifs
  · exact Nat.mod_lt _ (Nat.two_pow_pos _)
  · exact elem_lt _ _ _

theorem BSettled.ported (hb : BSettled s p b) (h : (b == 63) = true) : Ported s p := by
  rwa [BSettled, if_pos (beq_iff_eq.mp h)] at hb

theorem BSettled.settled (hb : BSettled s p b) : Settled s p (bSrc (s.core p) b) := by
  unfold BSettled at hb
  unfold bSrc
  split_ifs at hb ⊢
  · exact settled_nil s p
  · simpa [Settled] using hb

/-- An instruction of the V slot that nothing holds back, and that only sends one result, sends it (R74). -/
theorem exec_sends {dst : Core → Dest} {srcs : Core → List Dest} {port : Bool} {cm : State → Env → State → State} {x : Vec} {fl : Flags}
    (hi : Issues s p k) (hm : meaningOf i = { dests := fun c => [dst c], srcs := srcs, port := port, commit := cm })
    (hcls : i.cls = some .vec) (hw : i.detail = none) (hp : port = true → Ported s p) (hf : Settled s p (srcs (s.core p)))
    (hd : Settled s p [dst (s.core p)]) (hplain : (dst (s.core p)).plain = true)
    (hc : cm s (soleEnv s p k 0) s = emit (.core p) k (dst (s.core p)) x lat fl s) :
    exec i s = .next (after s p (sends s p k (dst (s.core p)) x lat fl)) := by
  have hcommits := exec_commits (by rw [hcls]; exact Option.some_ne_none _) hi hw (streamOnly_of_vec hcls) (by rw [hm])
    (by rw [hm]; exact hp) (by rw [hm]) (by rw [hm]; exact settled_append hf hd) (by rw [hm]) (by rw [hm])
    (by rw [hm]; exact Nat.zero_le 3)
  rw [hcommits, hm]
  show Host.Outcome.next (drawn s (retire p s.header .fall (cm s (soleEnv s p k 0) s))) = _
  rw [hc, emit_core _ _ _ _ _ _ _ hplain, retire_fall]

/-- An instruction that writes v[d] under the lane guard, and that nothing holds back, sends its register. -/
theorem exec_vecWrite {n : Nat} {srcs : Core → List Dest} {port : Bool} {o : State → Env → Nat → Nat × Flags} {op : Nat → Nat × Flags}
    (hi : Issues s p k) (hm : meaningOf i = vecWrite g d n srcs port lat o) (hcls : i.cls = some .vec) (hw : i.detail = none)
    (hp : port = true → Ported s p) (hf : Settled s p (srcs (s.core p))) (hd : SettledV s p [d])
    (ho : ∀ j, o s (soleEnv s p k 0) j = op j) : SendsLanes i s p k d n (readP s p g) lat op := by
  obtain rfl := funext ho
  exact ⟨_, _, laned_mapLanes .., exec_sends hi hm hcls hw hp hf hd (destV_plain _ d) rfl⟩

theorem SettledV.fst (hv : SettledV s p [a, d]) : SettledV s p [a] := fun x hx => hv x (List.mem_append_left [destV (s.core p) d] hx)

theorem SettledV.snd (hv : SettledV s p [a, d]) : SettledV s p [d] := fun x hx => hv x (List.mem_append_right [destV (s.core p) a] hx)

section
variable {op : Nat → Nat × Flags} (hi : Issues s p k) (hv : SettledV s p [a, d])
include hi hv

/-- An element-wise instruction on a sends its result for each element (R125). -/
theorem exec_vec1 (o : Nat → Nat × Flags) (hm : meaningOf i = mVec1 g d a f lat o) (hcls : i.cls = some .vec)
    (hw : i.detail = none) (ho : ∀ j, o (elem (readV s p a) (fmtBits f.toNat) j) = op j) :
    SendsLanes i s p k d f.toNat (readP s p g) lat op :=
  exec_vecWrite hi hm hcls hw (fun h => by cases h) hv.fst hv.snd ho

variable (hb : BSettled s p b)
include hb

/-- An element-wise instruction on a and b sends its result for each pair of elements (R125). -/
theorem exec_vec2 (o : Nat → Nat → Nat × Flags) (hm : meaningOf i = mVec2 g d a b f lat o) (hcls : i.cls = some .vec)
    (hw : i.detail = none) (ho : ∀ j, o (elem (readV s p a) (fmtBits f.toNat) j) (bOf s p b f.toNat j) = op j) :
    SendsLanes i s p k d f.toNat (readP s p g) lat op :=
  exec_vecWrite hi hm hcls hw hb.ported (settled_append hv.fst hb.settled) hv.snd fun j =>
    (congrArg (o _) (bElem_eq_bOf hb f.toNat j)).trans (ho j)

/-- An element-wise instruction on a, b and the old destination sends its result for each three elements (R125). -/
theorem exec_vec3 (o : Nat → Nat → Nat → Nat × Flags) (hm : meaningOf i = mVec3 g d a b f lat o) (hcls : i.cls = some .vec)
    (hw : i.detail = none)
    (ho : ∀ j, o (elem (readV s p a) (fmtBits f.toNat) j) (bOf s p b f.toNat j) (elem (readV s p d) (fmtBits f.toNat) j) = op j) :
    SendsLanes i s p k d f.toNat (readP s p g) lat op :=
  exec_vecWrite hi hm hcls hw hb.ported (settled_append hv.snd (settled_append hv.fst hb.settled)) hv.snd fun j =>
    (congrArg (fun y => o _ y _) (bElem_eq_bOf hb f.toNat j)).trans (ho j)

end
end

end Sys2Proof.Machine
end

section
/-!
PROOF. Operations on one element (R127 to R130, R133): each is the formula of its row.
-/

namespace Sys2Proof.Machine

/-! ### Integer elements (R27) -/

/-- The integer of a code and the code differ by a multiple of the format's range. -/
theorem intOf_modEq (f c : Nat) : intOf f c ≡ c [ZMOD (2 ^ fmtBits f : Nat)] := by
  unfold intOf
  split_ifs
  · exact Int.modEq_iff_dvd.mpr ⟨1, by ring⟩
  · rfl

/-- The code of an integer is any number that differs from it by a multiple of the range, cut to the width. -/
theorem intCode_of_modEq {f : Nat} {i : Int} {c : Nat} (h : i ≡ c [ZMOD (2 ^ fmtBits f : Nat)]) : intCode f i = c % 2 ^ fmtBits f := by
  rw [intCode, h.eq, ← Int.natCast_emod, Int.toNat_natCast]

theorem intClamp_eq_max_min {f : Nat} (h : intMin f ≤ intMax f) (i : Int) : intClamp f i = max (intMin f) (min (intMax f) i) := by
  unfold intClamp
  split_ifs <;> omega

section
variable (f x y : Nat)

theorem intOf_add_modEq : intOf f x + intOf f y ≡ (x + y : Nat) [ZMOD (2 ^ fmtBits f : Nat)] := by
  rw [Nat.cast_add]
  exact (intOf_modEq f x).add (intOf_modEq f y)

theorem intOf_mul_modEq : intOf f x * intOf f y ≡ (x * y : Nat) [ZMOD (2 ^ fmtBits f : Nat)] := by
  rw [Nat.cast_mul]
  exact (intOf_modEq f x).mul (intOf_modEq f y)

variable {y} (hy : y < 2 ^ fmtBits f)
include hy

/-- The negation of a code to the range. -/
theorem neg_intOf_modEq : -intOf f y ≡ (2 ^ fmtBits f - y : Nat) [ZMOD (2 ^ fmtBits f : Nat)] := by
  rw [Nat.cast_sub hy.le]
  refine (intOf_modEq f y).neg.trans ?_
  rw [Int.modEq_iff_dvd]
  exact ⟨1, by ring⟩

end

/-! ### Arithmetic on one element (R127) -/

section
variable (f a b d : Nat)

theorem arithOp_add : arithOp 0 f a b d =
    if f < 4 then rounded f (fpAdd 0 (fpOf f a) (fpOf f b)) else ((a + b) % 2 ^ fmtBits f, 0) := by
  rw [← intCode_of_modEq (intOf_add_modEq f a b)]
  by_cases hf : f < 4 <;> simp [arithOp, isFloat, hf, rounded]

theorem arithOp_mul : arithOp 2 f a b d =
    if f < 4 then rounded f (fpMul (fpOf f a) (fpOf f b)) else ((a * b) % 2 ^ fmtBits f, 0) := by
  rw [← intCode_of_modEq (intOf_mul_modEq f a b)]
  by_cases hf : f < 4 <;> simp [arithOp, isFloat, hf, rounded]

theorem arithOp_sub (hb : b < 2 ^ fmtBits f) : arithOp 1 f a b d =
    if f < 4 then rounded f (fpAdd 0 (fpOf f a) (fpNeg (fpOf f b))) else ((a + (2 ^ fmtBits f - b)) % 2 ^ fmtBits f, 0) := by
  have hint : intOf f a - intOf f b ≡ (a + (2 ^ fmtBits f - b) : Nat) [ZMOD (2 ^ fmtBits f : Nat)] := by
    rw [Int.sub_eq_add_neg, Nat.cast_add]
    exact (intOf_modEq f a).add (neg_intOf_modEq f hb)
  rw [← intCode_of_modEq hint]
  by_cases hf : f < 4 <;> simp [arithOp, isFloat, hf, rounded]

theorem arithOp_fma : arithOp 3 f a b d =
    if f < 4 then
      rounded f ((fpAdd 0 (fpMul (fpOf f a) (fpOf f b)).1 (fpOf f d)).1,
        (fpMul (fpOf f a) (fpOf f b)).2 ||| (fpAdd 0 (fpMul (fpOf f a) (fpOf f b)).1 (fpOf f d)).2)
    else ((a * b + d) % 2 ^ fmtBits f, 0) := by
  have hint : intOf f a * intOf f b + intOf f d ≡ (a * b + d : Nat) [ZMOD (2 ^ fmtBits f : Nat)] := by
    rw [Nat.cast_add]
    exact (intOf_mul_modEq f a b).add (intOf_modEq f d)
  rw [← intCode_of_modEq hint]
  by_cases hf : f < 4 <;> simp [arithOp, isFloat, hf, rounded]

theorem arithOp_fms (hd : d < 2 ^ fmtBits f) : arithOp 4 f a b d =
    if f < 4 then
      rounded f ((fpAdd 0 (fpMul (fpOf f a) (fpOf f b)).1 (fpNeg (fpOf f d))).1,
        (fpMul (fpOf f a) (fpOf f b)).2 ||| (fpAdd 0 (fpMul (fpOf f a) (fpOf f b)).1 (fpNeg (fpOf f d))).2)
    else ((a * b + (2 ^ fmtBits f - d)) % 2 ^ fmtBits f, 0) := by
  have hint : intOf f a * intOf f b - intOf f d ≡ (a * b + (2 ^ fmtBits f - d) : Nat) [ZMOD (2 ^ fmtBits f : Nat)] := by
    rw [Int.sub_eq_add_neg, Nat.cast_add]
    exact (intOf_mul_modEq f a b).add (neg_intOf_modEq f hd)
  rw [← intCode_of_modEq hint]
  by_cases hf : f < 4 <;> simp [arithOp, isFloat, hf, rounded]

end

/-! ### Minima, maxima and signs of one element (R128, R129) -/

/-- The order of two values is one of three. -/
theorem fpCmp_cases (x y : Fp) : fpCmp x y = -1 ∨ fpCmp x y = 0 ∨ fpCmp x y = 1 := by
  unfold fpCmp
  split
  case h_4 => dsimp only; split_ifs <;> decide
  case h_5 => decide
  all_goals split_ifs <;> decide

theorem minMaxOp_signed (big : Bool) (f a b : Nat) : minMaxOp big false f a b = lesser big f a b := by
  by_cases hf : f < 4
  · have hcmp := fpCmp_cases (fpOf f a) (fpOf f b)
    simp only [minMaxOp, lesser, isFloat, hf, decide_true, if_true, if_neg (Nat.not_lt.mpr (Nat.le_of_lt_succ hf))]
    rcases hcmp with h | h | h <;> cases big <;> simp [h]
  · simp only [minMaxOp, lesser, isFloat, hf, decide_false, Bool.false_eq_true, if_false, if_pos (Nat.lt_of_succ_le (Nat.not_lt.mp hf))]
    congr 1
    cases big <;> simp only [Bool.false_eq_true, if_true, if_false] <;> split_ifs <;> omega

theorem minMaxOp_unsigned {f : Nat} (hf : 4 ≤ f) (a b : Nat) :
    minMaxOp false true f a b = (min a b, 0) ∧ minMaxOp true true f a b = (max a b, 0) := by
  simp only [minMaxOp, isFloat, Nat.not_lt.mpr hf, decide_false, Bool.false_eq_true, if_true, if_false, Nat.cast_inj, Nat.cast_lt]
  constructor <;> congr 1 <;> split_ifs <;> omega

/-- The negation of one element (R129): the sign bit of a floating value turned over. -/
theorem signOp_neg {f a : Nat} (ha : a < 2 ^ fmtBits f) : signOp true f a =
    if f < 4 then
      if isNan (fpOf f a) then (canonNan f, sigFlag (fpOf f a)) else ((a + 2 ^ fmtBits f / 2) % 2 ^ fmtBits f, 0)
    else ((2 ^ fmtBits f - a) % 2 ^ fmtBits f, 0) := by
  have hhalf := two_pow_fmtBits f
  by_cases hf : f < 4
  · have hsign : (if 2 ^ (fmtBits f - 1) ≤ a then a - 2 ^ (fmtBits f - 1) else a + 2 ^ (fmtBits f - 1)) =
        (a + 2 ^ fmtBits f / 2) % 2 ^ fmtBits f := by
      rw [hhalf] at ha ⊢
      generalize 2 ^ (fmtBits f - 1) = top at *
      rw [Nat.mul_div_cancel_left _ Nat.two_pos]
      split_ifs with hle
      · rw [show a + top = a - top + 2 * top by omega, Nat.add_mod_right, Nat.mod_eq_of_lt (by omega)]
      · rw [Nat.mod_eq_of_lt (by omega)]
    simp only [signOp, isFloat, hf, decide_true, if_true, hsign]
    rcases hv : fpOf f a with (_ | _) | _ | _ <;> rfl
  · rw [← intCode_of_modEq (neg_intOf_modEq f ha)]
    simp [signOp, isFloat, hf]

/-- The magnitude of one element (R129): the sign bit of a floating value cleared. -/
theorem signOp_abs {f a : Nat} (ha : a < 2 ^ fmtBits f) (h7 : f ≠ 7) : signOp false f a =
    if f < 4 then
      if isNan (fpOf f a) then (canonNan f, sigFlag (fpOf f a)) else (a % (2 ^ fmtBits f / 2), 0)
    else (if a < 2 ^ fmtBits f / 2 then a else 2 ^ fmtBits f - a, 0) := by
  have hhalf := two_pow_fmtBits f
  by_cases hf : f < 4
  · have hsign : a % 2 ^ (fmtBits f - 1) = a % (2 ^ fmtBits f / 2) := by
      rw [hhalf, Nat.mul_div_cancel_left _ Nat.two_pos]
    simp only [signOp, isFloat, hf, decide_true, if_true, hsign]
    rcases hv : fpOf f a with (_ | _) | _ | _ <;> rfl
  · have hpos := Nat.two_pow_pos (fmtBits f - 1)
    have habs : (if intOf f a < 0 then -intOf f a else intOf f a) = (if a < 2 ^ fmtBits f / 2 then a else 2 ^ fmtBits f - a : Nat) := by
      rw [hhalf] at ha
      rw [intOf, hhalf]
      split_ifs <;> omega
    have hlt : (if a < 2 ^ fmtBits f / 2 then a else 2 ^ fmtBits f - a) < 2 ^ fmtBits f := by
      split_ifs <;> omega
    have hop : signOp false f a = (intCode f (if intOf f a < 0 then -intOf f a else intOf f a), 0) := by simp [signOp, isFloat, hf]
    rw [hop, if_neg hf, habs, intCode_of_modEq Int.ModEq.rfl, Nat.mod_eq_of_lt hlt]

/-! ### Saturating sums and shifts of one element (R130, R133) -/

theorem satOp_add {f : Nat} (a b : Nat) (h : intMin f ≤ intMax f) : satOp false f a b =
    (intCode f (max (intMin f) (min (intMax f) (intOf f a + intOf f b))), 0) := by
  rw [← intClamp_eq_max_min h]
  rfl

theorem satOp_sub {f : Nat} (a b : Nat) (h : intMin f ≤ intMax f) : satOp true f a b =
    (intCode f (max (intMin f) (min (intMax f) (intOf f a - intOf f b))), 0) := by
  rw [← intClamp_eq_max_min h]
  rfl

/-- The arithmetic shift of one element: the vacated bits take the sign. -/
theorem shiftOp_sra {f a : Nat} (b : Nat) (ha : a < 2 ^ fmtBits f) : shiftOp 2 f a b =
    (a / 2 ^ (b % fmtBits f) + (if a < 2 ^ fmtBits f / 2 then 0 else 2 ^ fmtBits f - 2 ^ fmtBits f / 2 ^ (b % fmtBits f)), 0) := by
  have hhalf := two_pow_fmtBits f
  have hk : b % fmtBits f < fmtBits f := Nat.mod_lt _ (fmtBits_pos f)
  have hsplit : 2 ^ fmtBits f = 2 ^ (b % fmtBits f) * 2 ^ (fmtBits f - b % fmtBits f) := by
    rw [← pow_add, Nat.add_sub_cancel' hk.le]
  generalize hn : b % fmtBits f = k at *
  have hquot : a / 2 ^ k < 2 ^ (fmtBits f - k) := Nat.div_lt_of_lt_mul (hsplit ▸ ha)
  have hle : 2 ^ (fmtBits f - k) ≤ 2 ^ fmtBits f := Nat.pow_le_pow_right Nat.two_pos (Nat.sub_le ..)
  have hrange : 2 ^ fmtBits f / 2 ^ k = 2 ^ (fmtBits f - k) := by rw [hsplit, Nat.mul_div_cancel_left _ (Nat.two_pow_pos k)]
  have hcode : shiftOp 2 f a b =
      (intCode f ((if 2 ^ (fmtBits f - 1) ≤ a then (a : Int) - (2 ^ fmtBits f : Nat) else a) / (2 ^ k : Nat)), 0) := by
    rw [← hn]
    rfl
  rw [hcode, hrange]
  by_cases hs : a < 2 ^ fmtBits f / 2
  · rw [if_neg (by omega), if_pos hs, ← Int.natCast_ediv, intCode_of_modEq Int.ModEq.rfl, Nat.mod_eq_of_lt (hquot.trans_le hle)]
    rfl
  · have hneg : ((a : Int) - (2 ^ fmtBits f : Nat)) / (2 ^ k : Nat) ≡
        (a / 2 ^ k + (2 ^ fmtBits f - 2 ^ (fmtBits f - k)) : Nat) [ZMOD (2 ^ fmtBits f : Nat)] := by
      have hval : ((a : Int) - (2 ^ fmtBits f : Nat)) / (2 ^ k : Nat) = (a / 2 ^ k : Nat) - (2 ^ (fmtBits f - k) : Nat) := by
        rw [hsplit, Nat.cast_mul, Int.sub_mul_ediv_left _ _ (by positivity), Int.natCast_ediv]
      rw [hval, Nat.cast_add, Nat.cast_sub hle, Int.modEq_iff_dvd]
      exact ⟨1, by ring⟩
    rw [if_pos (by omega), if_neg hs, intCode_of_modEq hneg, Nat.mod_eq_of_lt (by omega)]

end Sys2Proof.Machine
end

section
/-!
PROOF. Operations across elements (R43, R136, R137): the predicate of a compare lane by lane, and the tree of a reduction.
-/

namespace Sys2Proof.Machine

/-! ### Compares, lane by lane (R137) -/

/-- The relation of the compare `k` of R137 on two numbers (`k` as in `relOp`), which `relOp_eq_related` ties to the model. -/
def relation (k : Nat) (u v : Int) : Bool :=
  if k = 0 then u == v else if k = 1 then u != v else if k = 2 ∨ k = 4 then decide (u < v) else decide (u ≤ v)

/-- A compare of one element; the unsigned relations are of integer formats alone. -/
theorem relOp_eq_related {k f : Nat} (hk : 4 ≤ k → 4 ≤ f) (a b : Nat) :
    relOp k f a b = related f (if 4 ≤ k then fun c => (c : Int) else intOf f) (relation k) (k == 1) a b := by
  by_cases hf : f < 4
  · have hsigned : k ≠ 4 := fun h => by omega
    have h3 : ¬3 < f := by omega
    simp only [relOp, related, relation, isFloat, hf, h3, hsigned, decide_true, if_true, if_false, or_false]
    cases isNan (fpOf f a) || isNan (fpOf f b) <;> rfl
  · have h3 : 3 < f := by omega
    simp only [relOp, related, relation, isFloat, hf, h3, decide_false, Bool.false_eq_true, if_true, if_false]
    by_cases h4 : 4 ≤ k <;> simp only [h4, if_true, if_false]

/-- The elements of a lane, counted from its first. -/
theorem laneOf_eq_iff (f i j : Nat) : laneOf f j = i ↔ ∃ q, q < 4 / fmtBytes f ∧ 4 / fmtBytes f * i + q = j := by
  have hback (h : laneOf f j = i) : j - 4 / fmtBytes f * i < 4 / fmtBytes f ∧ 4 / fmtBytes f * i + (j - 4 / fmtBytes f * i) = j := by
    unfold laneOf at h
    obtain hb | hb | hb := fmtBytes_cases f <;> rw [hb] at h ⊢ <;> omega
  refine ⟨fun h => ⟨_, hback h⟩, fun ⟨q, hq, h⟩ => ?_⟩
  unfold laneOf
  obtain hb | hb | hb := fmtBytes_cases f <;> rw [hb] at hq h ⊢ <;> omega

/-- A view has the elements of 128 lanes. -/
theorem laneOf_lt_iff (f j : Nat) : laneOf f j < 128 ↔ j < viewLen f := by
  unfold laneOf viewLen fmtBits
  obtain hb | hb | hb := fmtBytes_cases f <;> rw [hb] <;> omega

/-- The elements of a lane taken together: related when each is, with the flags of each. -/
theorem foldl_related (r : Nat → Bool × Flags) (n : Nat) :
    let x := (List.range n).foldl (fun t q => (t.1 && (r q).1, t.2 ||| (r q).2)) (true, (0 : Flags))
    (x.1 = true ↔ ∀ q, q < n → (r q).1 = true) ∧ ∀ b, x.2.getLsbD b = true ↔ ∃ q, q < n ∧ (r q).2.getLsbD b = true := by
  induction n with
  | zero => simp
  | succ n ih =>
    obtain ⟨hall, hflag⟩ := ih
    simp only [List.range_succ, List.foldl_append, Nat.forall_lt_succ_right, Nat.exists_lt_succ_right, ← hall, ← hflag]
    exact ⟨Bool.and_eq_true_iff, fun b => by rw [← Bool.or_eq_true, ← BitVec.getLsbD_or]; rfl⟩

section
variable (k f : Nat) (va : Vec) (vb : Nat → Nat) (i : Nat)

theorem laneRel_related : (laneRel k f va vb i).1 = true ↔
    ∀ j, laneOf f j = i → (relOp k f (elem va (fmtBits f) j) (vb j)).1 = true := by
  simp only [laneOf_eq_iff, forall_exists_index, and_imp]
  rw [laneRel, (foldl_related _ _).1]
  exact ⟨fun h j q hq hj => hj ▸ h q hq, fun h q hq => h _ q hq rfl⟩

theorem laneRel_flags (b : Nat) : (laneRel k f va vb i).2.getLsbD b = true ↔
    ∃ j, laneOf f j = i ∧ (relOp k f (elem va (fmtBits f) j) (vb j)).2.getLsbD b = true := by
  simp only [laneOf_eq_iff]
  rw [laneRel, (foldl_related _ _).2]
  exact ⟨fun ⟨q, hq, h⟩ => ⟨_, ⟨q, hq, rfl⟩, h⟩, fun ⟨j, ⟨q, hq, hj⟩, h⟩ => ⟨q, hq, hj ▸ h⟩⟩

end

/-- The bits of a predicate gathered lane by lane. -/
theorem getLsbD_gather_one (f : Nat → Nat × Flags) {i : Nat} (h : i < 128) :
    (BitVec.ofNat 128 (gather 1 f 128).1).getLsbD i = decide ((f i).1 % 2 = 1) := by
  have hdigit := gather_digit 1 f h
  rw [one_mul, pow_one] at hdigit
  rw [BitVec.getLsbD_ofNat, decide_eq_true h, Bool.true_and, Nat.testBit_eq_decide_div_mod_eq, hdigit]

/-- The predicate of a compare holds the relation in the lanes that are on (R137, R140). -/
theorem lanesCompared_compareValue (k f : Nat) (g old : Pred) (va : Vec) (vb : Nat → Nat) :
    LanesCompared f g old (fun j => relOp k f (elem va (fmtBits f) j) (vb j)) (compareValue k f g old va vb).1
      (compareValue k f g old va vb).2 := by
  refine ⟨fun i hi hon => ?_, fun i hi hoff => ?_, fun b => ?_⟩
  · rw [compareValue, getLsbD_gather_one _ hi, laneBit, if_pos hon]
    have hbit : decide ((if (laneRel k f va vb i).1 = true then 1 else 0) % 2 = 1) = (laneRel k f va vb i).1 := by
      cases (laneRel k f va vb i).1 <;> rfl
    rw [hbit, laneRel_related]
    exact ⟨fun h j _ => h j, fun h j hj => h j ((laneOf_lt_iff f j).mp (hj ▸ hi)) hj⟩
  · rw [compareValue, getLsbD_gather_one _ hi, laneBit, if_neg (by rw [hoff]; decide), laneBit]
    cases old.getLsbD i <;> rfl
  · have hlane (i : Nat) : (if laneBit g i then (if (laneRel k f va vb i).1 then 1 else 0, (laneRel k f va vb i).2)
        else ((if laneBit old i then 1 else 0 : Nat), (0 : Flags))).2.getLsbD b = true ↔
        g.getLsbD i = true ∧ (laneRel k f va vb i).2.getLsbD b = true := by
      unfold laneBit
      cases g.getLsbD i <;> simp
    rw [compareValue, getLsbD_gather_flags]
    simp only [hlane, laneRel_flags]
    exact ⟨fun ⟨_, hi, hon, j, hj, hfl⟩ => by subst hj; exact ⟨j, (laneOf_lt_iff f j).mp hi, hon, hfl⟩,
      fun ⟨j, hj, hon, hfl⟩ => ⟨laneOf f j, (laneOf_lt_iff f j).mpr hj, hon, j, rfl, hfl⟩⟩

/-! ### The reduction tree (R43, R136) -/

theorem reduceLevel_append (k f : Nat) {l m : List Nat} {n : Nat} (h : l.length = 2 * n) :
    reduceLevel k f (l ++ m) = ((reduceLevel k f l).1 ++ (reduceLevel k f m).1, (reduceLevel k f l).2 ||| (reduceLevel k f m).2) := by
  induction n generalizing l with
  | zero =>
    obtain rfl := List.eq_nil_of_length_eq_zero h
    simp [reduceLevel]
  | succ n ih =>
    match l, h with
    | x :: y :: l, h =>
      have hl := ih (l := l) (by simpa [Nat.mul_succ] using h)
      simp only [List.cons_append, reduceLevel, hl, BitVec.or_assoc]

theorem length_reduceLevel (k f : Nat) {l : List Nat} {n : Nat} (h : l.length = 2 * n) : (reduceLevel k f l).1.length = n := by
  induction n generalizing l with
  | zero =>
    obtain rfl := List.eq_nil_of_length_eq_zero h
    rfl
  | succ n ih =>
    match l, h with
    | x :: y :: l, h =>
      have hl := ih (l := l) (by simpa [Nat.mul_succ] using h)
      simp only [reduceLevel, List.length_cons, hl]

/-- The tree of two halves is the node of their trees. -/
theorem reduceTree_append (k f n : Nat) {l m : List Nat} (hl : l.length = 2 ^ n) (hm : m.length = 2 ^ n) :
    reduceTree k f (n + 1) (l ++ m) =
      ((reduceNode k f (reduceTree k f n l).1 (reduceTree k f n m).1).1,
        (reduceTree k f n l).2 ||| (reduceTree k f n m).2 ||| (reduceNode k f (reduceTree k f n l).1 (reduceTree k f n m).1).2) := by
  induction n generalizing l m with
  | zero =>
    obtain ⟨x, rfl⟩ := List.length_eq_one_iff.mp hl
    obtain ⟨y, rfl⟩ := List.length_eq_one_iff.mp hm
    simp [reduceTree, reduceLevel]
  | succ n ih =>
    rw [pow_succ'] at hl hm
    rw [reduceTree, reduceLevel_append k f hl, ih (length_reduceLevel k f hl) (length_reduceLevel k f hm)]
    simp only [reduceTree]
    ac_rfl

/-- Levels above the root change nothing. -/
theorem reduceTree_add (k f n m : Nat) {l : List Nat} (h : l.length = 2 ^ n) : reduceTree k f (n + m) l = reduceTree k f n l := by
  induction n generalizing l with
  | zero =>
    obtain ⟨x, rfl⟩ := List.length_eq_one_iff.mp h
    rw [Nat.zero_add]
    induction m with
    | zero => rfl
    | succ m ih => simp [reduceTree, reduceLevel, ih]
  | succ n ih =>
    rw [pow_succ'] at h
    rw [Nat.succ_add, reduceTree, ih (length_reduceLevel k f h)]
    rfl

/-- The tree by levels of the model is the tree of R43. -/
theorem reduceTree_eq_treeAt (k f : Nat) (leaf : Nat → Nat) (n j : Nat) :
    reduceTree k f n ((List.range (2 ^ n)).map (fun i => leaf (2 ^ n * j + i))) = treeAt (reduceNode k f) leaf n j := by
  induction n generalizing j with
  | zero => simp [reduceTree, treeAt]
  | succ n ih =>
    have hsplit : (List.range (2 ^ (n + 1))).map (fun i => leaf (2 ^ (n + 1) * j + i)) =
        (List.range (2 ^ n)).map (fun i => leaf (2 ^ n * (2 * j) + i)) ++
          (List.range (2 ^ n)).map (fun i => leaf (2 ^ n * (2 * j + 1) + i)) := by
      rw [pow_succ, Nat.mul_two, List.range_add, List.map_append, List.map_map]
      congr 2
      · funext i; ring_nf
      · funext i; simp only [Function.comp]; ring_nf
    rw [hsplit, reduceTree_append k f n (by simp) (by simp), ih, ih, treeAt]

/-- The elements of a view are the leaves of a full tree (R43). -/
theorem viewLen_eq_two_pow (f : Nat) :
    (if fmtBytes f = 4 then 7 else if fmtBytes f = 2 then 8 else 9) ≤ 9 ∧
    viewLen f = 2 ^ (if fmtBytes f = 4 then 7 else if fmtBytes f = 2 then 8 else 9) := by
  unfold viewLen fmtBits
  obtain h | h | h := fmtBytes_cases f <;> rw [h] <;> decide

/-- A reduction is the tree of R43 over the view, with the neutral value in the lanes that are off (R136). -/
theorem reduceValue_eq_treeAt {k f n : Nat} (hn : n ≤ 9) (hlen : viewLen f = 2 ^ n) (g : Pred) (va : Vec) :
    reduceValue k f g va = treeAt (reduceNode k f)
      (fun j => if g.getLsbD (j * fmtBytes f / 4) = true then elem va (fmtBits f) j else reduceNeutral k f) n 0 := by
  obtain ⟨m, hm⟩ := Nat.exists_eq_add_of_le hn
  rw [reduceValue, hm, reduceTree_add k f n m (by simp [hlen]), ← reduceTree_eq_treeAt, hlen, Nat.mul_zero]
  simp only [Nat.zero_add]
  rfl

end Sys2Proof.Machine
end

section
/-!
PROOF. The V slot's instructions (R126 to R139, R192): each sends the register or the predicate of its row.
-/

namespace Sys2Proof.Machine

/-! ### The formats an instruction admits (R126) -/

theorem fmtArith_eq_none {f : BitVec 3} : f ≠ 3 → fmtArith f = none := by
  revert f; decide

theorem fmtSign_eq_none {f : BitVec 3} : f ≠ 3 → f ≠ 7 → fmtSign f = none := by
  revert f; decide

theorem fmtFloat_eq_none {f : BitVec 3} (h : f.toNat < 3) : fmtFloat f = none := if_pos (decide_eq_true h)

theorem fmtInt_eq_none {f : BitVec 3} (h : 4 ≤ f.toNat) : fmtInt f = none := if_pos (decide_eq_true h)

theorem fmtPerm_eq_none {f : BitVec 3} (h3 : f.toNat ≠ 3) (h6 : f.toNat < 6) : fmtPerm f = none :=
  if_pos (Bool.and_eq_true_iff.mpr ⟨bne_iff_ne.mpr h3, decide_eq_true h6⟩)

theorem toNat_ne_three {f : BitVec 3} (h : f.toNat ≠ 3) : f ≠ 3 := fun he => h (by rw [he]; rfl)

/-! ### Compares and reductions alone in their bundle -/

section
variable {i : Instr} {s : State} {p k : Nat} {g : BitVec 5} {d a b : BitVec 6} {f : BitVec 3} (hi : Issues s p k)
include hi

/-- A compare that nothing holds back sends its predicate and the flags of its elements (R137). -/
theorem exec_compare (c : Nat) {pd : BitVec 5} (hv : SettledV s p [a]) (hb : BSettled s p b) (hd : Settled s p [destP (s.core p) pd])
    (hm : meaningOf i = mVcmp c g pd a b f) (hcls : i.cls = some .vec) (hw : i.detail = none) (hc : 4 ≤ c → 4 ≤ f.toNat) :
    ∃ r fl, LanesCompared f.toNat (readP s p g) (readP s p pd)
        (fun j => related f.toNat (if 4 ≤ c then fun c => (c : Int) else intOf f.toNat) (relation c) (c == 1)
          (elem (readV s p a) (fmtBits f.toNat) j) (bOf s p b f.toNat j)) r fl ∧
      exec i s = .next (after s p (sends s p k (destP (s.core p) pd) (asVec r) 4 fl)) := by
  have hb' : bElem s (soleEnv s p k 0) b f.toNat = bOf s p b f.toNat := funext (bElem_eq_bOf hb f.toNat)
  simp only [← relOp_eq_related hc, ← hb']
  exact ⟨_, _, lanesCompared_compareValue .., exec_sends hi hm hcls hw hb.ported (settled_append hv hb.settled) hd (destP_plain _ _) rfl⟩

/-- A reduction that nothing holds back sends the root of its tree to every element (R43, R136). -/
theorem exec_reduce (c : Nat) {node : Nat → Nat → Nat × Flags} {neutral n : Nat} (hv : SettledV s p [a, d])
    (hm : meaningOf i = mReduce c g d a f) (hcls : i.cls = some .vec) (hw : i.detail = none)
    (hnode : ∀ x y, reduceNode c f.toNat x y = node x y) (hneutral : reduceNeutral c f.toNat = neutral) (hn : n ≤ 9)
    (hlen : viewLen f.toNat = 2 ^ n) :
    SendsLanes i s p k d f.toNat (readP s p g) 8 (fun _ =>
      treeAt node (fun j => if (readP s p g).getLsbD (j * fmtBytes f.toNat / 4) = true
        then elem (readV s p a) (fmtBits f.toNat) j else neutral) n 0) := by
  obtain rfl := funext fun x => funext (hnode x)
  obtain rfl := hneutral
  exact exec_vecWrite hi hm hcls hw (fun h => by cases h) hv.fst hv.snd fun _ => reduceValue_eq_treeAt hn hlen ..

end

/-- The sum of a reduction's node (R43). -/
theorem reduceNode_sum (f x y : Nat) : reduceNode 0 f x y =
    if f < 4 then rounded f (fpAdd 0 (fpOf f x) (fpOf f y)) else ((x + y) % 2 ^ fmtBits f, 0) :=
  arithOp_add f x y 0

/-- The neutral values of R136. -/
theorem reduceNeutral_eq {f : BitVec 3} : f ≠ 3 →
    reduceNeutral 0 f.toNat = (if f.toNat < 4 then 2 ^ (fmtBits f.toNat - 1) else 0) ∧
    reduceNeutral 1 f.toNat = (if f.toNat < 4 then 2 ^ (fmtBits f.toNat - 1) + infCode f.toNat
      else if f.toNat = 7 then 0 else 2 ^ (fmtBits f.toNat - 1)) ∧
    reduceNeutral 2 f.toNat = (if f.toNat < 4 then infCode f.toNat
      else if f.toNat = 7 then 255 else 2 ^ (fmtBits f.toNat - 1) - 1) := by
  revert f; decide

/-! ### The obligations -/

/-- Settles O18: each instruction sends its operation for each element (`exec_vec1`, `exec_vec2`, `exec_vec3`), whose value is that of its
row by the lemma on the operation. -/
theorem vectorArithmetic : Obligations.VectorArithmetic := by
  unfold Obligations.VectorArithmetic
  intro s p k g d a b f hi hv n z x y w q gives
  have hx (j : Nat) : x j < z := elem_lt _ _ _
  have hy (j : Nat) : y j < z := bOf_lt _ _
  have hw (j : Nat) : w j < z := elem_lt _ _ _
  refine ⟨fun hb h3 => ?_, fun h3 h7 => ?_, fun hb h4 => ?_⟩
  · have hfmt := fmtArith_eq_none h3
    exact ⟨exec_vec2 hi hv hb (fun x y => arithOp 0 n x y 0) rfl rfl hfmt (fun _ => arithOp_add ..),
      exec_vec2 hi hv hb (fun x y => arithOp 1 n x y 0) rfl rfl hfmt (fun j => arithOp_sub _ _ _ _ (hy j)),
      exec_vec2 hi hv hb (fun x y => arithOp 2 n x y 0) rfl rfl hfmt (fun _ => arithOp_mul ..),
      exec_vec3 hi hv hb (arithOp 3 n) rfl rfl hfmt (fun _ => arithOp_fma ..),
      exec_vec3 hi hv hb (arithOp 4 n) rfl rfl hfmt (fun j => arithOp_fms _ _ _ _ (hw j)),
      exec_vec2 hi hv hb (minMaxOp false false n) rfl rfl hfmt (fun _ => minMaxOp_signed ..),
      exec_vec2 hi hv hb (minMaxOp true false n) rfl rfl hfmt (fun _ => minMaxOp_signed ..)⟩
  · have hfmt := fmtSign_eq_none h3 h7
    have hunsigned : n ≠ 7 := fun h => h7 (BitVec.eq_of_toNat_eq h)
    exact ⟨exec_vec1 hi hv (signOp true n) rfl rfl hfmt (fun j => signOp_neg (hx j)),
      exec_vec1 hi hv (signOp false n) rfl rfl hfmt (fun j => signOp_abs (hx j) hunsigned)⟩
  · have hfmt := fmtInt_eq_none h4
    have hrange := intMin_le_intMax h4 f.isLt
    exact ⟨exec_vec2 hi hv hb (minMaxOp false true n) rfl rfl hfmt (fun _ => (minMaxOp_unsigned h4 _ _).1),
      exec_vec2 hi hv hb (minMaxOp true true n) rfl rfl hfmt (fun _ => (minMaxOp_unsigned h4 _ _).2),
      exec_vec2 hi hv hb (satOp false n) rfl rfl hfmt (fun _ => satOp_add _ _ hrange),
      exec_vec2 hi hv hb (satOp true n) rfl rfl hfmt (fun _ => satOp_sub _ _ hrange),
      exec_vec2 hi hv hb (shiftOp 0 n) rfl rfl hfmt (fun _ => rfl),
      exec_vec2 hi hv hb (shiftOp 1 n) rfl rfl hfmt (fun _ => rfl),
      exec_vec2 hi hv hb (shiftOp 2 n) rfl rfl hfmt (fun j => shiftOp_sra _ (hx j))⟩

/-- Settles O19: the element-wise patterns by `exec_vec1` and `exec_vec2`; VSEL, VPERM and VROTM write the register of their own choice of
elements (`exec_vecWrite`). -/
theorem vectorPatterns : Obligations.VectorPatterns := by
  unfold Obligations.VectorPatterns
  intro s p k g d a b f hi hv hb n e x y w q gives
  have hsrcs := settled_append hv.fst hb.settled
  refine ⟨exec_vec2 hi hv hb (fun x y => (x &&& y, 0)) rfl rfl rfl (fun _ => rfl),
    exec_vec2 hi hv hb (fun x y => (x ||| y, 0)) rfl rfl rfl (fun _ => rfl),
    exec_vec2 hi hv hb (fun x y => (x ^^^ y, 0)) rfl rfl rfl (fun _ => rfl),
    exec_vec1 hi hv (fun x => (x, 0)) rfl rfl rfl (fun _ => rfl), ?_, fun h3 h6 => ?_, ?_⟩
  · refine exec_vecWrite (g := 0) hi rfl rfl rfl hb.ported hsrcs hv.snd fun j => ?_
    rw [bElem_eq_bOf hb]
    rfl
  · refine exec_vecWrite hi rfl rfl (fmtPerm_eq_none h3 h6) hb.ported hsrcs hv.snd fun j => ?_
    rw [bElem_eq_bOf hb]
    rfl
  · refine exec_vecWrite hi rfl rfl rfl hb.ported (settled_append hv.snd hsrcs) hv.snd fun j => ?_
    have hcount : (if b = 63 then (portValue s p s.header).toNat % 2 ^ 32 else elem (readV s p b) 32 0) = bOf s p b 0 0 := by
      rw [← bElem_eq_bOf (k := k) hb, bElem]
      split_ifs <;> rfl
    rw [← hcount]
    rfl

/-- Settles O20: the functions by `exec_vec1`; a reduction sends the root of its tree (`exec_reduce`). -/
theorem vectorFunctionsAndReductions : Obligations.VectorFunctionsAndReductions := by
  unfold Obligations.VectorFunctionsAndReductions
  intro s p k g d a f hi hv n x q levels leaf gives
  refine ⟨fun h3 => ?_, fun h3 => ?_⟩
  · have hfmt := fmtFloat_eq_none h3
    exact ⟨exec_vec1 hi hv (specialOp 0 n) rfl rfl hfmt (fun _ => rfl), exec_vec1 hi hv (specialOp 1 n) rfl rfl hfmt (fun _ => rfl),
      exec_vec1 hi hv (specialOp 2 n) rfl rfl hfmt (fun _ => rfl), exec_vec1 hi hv (specialOp 3 n) rfl rfl hfmt (fun _ => rfl)⟩
  · have hfmt := fmtArith_eq_none (toNat_ne_three h3)
    obtain ⟨hsum, hmax, hmin⟩ := reduceNeutral_eq (toNat_ne_three h3)
    obtain ⟨hle, hlen⟩ := viewLen_eq_two_pow n
    exact ⟨exec_reduce hi 0 hv rfl rfl hfmt (reduceNode_sum n) hsum hle hlen,
      exec_reduce hi 1 hv rfl rfl hfmt (minMaxOp_signed true n) hmax hle hlen,
      exec_reduce hi 2 hv rfl rfl hfmt (minMaxOp_signed false n) hmin hle hlen⟩

/-- Settles O21: each compare sends the predicate of its relation (`exec_compare`). -/
theorem vectorCompares : Obligations.VectorCompares := by
  unfold Obligations.VectorCompares
  intro s p k g pd a b f hi hv hb hd n x y gives
  have signed {c : Nat} (h : ¬4 ≤ c) : 4 ≤ c → 4 ≤ n := fun h' => absurd h' h
  refine ⟨exec_compare hi 0 hv hb hd rfl rfl rfl (signed (by decide)), exec_compare hi 1 hv hb hd rfl rfl rfl (signed (by decide)),
    exec_compare hi 2 hv hb hd rfl rfl rfl (signed (by decide)), exec_compare hi 3 hv hb hd rfl rfl rfl (signed (by decide)), fun h4 => ?_⟩
  have hfmt := fmtInt_eq_none h4
  exact ⟨exec_compare hi 4 hv hb hd rfl rfl hfmt fun _ => h4, exec_compare hi 5 hv hb hd rfl rfl hfmt fun _ => h4⟩

/-- An element that VACR gives (R192): a column of the row, and zeros beyond them. -/
theorem accRead_eq (row : Vec) (df : BitVec 3) (rm : Nat) (u : BitVec 1) (j : Nat) :
    (if j < 128 then accColumn df.toNat rm (u == 1) (elem row 32 j) else (0, 0)) =
      if 128 ≤ j then (0, 0) else if df = 0 ∧ u = 0 then (elem row 32 j, 0) else convertSame 0 df.toNat rm (u == 1) (elem row 32 j) := by
  have hcopy : (df.toNat = 0 ∧ (u == 1) = false) ↔ df = 0 ∧ u = 0 := by
    revert df u; decide
  by_cases hj : j < 128
  · rw [if_pos hj, if_neg (Nat.not_le.mpr hj), accColumn]
    simp only [hcopy]
  · rw [if_neg hj, if_pos (Nat.not_lt.mp hj)]

/-- Settles O22: each conversion writes the register of the elements that R139 names, converted (`exec_vecWrite`). -/
theorem vectorConversions : Obligations.VectorConversions := by
  unfold Obligations.VectorConversions
  intro s p k g d a sf df r u hi hd x w ed es cvt same gives
  have hno (h : false = true) : Ported s p := by cases h
  refine ⟨fun ha => ⟨fun hsize => ?_, fun hsize => ?_, fun hsize => ?_⟩, fun hsf ha => ?_⟩
  · exact exec_vecWrite hi rfl rfl (if_pos (beq_iff_eq.mpr hsize)) hno ha hd fun _ => rfl
  · have hfmt : (Instr.vpack g d a sf df r u).detail = none :=
      if_pos (by rwa [Bool.or_eq_true, beq_iff_eq, beq_iff_eq])
    exact exec_vecWrite hi rfl rfl hfmt hno (settled_append hd ha) hd fun _ => rfl
  · have hfmt : admitFmt (fmtBytes df.toNat == 2 * fmtBytes sf.toNat) = none := if_pos (beq_iff_eq.mpr hsize)
    exact ⟨exec_vecWrite hi rfl rfl hfmt hno ha hd fun _ => rfl, exec_vecWrite hi rfl rfl hfmt hno ha hd fun _ => rfl⟩
  · subst hsf
    exact exec_vecWrite hi rfl rfl rfl hno ha hd fun j => accRead_eq ..

end Sys2Proof.Machine
end

section
/-!
PROOF. A bundle of one instruction before its freeze conditions and checks (R54, R72 to R75): it freezes, stops with the failure of its
check, or commits. The instruction may read the port.
-/

namespace Sys2Proof.Machine

/-! ### What the bundle comes to (R74) -/

/-- The bundle that holds `i` alone, whose meaning is `m`, decodes and waits for no register: it comes to its freeze conditions and its
checks. -/
structure Placed (i : Instr) (m : Meaning) (s : State) (p k : Nat) : Prop where
  issues  : Issues s p k
  meaning : meaningOf i = m
  cls     : i.cls ≠ none
  detail  : i.detail = none
  stream  : i.streamOnly = false
  decode  : m.decode s p = none
  port    : m.port = true → Ported s p
  acts    : m.acts s (.core p) = true
  settled : Settled s p (m.srcs (s.core p) ++ m.dests (s.core p))

section
variable {i : Instr} {m : Meaning} {s : State} {p k : Nat}

theorem Alone.placed (h : Alone i m s p k) : Placed i m s p k :=
  ⟨h.issues, h.meaning, h.cls, h.detail, h.stream, h.decode, fun hp => absurd (h.port.symm.trans hp) Bool.false_ne_true, h.acts, h.settled⟩

theorem Placed.exec_eq (h : Placed i m s p k) :
    exec i s = .next (drawn s (issueCore p s.header [{ k := k, bad := none, m := m }] s)) := by
  rw [exec_eq_issueOne i s h.cls, issueOne_core h.issues h.detail h.stream, h.meaning]

theorem Placed.decodeFirst_eq (h : Placed i m s p k) : decodeFirst s p s.header [{ k := k, bad := none, m := m }] = none := by
  rw [decodeFirst_single, headerFails_of_issues h.issues _ fun hp => (h.port hp).1]
  simp only [slotBad, h.decode, Option.map_none]

theorem Placed.awaits_eq (h : Placed i m s p k) :
    (slotAwaits (s.core p) { k := k, bad := none, m := m } || m.port && awaited (s.core p) (destS (headBs s.header))) = false := by
  rw [slotAwaits_of_settled (x := { k := k, bad := none, m := m }) h.settled, Bool.false_or]
  cases hp : m.port with
  | false => rfl
  | true => rw [(h.port hp).2]; rfl

theorem coreEnv_sole (s : State) (p k : Nat) (m : Meaning) :
    coreEnv s p s.header [{ k := k, bad := none, m := m }] k = soleEnv s p k m.pushes := by
  simp [coreEnv, soleEnv]

/-- A freeze condition holds the bundle back (R73). -/
theorem Placed.freezes (h : Placed i m s p k) (hr : m.ready s (soleEnv s p k m.pushes) = false)
    (hh : m.hold s (soleEnv s p k m.pushes) s = s) : exec i s = .next (frozen s p) := by
  have haw := h.awaits_eq
  have hfreeze : issueCore p s.header [{ k := k, bad := none, m := m }] s = freeze p [] s := by
    unfold issueCore
    rw [h.decodeFirst_eq]
    simp [h.acts, h.issues.goes, haw, coreEnv_sole, hr, hh]
  rw [h.exec_eq, hfreeze]
  rfl

theorem Placed.commits (h : Placed i m s p k) (hr : m.ready s (soleEnv s p k m.pushes) = true)
    (hc : m.check s (soleEnv s p k m.pushes) = none) (hk : m.rank ≤ 3) :
    exec i s = .next (drawn s (retire p s.header (m.next s (soleEnv s p k m.pushes)) (m.commit s (soleEnv s p k m.pushes) s))) := by
  rw [h.exec_eq, issueCore_commits h.issues h.decode h.port h.acts h.settled hr hc hk]

/-- A bundle that changes its own core and falls through. -/
theorem Placed.changes {f : Core → Core} (h : Placed i m s p k) (hr : m.ready s (soleEnv s p k m.pushes) = true)
    (hf : m.commit s (soleEnv s p k m.pushes) s = s.onCore p f) (hn : m.next s (soleEnv s p k m.pushes) = .fall)
    (hc : m.check s (soleEnv s p k m.pushes) = none) (hk : m.rank ≤ 3) : exec i s = .next (after s p f) := by
  rw [h.commits hr hc hk, hn, hf, retire_fall]

/-- A bundle that nothing holds back stops with the failure of its check (R74 step 5). -/
theorem Placed.stops (h : Placed i m s p k) (hr : m.ready s (soleEnv s p k m.pushes) = true) :
    Stops i s p k (m.check s (soleEnv s p k m.pushes)) := by
  refine ⟨fun cause d addr arg hc hb _ => ?_, fun cause addr info hc => ?_⟩
  · rw [h.exec_eq, issueCore_fails h.issues h.decode h.port h.acts h.settled hr hc hb]
  · have haw := h.awaits_eq
    have hfatal : issueCore p s.header [{ k := k, bad := none, m := m }] s = fatalCore p cause addr info s := by
      unfold issueCore
      rw [h.decodeFirst_eq]
      simp [h.acts, h.issues.goes, haw, coreEnv_sole, hr, hc, firstFail]
    rw [h.exec_eq, hfatal]
    rfl

end

/-! ### Changes of the bundle's own core -/

/-- Changes that give the core alike leave the same state after the bundle. -/
theorem after_congr {s : State} {p : Nat} {f g : Core → Core} (h : f (s.core p) = g (s.core p)) : after s p f = after s p g :=
  congrArg (drawn s) (State.onCore_congr (congrArg (advanced s) h))

/-- The core after a bundle that changes it alone. -/
theorem after_core (s : State) (p : Nat) (f : Core → Core) : (after s p f).core p = advanced s (f (s.core p)) := by
  rw [after, drawn_core, State.core_onCore_self]

section
variable (s : State) (c : Core)

@[simp] theorem advanced_sticky : (advanced s c).sticky = c.sticky := by unfold advanced; dsimp only; split <;> rfl
@[simp] theorem advanced_klprg : (advanced s c).klprg = c.klprg := by unfold advanced; dsimp only; split <;> rfl
@[simp] theorem advanced_loom : (advanced s c).loom = c.loom := by unfold advanced; dsimp only; split <;> rfl
@[simp] theorem advanced_loomFree : (advanced s c).loomFree = c.loomFree := by unfold advanced; dsimp only; split <;> rfl
@[simp] theorem advanced_scaleQ : (advanced s c).scaleQ = c.scaleQ := by unfold advanced; dsimp only; split <;> rfl
@[simp] theorem advanced_lmmar : (advanced s c).lmmar = c.lmmar := by unfold advanced; dsimp only; split <;> rfl
@[simp] theorem advanced_chans : (advanced s c).chans = c.chans := by unfold advanced; dsimp only; split <;> rfl
@[simp] theorem advanced_optu : (advanced s c).optu = c.optu := by unfold advanced; dsimp only; split <;> rfl

end

end Sys2Proof.Machine
end

section
/-!
PROOF. Traps and control registers (R151 to R155): what taking a trap leaves, in steward mode and outside it, the returns of TRET,
and the registers that KRD reads and KWR writes.
-/

namespace Sys2Proof.Machine

/-! ### Taking a trap (R154) -/

section
variable {s : State} {p : Nat} {q : TrapReq}

/-- The drain of a trap leaves the context that the core runs. -/
theorem ctxOf_landed : (s.onCore p (landAll s.freeCtr)).ctxOf p = s.ctxOf p := by
  simp only [State.ctxOf, State.core_onCore_self, (landAll_same _ _).ctx]

/-- Outside steward mode a trap that is no residency fault changes its own core alone (R153, R154). -/
theorem trapped_outside (hst : (s.core p).steward = false) (hq : ¬(4 ≤ q.cause ∧ q.cause ≤ 8)) :
    trapped s p q = drawn s (s.onCore p (fun c =>
      { landAll s.freeCtr c with
        trap := { cause := BitVec.ofNat 64 q.cause, bundle := q.bundle.setWidth 64, mask := BitVec.ofNat 64 q.mask, addr := q.addr,
                  info := trapInfo q.arg q.slot q.detail }
        steward := true, stewSeq := c.seq, trapPend := none, atPadv := false, padvFail := none, nextIssue := s.cycle + 1
        pc := ((vectorOf (s.ctx (s.ctxOf p)) q.cause).toNat : Int) })) := by
  have hland := landAll_same s.freeCtr (s.core p)
  rw [trapped, takeTrap, State.core_onCore_self, hland.steward, hst, if_neg Bool.false_ne_true, if_neg hq, ctxOf_landed,
    State.onCore_onCore]
  refine congrArg (drawn s) (State.onCore_congr ?_)
  rw [← hland.seq]
  rfl

/-- A table whose values change alike. -/
theorem Tab.get_mapVal {α : Type} {d : α} {f : α → α} (hd : f d = d) (t : Tab α) (k : Nat) :
    Tab.get d (Tab.mapVal t f) k = f (Tab.get d t k) := by
  induction t with
  | nil => exact hd.symm
  | cons x r ih =>
    obtain ⟨j, v⟩ := x
    rw [show Tab.mapVal ((j, v) :: r) f = (j, f v) :: Tab.mapVal r f from rfl, Tab.get_cons, Tab.get_cons, ih, apply_ite f]

/-- Every core after a fatal context error of a context that runs (R3). -/
theorem fatal_core {c : Nat} {r : FaultRec} (h : (s.ctx c).state = 1) : (fatal c r s).core p = stopIfOf c (s.core p) := by
  rw [fatal, h, if_neg (by decide)]
  refine (Tab.get_mapVal (by rfl) _ _).trans (congrArg (stopIfOf c) ?_)
  exact postFault_core ..

theorem fatal_ctx {c : Nat} {r : FaultRec} (h : (s.ctx c).state = 1) : (fatal c r s).ctx c = stopCtx (s.ctx c) := by
  rw [fatal, h, if_neg (by decide)]
  refine (State.ctx_onCtx_self ..).trans (congrArg stopCtx ?_)
  exact postFault_ctx ..

theorem fatal_held {c : Nat} {r : FaultRec} (h : (s.ctx c).state = 1) : (fatal c r s).held = (postFault r s).held := by
  rw [fatal, h, if_neg (by decide)]
  rfl

/-- In steward mode a trap of a context that runs is a fatal context error: it stops the context and the core, and writes no trap
record (R154 step 5, R3). -/
theorem trapped_steward (hst : (s.core p).steward = true) (hctx : (s.core p).ctx = some (s.ctxOf p))
    (hrun : (s.ctx (s.ctxOf p)).state = 1) :
    let t := trapped s p q
    (t.ctx (s.ctxOf p)).state = 6 ∧ (t.core p).run = .stopped ∧ (t.core p).trap = (s.core p).trap ∧ (t.core p).pc = (s.core p).pc ∧
      (s.held.length < 256 → s.faultQ.armed = false → ∃ r, t.held = s.held ++ [r] ∧ r.kind = 1 ∧ r.cause = 3 ∧ r.ctx = s.ctxOf p) := by
  intro t
  have hland := landAll_same s.freeCtr (s.core p)
  set u := s.onCore p (landAll s.freeCtr) with hu
  have hcore : u.core p = landAll s.freeCtr (s.core p) := State.core_onCore_self ..
  have hof : u.ctxOf p = s.ctxOf p := ctxOf_landed
  have hrun' : (u.ctx (s.ctxOf p)).state = 1 := hrun
  set r := coreRecord u p 3 0 0 (BitVec.ofInt 64 (u.core p).pc) with hr
  have ht : t = drawn s (fatal (s.ctxOf p) r u) := by
    rw [show t = drawn s (takeTrap p q u) from rfl, takeTrap, hcore, hland.steward, hst, if_pos rfl, fatalCore, hof, ← hr]
  have hstop : (t.core p) = stopCore (dropWork (s.ctxOf p) (landAll s.freeCtr (s.core p))) := by
    rw [ht, drawn_core, fatal_core hrun', hcore, stopIfOf, hland.ctx, if_pos hctx]
  refine ⟨?_, ?_, ?_, ?_, fun hl ha => ⟨r, ?_, rfl, rfl, hof⟩⟩
  · rw [ht, drawn_ctx, fatal_ctx hrun']
    rfl
  · rw [hstop]
    rfl
  · rw [hstop]
    exact hland.trap
  · rw [hstop]
    exact hland.pc
  · rw [ht, drawn_held, fatal_held hrun']
    exact postFault_held (s := u) ha hl

end

/-! ### TRAP and TRET (R155) -/

section
variable {m : BitVec 19}

theorem scalarMeaning_trap : ScalarMeaning (.trap m) (mTrap m) := ⟨rfl, rfl, rfl, rfl⟩

theorem scalarMeaning_tret : ScalarMeaning (.tret m) (mTret m) := ⟨rfl, rfl, rfl, rfl⟩

variable {s : State} {p k : Nat} (hi : Issues s p k)
include hi

/-- TRAP raises its trap, whatever the mode. -/
theorem exec_trap (hb : (s.core p).board = []) :
    exec (.trap m) s = .next (trapped s p { cause := 10, mask := 2 ^ k, slot := k, detail := 0, addr := 0, arg := m.setWidth 32,
                                            bundle := BitVec.ofInt 32 (s.core p).pc }) :=
  (scalarMeaning_trap.alone hi rfl (settled_nil s p) rfl rfl rfl).traps rfl hb

/-- TRET in steward mode goes where `tretNext` says, the sequencer copy restored (R155). -/
theorem exec_tret (hm : m.toNat < 2) (hst : (s.core p).steward = true) :
    exec (.tret m) s = .next (drawn s (retire p s.header (tretNext s p (m == 1)) (leaveTrap p s))) :=
  (scalarMeaning_tret.alone hi rfl (settled_nil s p) (if_pos (decide_eq_true hm)) (if_pos hst) rfl).commits rfl
    (show 1 ≤ 3 by decide)

theorem exec_tret_outside (hm : m.toNat < 2) (hst : (s.core p).steward = false) (hb : (s.core p).board = []) :
    exec (.tret m) s = .next (trapped s p { cause := 2, mask := 2 ^ k, slot := k, detail := 16, addr := 0, arg := 0,
                                            bundle := BitVec.ofInt 32 (s.core p).pc }) := by
  refine exec_badSlot hi ?_ hb rfl rfl
  have hw : (Instr.tret m).detail = none := if_pos (decide_eq_true hm)
  rw [slotOf_ok _ _ hw rfl]
  exact if_neg (by rw [hst]; exact Bool.false_ne_true)

end

/-- TINFO of TRAP: its immediate and its slot (R153, R155). -/
theorem trapInfo_trap (m : BitVec 19) (k : Nat) :
    trapInfo (m.setWidth 32) k 0 = m.setWidth 64 <<< 32 ||| BitVec.ofNat 64 (k % 256) <<< 24 := by
  have hm : (m.setWidth 32).setWidth 64 = m.setWidth 64 := by
    apply BitVec.eq_of_toNat_eq
    simp only [BitVec.toNat_setWidth]
    omega
  rw [trapInfo, hm]
  exact BitVec.or_zero

/-- Settles O10: TRAP raises its trap (`exec_trap`), which `trapped_outside` and `trapped_steward` describe; TRET goes where `tretNext`
says. -/
theorem trapEntryAndReturn : Obligations.TrapEntryAndReturn := by
  unfold Obligations.TrapEntryAndReturn
  refine ⟨fun s p k m hi hb hst => ?_, fun s p k m hi hb hst hctx hrun => ⟨_, exec_trap hi hb, trapped_steward hst hctx hrun⟩,
    fun s p k hi => ?_⟩
  · rw [exec_trap hi hb, trapped_outside hst (fun h => absurd h.2 (show ¬10 ≤ 8 by decide)), trapInfo_trap]
    rfl
  · intro b back le
    refine ⟨fun hst => ⟨?_, fun hle => ?_, fun hle => ?_⟩, fun hst hb m hm => exec_tret_outside hi hm hst hb⟩
    · rw [exec_tret hi (by decide) hst]
      have hnext : tretNext s p ((0 : BitVec 19) == 1) = .retry b := rfl
      rw [hnext, leaveTrap, retire, State.onCore_onCore]
      rfl
    · rw [exec_tret hi (by decide) hst]
      have hnext : tretNext s p ((1 : BitVec 19) == 1) = .jump (b + 1) := if_neg (ne_true_of_eq_false hle)
      rw [hnext, leaveTrap, retire_jump]
    · rw [exec_tret hi (by decide) hst]
      have hnext : tretNext s p ((1 : BitVec 19) == 1) = .loopEnd b := if_pos hle
      rw [hnext, leaveTrap, retire, State.onCore_onCore]
      rfl

/-! ### Control registers (R151, R152) -/

section
variable {d a : BitVec 6} {m : BitVec 13}

theorem scalarMeaning_krd : ScalarMeaning (.krd d m) (mKrd d m) := ⟨rfl, rfl, rfl, rfl⟩

theorem scalarMeaning_kwr : ScalarMeaning (.kwr a m) (mKwr a m) := ⟨rfl, rfl, rfl, rfl⟩

/-- The numbers of the table of R152. -/
theorem ctrlKnown_iff (n : Nat) : ctrlKnown n = true ↔ n ∈ [0x00, 0x01, 0x02, 0x10, 0x11, 0x12, 0x13, 0x14, 0x20] := by
  simp only [ctrlKnown, Bool.or_eq_true, Bool.and_eq_true, decide_eq_true_eq, beq_iff_eq, List.mem_cons, List.not_mem_nil, or_false]
  omega

/-- The registers that KWR writes in a mode (R151, R152). -/
def Writable (n : Nat) (steward : Bool) : Prop := n = 0x20 ∨ (0x10 ≤ n ∧ n < 0x15 ∧ steward = true)

variable {s : State} {p k : Nat} (hi : Issues s p k)
include hi

theorem exec_krd (hf : Settled s p [destS d]) (hk : ctrlKnown m.toNat = true) :
    exec (.krd d m) s = .next (givesS s p k d (ctrlRead s p m.toNat) 4 0) :=
  (scalarMeaning_krd.alone hi rfl hf rfl (if_pos hk) rfl).sendsS rfl rfl rfl rfl

theorem exec_krd_unknown (hk : ctrlKnown m.toNat ≠ true) (hb : (s.core p).board = []) :
    exec (.krd d m) s = .next (trapped s p { cause := 2, mask := 2 ^ k, slot := k, detail := 15, addr := 0, arg := 0,
                                             bundle := BitVec.ofInt 32 (s.core p).pc }) :=
  exec_badSlot hi (if_neg hk) hb rfl rfl

theorem exec_kwr (hf : Settled s p [destS a]) (hw : Writable m.toNat (s.core p).steward) :
    exec (.kwr a m) s = .next (after s p (ctrlWrite m.toNat (readS s p a))) :=
  (scalarMeaning_kwr.alone hi rfl hf rfl (if_pos hw) rfl).placed.changes rfl rfl rfl rfl (Nat.le_refl 3)

theorem exec_kwr_refused (hw : ¬Writable m.toNat (s.core p).steward) (hb : (s.core p).board = []) :
    exec (.kwr a m) s = .next (trapped s p { cause := 2, mask := 2 ^ k, slot := k, detail := 15, addr := 0, arg := 0,
                                             bundle := BitVec.ofInt 32 (s.core p).pc }) :=
  exec_badSlot hi (if_neg hw) hb rfl rfl

end

/-- The state field of KLPRG is its two highest bits (R189). -/
theorem lprgState_eq (x : W64) : lprgState x = x.toNat / 2 ^ 62 := by
  have := x.isLt
  unfold lprgState fld
  omega

/-- A field of a word is the bits that a mask at its place keeps. -/
theorem and_shifted_mask (x lo len : Nat) : x &&& (2 ^ len - 1) <<< lo = (x / 2 ^ lo % 2 ^ len) <<< lo := by
  rw [← Nat.and_two_pow_sub_one_eq_mod, ← Nat.shiftRight_eq_div_pow]
  apply Nat.eq_of_testBit_eq
  intro j
  by_cases h : lo ≤ j
  · simp [Nat.testBit_shiftLeft, Nat.testBit_shiftRight, h, Bool.and_comm]
  · simp [Nat.testBit_shiftLeft, h]

/-- KLPRG keeps its fields and no reserved bit (R189). -/
theorem lprgMask_eq (x : W64) : lprgMask x = x &&& 0xC0FF000000003FFF := by
  have hmask : 0xC0FF000000003FFF = (2 ^ 2 - 1) <<< 62 ||| ((2 ^ 8 - 1) <<< 48 ||| (2 ^ 14 - 1) <<< 0) := by decide
  apply BitVec.eq_of_toNat_eq
  rw [BitVec.toNat_and, show (0xC0FF000000003FFF : W64).toNat = 0xC0FF000000003FFF from rfl, hmask, Nat.and_or_distrib_left,
    Nat.and_or_distrib_left, and_shifted_mask, and_shifted_mask, and_shifted_mask]
  have hlow : x.toNat / 2 ^ 0 % 2 ^ 14 < 2 ^ 14 := Nat.mod_lt _ (by decide)
  have hmid : x.toNat / 2 ^ 48 % 2 ^ 8 < 2 ^ 8 := Nat.mod_lt _ (by decide)
  have hhigh : x.toNat / 2 ^ 62 % 2 ^ 2 < 2 ^ 2 := Nat.mod_lt _ (by decide)
  unfold lprgMask lprgWord fld
  generalize x.toNat / 2 ^ 62 % 2 ^ 2 = u, x.toNat / 2 ^ 48 % 2 ^ 8 = v, x.toNat / 2 ^ 0 % 2 ^ 14 = w at *
  rw [Nat.shiftLeft_zero, ← Nat.shiftLeft_add_eq_or_of_lt (by omega) v, ← Nat.shiftLeft_add_eq_or_of_lt (by omega) u,
    BitVec.toNat_ofNat, Nat.shiftLeft_eq, Nat.shiftLeft_eq]
  omega

/-- Settles O11: KRD reads by `exec_krd` and KWR writes by `exec_kwr`; a number that the table or the mode does not allow fails decode. -/
theorem controlRegisters : Obligations.ControlRegisters := by
  unfold Obligations.ControlRegisters
  refine ⟨fun s p k d m hi hf => ?_, fun s p k a m hi hf => ?_⟩
  · intro c x gives
    have reads {n : Nat} {v : W64} (hk : ctrlKnown n = true) (hv : ctrlRead s p n = v) (h : m.toNat = n) : gives v := by
      subst h hv
      exact exec_krd hi hf hk
    refine ⟨reads rfl rfl, fun h hl => reads rfl ?_ h, fun h hc ht => reads rfl ?_ h, reads rfl rfl, reads rfl rfl, reads rfl rfl,
      reads rfl rfl, reads rfl rfl, reads rfl rfl, fun h hb _ => exec_krd_unknown hi (mt (ctrlKnown_iff _).mp h) hb⟩
    · show BitVec.ofNat 64 (c.lcore % 512 + c.lcore / 4 % 128 * 2 ^ 16) = _
      rw [Nat.mod_eq_of_lt (by omega), Nat.mod_eq_of_lt (by omega)]
    · show BitVec.ofNat 64 (s.ctxOf p % 64 + x.tenant % 16 * 2 ^ 8) = _
      rw [Nat.mod_eq_of_lt hc, Nat.mod_eq_of_lt ht]
  · intro c v sets
    have writes {n : Nat} {f : Core → Core} (hw : Writable n c.steward) (hf' : ctrlWrite n v c = f c) (h : m.toNat = n) : sets f := by
      subst h
      exact (exec_kwr hi hf hw).trans (congrArg Host.Outcome.next (after_congr hf'))
    refine ⟨fun hst => ?_, fun h hrun => ?_, fun h hrun => ?_, fun hst hb h => exec_kwr_refused hi ?_ hb⟩
    · have inRecord {n : Nat} (h : 0x10 ≤ n) (h' : n < 0x15) : Writable n c.steward := .inr ⟨h, h', hst⟩
      exact ⟨writes (inRecord (by decide) (by decide)) rfl, writes (inRecord (by decide) (by decide)) rfl,
        writes (inRecord (by decide) (by decide)) rfl, writes (inRecord (by decide) (by decide)) rfl,
        writes (inRecord (by decide) (by decide)) rfl⟩
    · refine writes (.inl rfl) ?_ h
      have hset : ¬(0x20 = 0x20 ∧ lprgState c.klprg ≠ 1) := fun h => h.2 ((lprgState_eq _).trans hrun)
      exact if_neg hset
    · refine writes (.inl rfl) ?_ h
      rw [← lprgMask_eq]
      have hset : 0x20 = 0x20 ∧ lprgState c.klprg ≠ 1 := ⟨rfl, fun h => hrun ((lprgState_eq _).symm.trans h)⟩
      exact if_pos hset
    · rintro (h' | ⟨-, -, hst'⟩)
      · exact h h'
      · exact Bool.false_ne_true (hst.symm.trans hst')

end Sys2Proof.Machine
end

section
/-!
PROOF. Shape registers and sticky records (R146 to R150): a field read back after it is written, the copies after an exchange of
several registers, the records after EXCLR.
-/

namespace Sys2Proof.Machine

/-! ### Fields of a shape register (R143) -/

theorem Shape.field_setField_self (h : Shape) (x : W64) {f : Nat} (hf : f < 8) : (h.setField f x).field f = x := by
  interval_cases f <;> rfl

theorem Shape.field_setField_ne (h : Shape) (x : W64) {f f' : Nat} (hf : f < 8) (hf' : f' < 8) (hne : f' ≠ f) :
    (h.setField f x).field f' = h.field f' := by
  interval_cases f <;> interval_cases f' <;> first | rfl | exact absurd rfl hne

/-! ### Exchanges (R144, R147) -/

/-- The copies after the exchange of one register. -/
theorem get_exchange (e h j : Nat) (c : Core) :
    Tab.get Shape.zero (exchange e h c).active j =
        (if j = 4 * e + h then Tab.get Shape.zero c.shadow j else Tab.get Shape.zero c.active j) ∧
      Tab.get Shape.zero (exchange e h c).shadow j =
        (if j = 4 * e + h then Tab.get Shape.zero c.active j else Tab.get Shape.zero c.shadow j) := by
  have hone := exchangeAll_one e h 1 c j
  rw [show exchangeAll e 1 [h] c = exchange e h c from rfl] at hone
  simpa using hone

/-- The copies after the exchanges of a list of registers, each named once. -/
theorem get_foldl_exchange (e j : Nat) {hs : List Nat} (hn : hs.Nodup) (c : Core) :
    Tab.get Shape.zero (hs.foldl (fun k h => exchange e h k) c).active j =
        (if j ∈ hs.map (4 * e + ·) then Tab.get Shape.zero c.shadow j else Tab.get Shape.zero c.active j) ∧
      Tab.get Shape.zero (hs.foldl (fun k h => exchange e h k) c).shadow j =
        (if j ∈ hs.map (4 * e + ·) then Tab.get Shape.zero c.active j else Tab.get Shape.zero c.shadow j) := by
  induction hs generalizing c with
  | nil => exact ⟨rfl, rfl⟩
  | cons h r ih =>
    obtain ⟨hh, hr⟩ := List.nodup_cons.mp hn
    obtain ⟨hactive, hshadow⟩ := get_exchange e h j c
    rw [List.foldl_cons, (ih hr _).1, (ih hr _).2, hactive, hshadow, List.map_cons]
    by_cases hj : j = 4 * e + h
    · have hout : j ∉ r.map (4 * e + ·) := by
        rw [hj, List.mem_map]
        rintro ⟨i, hi, heq⟩
        exact hh (Nat.add_left_cancel heq ▸ hi)
      rw [if_neg hout, if_neg hout, if_pos hj, if_pos hj, if_pos (List.mem_cons.mpr (.inl hj)), if_pos (List.mem_cons.mpr (.inl hj))]
      exact ⟨rfl, rfl⟩
    · simp only [List.mem_cons, hj, false_or, if_false, and_self]

/-- A state whose core holds the copies that the exchange of an X instruction leaves (R144). -/
theorem exchanged_of_copies {t s : State} {p e : Nat} {w : BitVec 1} {hs : List Nat} (hn : hs.Nodup)
    (ha : (t.core p).active = (exchangeAll e w hs (s.core p)).active)
    (hh : (t.core p).shadow = (exchangeAll e w hs (s.core p)).shadow) : Exchanged t s p e w hs := by
  intro j
  rw [ha, hh, exchangeAll]
  by_cases hw : w = 1
  · simpa only [hw, if_true, true_and] using get_foldl_exchange e j hn (s.core p)
  · simp only [hw, if_false, false_and, and_self]

/-! ### SHW, SHRD, SHSW (R146, R147) -/

section
variable {e h : BitVec 2} {f : BitVec 3} {a : BitVec 6} {g : BitVec 5} {m : BitVec 6}

theorem scalarMeaning_shw : ScalarMeaning (.shw e h f a) (mShw e h f a) := ⟨rfl, rfl, rfl, rfl⟩

theorem scalarMeaning_shrd : ScalarMeaning (.shrd e h f a) (mShrd e h f a) := ⟨rfl, rfl, rfl, rfl⟩

/-- The engines that have shape registers (R59). -/
theorem limit_engine (he : e ≠ 3) : limit (e.toNat != 3) = none := by
  revert e
  decide

/-- The shadow copies after SHW. -/
def shadowWritten (e h : BitVec 2) (f : BitVec 3) (x : W64) (c : Core) : Tab Shape :=
  Tab.put Shape.zero c.shadow (4 * e.toNat + h.toNat) ((shadowShape c e.toNat h.toNat).setField f.toNat x)

variable {s : State} {p k : Nat} (hi : Issues s p k)
include hi

theorem exec_shw (he : e ≠ 3) (hf : Settled s p [destS a]) :
    exec (.shw e h f a) s = .next (after s p (fun c => { c with shadow := shadowWritten e h f (readS s p a) c })) :=
  (scalarMeaning_shw.alone hi rfl hf (limit_engine he) rfl rfl).placed.changes rfl rfl rfl rfl (show 2 ≤ 3 by decide)

theorem exec_shrd (he : e ≠ 3) (hf : Settled s p [destS a]) :
    exec (.shrd e h f a) s = .next (givesS s p k a ((activeShape (s.core p) e.toNat h.toNat).field f.toNat) 1 0) :=
  (scalarMeaning_shrd.alone hi rfl hf (limit_engine he) rfl rfl).sendsS rfl rfl rfl rfl

theorem exec_shsw (hm : m.toNat < 3) (hon : (readP s p g).getLsbD 0 = true) :
    exec (.shsw h g m) s = .next (after s p (exchange m.toNat h.toNat)) := by
  have halone : Alone (.shsw h g m) (mShsw h g m) s p k :=
    ⟨hi, rfl, Option.some_ne_none _, if_pos (decide_eq_true hm), rfl, rfl, rfl, hon, settled_nil s p, rfl⟩
  exact halone.placed.changes rfl rfl rfl rfl (show 1 ≤ 3 by decide)

end

/-! ### EXRD and EXCLR (R150) -/

section
variable {d : BitVec 6} {m : BitVec 13}

/-- The word of a record as EXRD sends it (R148). -/
theorem Sticky.word_eq (r : Sticky) : r.word = r.addr ++ (r.count ++ (0 : BitVec 4) ++ r.flags) := by
  apply BitVec.eq_of_getLsbD_eq
  intro j hj
  have hflags : 4 ≤ j → r.flags.getLsbD j = false := r.flags.getLsbD_of_ge j
  have hcount : 24 ≤ j - 8 → r.count.getLsbD (j - 8) = false := r.count.getLsbD_of_ge (j - 8)
  have hsub : j - 4 - 4 = j - 8 := by omega
  simp only [Sticky.word, BitVec.getLsbD_or, BitVec.getLsbD_shiftLeft, BitVec.getLsbD_setWidth, BitVec.getLsbD_append, hj, hsub]
  grind

theorem scalarMeaning_exrd : ScalarMeaning (.exrd d m) (mExrd d m) := ⟨rfl, rfl, rfl, rfl⟩

theorem scalarMeaning_exclr : ScalarMeaning (.exclr m) (mExclr m) := ⟨rfl, rfl, rfl, rfl⟩

/-- The records after EXCLR: none when the immediate is 5, else all but its own. -/
def stickyCleared (m : BitVec 13) (t : Tab Sticky) : Tab Sticky := if m = 5 then [] else Tab.erase t m.toNat

theorem get_stickyCleared (t : Tab Sticky) (j : Nat) : Tab.get Sticky.zero (stickyCleared m t) j =
    if m.toNat = 5 ∨ j = m.toNat then Sticky.zero else Tab.get Sticky.zero t j := by
  have h5 : m = 5 ↔ m.toNat = 5 := BitVec.toNat_inj.symm
  unfold stickyCleared
  by_cases hm : m = 5
  · rw [if_pos hm, if_pos (.inl (h5.mp hm))]
    rfl
  · rw [if_neg hm]
    by_cases hj : j = m.toNat
    · rw [if_pos (.inr hj), hj, Tab.get_eq_find, Tab.find_erase_self]
      rfl
    · rw [if_neg (not_or.mpr ⟨mt h5.mpr hm, hj⟩), Tab.get_eq_find, Tab.find_erase_ne _ hj, ← Tab.get_eq_find]

variable {s : State} {p k : Nat} (hi : Issues s p k)
include hi

theorem exec_exrd (hm : m.toNat < 5) (hf : Settled s p [destS d]) :
    exec (.exrd d m) s = .next (givesS s p k d (Tab.get Sticky.zero (s.core p).sticky m.toNat).word 1 0) :=
  (scalarMeaning_exrd.alone hi rfl hf (if_pos (decide_eq_true hm)) rfl rfl).sendsS rfl rfl rfl rfl

theorem exec_exclr (hm : m.toNat < 6) :
    exec (.exclr m) s = .next (after s p (fun c => { c with sticky := stickyCleared m c.sticky })) :=
  (scalarMeaning_exclr.alone hi rfl (settled_nil s p) (if_pos (decide_eq_true hm)) rfl rfl).placed.changes rfl rfl rfl rfl (Nat.le_refl 3)

end

/-- Settles O12: each instruction by its own lemma (`exec_shw` to `exec_exclr`), the copies by `Shape.field_setField_self` and
`get_exchange`, the records by `get_stickyCleared`. -/
theorem shapesAndStickyRecords : Obligations.ShapesAndStickyRecords := by
  unfold Obligations.ShapesAndStickyRecords
  refine ⟨fun s p k e h f a g m hi => ?_, fun s p k d m hi => ?_⟩
  · intro act shd
    refine ⟨fun he hf => ⟨_, exec_shw hi he hf, ?_⟩, fun he hf => exec_shrd hi he hf, fun hm hon => ⟨_, exec_shsw hi hm hon, ?_⟩⟩
    · set x := readS s p a
      set t := after s p (fun c => { c with shadow := shadowWritten e h f x c }) with ht
      have hshadow : (t.core p).shadow = shadowWritten e h f x (s.core p) := by rw [ht, after_core, advanced_shadow]
      have hget (j : Nat) : shd (t.core p) j =
          if j = 4 * e.toNat + h.toNat then (shd (s.core p) j).setField f.toNat x else shd (s.core p) j := by
        show Tab.get Shape.zero (t.core p).shadow j = _
        rw [hshadow, shadowWritten, Tab.get_put]
        split
        · next hj => rw [hj]; rfl
        · rfl
      refine ⟨?_, fun f' hf' hne => ?_, fun j hj => (hget j).trans (if_neg hj), ?_⟩
      · rw [hget, if_pos rfl, Shape.field_setField_self _ _ f.isLt]
      · rw [hget, if_pos rfl, Shape.field_setField_ne _ _ f.isLt hf' hne]
      · rw [hshadow]
        exact after_congr rfl
    · set t := after s p (exchange m.toNat h.toNat) with ht
      have hactive : (t.core p).active = (exchange m.toNat h.toNat (s.core p)).active := by rw [ht, after_core, advanced_active]
      have hshadow : (t.core p).shadow = (exchange m.toNat h.toNat (s.core p)).shadow := by rw [ht, after_core, advanced_shadow]
      have hget (j : Nat) := get_exchange m.toNat h.toNat j (s.core p)
      rw [← hactive, ← hshadow] at hget
      refine ⟨(hget _).1.trans (if_pos rfl), (hget _).2.trans (if_pos rfl),
        fun j hj => ⟨(hget j).1.trans (if_neg hj), (hget j).2.trans (if_neg hj)⟩, ?_⟩
      rw [hactive, hshadow]
      exact after_congr rfl
  · intro rec_
    refine ⟨fun hm hf => by rw [exec_exrd hi hm hf, Sticky.word_eq], fun hm => ⟨_, exec_exclr hi hm, fun j _ => ?_, ?_⟩⟩
    · show Tab.get Sticky.zero _ j = _
      rw [after_core, advanced_sticky, get_stickyCleared]
    · rw [after_core, advanced_sticky]
      exact after_congr rfl

end Sys2Proof.Machine
end

section
/-!
PROOF. The checks of the engines in their order (R75, R204): lists of checks of which the first that fails gives the failure, and the
checks of CCPY, CGTH, CSCT, CTOPK and OPTU as such lists.
-/

namespace Sys2Proof.Machine

/-! ### The first check of a list that fails (R75) -/

section
variable {q : Fail → Prop} {l l' : List (Fail → Prop)} {r r' : Option Fail}

theorem FirstFails.fails {f : Fail} (h : q f) : FirstFails (q :: l) (some f) :=
  ⟨fun _ => ⟨f, h, rfl⟩, fun hno => absurd ⟨f, h⟩ hno⟩

theorem FirstFails.passes (h : ∀ f, ¬q f) (hl : FirstFails l r) : FirstFails (q :: l) r :=
  ⟨fun ⟨f, hf⟩ => absurd hf (h f), fun _ => hl⟩

/-- A trap with its condition as the model tests it. -/
theorem FirstFails.trap {c b : Prop} [Decidable b] {cause d : Nat} {arg : W32} (h : b ↔ c) (hl : ¬c → FirstFails l r) :
    FirstFails (trapIf c cause d arg :: l) (if b then some (.trap cause d 0 arg) else r) := by
  by_cases hb : b
  · rw [if_pos hb]
    exact .fails ⟨h.mp hb, rfl⟩
  · rw [if_neg hb]
    have hc : ¬c := mt h.mpr hb
    exact .passes (fun _ hf => hc hf.1) (hl hc)

/-- The checks of one list before those of another. -/
theorem FirstFails.append (hl : FirstFails l r) (hl' : r = none → FirstFails l' r') : FirstFails (l ++ l') (r.or r') := by
  induction l with
  | nil =>
    have hr : r = none := hl
    rw [hr]
    exact hl' hr
  | cons q l ih =>
    obtain ⟨hfail, hpass⟩ := hl
    by_cases hq : ∃ f, q f
    · obtain ⟨f, hf, rfl⟩ := hfail hq
      exact .fails hf
    · exact .passes (fun f hf => hq ⟨f, hf⟩) (ih (hpass hq))

end

/-! ### The fatal checks of an engine operation (R202, R204) -/

theorem firstBadRow_pred (s : State) (p : Nat) (w : Want) (a : W64) :
    (if isSpad a then !spadOk s p (s.ctxOf p) a
     else if isRemote a then false
     else !globalOk s (s.ctxOf p) (BitVec.ofNat 64 (a.toNat / 512 * 512)) w) = true ↔ BadRow s p w a := by
  unfold BadRow
  by_cases hs : isSpad a = true
  · simp [hs]
  · by_cases hr : isRemote a = true <;> simp [hs, hr]

section
variable {s : State} {p : Nat}

theorem firstBadRow_some {w : Want} {l : List W64} {a : W64} (h : firstBadRow s p w l = some a) : a ∈ l ∧ BadRow s p w a := by
  unfold firstBadRow at h
  have hbad := List.find?_some h
  exact ⟨List.mem_of_find?_eq_some h, (firstBadRow_pred s p w a).mp hbad⟩

theorem firstBadRow_none {w : Want} {l : List W64} (h : firstBadRow s p w l = none) {a : W64} (ha : a ∈ l) : ¬BadRow s p w a :=
  fun hbad => List.find?_eq_none.mp h a ha ((firstBadRow_pred s p w a).mpr hbad)

theorem barrierOk_iff (s : State) (c : Nat) (b : W64) :
    barrierOk s c b = true ↔
      ¬(b ≠ 0 ∧ ¬(globalOk s c b .store = true ∧
        (isRemote b = true ∨ (globalOk s c (b + 8) .store = true ∧ globalOk s c (b + 16) .store = true)))) := by
  rw [barrierOk, Bool.or_eq_true, Bool.and_eq_true, Bool.or_eq_true, Bool.and_eq_true, decide_eq_true_eq, not_and, not_not,
    or_iff_not_imp_left]

/-- The fatal check of a barrier (R202). -/
theorem FirstFails.barrier {l : List (Fail → Prop)} {r : Option Fail} (b : W64) (hl : FirstFails l r) :
    let ok := fun (a : W64) => globalOk s (s.ctxOf p) a .store = true
    FirstFails ((fun f => (b ≠ 0 ∧ ¬(ok b ∧ (isRemote b = true ∨ (ok (b + 8) ∧ ok (b + 16))))) ∧ f = .fatal 1 b 0) :: l)
      (if barrierOk s (s.ctxOf p) b then r else some (.fatal 1 b 0)) := by
  intro ok
  have hiff := barrierOk_iff s (s.ctxOf p) b
  split
  · next h => exact .passes (fun _ hf => hiff.mp h hf.1) hl
  · next h => exact .fails ⟨not_not.mp (mt hiff.mpr h), rfl⟩

/-- The fatal checks of a copy or an OPTU: the rows it reads, those it writes, its barrier. -/
theorem firstFails_copyFatal {reads writes : List W64} {reads' writes' : W64 → Prop} (hr : ∀ a, a ∈ reads ↔ reads' a)
    (hw : ∀ a, a ∈ writes ↔ writes' a) (bar : W64) :
    FirstFails (engineFatals s p reads' writes' bar) (copyFatal s p reads writes bar) := by
  unfold copyFatal engineFatals
  cases hbadR : firstBadRow s p .load reads with
  | some a =>
    obtain ⟨hmem, hbad⟩ := firstBadRow_some hbadR
    exact .fails ⟨a, (hr a).mp hmem, hbad, rfl⟩
  | none =>
    refine .passes (fun f ⟨a, ha, hbad, _⟩ => firstBadRow_none hbadR ((hr a).mpr ha) hbad) ?_
    cases hbadW : firstBadRow s p .store writes with
    | some a =>
      obtain ⟨hmem, hbad⟩ := firstBadRow_some hbadW
      exact .fails ⟨a, (hw a).mp hmem, hbad, rfl⟩
    | none =>
      refine .passes (fun f ⟨a, ha, hbad, _⟩ => firstBadRow_none hbadW ((hw a).mpr ha) hbad) ?_
      exact .barrier bar rfl

end

/-! ### The conditions of the checks of R204 -/

theorem countOk_iff (n : Nat) : countOk n = true ↔ Counted n := by
  simp [countOk, Counted]

theorem recordBad_iff (h : Shape) : recordBad h = true ↔ 4096 ≤ h.tag.toNat ∨ 3 ≤ h.rc.toNat := by
  simp [recordBad]

theorem copyPair_iff (x y : Shape) : copyPair x.code y.code = true ↔
    x.fmt = y.fmt ∨ (x.fmt.toNat < 8 ∧ y.fmt.toNat < 8 ∧ fmtBytes x.fmt.toNat = fmtBytes y.fmt.toNat) := by
  rw [copyPair, Bool.or_eq_true, Bool.and_eq_true, Bool.and_eq_true, beq_iff_eq, beq_iff_eq, decide_eq_true_eq, decide_eq_true_eq,
    and_assoc]
  exact or_congr BitVec.toNat_inj Iff.rfl

theorem copyRecordBad_iff (x y d : Shape) :
    (fmtBad x || fmtBad y || recordBad d || !copyPair x.code y.code) = true ↔ CopyRecordBad x y d := by
  rw [Bool.or_eq_true, Bool.or_eq_true, Bool.or_eq_true, recordBad_iff, Bool.not_eq_true', ← Bool.not_eq_true, copyPair_iff]
  simp only [fmtBad, decide_eq_true_eq, CopyRecordBad, or_assoc]

section
variable {s : State} {p : Nat}

theorem frontFails_iff {d : Shape} {l : List W64} {rows : W64 → Prop} (h : ∀ a, a ∈ l ↔ rows a) :
    frontFails (s.ctx (s.ctxOf p)) d.tagNo l = true ↔ ∃ a, rows a ∧ OffFront s p d a := by
  have htag : d.tagNo = d.tag.toNat % 4096 := by simp [Shape.tagNo, fld]
  simp [frontFails, OffFront, h, htag, and_assoc]

end

/-! ### The rows that the checks name (R199, R205, R208, R211) -/

theorem mem_denseRows {h : Shape} {n : Nat} {a : W64} : a ∈ denseRows h n ↔ ∃ j, j < n ∧ a = h.rowAt j := by
  simp [denseRows, eq_comm]

theorem mem_tableEnds {h : Shape} {a : W64} : a ∈ tableEnds h ↔ a = h.stepAt 0 ∨ a = h.stepAt (h.inner - 1) := by
  simp [tableEnds]

theorem mem_maskRows {m a : W64} {n : Nat} : a ∈ maskRows m n ↔ ∃ j, 4096 * j < n ∧ a = m + BitVec.ofNat 64 (512 * j) := by
  have hlt (j : Nat) : j < (n + 4095) / 4096 ↔ 4096 * j < n := by omega
  simp [maskRows, hlt, eq_comm]

theorem mem_stepRows {h : Shape} {n : Nat} {a : W64} : a ∈ (List.range n).map h.stepAt ↔ ∃ j, j < n ∧ a = h.stepAt j := by
  simp [eq_comm]

/-- The row addresses of a stream of OPTU of `n` elements (R211). -/
def streamRowOf (h : Shape) (n : Nat) (a : W64) : Prop :=
  ∃ j, j < (n * fmtBytes h.fmt.toNat + 511) / 512 ∧ a = BitVec.ofNat 64 (h.base.toNat / 512 * 512) + BitVec.ofNat 64 (512 * j)

theorem mem_streamRows {h : Shape} {n : Nat} {a : W64} : a ∈ streamRows h n ↔ streamRowOf h n a := by
  simp [streamRows, streamRowOf, Shape.code, eq_comm]

/-! ### The checks of the Carter (R204 to R208) -/

section
variable (s : State) (p : Nat) (src dst : Shape)

/-- The checks of CCPY in their order. -/
theorem firstFails_ccpy (mm : Bool) (mask : W64) :
    let writes := fun (a : W64) => ∃ j, j < (if mm = true then src.rows else dst.rows) ∧ a = dst.rowAt j
    FirstFails ([trapIf (CopyRecordBad src dst dst) 2 40,
        trapIf (¬Counted src.rows ∨ ¬Counted dst.rows ∨ (mm = true ∧ dst.rows < src.rows) ∨ (mm = false ∧ dst.rows ≠ src.rows)) 2 41,
        trapIf (∃ a, writes a ∧ OffFront s p dst a) 2 42]
      ++ engineFatals s p (fun a => (∃ j, j < src.rows ∧ a = src.rowAt j) ∨
          (mm = true ∧ ∃ j, 4096 * j < src.rows ∧ a = mask + BitVec.ofNat 64 (512 * j))) writes dst.barAt)
      (ccpyCheck s p src dst mm mask) := by
  intro writes
  have hcount : (!countOk src.rows || !countOk dst.rows ||
      (if mm then decide (dst.rows < src.rows) else dst.rows != src.rows)) = true ↔
      (¬Counted src.rows ∨ ¬Counted dst.rows ∨ (mm = true ∧ dst.rows < src.rows) ∨ (mm = false ∧ dst.rows ≠ src.rows)) := by
    rw [Bool.or_eq_true, Bool.or_eq_true, Bool.not_eq_true', Bool.not_eq_true', ← Bool.not_eq_true, ← Bool.not_eq_true, countOk_iff,
      countOk_iff, or_assoc]
    cases mm <;> simp
  have hwrites (a : W64) : a ∈ denseRows dst (if mm then src.rows else dst.rows) ↔ writes a := mem_denseRows
  refine .trap (copyRecordBad_iff src dst dst) fun _ => .trap hcount fun _ => .trap (frontFails_iff hwrites) fun _ =>
    firstFails_copyFatal (fun a => ?_) hwrites _
  rw [List.mem_append, mem_denseRows]
  cases mm <;> simp [mem_maskRows]

/-- The checks of CGTH and CSCT in their order: `table` and `dense` are the two sides, `reads` and `writes` their rows. -/
theorem firstFails_indexed (scatter : Bool) (n : Nat) :
    let table := if scatter then dst else src
    let dense := if scatter then src else dst
    let ends := fun (a : W64) => a = table.stepAt 0 ∨ a = table.stepAt (table.inner - 1)
    let rows := fun (a : W64) => ∃ j, j < n ∧ a = dense.rowAt j
    let reads := if scatter then rows else ends
    let writes := if scatter then ends else rows
    FirstFails ([trapIf (CopyRecordBad src dst dst) 2 40,
        trapIf (¬Counted n ∨ ¬Counted dense.rows ∨ dense.rows < n ∨ table.outer ≠ 1 ∨ ¬Counted table.inner) 2 41,
        trapIf (∃ a, writes a ∧ OffFront s p dst a) 2 42] ++ engineFatals s p reads writes dst.barAt)
      (indexedCheck s p scatter src dst n) := by
  intro table dense ends rows reads writes
  have hcount : (!countOk n || !countOk dense.rows || decide (dense.rows < n) || table.outer != 1 || !countOk table.inner) = true ↔
      (¬Counted n ∨ ¬Counted dense.rows ∨ dense.rows < n ∨ table.outer ≠ 1 ∨ ¬Counted table.inner) := by
    simp only [Bool.or_eq_true, Bool.not_eq_true', ← Bool.not_eq_true, countOk_iff, decide_eq_true_eq, bne_iff_ne, or_assoc]
  have hreads (a : W64) : a ∈ (if scatter then denseRows dense n else tableEnds table) ↔ reads a := by
    cases scatter
    · exact mem_tableEnds
    · exact mem_denseRows
  have hwrites (a : W64) : a ∈ (if scatter then tableEnds table else denseRows dense n) ↔ writes a := by
    cases scatter
    · exact mem_denseRows
    · exact mem_tableEnds
  exact .trap (copyRecordBad_iff src dst dst) fun _ => .trap hcount fun _ => .trap (frontFails_iff hwrites) fun _ =>
    firstFails_copyFatal hreads hwrites _

/-- The checks of CTOPK in their order. -/
theorem firstFails_ctopk (a0 : Nat) :
    let rows := fun (a : W64) => ∃ j, j < (dst.outer + 7) / 8 ∧ a = dst.stepAt j
    FirstFails ([trapIf (dst.fmt ≠ 0 ∨ 4096 ≤ dst.tag.toNat ∨ 3 ≤ dst.rc.toNat) 2 40, trapIf (¬Counted dst.outer) 2 41,
        trapIf (∃ a, rows a ∧ OffFront s p dst a) 2 42,
        trapIf (8192 < a0 + dst.outer ∨ dst.inner < 1 ∨ 128 < dst.inner ∨ isSpad dst.base = false) 2 44]
      ++ engineFatals s p (fun _ => False) rows dst.barAt) (ctopkCheck s p dst a0) := by
  intro rows
  have hrecord : (fmtBad dst || dst.code != 0 || recordBad dst) = true ↔ (dst.fmt ≠ 0 ∨ 4096 ≤ dst.tag.toNat ∨ 3 ≤ dst.rc.toNat) := by
    have hzero : dst.fmt = 0 ↔ dst.fmt.toNat = 0 := BitVec.toNat_inj.symm
    rw [Bool.or_eq_true, Bool.or_eq_true, recordBad_iff, Ne, hzero, fmtBad, decide_eq_true_eq, bne_iff_ne, Shape.code]
    omega
  have hcount : (!countOk dst.outer) = true ↔ ¬Counted dst.outer := by
    rw [Bool.not_eq_true', ← Bool.not_eq_true, countOk_iff]
  have hrows (a : W64) : a ∈ (List.range (topkRows dst.outer)).map dst.stepAt ↔ rows a := mem_stepRows
  exact .trap hrecord fun _ => .trap hcount fun _ => .trap (frontFails_iff hrows) fun _ => .trap Iff.rfl fun _ =>
    firstFails_copyFatal (fun a => iff_of_false List.not_mem_nil id) hrows _

end

/-! ### The checks of OPTU (R204, R211) -/

/-- The checks of OPTU in their order. -/
theorem firstFails_optu (s : State) (p : Nat) (w g m v : Shape) :
    let rows := fun (d : Shape) => streamRowOf d w.inner
    let off := fun (d : Shape) => isRemote d.base = false ∧ ∃ a, rows d a ∧
      (isSpad a = true ∨ inFront (s.ctx (s.ctxOf p)) (d.tag.toNat % 4096) a = false)
    FirstFails ([trapIf (2 ≤ w.fmt.toNat ∨ 2 ≤ g.fmt.toNat ∨ 2 ≤ m.fmt.toNat ∨ 2 ≤ v.fmt.toNat ∨ 4096 ≤ w.tag.toNat ∨
          3 ≤ w.rc.toNat ∨ 4096 ≤ m.tag.toNat ∨ 4096 ≤ v.tag.toNat) 2 40,
        trapIf (off w ∨ off m ∨ off v) 2 42,
        trapIf (w.inner < 256 ∨ 2 ^ 31 < w.inner ∨ w.inner % 256 ≠ 0 ∨ isRemote w.base = true ∨ isRemote g.base = true ∨
          isRemote m.base = true ∨ isRemote v.base = true) 2 46]
      ++ engineFatals s p (rows g) (fun a => rows w a ∨ rows m a ∨ rows v a) w.barAt) (optuCheck s p w g m v) := by
  intro rows off
  have hoff (d : Shape) : (!isRemote d.base &&
      (streamRows d w.inner).any (fun a => isSpad a || !inFront (s.ctx (s.ctxOf p)) d.tagNo a)) = true ↔ off d := by
    have htag : d.tagNo = d.tag.toNat % 4096 := by simp [Shape.tagNo, fld]
    simp [off, rows, mem_streamRows, htag]
  refine .trap ?_ fun _ => .trap ?_ fun _ => .trap Iff.rfl fun _ => firstFails_copyFatal (fun a => mem_streamRows) (fun a => ?_) _
  · simp only [Bool.or_eq_true, decide_eq_true_eq, recordBad_iff, or_assoc]
  · rw [Bool.or_eq_true, Bool.or_eq_true, hoff, hoff, hoff, or_assoc]
  · simp only [List.mem_append, mem_streamRows, or_assoc, rows]

end Sys2Proof.Machine
end

section
/-!
PROOF. The Carter and the update engine at issue (R198, R205 to R212, R261): a copy joins its channel, a full channel or queue or a
running OPTU freezes the core, a failed check stops the bundle.
-/

namespace Sys2Proof.Machine

/-! ### A copy joins its channel (R198, R262) -/

/-- The core once an instruction has exchanged its registers and its copy has joined the channel. -/
def copyJoined (w : BitVec 1) (hs : List Nat) (u : Nat) (j : Copy) (c : Core) : Core :=
  onChan u (fun l => l ++ [j]) (exchangeAll 1 w hs c)

/-- A copy joining touches the channels and the copies of the shape registers alone. -/
theorem copyJoined_eq (w : BitVec 1) (hs : List Nat) (u : Nat) (j : Copy) (c : Core) :
    copyJoined w hs u j c = { c with
      chans := Tab.upd [] c.chans u (fun l => l ++ [j])
      active := (exchangeAll 1 w hs c).active, shadow := (exchangeAll 1 w hs c).shadow } := by
  rw [copyJoined, exchangeAll_eq]
  rfl

/-- What is pending marks rows of a CTOPK and nothing else of a copy. -/
theorem seesPending_eq (c : Core) (j : Copy) : seesPending c j = { j with free := (seesPending c j).free } := by
  unfold seesPending
  split <;> rfl

section
variable {inst : Instr} {s : State} {p k : Nat} {w : BitVec 1} {g : BitVec 5} {a b i : BitVec 6} {hs : List Nat}
  {check : State → Nat → Option Fail} {copy : State → Nat → Copy}

/-- A Carter instruction whose channel has room and whose checks pass. -/
theorem exec_mCopy (h : Placed inst (mCopy w g a b i hs check copy) s p k) (hlen : ((s.core p).chan (i.toNat % 4)).length < 16)
    (hc : check s p = none) :
    exec inst s = .next (after s p (copyJoined w hs (i.toNat % 4) (seesPending (s.core p) (copy s p)))) := by
  refine h.changes (decide_eq_true hlen) ?_ rfl hc (show 1 ≤ 3 by decide)
  exact State.onCore_onCore ..

/-- A Carter instruction freezes at a full channel, stops with the failure of its check, or joins its channel with its copy. -/
theorem mCopy_accepts (h : Placed inst (mCopy w g a b i hs check copy) s p k) (hn : hs.Nodup) :
    let u := i.toNat % 4
    let ch := fun (t : State) (n : Nat) => Tab.get [] (t.core p).chans n
    (16 ≤ (ch s u).length → exec inst s = .next (frozen s p)) ∧
    ((ch s u).length < 16 → Stops inst s p k (check s p)) ∧
    ((ch s u).length < 16 → check s p = none →
      ∃ t, exec inst s = .next t ∧ ch t u = ch s u ++ [seesPending (s.core p) (copy s p)] ∧ (∀ n, n ≠ u → ch t n = ch s n) ∧
        Exchanged t s p 1 w hs ∧
        t = after s p (fun c => { c with chans := (t.core p).chans, active := (t.core p).active, shadow := (t.core p).shadow })) := by
  intro u ch
  refine ⟨fun hfull => h.freezes (decide_eq_false (Nat.not_lt.mpr hfull)) rfl, fun hlen => h.stops (decide_eq_true hlen),
    fun hlen hc => ⟨_, exec_mCopy h hlen hc, ?_⟩⟩
  set j := seesPending (s.core p) (copy s p)
  set t := after s p (copyJoined w hs (i.toNat % 4) j) with ht
  have hchans : (t.core p).chans = Tab.upd [] (s.core p).chans u (fun l => l ++ [j]) := by
    rw [ht, after_core, advanced_chans, copyJoined_eq]
  have hactive : (t.core p).active = (exchangeAll 1 w hs (s.core p)).active := by
    rw [ht, after_core, advanced_active, copyJoined_eq]
  have hshadow : (t.core p).shadow = (exchangeAll 1 w hs (s.core p)).shadow := by
    rw [ht, after_core, advanced_shadow, copyJoined_eq]
  refine ⟨?_, fun n hne => ?_, exchanged_of_copies hn hactive hshadow, ?_⟩
  · show Tab.get [] (t.core p).chans u = _
    rw [hchans]
    exact Tab.get_set_self ..
  · show Tab.get [] (t.core p).chans n = _
    rw [hchans]
    exact Tab.get_set_ne _ _ _ hne
  · rw [hchans, hactive, hshadow]
    exact after_congr (copyJoined_eq ..)

end

/-- The shapes of a Carter instruction are those of engine 1 (R59, R144). -/
theorem carterShape_eq (s : State) (p h : Nat) (w : BitVec 1) : carterShape s p h w = shapeIn s p 1 h w := usedShape_eq ..

theorem fld_low (x : W64) (len : Nat) : fld x 0 len = x.toNat % 2 ^ len := by
  rw [fld, Nat.pow_zero, Nat.div_one]

section
variable (h : BitVec 2) (w : BitVec 1) (g : BitVec 5) (a b i : BitVec 6)

/-! The Carter instructions by the shapes that they use. -/

theorem mCcpy_eq : mCcpy h w g a b i = mCopy w g a b i [h.toNat, (h ^^^ 1).toNat]
    (fun t p => ccpyCheck t p (shapeIn t p 1 h.toNat w) ((shapeIn t p 1 (h ^^^ 1).toNat w).move (readS t p b)) (i.getLsbD 2)
      (readS t p a))
    (fun t p => { newCopy t p .ccpy (shapeIn t p 1 h.toNat w) ((shapeIn t p 1 (h ^^^ 1).toNat w).move (readS t p b))
        (shapeIn t p 1 h.toNat w).rows with masked := i.getLsbD 2, maskAt := readS t p a }) := by
  simp only [mCcpy, carterShape_eq, pairOf]

theorem mCgth_eq : mCgth h w g a b i = mCopy w g a b i [h.toNat, (h ^^^ 1).toNat]
    (fun t p => indexedCheck t p false (shapeIn t p 1 h.toNat w) ((shapeIn t p 1 (h ^^^ 1).toNat w).move (readS t p b))
      ((readS t p a).toNat % 2 ^ 32))
    (fun t p => newCopy t p .cgth (shapeIn t p 1 h.toNat w) ((shapeIn t p 1 (h ^^^ 1).toNat w).move (readS t p b))
      ((readS t p a).toNat % 2 ^ 32)) := by
  simp only [mCgth, carterShape_eq, pairOf, fld_low]

theorem mCsct_eq : mCsct h w g a b i = mCopy w g a b i [h.toNat, (h ^^^ 1).toNat]
    (fun t p => indexedCheck t p true ((shapeIn t p 1 h.toNat w).move (readS t p b)) (shapeIn t p 1 (h ^^^ 1).toNat w)
      ((readS t p a).toNat % 2 ^ 32))
    (fun t p => newCopy t p .csct ((shapeIn t p 1 h.toNat w).move (readS t p b)) (shapeIn t p 1 (h ^^^ 1).toNat w)
      ((readS t p a).toNat % 2 ^ 32)) := by
  simp only [mCsct, carterShape_eq, pairOf, fld_low]

theorem mCtopk_eq : mCtopk h w g a b i = mCopy w g a b i [h.toNat]
    (fun t p => ctopkCheck t p (shapeIn t p 1 h.toNat w) ((readS t p a).toNat % 8192))
    (fun t p => { newCopy t p .ctopk Shape.zero (shapeIn t p 1 h.toNat w) (topkRows (shapeIn t p 1 h.toNat w).outer) with
      off := BitVec.ofNat 64 ((readS t p a).toNat % 8192), base := (readS t p b).setWidth 32, best := i.toNat / 8 + 1 }) := by
  simp only [mCtopk, carterShape_eq, fld_low]
  rfl

/-- The immediates of CCPY: a mask is named where bit 2 selects one (R205). -/
theorem detail_ccpy (hi : i.toNat < 8) (ha : 4 ≤ i.toNat ∨ a = 0) : (Instr.ccpy h w g a b i).detail = none := by
  have hmask : a.toNat = 0 ∨ 4 ≤ i.toNat := ha.symm.imp_left fun h => congrArg BitVec.toNat h
  exact if_pos (by simpa [hi] using hmask)

/-- The immediates of CTOPK: bit 2 is zero (R208). -/
theorem detail_ctopk (hi : i.getLsbD 2 = false) : (Instr.ctopk h w g a b i).detail = none := by
  have hbit : i.toNat / 4 % 2 = 0 := by
    rw [← BitVec.testBit_toNat, Nat.testBit_eq_decide_div_mod_eq, decide_eq_false_iff_not] at hi
    omega
  exact if_pos (beq_iff_eq.mpr hbit)

end

/-- The two registers of a pair are different ones (R198). -/
theorem pair_nodup (h : BitVec 2) : [h.toNat, (h ^^^ 1).toNat].Nodup := by
  revert h
  decide

/-! ### CDRN, PUSHIX, OPTU (R209, R211, R261) -/

section
variable {s : State} {p k : Nat} {g : BitVec 5} {a b i : BitVec 6} {w : BitVec 1} (hi : Issues s p k) (hon : guardM g s (.core p) = true)
include hi hon

theorem cdrn_placed (hlim : i.toNat < 4) : Placed (.cdrn g i) (mCdrn g i) s p k :=
  ⟨hi, rfl, Option.some_ne_none _, if_pos (decide_eq_true hlim), rfl, rfl, fun h => absurd h Bool.false_ne_true, hon, settled_nil s p⟩

theorem pushix_placed (hf : Settled s p [destS a]) : Placed (.pushix g a) (mPushix g a) s p k :=
  ⟨hi, rfl, Option.some_ne_none _, rfl, rfl, rfl, fun h => absurd h Bool.false_ne_true, hon, hf⟩

theorem optu_placed (hf : Settled s p [destS a, destS b]) (hlim : i = 0 ∨ (i = 63 ∧ Ported s p)) :
    Placed (.optu w g a b i) (mOptu w g a b i) s p k where
  issues := hi
  meaning := rfl
  cls := Option.some_ne_none _
  detail := by obtain rfl | ⟨rfl, -⟩ := hlim <;> rfl
  stream := rfl
  decode := rfl
  port := fun h => by
    obtain rfl | ⟨-, hp⟩ := hlim
    · cases h
    · exact hp
  acts := hon
  settled := hf

end

/-- The OPTU that starts in state `s`: its four shapes and its five scalars (R212). -/
def optuJob (s : State) (p : Nat) (w : BitVec 1) (a b i : BitVec 6) : OptuJob :=
  let x := readS s p a
  let y := readS s p b
  { issue := s.cycle, bundle := BitVec.ofInt 32 (s.core p).pc, ctx := s.ctxOf p, w := usedShape (s.core p) 2 0 w,
    g := usedShape (s.core p) 2 1 w, m := usedShape (s.core p) 2 2 w, v := usedShape (s.core p) 2 3 w,
    n := (usedShape (s.core p) 2 0 w).inner, lr := x.setWidth 32, b1 := (x >>> 32).setWidth 32, b2 := y.setWidth 32,
    eps := (y >>> 32).setWidth 32, wd := if i = 63 then (portValue s p s.header).setWidth 32 else 0, done := [], landed := 0,
    status := 0, flags := (oneLess ((x >>> 32).setWidth 32)).2 ||| (oneLess (y.setWidth 32)).2, told := 0 }

section
variable {s : State} {p k : Nat} {g : BitVec 5} {a b i : BitVec 6} {w : BitVec 1}

theorem exec_optu (h : Placed (.optu w g a b i) (mOptu w g a b i) s p k) (hidle : (s.core p).optu = none)
    (hc : optuCheck s p (usedShape (s.core p) 2 0 w) (usedShape (s.core p) 2 1 w) (usedShape (s.core p) 2 2 w)
      (usedShape (s.core p) 2 3 w) = none) :
    exec (.optu w g a b i) s = .next (after s p (fun c =>
      { exchangeAll 2 w [0, 1, 2, 3] c with optu := some (optuJob s p w a b i) })) :=
  h.changes (by rw [mOptu]; exact Option.isNone_iff_eq_none.mpr hidle) rfl rfl hc (show 1 ≤ 3 by decide)

/-- The port, where the header selects it (R54). -/
theorem portValue_of_ported (hp : Ported s p) : portValue s p s.header = readS s p (headBs s.header) := if_pos hp.1

theorem high_half (x : W64) : (x >>> 32).setWidth 32 = x.extractLsb' 32 32 := by
  apply BitVec.eq_of_toNat_eq
  simp

/-- What the start of an OPTU leaves. -/
theorem optu_starts (h : Placed (.optu w g a b i) (mOptu w g a b i) s p k) (hlim : i = 0 ∨ (i = 63 ∧ Ported s p))
    (hidle : (s.core p).optu = none)
    (hc : optuCheck s p (shapeIn s p 2 0 w) (shapeIn s p 2 1 w) (shapeIn s p 2 2 w) (shapeIn s p 2 3 w) = none) :
    ∃ t j, exec (.optu w g a b i) s = .next t ∧ (t.core p).optu = some j ∧
      j.w = shapeIn s p 2 0 w ∧ j.g = shapeIn s p 2 1 w ∧ j.m = shapeIn s p 2 2 w ∧ j.v = shapeIn s p 2 3 w ∧
      j.lr = (readS s p a).setWidth 32 ∧ j.b1 = (readS s p a).extractLsb' 32 32 ∧
      j.b2 = (readS s p b).setWidth 32 ∧ j.eps = (readS s p b).extractLsb' 32 32 ∧
      j.wd = (if i = 63 then (readS s p (headBs s.header)).setWidth 32 else 0) ∧ j.done = [] ∧ Exchanged t s p 2 w [0, 1, 2, 3] ∧
      t = after s p (fun c => { c with optu := (t.core p).optu, active := (t.core p).active, shadow := (t.core p).shadow }) := by
  simp only [← usedShape_eq] at hc
  have hwd : (optuJob s p w a b i).wd = (if i = 63 then (readS s p (headBs s.header)).setWidth 32 else 0) := by
    obtain rfl | ⟨rfl, hp⟩ := hlim
    · rfl
    · rw [← portValue_of_ported hp]
      rfl
  refine ⟨_, optuJob s p w a b i, exec_optu h hidle hc, ?_⟩
  set t := after s p (fun c => { exchangeAll 2 w [0, 1, 2, 3] c with optu := some (optuJob s p w a b i) }) with ht
  have hoptu : (t.core p).optu = some (optuJob s p w a b i) := by rw [ht, after_core, advanced_optu]
  have hactive : (t.core p).active = (exchangeAll 2 w [0, 1, 2, 3] (s.core p)).active := by rw [ht, after_core, advanced_active]
  have hshadow : (t.core p).shadow = (exchangeAll 2 w [0, 1, 2, 3] (s.core p)).shadow := by rw [ht, after_core, advanced_shadow]
  refine ⟨hoptu, usedShape_eq .., usedShape_eq .., usedShape_eq .., usedShape_eq .., rfl, high_half _, rfl, high_half _, hwd, rfl,
    exchanged_of_copies (by decide) hactive hshadow, ?_⟩
  rw [hoptu, hactive, hshadow]
  refine after_congr ?_
  dsimp only
  rw [exchangeAll_eq]

end

/-! ### The obligation -/

/-- Settles O32: a Carter instruction by `mCopy_accepts`, OPTU by `optu_starts`; the checks in their order by `firstFails_ccpy`,
`firstFails_indexed`, `firstFails_ctopk` and `firstFails_optu`. -/
theorem copyAndUpdateIssue : Obligations.CopyAndUpdateIssue := by
  unfold Obligations.CopyAndUpdateIssue
  refine ⟨fun s p k h w g a b i hi hon hf => ?_, fun s p k g a b i w hi hon => ?_⟩
  · intro h2 s1 s2 off u ch accepts m2 m1 n all ends bar indexed
    have accepted {inst : Instr} {hs : List Nat} {check : State → Nat → Option Fail} {copy : State → Nat → Copy} {q : Copy → Prop}
        (hm : meaningOf inst = mCopy w g a b i hs check copy) (hcls : inst.cls = some .eng) (hw : inst.detail = none)
        (hst : inst.streamOnly = false) (hn : hs.Nodup) (hq : q (seesPending (s.core p) (copy s p)))
        (hnew : (copy s p).issue = s.cycle ∧ (copy s p).done = [] ∧ (copy s p).idx = [] ∧ (copy s p).told = 0) :
        accepts inst (check s p) hs q := by
      have hplaced : Placed inst (mCopy w g a b i hs check copy) s p k :=
        ⟨hi, hm, hcls ▸ Option.some_ne_none _, hw, hst, rfl, fun h => absurd h Bool.false_ne_true, hon, hf⟩
      obtain ⟨hfull, hstops, hjoins⟩ := mCopy_accepts hplaced hn
      refine ⟨hfull, hstops, fun hlen hc => ?_⟩
      obtain ⟨t, hex, hlast, hothers, hexch, ht⟩ := hjoins hlen hc
      rw [seesPending_eq] at hlast hq
      obtain ⟨hissue, hdone, hidx, htold⟩ := hnew
      exact ⟨t, _, hex, hlast, hothers, hq, hissue, hdone, hidx, htold, hexch, ht⟩
    have hnew : s.cycle = s.cycle ∧ ([] : List Nat) = [] ∧ ([] : List W32) = [] ∧ 0 = 0 := ⟨rfl, rfl, rfl, rfl⟩
    refine ⟨fun _ _ => firstFails_ccpy s p s1 m2 _ _, fun _ => ⟨firstFails_indexed s p s1 m2 false n, firstFails_indexed s p m1 s2 true n⟩,
      fun _ => firstFails_ctopk s p s1 _, fun hlim ha => ?_, fun hlim => ⟨?_, ?_⟩, fun hbit => ?_⟩
    · refine accepted (inst := .ccpy h w g a b i) (mCcpy_eq ..) rfl (detail_ccpy h w g a b i hlim ha) rfl (pair_nodup h) ?_ hnew
      exact ⟨rfl, rfl, rfl, rfl, rfl, rfl⟩
    · refine accepted (inst := .cgth h w g a b i) (mCgth_eq ..) rfl (if_pos (decide_eq_true hlim)) rfl (pair_nodup h) ?_ hnew
      exact ⟨rfl, rfl, rfl, rfl⟩
    · refine accepted (inst := .csct h w g a b i) (mCsct_eq ..) rfl (if_pos (decide_eq_true hlim)) rfl (pair_nodup h) ?_ hnew
      exact ⟨rfl, rfl, rfl, rfl⟩
    · refine accepted (inst := .ctopk h w g a b i) (mCtopk_eq ..) rfl (detail_ctopk h w g a b i hbit) rfl (List.nodup_singleton _) ?_ hnew
      exact ⟨rfl, rfl, rfl, rfl, rfl, rfl⟩
  · intro c
    refine ⟨fun hlim => ⟨fun hnil => ?_, fun hne => ?_⟩, fun hf => ⟨fun hlen => ?_, fun hfull => ?_⟩, fun hf hlim => ?_⟩
    · exact (cdrn_placed hi hon hlim).commits (List.isEmpty_iff.mpr hnil) rfl (show 0 ≤ 3 by decide)
    · exact (cdrn_placed hi hon hlim).freezes (Bool.eq_false_iff.mpr fun h => hne (List.isEmpty_iff.mp h)) rfl
    · exact (pushix_placed hi hon hf).changes (decide_eq_true hlen) rfl rfl rfl (show 0 ≤ 3 by decide)
    · exact (pushix_placed hi hon hf).freezes (decide_eq_false (Nat.not_lt.mpr hfull)) rfl
    · intro w_ g_ m_ v_ check rows off
      have hplaced := optu_placed (w := w) hi hon hf hlim
      have hcheck : (mOptu w g a b i).check s (soleEnv s p k 0) = check := by
        simp only [mOptu, usedShape_eq]
        rfl
      refine ⟨firstFails_optu s p w_ g_ m_ v_, fun hidle => ?_, fun hbusy => ?_, fun hidle hc => optu_starts hplaced hlim hidle hc⟩
      · rw [← hcheck]
        exact hplaced.stops (Option.isNone_iff_eq_none.mpr hidle)
      · exact hplaced.freezes (Bool.eq_false_iff.mpr fun h => hbusy (Option.isNone_iff_eq_none.mp h)) rfl

end Sys2Proof.Machine
end

section
/-!
PROOF. The Loom at issue (R183 to R188): the checks of LMMA, LMMAZ and LMMAR in their order, the operation that starts with what it
captured, and the results and records that it spoils.
-/

namespace Sys2Proof.Machine

/-! ### The handle and the recorded residency (R184, R301) -/

section
variable (x : Ctx) (l : Nat) (hd : W64)

/-- The handle check by the conditions of R301. -/
theorem handleCause_cases :
    let r := resAt x l (handleSlot hd)
    let stale := ¬HandleGood r hd ∧ hd.toNat / 2 ^ 16 % 16 = 0 ∧ hd.toNat % 2 ^ 16 < 1024 ∧ r.state = 7 ∧
      hd.toNat / 2 ^ 20 % 4096 = r.rgen.toNat
    (handleCause x l hd = some 7 ∧ stale) ∨ (handleCause x l hd = some 8 ∧ ¬stale ∧ ¬HandleGood r hd) ∨
      (handleCause x l hd = none ∧ HandleGood r hd) := by
  intro r stale
  have hr : Tab.get Resid.zero x.res (l * 1024 + hd.toNat % 2 ^ 16) = r := by rw [← handleSlot_eq]; rfl
  rw [handleCause_eq, hr]
  by_cases hform : hd.toNat / 2 ^ 16 % 16 ≠ 0 ∨ 1024 ≤ hd.toNat % 2 ^ 16
  · have hbad : ¬HandleGood r hd := fun h => by unfold HandleGood at h; omega
    exact .inr (.inl ⟨if_pos hform, fun h => by omega, hbad⟩)
  rw [if_neg hform]
  obtain ⟨hzero, hindex⟩ : hd.toNat / 2 ^ 16 % 16 = 0 ∧ hd.toNat % 2 ^ 16 < 1024 := by omega
  by_cases hstale : r.state = 7 ∧ hd.toNat / 2 ^ 20 % 4096 = r.rgen.toNat
  · exact .inl ⟨if_pos hstale, fun h => h.2.2.1 hstale, hzero, hindex, hstale⟩
  rw [if_neg hstale]
  by_cases hother : r.held = false ∨ hd.toNat / 2 ^ 20 % 4096 ≠ r.gen.toNat
  · refine .inr (.inl ⟨if_pos hother, fun h => hstale h.2.2.2, fun h => ?_⟩)
    obtain ⟨-, -, -, hheld, hgen⟩ := h
    exact hother.elim (fun hno => Bool.false_ne_true (hno.symm.trans hheld)) fun hne => hne hgen
  · rw [not_or, Bool.not_eq_false, not_not] at hother
    exact .inr (.inr ⟨if_neg (by simpa using hother), hzero, hindex, hstale, hother⟩)

/-- What the record checks of R184 see: no record of a bad handle or of a slot never loaded, else the slot's own. -/
theorem recordedRes_cases :
    let r := resAt x l (handleSlot hd)
    (¬HandleGood r hd ∧ recordedRes x l hd = none ∧ neverLoaded x l hd = false) ∨
      (HandleGood r hd ∧ r.loaded = false ∧ neverLoaded x l hd = true) ∨
      (HandleGood r hd ∧ r.loaded = true ∧ recordedRes x l hd = some r ∧ neverLoaded x l hd = false) := by
  intro r
  unfold recordedRes neverLoaded
  obtain ⟨hc, hbad, -⟩ | ⟨hc, -, hbad⟩ | ⟨hc, hgood⟩ := handleCause_cases x l hd
  · exact .inl ⟨hbad, by rw [hc]; rfl, by rw [hc]; rfl⟩
  · exact .inl ⟨hbad, by rw [hc]; rfl, by rw [hc]; rfl⟩
  · cases hl : r.loaded with
    | false => exact .inr (.inl ⟨hgood, rfl, by rw [hc]; rfl⟩)
    | true => exact .inr (.inr ⟨hgood, rfl, by rw [hc]; exact if_pos hl, by rw [hc]; rfl⟩)

/-- The pair check of R184. -/
theorem pairFails_iff (h : Shape) :
    (!neverLoaded x l hd && pairFails (recordedRes x l hd) h) = true ↔ PairBad (resAt x l (handleSlot hd)) hd h := by
  have hcode : (decide (16 ≤ h.fmt.toNat) || !([1, 2, 3].contains h.code)) = true ↔ h.fmt.toNat ∉ [1, 2, 3] := by
    simp only [Shape.code, Bool.or_eq_true, decide_eq_true_eq, Bool.not_eq_true', ← Bool.not_eq_true, List.contains_iff_mem, List.mem_cons,
      List.not_mem_nil, or_false]
    omega
  unfold PairBad pairFails
  obtain ⟨hbad, hrec, hnever⟩ | ⟨hgood, hload, hnever⟩ | ⟨hgood, hload, hrec, hnever⟩ := recordedRes_cases x l hd
  · simp only [hrec, hnever, hbad, Bool.or_false, Bool.not_false, Bool.true_and, hcode, false_and, not_false_eq_true, true_and, or_false]
  · simp only [hnever, hgood, hload, Bool.not_true, Bool.false_and, Bool.false_eq_true, and_self, not_true_eq_false, false_and]
  · rw [hrec, hnever, Bool.not_false, Bool.true_and, Bool.or_eq_true, hcode, beq_iff_eq]
    simp only [hgood, hload, Bool.true_eq_false, and_false, not_false_eq_true, true_and, Shape.code]

/-- The window check of R184. -/
theorem windowFails_iff (h : Shape) :
    (!neverLoaded x l hd && windowFails (recordedRes x l hd) h) = true ↔ WindowBad (resAt x l (handleSlot hd)) hd h := by
  unfold WindowBad windowFails
  obtain ⟨hbad, hrec, hnever⟩ | ⟨hgood, hload, hnever⟩ | ⟨hgood, hload, hrec, hnever⟩ := recordedRes_cases x l hd
  · simp only [hrec, hnever, hbad, Bool.or_false, Bool.not_false, Bool.true_and, bne_iff_ne, false_and, not_false_eq_true, true_and,
      or_false]
  · simp only [hnever, hgood, hload, Bool.not_true, Bool.false_and, Bool.false_eq_true, and_self, not_true_eq_false, false_and]
  · rw [hrec, hnever, Bool.not_false, Bool.true_and, Bool.or_eq_true, bne_iff_ne, decide_eq_true_eq]
    simp only [hgood, hload, Bool.true_eq_false, and_false, not_false_eq_true, true_and]

end

section
variable (s : State) (p : Nat) (hd : W64)

/-- The state of a slot whose handle holds, by the causes of R184. -/
theorem usableFail_of_good (hc : handleCause (s.ctx (s.ctxOf p)) (s.core p).lcore hd = none) :
    let n := (resAt (s.ctx (s.ctxOf p)) (s.core p).lcore (handleSlot hd)).state
    let arg := hd.setWidth 32
    usableFail s p hd =
      if n = 4 then some (.trap 4 0 0 arg) else if n = 5 then some (.trap 5 0 0 arg) else if n = 6 then some (.trap 6 0 0 arg)
      else if n = 7 then some (.trap 7 0 0 arg) else if n ≠ 2 ∧ n ≠ 3 then some (.trap 5 1 0 arg) else none := by
  intro n arg
  unfold usableFail
  rw [handleFail_none hc]
  dsimp only
  split <;> simp_all [n, arg]

/-- The residency faults in their order (R75, R184). -/
theorem firstFails_usable :
    FirstFails (residencyFaults (resAt (s.ctx (s.ctxOf p)) (s.core p).lcore (handleSlot hd)) hd) (usableFail s p hd) := by
  set r := resAt (s.ctx (s.ctxOf p)) (s.core p).lcore (handleSlot hd) with hr
  have hbad {c : Nat} (hc : handleCause (s.ctx (s.ctxOf p)) (s.core p).lcore hd = some c) :
      usableFail s p hd = some (.trap c 0 0 (hd.setWidth 32)) := by
    rw [usableFail, handleFail_some hc]
  obtain ⟨hc, hstale⟩ | ⟨hc, hfresh, hno⟩ | ⟨hc, hgood⟩ := handleCause_cases (s.ctx (s.ctxOf p)) (s.core p).lcore hd
  · rw [hbad hc]
    exact .fails ⟨hstale, rfl⟩
  · rw [hbad hc]
    exact .passes (fun _ h => hfresh h.1) (.fails ⟨hno, rfl⟩)
  · rw [usableFail_of_good s p hd hc]
    refine .passes (fun _ h => h.1.1 hgood) (.passes (fun _ h => h.1 hgood) ?_)
    exact .trap Iff.rfl fun _ => .trap Iff.rfl fun _ => .trap Iff.rfl fun _ => .trap Iff.rfl fun _ => .trap Iff.rfl fun _ => rfl

end

/-! ### The checks of LMMA and LMMAZ (R184) -/

/-- The checks of one list, then, where they pass, those of another. -/
theorem FirstFails.followed {l l' : List (Fail → Prop)} (r r' : Option Fail) : FirstFails l r → FirstFails l' r' →
    FirstFails (l ++ l') (match r with
      | some f => some f
      | none => r') := by
  intro h h'
  have happ := h.append fun _ => h'
  cases r with
  | some f => exact happ
  | none => exact happ

/-- Where no check of a list fails, its first passes, and none of the others fails. -/
theorem FirstFails.of_none {q : Fail → Prop} {l : List (Fail → Prop)} (h : FirstFails (q :: l) none) :
    (∀ f, ¬q f) ∧ FirstFails l none := by
  obtain ⟨hfail, hpass⟩ := h
  have hno : ¬∃ f, q f := fun hf => by
    obtain ⟨f, -, hsome⟩ := hfail hf
    cases hsome
  exact ⟨fun f hf => hno ⟨f, hf⟩, hpass hno⟩

section
variable {s : State} {p : Nat} {i : BitVec 6}

/-- The scale flag of an immediate that the decoder takes (R183). -/
theorem sqOf_portValue (hlim : i.toNat < 2 ∨ (i = 63 ∧ Ported s p)) :
    sqOf i (portValue s p s.header) = if i = 63 then (readS s p (headBs s.header)).getLsbD 0 else i.getLsbD 0 := by
  obtain hlt | ⟨rfl, hp⟩ := hlim
  · have hne : i ≠ 63 := by rintro rfl; exact absurd hlt (by decide)
    rw [sqOf, if_neg hne, if_neg hne]
  · rw [portValue_of_ported hp]
    rfl

/-- The bits of the port above the scale flag (R183). -/
theorem portBits_iff (hlim : i.toNat < 2 ∨ (i = 63 ∧ Ported s p)) :
    (i = 63 ∧ (portValue s p s.header).toNat / 2 ≠ 0) ↔ (if i = 63 then readS s p (headBs s.header) else 0).toNat / 2 ≠ 0 := by
  obtain hlt | ⟨rfl, hp⟩ := hlim
  · have hne : i ≠ 63 := by rintro rfl; exact absurd hlt (by decide)
    rw [if_neg hne]
    exact iff_of_false (fun h => hne h.1) fun h => h rfl
  · rw [portValue_of_ported hp, if_pos rfl]
    exact and_iff_right rfl

theorem badActivation_some {h : Shape} {a : W64} (hf : badActivation s p h = some a) :
    ∃ m, m < h.outer ∧ spadOk s p (s.ctxOf p) (h.stepAt m) = false ∧ a = h.stepAt m := by
  unfold badActivation at hf
  have hbad := List.find?_some hf
  obtain ⟨m, hm, rfl⟩ := List.mem_map.mp (List.mem_of_find?_eq_some hf)
  exact ⟨m, List.mem_range.mp hm, by simpa using hbad, rfl⟩

theorem badActivation_none {h : Shape} (hf : badActivation s p h = none) {m : Nat} (hm : m < h.outer) :
    spadOk s p (s.ctxOf p) (h.stepAt m) = true := by
  have hok := List.find?_eq_none.mp hf _ (List.mem_map_of_mem (List.mem_range.mpr hm))
  simpa using hok

/-- The checks of LMMA and LMMAZ in their order. -/
theorem firstFails_lmma (k : Nat) (sh : Shape) (hd row : W64) (hlim : i.toNat < 2 ∨ (i = 63 ∧ Ported s p)) :
    let r := resAt (s.ctx (s.ctxOf p)) (s.core p).lcore (handleSlot hd)
    let sq := if i = 63 then (readS s p (headBs s.header)).getLsbD 0 else i.getLsbD 0
    let port := if i = 63 then readS s p (headBs s.header) else 0
    FirstFails ([trapIf (PairBad r hd sh) 2 32, trapIf (sh.outer < 1 ∨ 8191 < row.toNat ∨ 8192 < row.toNat + sh.outer) 2 33,
        trapIf (WindowBad r hd sh) 2 34, trapIf (sq = true ∧ sh.fmt ≠ 3) 2 35, trapIf (port.toNat / 2 ≠ 0) 2 36,
        fun f => ∃ m, m < sh.outer ∧ spadOk s p (s.ctxOf p) (sh.stepAt m) = false ∧ f = .fatal 1 (sh.stepAt m) 0]
      ++ residencyFaults r hd
      ++ [trapIf (sq = true ∧ scalesFree (s.core p) < scalesNeeded r sh) 9 0
            (BitVec.ofNat 32 (scalesNeeded r sh - scalesFree (s.core p)))])
      (lmmaCheck s (soleEnv s p k 0) sh i hd row) := by
  intro r sq port
  have hsq : sqOf i (soleEnv s p k 0).port = sq := sqOf_portValue hlim
  have hscale : (sqOf i (soleEnv s p k 0).port = true ∧ sh.code ≠ 3) ↔ (sq = true ∧ sh.fmt ≠ 3) := by
    have h3 : sh.fmt = 3 ↔ sh.code = 3 := BitVec.toNat_inj.symm
    rw [hsq, Ne, Ne, h3]
  rw [List.append_assoc]
  unfold lmmaCheck
  refine .trap (pairFails_iff ..) fun _ => .trap Iff.rfl fun _ => .trap (windowFails_iff ..) fun _ => .trap hscale fun _ =>
    .trap (portBits_iff hlim) fun _ => ?_
  cases hact : badActivation s p sh with
  | some a =>
    obtain ⟨m, hm, hbad, rfl⟩ := badActivation_some hact
    simp only [soleEnv, Env.p, hact]
    exact .fails ⟨m, hm, hbad, rfl⟩
  | none =>
    simp only [soleEnv, Env.p, hact, Nat.add_zero]
    refine .passes (fun f ⟨m, hm, hbad, _⟩ => Bool.false_ne_true (hbad.symm.trans (badActivation_none hact hm))) ?_
    have hscales : sqOf i (portValue s p s.header) = true ∧ scalesFree (s.core p) < scalesNeeded r sh ↔
        sq = true ∧ scalesFree (s.core p) < scalesNeeded r sh := by rw [← hsq]; rfl
    have hlast := FirstFails.trap (l := []) (cause := 9) (d := 0)
      (arg := BitVec.ofNat 32 (scalesNeeded r sh - scalesFree (s.core p))) hscales fun _ => rfl
    have hrest := FirstFails.followed _ _ (firstFails_usable s p hd) hlast
    exact hrest

end

end Sys2Proof.Machine
end

section
/-!
PROOF. LMMAR at issue (R188): its checks in their order, the run of rows that it starts, and the run that has no row left.
-/

namespace Sys2Proof.Machine

/-! ### The conditions of its checks -/

/-- The remote record check of R188. -/
theorem remoteRecord_iff (h : Shape) : ((!(isRemote h.base && formOk h.base)) = true ∨ 2 < h.rc.toNat) ↔
    (¬(isRemote h.base = true ∧ formOk h.base = true) ∨ 2 < h.rc.toNat) := by
  rw [Bool.not_eq_true', ← Bool.not_eq_true, Bool.and_eq_true]

theorem tagNo_eq (h : Shape) : h.tagNo = h.tag.toNat % 4096 := fld_low h.tag 12

theorem bufRows_eq (b : BitVec 256) : bufRows b = (b.extractLsb' 224 32).toNat := by
  rw [BitVec.extractLsb'_toNat, Nat.shiftRight_eq_div_pow, bufRows, bfld]

/-- A tag of twelve bits names no published buffer when its entry is not valid or not published (R311). -/
theorem published_eq_false_iff (x : Ctx) {tag : Nat} (ht : tag < 4096) :
    published x tag = false ↔
      (Tab.get (0 : BitVec 256) x.buffers tag).getLsbD 0 = false ∨ (Tab.get (0 : BitVec 256) x.buffers tag).getLsbD 1 = false := by
  rw [published, decide_eq_true ht, Bool.true_and, Bool.and_eq_false_iff, bufValid, bufPublished]

/-- The buffer check of R188. -/
theorem backSide_iff (x : Ctx) (h : Shape) (off : W64) :
    (4096 ≤ h.tag.toNat ∨ published x h.tagNo = false ∨ bufRows (Tab.get 0 x.buffers h.tagNo) < off.toNat / 512 + h.outer) ↔
      let buf := Tab.get (0 : BitVec 256) x.buffers (h.tag.toNat % 4096)
      4096 ≤ h.tag.toNat ∨ buf.getLsbD 0 = false ∨ buf.getLsbD 1 = false ∨
        (buf.extractLsb' 224 32).toNat < off.toNat / 512 + h.outer := by
  rw [tagNo_eq, bufRows_eq, published_eq_false_iff x (Nat.mod_lt _ (by decide)), or_assoc]

/-- The fatal check of a barrier, as a run of remote rows makes it. -/
theorem FirstFails.barrierFails {s : State} {p : Nat} {l : List (Fail → Prop)} {r : Option Fail} (b : W64) (hl : FirstFails l r) :
    let ok := fun (a : W64) => globalOk s (s.ctxOf p) a .store = true
    FirstFails ((fun f => (b ≠ 0 ∧ ¬(ok b ∧ (isRemote b = true ∨ (ok (b + 8) ∧ ok (b + 16))))) ∧ f = .fatal 1 b 0) :: l)
      (if !barrierOk s (s.ctxOf p) b then some (.fatal 1 b 0) else r) := by
  have h := FirstFails.barrier (s := s) (p := p) b hl
  cases hok : barrierOk s (s.ctxOf p) b <;> rw [hok] at h <;> exact h

/-- The checks of LMMAR in their order. -/
theorem firstFails_lmmar (s : State) (p k : Nat) (sh : Shape) (hd off : W64) :
    let x := s.ctx (s.ctxOf p)
    let r := resAt x (s.core p).lcore (handleSlot hd)
    let buf := Tab.get (0 : BitVec 256) x.buffers (sh.tag.toNat % 4096)
    let ok := fun (a : W64) => globalOk s (s.ctxOf p) a .store = true
    FirstFails ([trapIf (PairBad r hd sh) 2 32, trapIf (WindowBad r hd sh) 2 34,
        trapIf (¬(isRemote sh.base = true ∧ formOk sh.base = true) ∨ 2 < sh.rc.toNat) 2 37,
        trapIf (4096 ≤ sh.tag.toNat ∨ buf.getLsbD 0 = false ∨ buf.getLsbD 1 = false ∨
          (buf.extractLsb' 224 32).toNat < off.toNat / 512 + sh.outer) 2 38,
        trapIf ((s.core p).klprg.toNat / 2 ^ 62 = 1) 2 39,
        fun f => (sh.barAt ≠ 0 ∧ ¬(ok sh.barAt ∧ (isRemote sh.barAt = true ∨ (ok (sh.barAt + 8) ∧ ok (sh.barAt + 16))))) ∧
          f = .fatal 1 sh.barAt 0]
      ++ residencyFaults r hd) (lmmarCheck s (soleEnv s p k 0) sh hd off) := by
  intro x r buf ok
  have hrun : lprgState (s.core p).klprg = 1 ↔ (s.core p).klprg.toNat / 2 ^ 62 = 1 := by rw [lprgState_eq]
  exact .trap (pairFails_iff ..) fun _ => .trap (windowFails_iff ..) fun _ => .trap (remoteRecord_iff sh) fun _ =>
    .trap (backSide_iff x sh off) fun _ => .trap hrun fun _ => .barrierFails _ (firstFails_usable s p hd)

/-! ### What it starts -/

/-- The rows already written, as KLPRG counts them (R149, R188). -/
theorem lmmarFirst_eq (c : Core) (w : BitVec 1) :
    lmmarFirst c w = if w = 0 ∧ c.klprg.toNat / 2 ^ 62 = 2 then c.klprg.toNat % 2 ^ 14 else 0 := by
  rw [lmmarFirst, lprgState_eq, fld_low]

theorem lmmarFirst_lt (c : Core) (w : BitVec 1) : lmmarFirst c w < 2 ^ 14 := by
  rw [lmmarFirst_eq]
  split
  · exact Nat.mod_lt _ (by decide)
  · decide

/-- The word of KLPRG for a state with status 0 (R149). -/
theorem lprgWord_eq {state done : Nat} (hs : state < 4) (hd : done < 2 ^ 14) :
    lprgWord state 0 done = BitVec.ofNat 64 (state * 2 ^ 62 + done) := by
  rw [lprgWord, Nat.mod_eq_of_lt hs, Nat.mod_eq_of_lt hd, Nat.zero_mod, Nat.zero_mul, Nat.add_zero]

/-- The run that an LMMAR starts in state `s` (R188). -/
def lmmarJob (s : State) (p : Nat) (w : BitVec 1) (sh : Shape) (hd off : W64) : LmmarJob :=
  let c := s.ctxOf p
  let l := (s.core p).lcore
  let x := s.ctx c
  let r := resAt x l (handleSlot hd)
  { issue := s.cycle, bundle := BitVec.ofInt 32 (s.core p).pc, ctx := c, base := sh.base, stride := sh.st1,
    rows := sh.outer, kofs := sh.inner, len := windowLen (pairRate sh.code r.fmt) r.k sh.inner, fmt := sh.code,
    tile := tileAt x l (handleSlot hd), tag := sh.tagNo,
    off := bufHome (Tab.get 0 x.buffers sh.tagNo) + off.toNat / 512 * 512, rc := sh.cls,
    bar := sh.barAt, landed := List.range (lmmarFirst (s.core p) w), flags := 0, own := true }

/-- The core once an LMMAR has started: with no row left KLPRG is DONE, else its run joins the core's. -/
def lmmarStarted (s : State) (p : Nat) (h : BitVec 2) (w : BitVec 1) (sh : Shape) (hd off : W64) (c : Core) : Core :=
  let first := lmmarFirst (s.core p) w
  let c := { exchangeAll 0 w [h.toNat] c with loomFree := s.cycle + sh.outer + 40 }
  if sh.outer ≤ first then { c with klprg := lprgWord 3 0 first }
  else { c with klprg := lprgWord 1 0 first, lmmar := c.lmmar ++ [lmmarJob s p w sh hd off] }

section
variable {s : State} {p k : Nat} {h : BitVec 2} {w : BitVec 1} {g : BitVec 5} {a b : BitVec 6}

theorem lmmar_placed (hi : Issues s p k) (hon : guardM g s (.core p) = true) (hf : Settled s p [destS a, destS b]) :
    Placed (.lmmar h w g a b 0) (mLmmar h w g a b 0) s p k :=
  ⟨hi, rfl, Option.some_ne_none _, rfl, rfl, rfl, fun h => absurd h Bool.false_ne_true, hon, hf⟩

theorem exec_lmmar (hp : Placed (.lmmar h w g a b 0) (mLmmar h w g a b 0) s p k) (hfree : (s.core p).loomFree ≤ s.cycle)
    (hc : lmmarCheck s (soleEnv s p k 0) (usedShape (s.core p) 0 h.toNat w) (readS s p a) (readS s p b) = none) :
    exec (.lmmar h w g a b 0) s =
      .next (after s p (lmmarStarted s p h w (usedShape (s.core p) 0 h.toNat w) (readS s p a) (readS s p b))) := by
  refine hp.changes (decide_eq_true hfree) ?_ rfl hc (show 1 ≤ 3 by decide)
  simp only [mLmmar, startLmmar, soleEnv, Env.p, State.onCore_onCore]
  rfl

variable (sh : Shape) (hd off : W64)

/-- An LMMAR with no row left. -/
theorem lmmarStarted_done {c : Core} (hrows : sh.outer ≤ lmmarFirst (s.core p) w) :
    lmmarStarted s p h w sh hd off c = { c with
      klprg := lprgWord 3 0 (lmmarFirst (s.core p) w), loomFree := s.cycle + sh.outer + 40
      active := (exchangeAll 0 w [h.toNat] c).active, shadow := (exchangeAll 0 w [h.toNat] c).shadow } := by
  unfold lmmarStarted
  dsimp only
  rw [if_pos hrows, exchangeAll_eq]

/-- An LMMAR with rows left. -/
theorem lmmarStarted_running {c : Core} (hrows : lmmarFirst (s.core p) w < sh.outer) :
    lmmarStarted s p h w sh hd off c = { c with
      lmmar := c.lmmar ++ [lmmarJob s p w sh hd off]
      klprg := lprgWord 1 0 (lmmarFirst (s.core p) w), loomFree := s.cycle + sh.outer + 40
      active := (exchangeAll 0 w [h.toNat] c).active, shadow := (exchangeAll 0 w [h.toNat] c).shadow } := by
  unfold lmmarStarted
  dsimp only
  rw [if_neg (Nat.not_le.mpr hrows), exchangeAll_eq]

/-- What an LMMAR with no row left leaves. -/
theorem after_lmmarStarted_done (hrows : sh.outer ≤ lmmarFirst (s.core p) w) :
    let t := after s p (lmmarStarted s p h w sh hd off)
    (t.core p).klprg = BitVec.ofNat 64 (3 * 2 ^ 62 + lmmarFirst (s.core p) w) ∧ (t.core p).loomFree = s.cycle + sh.outer + 40 ∧
      Exchanged t s p 0 w [h.toNat] ∧
      t = after s p (fun c => { c with klprg := (t.core p).klprg, loomFree := (t.core p).loomFree,
                                       active := (t.core p).active, shadow := (t.core p).shadow }) := by
  intro t
  have hcore : t.core p = advanced s (lmmarStarted s p h w sh hd off (s.core p)) := after_core ..
  rw [lmmarStarted_done sh hd off hrows] at hcore
  have hklprg : (t.core p).klprg = lprgWord 3 0 (lmmarFirst (s.core p) w) := by rw [hcore, advanced_klprg]
  have hfree : (t.core p).loomFree = s.cycle + sh.outer + 40 := by rw [hcore, advanced_loomFree]
  have hactive : (t.core p).active = (exchangeAll 0 w [h.toNat] (s.core p)).active := by rw [hcore, advanced_active]
  have hshadow : (t.core p).shadow = (exchangeAll 0 w [h.toNat] (s.core p)).shadow := by rw [hcore, advanced_shadow]
  refine ⟨hklprg.trans (lprgWord_eq (by decide) (lmmarFirst_lt ..)), hfree,
    exchanged_of_copies (List.nodup_singleton _) hactive hshadow, ?_⟩
  rw [hklprg, hfree, hactive, hshadow]
  exact after_congr (lmmarStarted_done sh hd off hrows)

/-- What an LMMAR with rows left leaves. -/
theorem after_lmmarStarted_running (hrows : lmmarFirst (s.core p) w < sh.outer) :
    let t := after s p (lmmarStarted s p h w sh hd off)
    (t.core p).lmmar = (s.core p).lmmar ++ [lmmarJob s p w sh hd off] ∧
      (t.core p).klprg = BitVec.ofNat 64 (2 ^ 62 + lmmarFirst (s.core p) w) ∧ (t.core p).loomFree = s.cycle + sh.outer + 40 ∧
      Exchanged t s p 0 w [h.toNat] ∧
      t = after s p (fun c => { c with lmmar := (t.core p).lmmar, klprg := (t.core p).klprg, loomFree := (t.core p).loomFree,
                                       active := (t.core p).active, shadow := (t.core p).shadow }) := by
  intro t
  have hcore : t.core p = advanced s (lmmarStarted s p h w sh hd off (s.core p)) := after_core ..
  rw [lmmarStarted_running sh hd off hrows] at hcore
  have hlmmar : (t.core p).lmmar = (s.core p).lmmar ++ [lmmarJob s p w sh hd off] := by rw [hcore, advanced_lmmar]
  have hklprg : (t.core p).klprg = lprgWord 1 0 (lmmarFirst (s.core p) w) := by rw [hcore, advanced_klprg]
  have hfree : (t.core p).loomFree = s.cycle + sh.outer + 40 := by rw [hcore, advanced_loomFree]
  have hactive : (t.core p).active = (exchangeAll 0 w [h.toNat] (s.core p)).active := by rw [hcore, advanced_active]
  have hshadow : (t.core p).shadow = (exchangeAll 0 w [h.toNat] (s.core p)).shadow := by rw [hcore, advanced_shadow]
  have hword : lprgWord 1 0 (lmmarFirst (s.core p) w) = BitVec.ofNat 64 (2 ^ 62 + lmmarFirst (s.core p) w) := by
    rw [lprgWord_eq (by decide) (lmmarFirst_lt ..), Nat.one_mul]
  refine ⟨hlmmar, hklprg.trans hword, hfree, exchanged_of_copies (List.nodup_singleton _) hactive hshadow, ?_⟩
  rw [hlmmar, hklprg, hfree, hactive, hshadow]
  exact after_congr (lmmarStarted_running sh hd off hrows)

end

/-- LMMAR by R188: it freezes, stops with the failure of its check, reports DONE at once, or starts its run. -/
theorem lmmar_spec {s : State} {p k : Nat} {h : BitVec 2} {w : BitVec 1} {g : BitVec 5} {a b : BitVec 6}
    (hp : Placed (.lmmar h w g a b 0) (mLmmar h w g a b 0) s p k) :
    let sh := shapeIn s p 0 h.toNat w
    let first := lmmarFirst (s.core p) w
    let check := lmmarCheck s (soleEnv s p k 0) sh (readS s p a) (readS s p b)
    (s.cycle < (s.core p).loomFree → exec (.lmmar h w g a b 0) s = .next (frozen s p)) ∧
    ((s.core p).loomFree ≤ s.cycle → Stops (.lmmar h w g a b 0) s p k check) ∧
    ((s.core p).loomFree ≤ s.cycle → check = none →
      (sh.outer ≤ first → ∃ t, exec (.lmmar h w g a b 0) s = .next t ∧ (t.core p).klprg = BitVec.ofNat 64 (3 * 2 ^ 62 + first) ∧
        (t.core p).loomFree = s.cycle + sh.outer + 40 ∧ Exchanged t s p 0 w [h.toNat] ∧
        t = after s p (fun c => { c with klprg := (t.core p).klprg, loomFree := (t.core p).loomFree,
                                         active := (t.core p).active, shadow := (t.core p).shadow })) ∧
      (first < sh.outer → ∃ t, exec (.lmmar h w g a b 0) s = .next t ∧
        (t.core p).lmmar = (s.core p).lmmar ++ [lmmarJob s p w sh (readS s p a) (readS s p b)] ∧
        (t.core p).klprg = BitVec.ofNat 64 (2 ^ 62 + first) ∧ (t.core p).loomFree = s.cycle + sh.outer + 40 ∧
        Exchanged t s p 0 w [h.toNat] ∧
        t = after s p (fun c => { c with lmmar := (t.core p).lmmar, klprg := (t.core p).klprg, loomFree := (t.core p).loomFree,
                                         active := (t.core p).active, shadow := (t.core p).shadow }))) := by
  intro sh first check
  have hsh : usedShape (s.core p) 0 h.toNat w = sh := usedShape_eq ..
  refine ⟨fun hbusy => hp.freezes (decide_eq_false (Nat.not_le.mpr hbusy)) rfl, fun hfree => ?_, fun hfree hc => ?_⟩
  · have hcheck : (mLmmar h w g a b 0).check s (soleEnv s p k 0) = check := by
      simp only [mLmmar, usedShape_eq]
      rfl
    rw [← hcheck]
    exact hp.stops (decide_eq_true hfree)
  · have hex : exec (.lmmar h w g a b 0) s = .next (after s p (lmmarStarted s p h w sh (readS s p a) (readS s p b))) := by
      rw [← hsh]
      exact exec_lmmar hp hfree (hsh.symm ▸ hc)
    exact ⟨fun hrows => ⟨_, hex, after_lmmarStarted_done _ _ _ hrows⟩, fun hrows => ⟨_, hex, after_lmmarStarted_running _ _ _ hrows⟩⟩

end Sys2Proof.Machine
end

section
/-!
PROOF. LMMA and LMMAZ at issue (R183 to R186, R194, R208): the operation that starts with what it captured, the scales that it takes, the
results and the CTOPK records that it spoils; the obligation on the Loom.
-/

namespace Sys2Proof.Machine

/-! ### The accumulator rows of a Loom operation -/

/-- Row `q` is one of the `n` accumulator rows from `base` on. -/
def rowsFrom (base n q : Nat) : Bool := decide (base ≤ q) && decide (q < base + n)

theorem rowsFrom_lt {base n q m : Nat} (hm : base + n ≤ m) (hq : rowsFrom base n q = true) : q < m := by
  rw [rowsFrom, Bool.and_eq_true, decide_eq_true_eq, decide_eq_true_eq] at hq
  omega

/-- The accumulator row among `rows` that a result in flight goes to. -/
def accTarget (rows : Nat → Bool) (f : Flight) : Option Nat :=
  match f.dest with
  | .acc q => if rows q then some q else none
  | _ => none

theorem accTarget_eq_some {rows : Nat → Bool} {f : Flight} {q : Nat} : accTarget rows f = some q ↔ rows q = true ∧ f.dest = .acc q := by
  unfold accTarget
  split
  · next r hr =>
    rw [hr, Option.ite_none_right_eq_some, Option.some.injEq, Dest.acc.injEq]
    exact ⟨fun ⟨hrow, he⟩ => ⟨he ▸ hrow, he⟩, fun ⟨hrow, he⟩ => ⟨he ▸ hrow, he⟩⟩
  · next hno => exact iff_of_false (Option.some_ne_none q).symm fun h => hno q h.2

/-- The rows that a result is on its way to (R194). -/
theorem mem_clash {rows : Nat → Bool} {l : List Flight} {q : Nat} :
    q ∈ l.filterMap (accTarget rows) ↔ rows q = true ∧ ∃ f ∈ l, f.dest = .acc q := by
  rw [List.mem_filterMap]
  constructor
  · rintro ⟨f, hf, hq⟩
    obtain ⟨hrow, hdest⟩ := accTarget_eq_some.mp hq
    exact ⟨hrow, f, hf, hdest⟩
  · rintro ⟨hrow, f, hf, hdest⟩
    exact ⟨f, hf, accTarget_eq_some.mpr ⟨hrow, hdest⟩⟩

/-- Some row among `rows` is the one that a result goes to. -/
theorem any_dest_iff {rows : Nat → Bool} {n : Nat} (hrows : ∀ q, rows q = true → q < n) (d : Dest) :
    (List.range n).any (fun q => rows q && decide (d = .acc q)) = true ↔ ∃ q, rows q = true ∧ d = .acc q := by
  rw [List.any_eq_true]
  constructor
  · rintro ⟨q, -, hq⟩
    rw [Bool.and_eq_true, decide_eq_true_eq] at hq
    exact ⟨q, hq⟩
  · rintro ⟨q, hrow, hd⟩
    exact ⟨q, List.mem_range.mpr (hrows q hrow), Bool.and_eq_true_iff.mpr ⟨hrow, decide_eq_true hd⟩⟩

/-- The results on their way to rows that a Loom operation writes become undefined (R194). -/
theorem clashAcc_flights {rows : Nat → Bool} {n : Nat} (hrows : ∀ q, rows q = true → q < n) (c : Core) :
    (clashAcc c rows).flights =
      c.flights.map (fun f => { f with free := f.free || (List.range n).any (fun q => rows q && decide (f.dest = .acc q)) }) := by
  refine List.map_congr_left fun f _ => ?_
  have hany := any_dest_iff hrows f.dest
  split
  · next r hr =>
    by_cases hrow : rows r = true
    · rw [if_pos hrow, hany.mpr ⟨r, hrow, hr⟩, Bool.or_true]
    · have hno : ¬∃ q, rows q = true ∧ f.dest = .acc q := by
        rintro ⟨q, hq, hd⟩
        rw [hr, Dest.acc.injEq] at hd
        exact hrow (hd ▸ hq)
      rw [if_neg hrow, Bool.eq_false_iff.mpr (mt hany.mp hno), Bool.or_false]
  · next hother =>
    rw [Bool.eq_false_iff.mpr (mt hany.mp fun ⟨q, _, hd⟩ => hother q hd), Bool.or_false]

/-! ### The records of a CTOPK (R208) -/

/-- `t` is at the cycle of `s`, and its core `p` differs from that of `s` in the scratchpad and the channels alone. -/
def RecordsOnly (p : Nat) (s t : State) : Prop :=
  t.cycle = s.cycle ∧ ∃ sp ch, t.core p = { s.core p with spad := sp, chans := ch }

theorem RecordsOnly.refl (p : Nat) (s : State) : RecordsOnly p s s := ⟨rfl, _, _, rfl⟩

theorem RecordsOnly.onCore {p : Nat} {s t : State} (h : RecordsOnly p s t) (q : Nat) {f : Core → Core}
    (hf : ∀ c, ∃ sp ch, f c = { c with spad := sp, chans := ch }) : RecordsOnly p s (t.onCore q f) := by
  obtain ⟨hcycle, sp, ch, hcore⟩ := h
  refine ⟨hcycle, ?_⟩
  by_cases hq : p = q
  · subst hq
    obtain ⟨sp', ch', hf'⟩ := hf (t.core p)
    exact ⟨sp', ch', by rw [State.core_onCore_self, hf', hcore]⟩
  · exact ⟨sp, ch, by rw [State.core_onCore_ne _ _ _ hq, hcore]⟩

theorem RecordsOnly.spoilRow {p : Nat} {s t : State} (h : RecordsOnly p s t) (j : Copy) (k : (Nat × Vec) × (Nat × Vec)) :
    RecordsOnly p s (spoilRow p j t k) := by
  unfold Sys2Proof.Machine.spoilRow
  dsimp only
  refine h.onCore _ fun c => ?_
  split
  · exact ⟨_, _, rfl⟩
  · exact ⟨_, _, rfl⟩

/-- What spoils the records of a CTOPK changes scratchpads and channels alone. -/
theorem recordsOnly_spoilTopk (p : Nat) (rows : Nat → Bool) (s : State) : RecordsOnly p s (spoilTopk p rows s) := by
  refine RecordsOnly.onCore ?_ p fun c => ⟨_, _, rfl⟩
  refine List.foldlRecOn (motive := RecordsOnly p s) _ _ (.refl p s) fun t ht j _ => ?_
  exact List.foldlRecOn (motive := RecordsOnly p s) _ _ ht fun u hu k _ => hu.spoilRow j k

/-- An operation that passes its checks writes rows of the accumulator. -/
theorem rows_of_lmmaCheck {s : State} {p k : Nat} {i : BitVec 6} {sh : Shape} {hd row : W64} (hlim : i.toNat < 2 ∨ (i = 63 ∧ Ported s p))
    (hc : lmmaCheck s (soleEnv s p k 0) sh i hd row = none) : row.toNat + sh.outer ≤ 8192 := by
  have hchecks := firstFails_lmma k sh hd row hlim
  rw [hc] at hchecks
  have hin := hchecks.of_none.2.of_none.1 (.trap 2 33 0 0)
  exact Nat.not_lt.mp fun h => hin ⟨.inr (.inr h), rfl⟩

/-! ### The operation that starts (R185) -/

/-- The scales that an operation takes, in the queue or on their way. -/
def scalesTaken (sq : Bool) (r : Resid) (sh : Shape) : Nat := if sq then scalesNeeded r sh else 0

/-- The Loom operation that an LMMA or LMMAZ starts in state `s`, its core being `k` after the exchange. -/
def loomJob (first sq : Bool) (s : State) (p : Nat) (sh : Shape) (hd row : W64) (k : Core) : LoomJob :=
  let l := (s.core p).lcore
  let x := s.ctx (s.ctxOf p)
  let r := resAt x l (handleSlot hd)
  let n := scalesTaken sq r sh
  { issue := s.cycle, bundle := BitVec.ofInt 32 (s.core p).pc, ctx := s.ctxOf p, lcore := l, slotIx := handleSlot hd,
    base := row.toNat, rows := sh.outer, done := 0, kofs := sh.inner,
    len := windowLen (pairRate sh.code r.fmt) r.k sh.inner, fmt := sh.code, first := first,
    tile := tileAt x l (handleSlot hd), sq := sq, scales := k.scaleQ.take n, owed := n - k.scaleQ.length,
    abase := sh.base, stride := sh.st1,
    acts := (List.range sh.outer).map (fun m => spadGet s p (sh.stepAt m)), flags := 0,
    clash := k.flights.filterMap (accTarget (rowsFrom row.toNat sh.outer)) }

/-- The start of a Loom operation after the exchange. -/
def loomIssued (first sq : Bool) (s : State) (p : Nat) (sh : Shape) (hd row : W64) (k : Core) : Core :=
  let rows := rowsFrom row.toNat sh.outer
  let n := scalesTaken sq (resAt (s.ctx (s.ctxOf p)) (s.core p).lcore (handleSlot hd)) sh
  { k with
    loom := k.loom ++ [loomJob first sq s p sh hd row k], loomFree := s.cycle + sh.outer + 40
    flights := (clashAcc k rows).flights, chans := (markTopk rows k).chans
    scaleQ := k.scaleQ.drop n, scaleOp := k.scaleOp || sq }

/-- The core once an LMMA or LMMAZ has started. -/
def loomStarted (first sq : Bool) (s : State) (p : Nat) (h : BitVec 2) (w : BitVec 1) (sh : Shape) (hd row : W64) (k : Core) : Core :=
  loomIssued first sq s p sh hd row (exchangeAll 0 w [h.toNat] k)

/-- The exchange changes the copies of the shape registers alone. -/
theorem loomStarted_eq (first sq : Bool) (s : State) (p : Nat) (h : BitVec 2) (w : BitVec 1) (sh : Shape) (hd row : W64) (k : Core) :
    loomStarted first sq s p h w sh hd row k = { loomIssued first sq s p sh hd row k with
      active := (exchangeAll 0 w [h.toNat] k).active, shadow := (exchangeAll 0 w [h.toNat] k).shadow } := by
  rw [loomStarted, exchangeAll_eq]
  rfl

/-- The start of a Loom operation as one change of the core, then the spoilt records. -/
theorem startLoom_eq (first : Bool) (s : State) (p k : Nat) (h : BitVec 2) (w : BitVec 1) (sh : Shape) (i : BitVec 6) (hd row : W64) :
    startLoom first s (soleEnv s p k 0) sh i hd row (s.onCore p (exchangeAll 0 w [h.toNat])) =
      spoilTopk p (rowsFrom row.toNat sh.outer)
        (s.onCore p (loomStarted first (sqOf i (portValue s p s.header)) s p h w sh hd row)) := by
  have hissued : startLoom first s (soleEnv s p k 0) sh i hd row (s.onCore p (exchangeAll 0 w [h.toNat])) =
      spoilTopk p (rowsFrom row.toNat sh.outer) ((s.onCore p (exchangeAll 0 w [h.toNat])).onCore p
        (loomIssued first (sqOf i (portValue s p s.header)) s p sh hd row)) := rfl
  rw [hissued, State.onCore_onCore]
  rfl

section
variable {inst : Instr} {first : Bool} {s : State} {p k : Nat} {h : BitVec 2} {w : BitVec 1} {g : BitVec 5} {a b i : BitVec 6}

theorem loom_placed (hinst : (inst = .lmma h w g a b i ∧ first = false) ∨ (inst = .lmmaz h w g a b i ∧ first = true))
    (hi : Issues s p k) (hon : guardM g s (.core p) = true) (hf : Settled s p [destS a, destS b])
    (hlim : i.toNat < 2 ∨ (i = 63 ∧ Ported s p)) : Placed inst (mLoom first h w g a b i) s p k := by
  have hbit : (decide (i.toNat < 2) || i.toNat == 63) = true := by
    obtain hlt | ⟨rfl, -⟩ := hlim
    · rw [decide_eq_true hlt, Bool.true_or]
    · rfl
  have hport : (i == 63) = true → Ported s p := fun h63 => hlim.elim
    (fun hlt => by rw [beq_iff_eq.mp h63] at hlt; exact absurd hlt (by decide)) And.right
  obtain ⟨rfl, rfl⟩ | ⟨rfl, rfl⟩ := hinst
  · exact ⟨hi, rfl, Option.some_ne_none _, if_pos hbit, rfl, rfl, hport, hon, hf⟩
  · exact ⟨hi, rfl, Option.some_ne_none _, if_pos hbit, rfl, rfl, hport, hon, hf⟩

theorem exec_loom (hp : Placed inst (mLoom first h w g a b i) s p k) (hfree : (s.core p).loomFree ≤ s.cycle)
    (hc : lmmaCheck s (soleEnv s p k 0) (usedShape (s.core p) 0 h.toNat w) i (readS s p a) (readS s p b) = none) :
    let sh := usedShape (s.core p) 0 h.toNat w
    exec inst s = .next (afterAll s p (spoilTopk p (rowsFrom (readS s p b).toNat sh.outer)
      (s.onCore p (loomStarted first (sqOf i (portValue s p s.header)) s p h w sh (readS s p a) (readS s p b))))) := by
  intro sh
  have hcommit : (mLoom first h w g a b i).commit s (soleEnv s p k 0) s = _ :=
    startLoom_eq first s p k h w sh i (readS s p a) (readS s p b)
  refine (hp.commits (decide_eq_true hfree) hc (show 1 ≤ 3 by decide)).trans (congrArg _ ?_)
  refine (congrArg (fun t => drawn s (retire p s.header .fall t)) hcommit).trans (retire_fall_all s _ p ?_)
  exact (recordsOnly_spoilTopk ..).1

/-- What a Loom operation leaves of its core and of the rest (R185, R186, R194). -/
theorem afterAll_loomStarted (s : State) (p : Nat) (h : BitVec 2) (w : BitVec 1) (first sq : Bool) (sh : Shape) (hd row : W64) :
    let rows := rowsFrom row.toNat sh.outer
    let n := scalesTaken sq (resAt (s.ctx (s.ctxOf p)) (s.core p).lcore (handleSlot hd)) sh
    let t := afterAll s p (spoilTopk p rows (s.onCore p (loomStarted first sq s p h w sh hd row)))
    (t.core p).loom = (s.core p).loom ++ [loomJob first sq s p sh hd row (s.core p)] ∧ (t.core p).loomFree = s.cycle + sh.outer + 40 ∧
      Exchanged t s p 0 w [h.toNat] ∧ (t.core p).scaleQ = (s.core p).scaleQ.drop n ∧
      (t.core p).flights = (clashAcc (s.core p) rows).flights ∧
      t = afterAll s p (spoilTopk p rows (s.onCore p (fun c =>
        { c with loom := (t.core p).loom, loomFree := (t.core p).loomFree, flights := (t.core p).flights,
                 chans := (markTopk rows c).chans, scaleQ := (t.core p).scaleQ, scaleOp := c.scaleOp || sq,
                 active := (t.core p).active, shadow := (t.core p).shadow }))) := by
  intro rows n t
  obtain ⟨sp, ch, hspoilt⟩ := (recordsOnly_spoilTopk p rows (s.onCore p (loomStarted first sq s p h w sh hd row))).2
  have hcore : t.core p = advanced s { loomStarted first sq s p h w sh hd row (s.core p) with spad := sp, chans := ch } := by
    rw [← State.core_onCore_self (s := s) (f := loomStarted first sq s p h w sh hd row), ← hspoilt]
    exact (drawn_core ..).trans (State.core_onCore_self ..)
  rw [loomStarted_eq] at hcore
  have hloom : (t.core p).loom = (s.core p).loom ++ [loomJob first sq s p sh hd row (s.core p)] := by rw [hcore, advanced_loom]; rfl
  have hfree : (t.core p).loomFree = s.cycle + sh.outer + 40 := by rw [hcore, advanced_loomFree]; rfl
  have hscales : (t.core p).scaleQ = (s.core p).scaleQ.drop n := by rw [hcore, advanced_scaleQ]; rfl
  have hflights : (t.core p).flights = (clashAcc (s.core p) rows).flights := by rw [hcore, advanced_flights]; rfl
  have hactive : (t.core p).active = (exchangeAll 0 w [h.toNat] (s.core p)).active := by rw [hcore, advanced_active]
  have hshadow : (t.core p).shadow = (exchangeAll 0 w [h.toNat] (s.core p)).shadow := by rw [hcore, advanced_shadow]
  refine ⟨hloom, hfree, exchanged_of_copies (List.nodup_singleton _) hactive hshadow, hscales, hflights, ?_⟩
  rw [hloom, hfree, hscales, hflights, hactive, hshadow]
  exact congrArg (fun u => afterAll s p (spoilTopk p rows u)) (State.onCore_congr (loomStarted_eq ..))

/-- The row of the scratchpad that an operation takes for its row `m` (R185). -/
theorem loomJob_acts (s : State) (p : Nat) (first sq : Bool) (sh : Shape) (hd row : W64) {m : Nat} (hm : m < sh.outer) :
    (loomJob first sq s p sh hd row (s.core p)).acts[m]? = some (spadGet s p (sh.stepAt m)) := by
  simp only [loomJob, List.getElem?_map, List.getElem?_range hm, Option.map_some]

/-- The scales that an operation has, and those that it waits for. -/
theorem loomJob_scales (s : State) (p : Nat) (first sq : Bool) (sh : Shape) (hd row : W64) :
    let j := loomJob first sq s p sh hd row (s.core p)
    let need := scalesNeeded (resAt (s.ctx (s.ctxOf p)) (s.core p).lcore (handleSlot hd)) sh
    let q := (s.core p).scaleQ
    (sq = false → q.drop (scalesTaken sq (resAt (s.ctx (s.ctxOf p)) (s.core p).lcore (handleSlot hd)) sh) = q ∧ j.scales = [] ∧
      j.owed = 0) ∧
    (sq = true → q.drop (scalesTaken sq (resAt (s.ctx (s.ctxOf p)) (s.core p).lcore (handleSlot hd)) sh) = q.drop need ∧
      j.scales = q.take need ∧ j.owed = need - q.length) := by
  refine ⟨?_, ?_⟩
  · rintro rfl
    exact ⟨rfl, rfl, Nat.zero_sub _⟩
  · rintro rfl
    exact ⟨rfl, rfl, rfl⟩

end

/-! ### The obligation -/

/-- Settles O31: LMMA and LMMAZ by `firstFails_lmma` and `afterAll_loomStarted`, LMMAR by `firstFails_lmmar` and `lmmar_spec`. -/
theorem loomAndResultStream : Obligations.LoomAndResultStream := by
  unfold Obligations.LoomAndResultStream
  refine ⟨fun s p k h w g a b i inst z hi hon hf hlim hinst => ?_, fun s p k h w g a b hi hon hf => ?_⟩
  · intro sh x r sq base inRows hd port need have_ check
    have hp := loom_placed hinst hi hon hf hlim
    have hsh : usedShape (s.core p) 0 h.toNat w = sh := usedShape_eq ..
    have hsq : sqOf i (portValue s p s.header) = sq := sqOf_portValue hlim
    have hchecks := firstFails_lmma k sh hd (readS s p b) hlim
    refine ⟨fun hbusy => hp.freezes (decide_eq_false (Nat.not_le.mpr hbusy)) rfl, hchecks, fun hfree => ?_, fun hfree hc => ?_⟩
    · have hcheck : (mLoom z h w g a b i).check s (soleEnv s p k 0) = check := by
        simp only [mLoom, usedShape_eq]
        rfl
      rw [← hcheck]
      exact hp.stops (decide_eq_true hfree)
    · have hrows : base + sh.outer ≤ 8192 := rows_of_lmmaCheck hlim hc
      have hex := exec_loom hp hfree (hsh.symm ▸ hc)
      rw [hsh, hsq] at hex
      obtain ⟨hloom, hloomFree, hexch, hscales, hflights, ht⟩ :=
        afterAll_loomStarted s p h w z sq sh hd (readS s p b)
      obtain ⟨hplain, hscaled⟩ := loomJob_scales s p z sq sh hd (readS s p b)
      refine ⟨_, loomJob z sq s p sh hd (readS s p b) (s.core p), hex, hloom, rfl, rfl, rfl, rfl, rfl, rfl, rfl, rfl, rfl, rfl,
        fun m hm => loomJob_acts s p z sq sh hd _ hm, hloomFree, hexch, ?_, ?_, fun q => mem_clash, ?_, ht⟩
      · rw [hscales]
        exact hplain
      · rw [hscales]
        exact hscaled
      · rw [hflights]
        exact clashAcc_flights (fun q => rowsFrom_lt hrows) _
  · intro sh first x hd r bar buf ok check
    obtain ⟨hbusy, hstops, hstarts⟩ := lmmar_spec (lmmar_placed (h := h) (w := w) hi hon hf)
    have hfirst : lmmarFirst (s.core p) w = first := lmmarFirst_eq ..
    rw [hfirst] at hstarts
    refine ⟨hbusy, firstFails_lmmar s p k sh hd (readS s p b), hstops, fun hfree hc => ?_⟩
    obtain ⟨hdone, hrun⟩ := hstarts hfree hc
    refine ⟨hdone, fun hrows => ?_⟩
    obtain ⟨t, hex, hlmmar, hklprg, hloomFree, hexch, ht⟩ := hrun hrows
    have hlanded : ∀ m, m ∈ List.range (lmmarFirst (s.core p) w) ↔ m < first := fun m => by rw [List.mem_range, hfirst]
    exact ⟨t, _, hex, hlmmar, rfl, rfl, hklprg, rfl, rfl, rfl, rfl, hlanded, fld_low sh.rc 2, rfl, hloomFree, hexch, ht⟩

end Sys2Proof.Machine
end

section
/-!
PROOF. The scratchpad at issue (R160, R161, R167, R168): the words of a row, an instruction of the M slot alone in its bundle, the checks
that LDV, STV, LDS and STS share, the row that a store or a consuming load leaves.
-/

namespace Sys2Proof.Machine

/-! ### Words of a row (R160) -/

theorem rowWord_eq (r : Vec) (w : Nat) : rowWord r w = r.extractLsb' (64 * w) 64 := by
  apply BitVec.eq_of_toNat_eq
  rw [rowWord, elem, BitVec.toNat_ofNat, Nat.mod_mod, BitVec.extractLsb'_toNat, Nat.shiftRight_eq_div_pow]

/-- Only the word named is replaced. -/
theorem extract_setRowWord (r : Vec) {w j : Nat} (hj : j < 64) (x : W64) :
    (setRowWord r w x).extractLsb' (64 * j) 64 = if j = w then x else r.extractLsb' (64 * j) 64 := by
  apply BitVec.eq_of_getLsbD_eq
  intro b hb
  have hrow : 64 * j + b < 4096 := by omega
  rw [BitVec.getLsbD_extractLsb', setRowWord]
  simp only [BitVec.getLsbD_or, BitVec.getLsbD_and, BitVec.getLsbD_not, BitVec.getLsbD_shiftLeft, BitVec.getLsbD_setWidth,
    BitVec.getLsbD_allOnes, hrow, hb, decide_true, Bool.true_and]
  split_ifs with hjw
  · subst hjw
    simp [show 64 * j + b - 64 * j = b by omega, hb, show b < 4096 by omega]
  · rw [BitVec.getLsbD_extractLsb']
    rcases Nat.lt_or_gt_of_ne hjw with h | h
    · simp [show 64 * j + b < 64 * w by omega, hb]
    · have hout : ¬64 * j + b - 64 * w < 64 := by omega
      simp [hout, hb, BitVec.getLsbD_of_ge x _ (Nat.not_lt.mp hout)]

/-- The effective address of R160, as the manual writes it. -/
theorem effAddr_signExtend {n : Nat} (x : W64) (i : BitVec n) : effAddr x i = x + i.signExtend 64 * 512 := by
  rw [effAddr, BitVec.ofInt_mul, BitVec.signExtend]
  rfl

/-! ### An instruction of the M slot under its guard (R53, R74) -/

theorem placed_of_guardM {i : Instr} {m : Meaning} {g : BitVec 5} {s : State} {p k : Nat} (hm : meaningOf i = m)
    (hg : guardOf i = some (g, 0)) (hport : needsPort i = false) (hi : Issues s p k) (hon : guardM g s (.core p) = true)
    (hw : i.detail = none) (hf : Settled s p (m.srcs (s.core p) ++ m.dests (s.core p))) : Placed i m s p k := by
  subst hm
  exact
    { issues := hi
      meaning := rfl
      cls := cls_of_guardOf hg
      detail := hw
      stream := streamOnly_of_guardOf hg
      decode := decode_meaningOf (stateChecked_of_guardOf hg) s p
      port := fun h => absurd ((port_meaningOf i).symm.trans h) (by rw [hport]; exact Bool.false_ne_true)
      acts := by rw [acts_meaningOf hg, ← guardM_eq]; exact hon
      settled := hf }

/-! ### A row of the scratchpad written (R160, R167) -/

/-- The core of a bank after one of its rows, with the full-empty bits where `fe` gives them, is written. -/
def putRow (row : Nat) (r : Vec) (fe : Option W32) (c : Core) : Core :=
  { c with spad := Tab.put 0 c.spad row r, fullEmpty := fe.elim c.fullEmpty (Tab.put 0 c.fullEmpty row) }

theorem spadPut_eq (p : Nat) (a : W64) (r : Vec) (fe : Option W32) (s : State) :
    spadPut p a r fe s = s.onCore (spadPhys p a) (putRow (spadRow a) r fe) := by
  cases fe <;> rfl

section
variable (s : State) (c : Core)

@[simp] theorem advanced_spad : (advanced s c).spad = c.spad := by unfold advanced; dsimp only; split <;> rfl
@[simp] theorem advanced_fullEmpty : (advanced s c).fullEmpty = c.fullEmpty := by unfold advanced; dsimp only; split <;> rfl

theorem advanced_putRow (row : Nat) (r : Vec) (fe : Option W32) :
    advanced s (putRow row r fe c) = putRow row r fe (advanced s c) := by
  unfold advanced
  dsimp only
  split <;> rfl

@[simp] theorem sends_fullEmpty (p k : Nat) (d : Dest) (x : Vec) (lat : Nat) (fl : Flags) :
    (sends s p k d x lat fl c).fullEmpty = c.fullEmpty := by
  unfold sends
  split <;> rfl

end

theorem State.core_onCore (s : State) (p : Nat) (f : Core → Core) (q : Nat) :
    (s.onCore p f).core q = if q = p then f (s.core p) else s.core q := by
  split_ifs with h
  · rw [h, State.core_onCore_self]
  · exact State.core_onCore_ne _ _ _ h

theorem State.core_onCore_id (s : State) (p q : Nat) : s.core q = (s.onCore p id).core q := by
  rw [State.core_onCore]
  split_ifs with h
  · rw [h, id]
  · rfl

/-- States whose cores are alike, with one core changed alike. -/
theorem State.core_onCore_congr {s t : State} (p : Nat) (f : Core → Core) (h : ∀ q, t.core q = s.core q) (q : Nat) :
    (t.onCore p f).core q = (s.onCore p f).core q := by
  rw [State.core_onCore, State.core_onCore, h, h]

/-- The order of two changes of cores that commute does not show. -/
theorem State.core_onCore_swap {s : State} {p q : Nat} {f g : Core → Core} (h : ∀ c, f (g c) = g (f c)) (j : Nat) :
    ((s.onCore q g).onCore p f).core j = ((s.onCore p f).onCore q g).core j := by
  by_cases hpq : q = p
  · rw [hpq, State.onCore_onCore, State.onCore_onCore, funext h]
  · simp only [State.core_onCore, if_neg hpq, if_neg (Ne.symm hpq)]
    split_ifs with hp hq
    · exact absurd (hq.symm.trans hp) hpq
    all_goals rfl

/-- A state whose cores are those of `u` but for one row written. -/
theorem RowWritten.of_putRow {t u : State} {q row : Nat} {r : Vec} {fe : Option W32}
    (hcore : ∀ j, t.core j = (u.onCore q (putRow row r fe)).core j) (hrest : t = { u with cores := t.cores }) :
    RowWritten t u q row r (fe.getD (Tab.get 0 (u.core q).fullEmpty row)) := by
  have hq : t.core q = putRow row r fe (u.core q) := by rw [hcore, State.core_onCore_self]
  refine ⟨fun j hj => ?_, ?_, fun j => ?_, fun j => ?_, hrest⟩
  · rw [hcore, State.core_onCore_ne _ _ _ hj]
  · rw [hq]
    rfl
  · rw [hq]
    exact Tab.get_put ..
  · rw [hq]
    cases fe with
    | some b => exact Tab.get_put ..
    | none =>
      show Tab.get 0 (u.core q).fullEmpty j = if j = row then Tab.get 0 (u.core q).fullEmpty row else _
      split_ifs with h
      · rw [h]
      · rfl

/-- What a bundle leaves that changes its own core by `f`, to the state `u`, and writes one row of the scratchpad. -/
theorem rowWritten_retire {s u : State} {p : Nat} {f : Core → Core} (a : W64) (r : Vec) (fe : Option W32)
    (hcore : ∀ j, u.core j = (s.onCore p f).core j) (hrest : u = { s with cores := u.cores })
    (hfe : (f (s.core p)).fullEmpty = (s.core p).fullEmpty) :
    RowWritten (drawn s (retire p s.header .fall (spadPut p a r fe u))) (after s p f) (spadPhys p a) (spadRow a) r
      (fe.getD (spadFe s p a)) := by
  have hkept : Tab.get 0 ((after s p f).core (spadPhys p a)).fullEmpty (spadRow a) = spadFe s p a := by
    rw [after, drawn_core, State.core_onCore, spadFe]
    split_ifs with h
    · rw [h, advanced_fullEmpty, hfe]
    · rfl
  rw [← hkept]
  have hcycle : (spadPut p a r fe u).cycle = s.cycle := by rw [spadPut_eq, State.onCore_cycle, hrest]
  rw [retire_fall_all s _ p hcycle, spadPut_eq]
  refine .of_putRow (fun j => ?_) ?_
  · show ((u.onCore _ (putRow (spadRow a) r fe)).onCore p (advanced s)).core j =
      ((s.onCore p fun c => advanced s (f c)).onCore (spadPhys p a) (putRow (spadRow a) r fe)).core j
    rw [State.core_onCore_swap fun c => advanced_putRow s c .., ← State.onCore_onCore s p f (advanced s)]
    exact State.core_onCore_congr _ _ (State.core_onCore_congr _ _ hcore) j
  · rw [hrest]
    rfl

/-! ### What LDV, STV, LDS and STS share (R161, R168, R229) -/

/-- The instruction, alone in its bundle, has the freeze condition and the check of a scratchpad access at `ea`; it waits for a full row
when `wait` holds. -/
structure SpadAccess (i : Instr) (m : Meaning) (s : State) (p k : Nat) (wait : Bool) (ea : W64) : Prop where
  placed : Placed i m s p k
  ready  : m.ready s (soleEnv s p k m.pushes) = spadReady s (soleEnv s p k m.pushes) wait ea
  check  : m.check s (soleEnv s p k m.pushes) = spadCheck s (soleEnv s p k m.pushes) ea
  hold   : m.hold s (soleEnv s p k m.pushes) s = s
  next   : m.next s (soleEnv s p k m.pushes) = .fall
  rank   : m.rank = 0

section
variable {i : Instr} {m : Meaning} {s : State} {p k : Nat} {wait : Bool} {ea : W64}

/-- R229: an acquiring atomic that is outstanding holds every later access back. -/
theorem SpadAccess.held_back (h : SpadAccess i m s p k wait ea) (ha : acquireOpen (s.core p) = true) :
    exec i s = .next (frozen s p) := by
  refine h.placed.freezes ?_ h.hold
  rw [h.ready]
  show (!acquireOpen (s.core p) && _) = false
  rw [ha]
  rfl

/-- R161: an address that fails its checks is a fatal context error, and a load does not wait for its row. -/
theorem SpadAccess.fatal (h : SpadAccess i m s p k wait ea) (ha : acquireOpen (s.core p) = false)
    (hok : spadOk s p (s.ctxOf p) ea = false) : exec i s = .next (fatalIn s p 1 ea 0) := by
  have hready : m.ready s (soleEnv s p k m.pushes) = true := by
    rw [h.ready]
    show (!acquireOpen (s.core p) && (!wait || !spadOk s p (s.ctxOf p) ea || _)) = true
    rw [ha, hok, Bool.not_false, Bool.or_true]
    rfl
  refine (h.placed.stops hready).2 1 ea 0 ?_
  rw [h.check]
  exact if_neg (Bool.eq_false_iff.mp hok)

/-- R168: a load that waits for a full row freezes while the row is not full. -/
theorem SpadAccess.awaits_full (h : SpadAccess i m s p k wait ea) (hw : wait = true) (hok : spadOk s p (s.ctxOf p) ea = true)
    (hfe : spadFe s p ea ≠ BitVec.allOnes 32) : exec i s = .next (frozen s p) := by
  refine h.placed.freezes ?_ h.hold
  rw [h.ready]
  show (_ && (!wait || !spadOk s p (s.ctxOf p) ea || spadFe s p ea == BitVec.allOnes 32)) = false
  rw [hw, hok, beq_false_of_ne hfe, Bool.and_eq_false_iff]
  exact .inr rfl

/-- An access that nothing holds back commits. -/
theorem SpadAccess.commits (h : SpadAccess i m s p k wait ea) (ha : acquireOpen (s.core p) = false)
    (hok : spadOk s p (s.ctxOf p) ea = true) (hfull : wait = true → spadFe s p ea = BitVec.allOnes 32) :
    exec i s = .next (drawn s (retire p s.header .fall (m.commit s (soleEnv s p k m.pushes) s))) := by
  have hready : m.ready s (soleEnv s p k m.pushes) = true := by
    rw [h.ready]
    show (!acquireOpen (s.core p) && (!wait || !spadOk s p (s.ctxOf p) ea || spadFe s p ea == BitVec.allOnes 32)) = true
    rw [ha, hok]
    cases wait with
    | false => rfl
    | true => rw [hfull rfl]; rfl
  have hcheck : m.check s (soleEnv s p k m.pushes) = none := by
    rw [h.check]
    exact if_pos hok
  rw [h.placed.commits hready hcheck (by rw [h.rank]; exact Nat.zero_le 3), h.next]

/-- An access that nothing holds back and that changes its own core alone. -/
theorem SpadAccess.changes {f : Core → Core} (h : SpadAccess i m s p k wait ea) (ha : acquireOpen (s.core p) = false)
    (hok : spadOk s p (s.ctxOf p) ea = true) (hfull : wait = true → spadFe s p ea = BitVec.allOnes 32)
    (hf : m.commit s (soleEnv s p k m.pushes) s = s.onCore p f) : exec i s = .next (after s p f) := by
  rw [h.commits ha hok hfull, hf, retire_fall]

/-- The two ways in which an access stops. -/
theorem SpadAccess.fails (h : SpadAccess i m s p k wait ea) :
    (acquireOpen (s.core p) = false → spadOk s p (s.ctxOf p) ea = false → exec i s = .next (fatalIn s p 1 ea 0)) ∧
    (acquireOpen (s.core p) = true → exec i s = .next (frozen s p)) :=
  ⟨h.fatal, h.held_back⟩

end

/-! ### LDV, STV, LDS, STS (R168) -/

section
variable {s : State} {p k : Nat} {g : BitVec 5} {v a : BitVec 6} {i : BitVec 7} {f : BitVec 2} {ea : W64}
  (hi : Issues s p k) (hon : guardM g s (.core p) = true) (hf : Settled s p [destS a])
  (hea : effAddr (readS s p a) i = ea)
include hi hon hf hea

theorem ldv_access (hv : SettledV s p [v]) (hlim : f.toNat < 3) :
    SpadAccess (.ldv g v a i f) (mLdv g v a i f) s p k (f != 0) ea := by
  subst hea
  exact ⟨placed_of_guardM rfl rfl rfl hi hon (if_pos (decide_eq_true hlim)) (settled_append hf hv), rfl, rfl, rfl, rfl, rfl⟩

theorem stv_access (hv : SettledV s p [v]) (hlim : f.toNat < 2) : SpadAccess (.stv g v a i f) (mStv g v a i f) s p k false ea := by
  subst hea
  exact ⟨placed_of_guardM rfl rfl rfl hi hon (if_pos (decide_eq_true hlim)) (settled_append (settled_append hv hf) (settled_nil s p)),
    rfl, rfl, rfl, rfl, rfl⟩

theorem lds_access (hv : Settled s p [destS v]) : SpadAccess (.lds g v a i) (mLds g v a i) s p k false ea := by
  subst hea
  exact ⟨placed_of_guardM rfl rfl rfl hi hon rfl (settled_append hf hv), rfl, rfl, rfl, rfl, rfl⟩

theorem sts_access (hv : Settled s p [destS v]) : SpadAccess (.sts g v a i) (mSts g v a i) s p k false ea := by
  subst hea
  exact ⟨placed_of_guardM rfl rfl rfl hi hon rfl (settled_append (settled_append hv hf) (settled_nil s p)), rfl, rfl, rfl, rfl, rfl⟩

variable (hacq : acquireOpen (s.core p) = false) (hok : spadOk s p (s.ctxOf p) ea = true)
include hacq hok

/-- LDV that leaves the full-empty bits (R167). -/
theorem exec_ldv_keeps (hv : SettledV s p [v]) (hfe : f = 0 ∨ (f = 1 ∧ spadFe s p ea = BitVec.allOnes 32)) :
    exec (.ldv g v a i f) s = .next (givesV s p k v (spadGet s p ea) (if spadPhys p ea = p then 4 else 12) 0) := by
  have hlim : f.toNat < 3 := by obtain rfl | ⟨rfl, -⟩ := hfe <;> decide
  have hfull : (f != 0) = true → spadFe s p ea = BitVec.allOnes 32 := by
    obtain rfl | ⟨-, hfull⟩ := hfe
    · exact fun h => absurd h Bool.false_ne_true
    · exact fun _ => hfull
  have hne : f ≠ 2 := by obtain rfl | ⟨rfl, -⟩ := hfe <;> decide
  subst hea
  exact (ldv_access hi hon hf rfl hv hlim).changes hacq hok hfull ((if_neg hne).trans (emit_core _ _ _ _ _ _ _ (destV_plain ..)))

/-- LDV with fe = WC empties the row that it reads (R167). -/
theorem exec_ldv_consumes (hv : SettledV s p [v]) (hfe : spadFe s p ea = BitVec.allOnes 32) :
    ∃ t, exec (.ldv g v a i 2) s = .next t ∧
      RowWritten t (givesV s p k v (spadGet s p ea) (if spadPhys p ea = p then 4 else 12) 0) (spadPhys p ea) (spadRow ea)
        (spadGet s p ea) 0 := by
  refine ⟨_, (ldv_access hi hon hf hea hv (by decide)).commits hacq hok fun _ => hfe, ?_⟩
  subst hea
  show RowWritten (drawn s (retire p s.header .fall (spadPut p _ _ (some 0) (emit (.core p) k (destV (s.core p) v) _ _ 0 s)))) _ _ _ _ _
  rw [emit_core _ _ _ _ _ _ _ (destV_plain _ v)]
  exact rowWritten_retire _ _ (some 0) (fun _ => rfl) rfl (sends_fullEmpty ..)

/-- STV writes its row, and fills it with fe = SF (R167). -/
theorem exec_stv (hv : SettledV s p [v]) (hlim : f.toNat < 2) :
    ∃ t, exec (.stv g v a i f) s = .next t ∧
      RowWritten t (after s p id) (spadPhys p ea) (spadRow ea) (readV s p v)
        (if f = 1 then BitVec.allOnes 32 else spadFe s p ea) := by
  refine ⟨_, (stv_access hi hon hf hea hv hlim).commits hacq hok fun h => absurd h Bool.false_ne_true, ?_⟩
  subst hea
  have hbits : (if f = 1 then some (BitVec.allOnes 32) else none).getD (spadFe s p (effAddr (readS s p a) i)) =
      if f = 1 then BitVec.allOnes 32 else spadFe s p (effAddr (readS s p a) i) := by split_ifs <;> rfl
  rw [← hbits]
  exact rowWritten_retire _ _ _ (State.core_onCore_id s p) rfl rfl

theorem exec_lds (hv : Settled s p [destS v]) :
    exec (.lds g v a i) s = .next (givesS s p k v ((spadGet s p ea).extractLsb' (64 * wordIx ea) 64)
      (if spadPhys p ea = p then 4 else 12) 0) := by
  subst hea
  rw [← rowWord_eq]
  exact (lds_access hi hon hf rfl hv).changes hacq hok (fun h => absurd h Bool.false_ne_true)
    (emit_core _ _ _ _ _ _ _ (destS_plain v))

/-- STS writes its word of the row alone (R160), and leaves the full-empty bits (R167). -/
theorem exec_sts (hv : Settled s p [destS v]) :
    ∃ t, exec (.sts g v a i) s = .next t ∧
      RowWritten t (after s p id) (spadPhys p ea) (spadRow ea) (setRowWord (spadGet s p ea) (wordIx ea) (readS s p v))
        (spadFe s p ea) := by
  refine ⟨_, (sts_access hi hon hf hea hv).commits hacq hok fun h => absurd h Bool.false_ne_true, ?_⟩
  subst hea
  exact rowWritten_retire _ _ none (State.core_onCore_id s p) rfl rfl

end

/-- Settles O24: the four are scratchpad accesses (`SpadAccess.fails`); a load sends its row or its word, and a store or a consuming
load writes one row (`rowWritten_retire`). -/
theorem scratchpadAccesses : Obligations.ScratchpadAccesses := by
  unfold Obligations.ScratchpadAccesses
  intro s p k g v a i f hi hon hf ea owner lat ok row fe word fails
  have hea : effAddr (readS s p a) i = ea := effAddr_signExtend _ _
  refine ⟨fun hv hlim => (ldv_access hi hon hf hea hv hlim).fails, fun hv hlim => (stv_access hi hon hf hea hv hlim).fails,
    fun hv => ⟨(lds_access hi hon hf hea hv).fails, (sts_access hi hon hf hea hv).fails⟩,
    fun hacq hv hlim => ⟨fun hok hne => ?_, fun hok => exec_ldv_keeps hi hon hf hea hacq hok hv, ?_⟩,
    fun hacq hv hok hlim => exec_stv hi hon hf hea hacq hok hv hlim, fun hacq hv hok => exec_lds hi hon hf hea hacq hok hv,
    fun hacq hv hok => ?_⟩
  · exact (ldv_access hi hon hf hea hv hlim).awaits_full (bne_iff_ne.mpr hne) hok
  · rintro hok rfl
    exact exec_ldv_consumes hi hon hf hea hacq hok hv
  · obtain ⟨t, hex, ht⟩ := exec_sts hi hon hf hea hacq hok hv
    exact ⟨t, _, hex, ht, fun w hw => extract_setRowWord _ hw _⟩

end Sys2Proof.Machine
end

section
/-!
PROOF. Spill memory and the ownership of banks (R162, R164, R165): the row or word of a spill access, the banks that BACQ acquires one
after another, the banks that BREL releases and those that become FREE.
-/

namespace Sys2Proof.Machine

section
variable (s : State) (c : Core)

@[simp] theorem advanced_spill : (advanced s c).spill = c.spill := by unfold advanced; dsimp only; split <;> rfl
@[simp] theorem advanced_banks : (advanced s c).banks = c.banks := by unfold advanced; dsimp only; split <;> rfl

end

/-! ### Spill memory (R162) -/

section
variable {s : State} {p k : Nat} {g : BitVec 5} {d : BitVec 6} {o : BitVec 15}

theorem spillRow_eq (ho : o.toNat < 8192) : spillRow o = o.toNat / 64 := Nat.mod_eq_of_lt (by omega)

theorem limitOff_of_lt (ho : o.toNat < 8192) : limitOff o = none := if_pos (decide_eq_true ho)

variable (hi : Issues s p k) (hon : guardM g s (.core p) = true) (ho : o.toNat < 8192)
include hi hon ho

theorem exec_spl (hv : SettledV s p [d]) :
    exec (.spl g d o) s = .next (after s p (fun c => { c with spill := Tab.put 0 c.spill (o.toNat / 64) (readV s p d) })) := by
  rw [← spillRow_eq ho]
  exact (placed_of_guardM (i := .spl g d o) rfl rfl rfl hi hon (limitOff_of_lt ho) (settled_append hv (settled_nil s p))).changes
    rfl rfl rfl rfl (Nat.zero_le 3)

theorem exec_spls (hf : Settled s p [destS d]) :
    exec (.spls g d o) s = .next (after s p (fun c => { c with
      spill := Tab.put 0 c.spill (o.toNat / 64)
        (setRowWord (Tab.get 0 c.spill (o.toNat / 64)) (o.toNat % 64) (readS s p d)) })) := by
  rw [← spillRow_eq ho]
  exact (placed_of_guardM (i := .spls g d o) rfl rfl rfl hi hon (limitOff_of_lt ho) (settled_append hf (settled_nil s p))).changes
    rfl rfl rfl rfl (Nat.zero_le 3)

theorem exec_fil (hv : SettledV s p [d]) :
    exec (.fil g d o) s = .next (givesV s p k d (Tab.get 0 (s.core p).spill (o.toNat / 64)) 1 0) := by
  rw [← spillRow_eq ho]
  exact (placed_of_guardM (i := .fil g d o) rfl rfl rfl hi hon (limitOff_of_lt ho) hv).changes
    rfl (emit_core _ _ _ _ _ _ _ (destV_plain ..)) rfl rfl (Nat.zero_le 3)

theorem exec_fils (hf : Settled s p [destS d]) :
    exec (.fils g d o) s = .next (givesS s p k d
      ((Tab.get (0 : Vec) (s.core p).spill (o.toNat / 64)).extractLsb' (64 * (o.toNat % 64)) 64) 1 0) := by
  rw [← spillRow_eq ho, ← rowWord_eq]
  exact (placed_of_guardM (i := .fils g d o) rfl rfl rfl hi hon (limitOff_of_lt ho) hf).changes
    rfl (emit_core _ _ _ _ _ _ _ (destS_plain d)) rfl rfl (Nat.zero_le 3)

omit hi hon ho

/-- A bundle that writes one row of spill memory changes no other row, and nothing else of its core. -/
theorem after_spill (s : State) (p r : Nat) (x : Core → Vec) :
    let t := after s p (fun c => { c with spill := Tab.put 0 c.spill r (x c) })
    Tab.get (0 : Vec) (t.core p).spill r = x (s.core p) ∧
    (∀ j, j ≠ r → Tab.get (0 : Vec) (t.core p).spill j = Tab.get 0 (s.core p).spill j) ∧
    t = after s p (fun c => { c with spill := (t.core p).spill }) := by
  intro t
  have hspill : (t.core p).spill = Tab.put 0 (s.core p).spill r (x (s.core p)) := by rw [after_core, advanced_spill]
  refine ⟨?_, fun j hj => ?_, after_congr ?_⟩
  · rw [hspill, Tab.get_put_self]
  · rw [hspill, Tab.get_put, if_neg hj]
  · rw [hspill]

end

/-! ### Banks that BACQ acquires (R165) -/

theorem Tab.get_eraseRange {α : Type} (d : α) (t : Tab α) (lo hi k : Nat) :
    Tab.get d (Tab.eraseRange t lo hi) k = if lo ≤ k ∧ k < hi then d else Tab.get d t k := by
  rw [Tab.get_eq_find, Tab.find_eraseRange, Tab.get_eq_find]
  split_ifs <;> rfl

/-- Bank `i` covers the rows `512 i` to `512 i + 511` (R163). -/
theorem mem_bank_iff {b j : Nat} : 512 * b ≤ j ∧ j < 512 * b + 512 ↔ j / 512 = b := by omega

/-- `t` is the core `c` after its task has acquired the banks of `l` for context `x`: those that were FREE, with their full-empty bits
empty and, when another context held them last, their rows zero. -/
structure Acquired (x : Nat) (l : List Nat) (c t : Core) : Prop where
  bank : ∀ b, Tab.get Bank.zero t.banks b =
    if b ∈ l ∧ (Tab.get Bank.zero c.banks b).state = .free then { state := .owned, task := c.task, held := x + 1 }
    else Tab.get Bank.zero c.banks b
  bits : ∀ j, Tab.get 0 t.fullEmpty j =
    if j / 512 ∈ l ∧ (Tab.get Bank.zero c.banks (j / 512)).state = .free then 0 else Tab.get 0 c.fullEmpty j
  rows : ∀ j, Tab.get 0 t.spad j =
    if j / 512 ∈ l ∧ (Tab.get Bank.zero c.banks (j / 512)).state = .free ∧ (Tab.get Bank.zero c.banks (j / 512)).held ≠ x + 1 then 0
    else Tab.get 0 c.spad j
  rest : t = { c with banks := t.banks, fullEmpty := t.fullEmpty, spad := t.spad }

section
variable {x : Nat} {l l' : List Nat} {c t u : Core}

theorem acquireBank_acquired (x b : Nat) (c : Core) : Acquired x [b] c (acquireBank x b c) := by
  by_cases hfree : (Tab.get Bank.zero c.banks b).state = .free
  · have hacq : acquireBank x b c = { c with
        banks := Tab.set c.banks b { state := .owned, task := c.task, held := x + 1 }
        fullEmpty := Tab.eraseRange c.fullEmpty (512 * b) (512 * b + 512)
        spad := if (Tab.get Bank.zero c.banks b).held = x + 1 then c.spad
          else Tab.eraseRange c.spad (512 * b) (512 * b + 512) } := if_pos hfree
    rw [hacq]
    refine ⟨fun b' => ?_, fun j => ?_, fun j => ?_, rfl⟩
    · refine (Tab.get_set ..).trans (if_congr ?_ rfl rfl)
      rw [List.mem_singleton]
      exact ⟨fun h => ⟨h, h ▸ hfree⟩, And.left⟩
    · refine (Tab.get_eraseRange ..).trans (if_congr ?_ rfl rfl)
      rw [mem_bank_iff, List.mem_singleton]
      exact ⟨fun h => ⟨h, h ▸ hfree⟩, And.left⟩
    · dsimp only
      split_ifs with hheld h h
      · exact absurd (List.mem_singleton.mp h.1 ▸ hheld) h.2.2
      · rfl
      · rw [Tab.get_eraseRange, if_pos (mem_bank_iff.mpr (List.mem_singleton.mp h.1))]
      · rw [Tab.get_eraseRange, if_neg fun hj => ?_]
        have hb := mem_bank_iff.mp hj
        exact h ⟨List.mem_singleton.mpr hb, hb ▸ hfree, hb ▸ hheld⟩
  · have hacq : acquireBank x b c = c := if_neg hfree
    have hnot {b' : Nat} (hb : b' ∈ [b]) : (Tab.get Bank.zero c.banks b').state ≠ .free := List.mem_singleton.mp hb ▸ hfree
    rw [hacq]
    exact ⟨fun _ => (if_neg fun h => hnot h.1 h.2).symm, fun _ => (if_neg fun h => hnot h.1 h.2).symm,
      fun _ => (if_neg fun h => hnot h.1 h.2.1).symm, rfl⟩

theorem Acquired.bank_of_notMem {b : Nat} (h : Acquired x l c t) (hb : b ∉ l) :
    Tab.get Bank.zero t.banks b = Tab.get Bank.zero c.banks b := by
  rw [h.bank, if_neg fun hf => hb hf.1]

/-- A bank that was acquired is FREE no longer. -/
theorem Acquired.not_free {b : Nat} (h : Acquired x l c t) (hb : b ∈ l) : (Tab.get Bank.zero t.banks b).state ≠ .free := by
  rw [h.bank]
  split_ifs with hf
  · exact BankState.noConfusion
  · exact fun hfree => hf ⟨hb, hfree⟩

/-- What acquiring the banks of `l'` after those of `l` does to what hangs on a bank that `P` holds of, and so is FREE. -/
theorem Acquired.ite_append {β : Type} {P : Bank → Prop} [DecidablePred P] {b : Nat} {y z v : β} (h : Acquired x l c t)
    (hP : ∀ o, P o → o.state = .free) (hy : y = if b ∈ l ∧ P (Tab.get Bank.zero c.banks b) then v else z) :
    (if b ∈ l' ∧ P (Tab.get Bank.zero t.banks b) then v else y) =
      if b ∈ l ++ l' ∧ P (Tab.get Bank.zero c.banks b) then v else z := by
  by_cases hb : b ∈ l
  · rw [if_neg fun hp => h.not_free hb (hP _ hp.2), hy]
    exact if_congr (and_congr_left' (iff_of_true hb (List.mem_append_left _ hb))) rfl rfl
  · rw [h.bank_of_notMem hb, hy.trans (if_neg fun hp => hb hp.1)]
    exact if_congr (and_congr_left' (List.mem_append.trans (or_iff_right hb)).symm) rfl rfl

/-- Banks acquired one after another. -/
theorem Acquired.trans (h : Acquired x l c t) (h' : Acquired x l' t u) : Acquired x (l ++ l') c u := by
  have htask : t.task = c.task := by rw [h.rest]
  refine ⟨fun b => ?_, fun j => ?_, fun j => ?_, ?_⟩
  · rw [h'.bank, htask]
    exact h.ite_append (fun _ => id) (h.bank b)
  · rw [h'.bits]
    exact h.ite_append (fun _ => id) (h.bits j)
  · rw [h'.rows]
    exact h.ite_append (P := fun o => o.state = .free ∧ o.held ≠ x + 1) (fun _ => And.left) (h.rows j)
  · rw [h'.rest, h.rest]

theorem acquireBanks_acquired (x : Nat) (l : List Nat) (c : Core) : Acquired x l c (l.foldl (fun c b => acquireBank x b c) c) := by
  induction l generalizing c with
  | nil => exact ⟨by simp, by simp, by simp, rfl⟩
  | cons b l ih => exact (acquireBank_acquired x b c).trans (ih _)

end

/-- Changes of one core one after another are one change. -/
theorem foldl_onCore_same {α : Type} (l : List α) (f : α → Core → Core) (s : State) (p : Nat) (g : Core → Core) :
    l.foldl (fun t a => t.onCore p (f a)) (s.onCore p g) = s.onCore p (fun c => l.foldl (fun c a => f a c) (g c)) := by
  induction l generalizing g with
  | nil => rfl
  | cons a l ih => rw [List.foldl_cons, State.onCore_onCore, ih]; rfl

/-! ### The banks that a mask names (R165) -/

/-- A bank OWNED by the task that core `p` runs. -/
def taskBank (s : State) (p : Nat) : Bank := { state := .owned, task := (s.core p).task, held := s.ctxOf p + 1 }

section
variable {s : State} {p b : Nat} {m : W64}

theorem mem_maskBanks : b ∈ maskBanks s p m ↔ b < 16 ∧ b < (s.ctx (s.ctxOf p)).split ∧ m.getLsbD b = true := by
  rw [maskBanks, List.mem_filter, List.mem_range, Nat.lt_min, and_comm (a := b < _), and_assoc]

theorem ownedHere_iff : ownedHere s p b = true ↔ Tab.get Bank.zero (s.core p).banks b = taskBank s p := by
  simp only [ownedHere, taskBank, Bool.and_eq_true, beq_iff_eq]
  generalize Tab.get Bank.zero (s.core p).banks b = o
  obtain ⟨st, task, held⟩ := o
  simp only [Bank.mk.injEq, and_assoc]

theorem acquirable_iff : acquirable s p m = true ↔ ∀ b ∈ maskBanks s p m,
    (Tab.get Bank.zero (s.core p).banks b).state = .free ∨ Tab.get Bank.zero (s.core p).banks b = taskBank s p := by
  simp only [acquirable, List.all_eq_true, Bool.or_eq_true, beq_iff_eq, ownedHere_iff]

/-- The banks that BREL makes RELEASING (R165): those named that the task owns. -/
def namedOwned (s : State) (p : Nat) (m : W64) : List Nat := (maskBanks s p m).filter (ownedHere s p)

theorem mem_namedOwned : b ∈ namedOwned s p m ↔ b ∈ maskBanks s p m ∧ Tab.get Bank.zero (s.core p).banks b = taskBank s p := by
  rw [namedOwned, List.mem_filter, ownedHere_iff]

end

/-! ### Banks that BREL releases (R164, R165) -/

/-- A table whose values change by their keys. -/
theorem Tab.get_mapKey {α : Type} {d : α} (f : Nat → α → α) (t : Tab α) (k : Nat) (hd : Tab.get d t k = d → f k d = d) :
    Tab.get d (t.map fun c => (c.1, f c.1 c.2)) k = f k (Tab.get d t k) := by
  induction t with
  | nil => exact (hd rfl).symm
  | cons c r ih =>
    obtain ⟨j, v⟩ := c
    rw [List.map_cons, Tab.get_cons, Tab.get_cons]
    rw [Tab.get_cons] at hd
    split_ifs with h
    · rw [h]
    · exact ih (by rwa [if_neg h] at hd)

/-- A bank after BREL: the banks of `l` become RELEASING, and a RELEASING bank that no engine will still write becomes FREE. -/
def releasedBank (l : List Nat) (busy : Nat → Bool) (b : Nat) (o : Bank) : Bank :=
  let r : Bank := if l.contains b then { o with state := .releasing } else o
  if r.state = .releasing ∧ !busy b then { r with state := .free, task := 0 } else r

section
variable {l : List Nat} {busy : Nat → Bool} {b : Nat} {o : Bank}

/-- The two changes of a listed bank, as the model makes them one after the other. -/
theorem releasedBank_entry (l : List Nat) (busy : Nat → Bool) (e : Nat × Bank) :
    let r := if l.contains e.1 then (e.1, { e.2 with state := BankState.releasing }) else e
    (if r.2.state = .releasing ∧ !busy r.1 then (r.1, { r.2 with state := .free, task := 0 }) else r) =
      (e.1, releasedBank l busy e.1 e.2) := by
  obtain ⟨b, o⟩ := e
  intro r
  have hr : r = (b, if l.contains b then { o with state := .releasing } else o) := (apply_ite (Prod.mk b) ..).symm
  rw [hr, releasedBank]
  exact (apply_ite (Prod.mk b) ..).symm

theorem releasedBank_releasing (h : b ∈ l ∨ o.state = .releasing) :
    releasedBank l busy b o = if busy b then { o with state := .releasing } else { o with state := .free, task := 0 } := by
  have hr : (if l.contains b then { o with state := .releasing } else o) = { o with state := .releasing } := by
    split_ifs with hb
    · rfl
    · rw [← h.resolve_left fun hl => hb (List.contains_iff_mem.mpr hl)]
  rw [releasedBank, hr]
  cases busy b <;> rfl

theorem releasedBank_kept (hl : b ∉ l) (ho : o.state ≠ .releasing) : releasedBank l busy b o = o := by
  rw [releasedBank, if_neg fun hb => hl (List.contains_iff_mem.mp hb)]
  exact if_neg fun h => ho h.1

/-- A bank that the core does not list is FREE, and BREL leaves it so. -/
theorem get_releasedBanks (s : State) (p : Nat) (m : W64) (busy : Nat → Bool) (b : Nat) :
    Tab.get Bank.zero ((s.core p).banks.map fun o => (o.1, releasedBank (namedOwned s p m) busy o.1 o.2)) b =
      releasedBank (namedOwned s p m) busy b (Tab.get Bank.zero (s.core p).banks b) := by
  refine Tab.get_mapKey (releasedBank (namedOwned s p m) busy) _ b fun hz => ?_
  refine releasedBank_kept (fun hb => ?_) BankState.noConfusion
  have hstate := congrArg Bank.state ((mem_namedOwned.mp hb).2.symm.trans hz)
  cases hstate

end

/-- Which engines may still write a row depends on the copies in the channels of the cores alone. -/
theorem engineInto_congr {s t : State} (h : ∀ q, (t.core q).chans = (s.core q).chans) (p b : Nat) :
    engineInto t p b = engineInto s p b := by
  simp only [engineInto, h]

theorem engineInto_of_idle {s : State} {p : Nat} (h : ∀ q, q < 4 → (s.core (p / 4 * 4 + q)).chans = []) (b : Nat) :
    engineInto s p b = false := by
  rw [engineInto, List.any_eq_false]
  intro q hq
  dsimp only
  rw [h q (List.mem_range.mp hq), Bool.not_eq_true, List.any_eq_false]
  exact fun _ _ => Bool.false_ne_true

theorem State.setCore_onCore (s : State) (p : Nat) (f : Core → Core) (c : Core) : (s.onCore p f).setCore p c = s.setCore p c := by
  simp only [State.onCore, State.setCore, Tab.set_set]

/-- The RELEASING banks of a core are looked at after a change that leaves its channels. -/
theorem releaseCore_onCore {s : State} {p : Nat} {f : Core → Core} (h : (f (s.core p)).chans = (s.core p).chans) :
    releaseCore p (s.onCore p f) = s.onCore p (fun c => { f c with banks := (f c).banks.map (fun (k : Nat × Bank) =>
      if k.2.state = .releasing ∧ !engineInto s p k.1 then (k.1, { k.2 with state := .free, task := 0 }) else k) }) := by
  have hchans (q : Nat) : ((s.onCore p f).core q).chans = (s.core q).chans := by
    rw [State.core_onCore]
    split_ifs with hq
    · rw [h, hq]
    · rfl
  simp only [releaseCore, State.setCore_onCore, State.core_onCore_self, engineInto_congr hchans]
  rfl

/-! ### BACQ and BREL -/

section
variable {s : State} {p k : Nat} {g : BitVec 5} {a : BitVec 6} (hi : Issues s p k) (hon : guardM g s (.core p) = true)
  (hf : Settled s p [destS a])
include hi hon hf

theorem exec_bacq (hacq : acquirable s p (readS s p a) = true) :
    exec (.bacq g a) s = .next (after s p (fun c =>
      (maskBanks s p (readS s p a)).foldl (fun c b => acquireBank (s.ctxOf p) b c) { c with stallSeen := false })) :=
  (placed_of_guardM (i := .bacq g a) rfl rfl rfl hi hon rfl hf).changes hacq
    (foldl_onCore_same _ (fun b => acquireBank (s.ctxOf p) b) s p _) rfl rfl (Nat.zero_le 3)

theorem exec_bacq_waits (hacq : acquirable s p (readS s p a) = false) : exec (.bacq g a) s = .next (frozen s p) :=
  (placed_of_guardM (i := .bacq g a) rfl rfl rfl hi hon rfl hf).freezes hacq rfl

/-- BREL changes the banks of its core one by one. -/
theorem exec_brel :
    exec (.brel g a) s = .next (after s p (fun c => { c with banks := c.banks.map fun o => (o.1,
      releasedBank (namedOwned s p (readS s p a)) (engineInto s p) o.1 o.2) })) := by
  refine (placed_of_guardM (i := .brel g a) rfl rfl rfl hi hon rfl hf).changes rfl ?_ rfl rfl (le_refl 3)
  refine (releaseCore_onCore (by rfl)).trans (State.onCore_congr ?_)
  show ({ s.core p with banks := List.map _ (List.map _ _) } : Core) = _
  rw [List.map_map]
  exact congrArg (fun l => ({ s.core p with banks := l } : Core)) (List.map_congr_left fun e _ => releasedBank_entry _ _ e)

end

/-- Each bank of the core after BREL. -/
theorem after_releasedBanks (s : State) (p : Nat) (m : W64) (b : Nat) :
    Tab.get Bank.zero ((after s p (fun c => { c with banks := c.banks.map fun o =>
        (o.1, releasedBank (namedOwned s p m) (engineInto s p) o.1 o.2) })).core p).banks b =
      releasedBank (namedOwned s p m) (engineInto s p) b (Tab.get Bank.zero (s.core p).banks b) := by
  rw [after_core, advanced_banks]
  exact get_releasedBanks ..

/-- Settles O25: the row or word of spill memory is written or sent (`exec_spl` and the like, `after_spill`); BACQ acquires the named
banks that are FREE (`acquireBanks_acquired`); BREL changes each bank as `releasedBank` says. -/
theorem spillAndBanks : Obligations.SpillAndBanks := by
  unfold Obligations.SpillAndBanks
  refine ⟨fun s p k g d o hi hon ho => ?_, fun s p k g a hi hon hf => ?_⟩
  · intro row word r
    refine ⟨fun hv => ⟨?_, exec_fil hi hon ho hv⟩, fun hd => ⟨?_, exec_fils hi hon ho hd⟩⟩
    · obtain ⟨hrow, hother, hrest⟩ := after_spill s p r fun _ => readV s p d
      exact ⟨_, exec_spl hi hon ho hv, hrow, hother, hrest⟩
    · obtain ⟨hrow, hother, hrest⟩ := after_spill s p r fun c =>
        setRowWord (Tab.get 0 c.spill r) (o.toNat % 64) (readS s p d)
      refine ⟨_, exec_spls hi hon ho hd, hother, fun w hw => ?_, hrest⟩
      exact (congrArg (BitVec.extractLsb' (64 * w) 64) hrow).trans (extract_setRowWord _ hw _)
  · intro m bank named mine open_
    have hnamed (b : Nat) : b ∈ maskBanks s p m ↔ named b := mem_maskBanks
    have hopen : acquirable s p m = true ↔ open_ := by
      simp only [acquirable_iff, hnamed]
      rfl
    refine ⟨fun ho => ?_, fun ho => exec_bacq_waits hi hon hf (Bool.eq_false_iff.mpr (mt hopen.mp ho)), ?_⟩
    · have hacq := acquireBanks_acquired (s.ctxOf p) (maskBanks s p m) { s.core p with stallSeen := false }
      refine ⟨_, exec_bacq hi hon hf (hopen.mpr ho), fun b => ?_, fun j => ?_, fun j => ?_, after_congr ?_⟩
      · show Tab.get Bank.zero (State.core _ p).banks b = _
        rw [after_core, advanced_banks]
        exact (hacq.bank b).trans (if_congr (and_congr_left' (hnamed b)) rfl rfl)
      · rw [after_core, advanced_fullEmpty]
        exact (hacq.bits j).trans (if_congr (and_congr_left' (hnamed _)) rfl rfl)
      · rw [after_core, advanced_spad]
        exact (hacq.rows j).trans (if_congr (and_congr_left' (hnamed _)) rfl rfl)
      · rw [after_core, advanced_banks, advanced_fullEmpty, advanced_spad]
        exact hacq.rest
    · have hmem (b : Nat) : b ∈ namedOwned s p m ↔ named b ∧ bank s b = mine := by
        rw [mem_namedOwned, hnamed]
        rfl
      refine ⟨_, exec_brel hi hon hf, fun b hb => ?_, fun b hb hs => ?_, after_congr ?_⟩
      · have hreleased := (after_releasedBanks s p m b).trans (releasedBank_releasing (hb.imp_left (hmem b).mpr))
        refine ⟨hreleased, fun hidle => ?_⟩
        refine (congrArg Bank.state hreleased).trans ?_
        rw [engineInto_of_idle hidle]
        rfl
      · refine (after_releasedBanks s p m b).trans (releasedBank_kept (fun h => ?_) hs)
        obtain ⟨hn, hm⟩ := (hmem b).mp h
        exact hb.elim (fun hb => hb hm) fun hb => hb hn
      · rw [after_core, advanced_banks]

end Sys2Proof.Machine
end

section
/-!
PROOF. The V slot's writes of the accumulator (R191, R193, R208): the results that VACW, VACC and VACZ send to accumulator rows, and the
records of a CTOPK that they spoil.
-/

namespace Sys2Proof.Machine

/-! ### Results for accumulator rows -/

theorem addFlight_pc (c : Core) (f : Flight) : (addFlight c f).pc = c.pc := by
  unfold addFlight
  split <;> rfl

section
variable {s t : State} {p k lat : Nat}

/-- A result for a row of the accumulator joins those in flight, after others of its bundle. -/
theorem emit_acc (row : Nat) (x : Vec) (fl : Flags) (hcycle : t.cycle = s.cycle) (hpc : (t.core p).pc = (s.core p).pc) :
    emit (.core p) k (.acc row) x lat fl t = t.onCore p (fun c => addFlight c (flightTo s p k (.acc row) x lat fl)) := by
  unfold emit
  refine State.onCore_congr ?_
  rw [if_neg fun h => Dest.noConfusion h.1, flightTo, ← hcycle, ← hpc]

/-- The results of a bundle for several rows. -/
theorem foldl_emit_acc (row : Nat → Nat) (x : Nat → Vec) (l : List Nat) (hcycle : t.cycle = s.cycle)
    (hpc : (t.core p).pc = (s.core p).pc) :
    l.foldl (fun t i => emit (.core p) k (.acc (row i)) (x i) lat 0 t) t =
      l.foldl (fun t i => t.onCore p (fun c => addFlight c (flightTo s p k (.acc (row i)) (x i) lat 0))) t := by
  induction l generalizing t with
  | nil => rfl
  | cons i l ih =>
    rw [List.foldl_cons, List.foldl_cons, emit_acc _ _ _ hcycle hpc]
    exact ih hcycle (by rw [State.core_onCore_self, addFlight_pc, hpc])

theorem foldl_onCore_cycle (p : Nat) (f : Nat → Core → Core) (l : List Nat) (t : State) :
    (l.foldl (fun t i => t.onCore p (f i)) t).cycle = t.cycle :=
  List.foldlRecOn (motive := fun u : State => u.cycle = t.cycle) l _ rfl fun _ hu _ _ => hu

end

/-! ### VACW, VACC and VACZ alone in their bundle -/

/-- A row of the accumulator with the columns of the lanes that `g` turns on cleared (R193). -/
def clearedRow (g : Pred) (old : Vec) : Vec := (mapLanes 0 g old (fun _ => (0, 0))).1

/-- Clearing raises no flag. -/
theorem laned_clearedRow (g : Pred) (old : Vec) : Laned 0 g old (fun _ => (0, 0)) (clearedRow g old) 0 := by
  obtain ⟨hon, hoff, -⟩ := laned_mapLanes 0 g old (fun _ => (0, 0))
  exact ⟨hon, hoff, fun b => by simp⟩

section
variable {i : Instr} {s : State} {p k : Nat} {srcs : Core → List Dest} {cm : State → Env → State → State} (hi : Issues s p k)
  (hm : meaningOf i = { srcs := srcs, commit := cm }) (hcls : i.cls = some .vec) (hw : i.detail = none)
  (hf : Settled s p (srcs (s.core p)))
include hi hm hcls hw hf

/-- A bundle that sends rows to the accumulator spoils the records of a CTOPK that name them (R208). -/
theorem exec_spoils {rows : Nat → Bool} {t : State} (hc : cm s (soleEnv s p k 0) s = spoilTopk p rows t) (ht : t.cycle = s.cycle) :
    exec i s = .next (afterAll s p (spoilTopk p rows t)) := by
  have hp : Placed i { srcs := srcs, commit := cm } s p k :=
    ⟨hi, hm, by rw [hcls]; exact Option.some_ne_none _, hw, streamOnly_of_vec hcls, rfl, nofun, rfl, settled_append hf (settled_nil s p)⟩
  refine (hp.commits rfl rfl (Nat.zero_le 3)).trans ?_
  refine (congrArg (fun u => Host.Outcome.next (drawn s (retire p s.header .fall u))) hc).trans ?_
  rw [retire_fall_all _ _ _ ((recordsOnly_spoilTopk p rows t).1.trans ht)]

/-- A bundle that sends one row, the columns of the lanes that the guard turns on replaced (R193). -/
theorem exec_accRow {row : Nat} {g : Pred} {old : Vec} {op : Nat → Nat × Flags}
    (hc : cm s (soleEnv s p k 0) s = spoilTopk p (fun q => q == row)
      (emit (.core p) k (.acc row) (mapLanes 0 g old op).1 6 (mapLanes 0 g old op).2 s)) :
    ∃ x fl, Laned 0 g old op x fl ∧ exec i s = .next (afterAll s p (spoilTopk p (fun q => q == row)
      (s.onCore p (fun c => addFlight c (flightTo s p k (.acc row) x 6 fl))))) := by
  rw [emit_acc row _ _ rfl rfl] at hc
  exact ⟨_, _, laned_mapLanes .., exec_spoils hi hm hcls hw hf hc rfl⟩

end

/-- Settles O23: VACW and VACC send one row (`exec_accRow`), VACZ each of its rows with columns cleared (`laned_clearedRow`,
`foldl_emit_acc`); the records that name the rows are spoilt as the bundle commits (`exec_spoils`). -/
theorem accumulatorWrites : Obligations.AccumulatorWrites := by
  unfold Obligations.AccumulatorWrites
  intro s p k g d a sf r u hi hd row old v writes value
  refine ⟨fun ha => ?_, fun ha => ?_⟩
  · have hf := settled_append hd ha
    have hvalue (c : Nat) : value c = if isFloat sf.toNat then fpOf sf.toNat c
        else .fin (decide (intOf sf.toNat c < 0)) (intOf sf.toNat c).natAbs 0 := by
      simp only [value, isFloat, decide_eq_true_eq]
    refine ⟨exec_accRow hi rfl rfl rfl hf rfl, ?_⟩
    simp only [hvalue]
    exact exec_accRow hi rfl rfl rfl hf rfl
  · refine ⟨fun i => clearedRow (readP s p g) (readAcc s p ((row + i) % 8192)), fun i => laned_clearedRow ..,
      exec_spoils hi rfl rfl rfl (settled_append hd ha) ?_ (foldl_onCore_cycle ..)⟩
    rw [← foldl_emit_acc (fun i => (row + i) % 8192) _ _ rfl rfl]
    rfl

end Sys2Proof.Machine
end

section
/-!
PROOF. The obligation on the events of the Loom and of the residencies (O40; R86, R188, R202, R311, R312): what it says of a row of LMMAR
that adds nothing to its barrier, and a barrier whose word the front of a published buffer cuts in two, of which that is false.
-/

namespace Sys2Proof.Machine

/-! ### Rows written to backing (R201) -/

theorem touchKey_mem (key : Nat) (s : State) : (touchKey key s).mem = s.mem := by
  unfold touchKey
  split <;> rfl

theorem writeBacking_mem (c va : Nat) (v : Vec) (s : State) :
    (writeBacking c va v s).mem = s.mem.write (backKey s c va) 512 v.toNat := by
  unfold writeBacking
  dsimp only
  rw [State.onCtx_mem, touchKey_mem]

/-! ### A row of LMMAR that does not come to count (R188) -/

/-- The address of the back row that a row of an LMMAR lands in. -/
def lmmarBack (s : State) (j : LmmarJob) (row : Nat) : Nat := backTag (s.ctx j.ctx) j.tag (j.off + 512 * row)

/-- Row `row` of LMMAR `n` of a core may land, above a row that is still to be written. -/
structure LandsAbove (s : State) (p n row : Nat) (j : LmmarJob) : Prop where
  job     : (s.core p).lmmar[n]? = some j
  alive   : alive s j.ctx = true
  board   : (s.core p).board = []
  pubds   : (s.core p).pubds = []
  pages   : addPages s j.ctx j.bar 0 = []
  inside  : row < j.rows
  fresh   : row ∉ j.landed
  lands   : landRefused s j.ctx (BitVec.ofNat 64 (j.off + 512 * row)) (lmmarBack s j row) = none
  uncount : doneRows (row :: j.landed) j.rows 0 = doneRows j.landed j.rows 0
  below   : doneRows j.landed j.rows 0 < j.rows

section
variable {s : State} {p n row : Nat} {j : LmmarJob} (h : LandsAbove s p n row j)
include h

/-- The row is written and nothing is added to the barrier. -/
theorem LandsAbove.mem {r : Reply} (hr : r.poisoned = false) :
    ∃ v, (lmmarRow p n row r 0 s).mem = s.mem.write (backKey s j.ctx (lmmarBack s j row)) 512 v := by
  refine ⟨(loomRow j.tile j.fmt j.kofs j.len r.data 0 none row true).1.toNat, ?_⟩
  have hgo : ¬(j.rows ≤ row ∨ j.landed.contains row = true ∨ startedAt (s.core p) j.issue = false ∨ Machine.alive s j.ctx = false ∨
      addPages s j.ctx j.bar 0 ≠ []) := by
    simp [startedAt, h.alive, h.board, h.pubds, h.pages, h.inside, h.fresh]
  unfold lmmarRow
  rw [h.job]
  dsimp only
  rw [if_neg hgo, if_neg (by simp [hr])]
  split
  · next k hk => exact absurd (hk.symm.trans h.lands) (Option.some_ne_none k)
  · rw [h.uncount, if_neg h.below.ne, Nat.sub_self, rowAdds, ite_self, State.onCore_mem]
    exact writeBacking_mem ..

/-- The obligation says that the eight bytes from the key of the barrier's address on are the word that the context names there. -/
theorem LandsAbove.barrier_of_claim (hclaim : Obligations.LoomAndResidencyEvents) (hpow : s.powered = true) (hsmall : row < 2 ^ 32)
    (hbar : j.bar ≠ 0) (hlocal : isRemote j.bar = false) (hlive : rowRefused s j.ctx j.bar = none)
    (hapart : keyOf s j.ctx (vaOf j.bar / 8 * 8) + 8 ≤ backKey s j.ctx (lmmarBack s j row)) :
    s.mem.read (keyOf s j.ctx (vaOf j.bar / 8 * 8)) 8 = (memWord s j.ctx (vaOf j.bar)).toNat := by
  unfold Obligations.LoomAndResidencyEvents at hclaim
  obtain ⟨-, -, -, hcore, -⟩ := hclaim
  obtain ⟨-, -, -, -, hlmmar⟩ := hcore s p hpow
  obtain ⟨hlands, -⟩ := hlmmar j n row { data := 0, poisoned := false } 0 h.job hsmall h.alive
    (by rw [h.board]; exact List.forall_mem_nil _) (by rw [h.pubds]; exact List.forall_mem_nil _) h.pages h.inside h.fresh
  obtain ⟨t, ht, -, -, -, -, hword⟩ := hlands rfl rfl h.lands
  obtain ⟨-, hread, -⟩ := hword hbar hlocal hlive (.inl hapart)
  have hcode : (n * 2 ^ 32 + row) / 2 ^ 32 = n ∧ (n * 2 ^ 32 + row) % 2 ^ 32 = row := by omega
  rw [exec_happens (e := fun _ => true) (f := lmmarRow p ((n * 2 ^ 32 + row) / 2 ^ 32) ((n * 2 ^ 32 + row) % 2 ^ 32)
    { data := 0, poisoned := false } 0) rfl hpow rfl, hcode.1, hcode.2] at ht
  cases ht
  obtain ⟨v, hmem⟩ := h.mem (r := { data := 0, poisoned := false }) rfl
  rw [h.uncount, Nat.sub_self] at hread
  refine Eq.trans ?_ hread
  refine Memory.read_congr fun i _ hi => ?_
  show _ = (lmmarRow p n row { data := 0, poisoned := false } 0 s).mem.byte i
  rw [hmem, Memory.byte_write_out _ v (.inl (Nat.lt_of_lt_of_le hi hapart))]

end

/-! ### A buffer that begins inside the word of a barrier (R86, R311) -/

/-- Two rows of another device stream into buffer 7, which begins at 1_0004h; their barrier is the word at 1_0000h. -/
def cutStream : LmmarJob :=
  { issue := 0, bundle := 0, ctx := 0, base := 0x3000000010000, stride := 512, rows := 2, kofs := 0, len := 64, fmt := 1,
    tile := { fmt := 1, k := 64, bytes := 0 }, tag := 7, off := 0x10004, rc := 0, bar := 0x10000, landed := [], flags := 0 }

/-- A context with that buffer, its sides swapped, in a region that it may write. -/
def cutCtx : Ctx :=
  { Ctx.zero with
    state := 1, regions := [(0, regEntry 0x10000 0x10000 false false)]
    maps := [(0, [(0, mapEntryOf
      { map := 0, region := 0, place := 2, entry := 0, access := 2, cow := false, watch := false, key := 0, tag := 0 })])]
    buffers := [(7, bufEntryOf { tag := 7, published := true, front := 0x10004, back := 0x11000, size := 1024 } ||| 4)] }

/-- The stream in flight on core 0. The byte under 1_0004h, of what is the back of the buffer since the swap, is 1. -/
def cutState : State :=
  { State.reset with
    cores := [(0, { Core.zero with lmmar := [cutStream] })], ctxs := [(0, cutCtx)], mem := State.reset.mem.write 0x10004 1 1 }

/-- Row 1 of the stream may land, and row 0 is still to be written. -/
theorem cutState_landsAbove : LandsAbove cutState 0 0 1 cutStream := by
  constructor <;> decide +kernel

/-- The barrier lies below the row. The word that the context names there is 0: its upper half is in the front of the buffer, which is
at 1_1000h. The eight bytes from the key of its address on are another word. -/
theorem cutState_barrier :
    rowRefused cutState cutStream.ctx cutStream.bar = none ∧
      keyOf cutState cutStream.ctx (vaOf cutStream.bar / 8 * 8) + 8 ≤ backKey cutState cutStream.ctx (lmmarBack cutState cutStream 1) ∧
      memWord cutState cutStream.ctx (vaOf cutStream.bar) = 0 ∧
      cutState.mem.read (keyOf cutState cutStream.ctx (vaOf cutStream.bar / 8 * 8)) 8 = 2 ^ 32 := by
  decide +kernel

/-- Refutes O40, in its clause on the local barrier of an LMMAR: it takes the eight bytes from the key of the barrier's address on for the
word that the context names there. R86 lets a published buffer begin at any byte, and where it begins inside the word, the halves lie
apart: row 1 of `cutStream` adds nothing to the barrier and leaves those eight bytes at 2^32, where the word is 0. -/
theorem not_loomAndResidencyEvents : ¬ Obligations.LoomAndResidencyEvents := by
  intro hclaim
  obtain ⟨hlive, hapart, hword, hbytes⟩ := cutState_barrier
  have hread := cutState_landsAbove.barrier_of_claim hclaim rfl (by decide) (by decide) (by decide) hlive hapart
  rw [hword, hbytes] at hread
  exact absurd hread (by decide)

end Sys2Proof.Machine
end

section
/-!
PROOF. What the operations that the events of the engines are made of leave as it is (R170, R200 to R203, R328, R332): those that touch
the lines of L2 and the translations alone, those that touch no core and no byte of memory, and those that move a copy of a channel on.
-/

namespace Sys2Proof.Machine

/-! ### Lines and translations (R170, R332, R351) -/

/-- The states differ at most in the lines of L2 and in the translations that are held. -/
def OnlyCaches (s t : State) : Prop := ∃ x y z, t = { s with l2 := x, l2fill := y, ats := z }

section
variable {s t u : State}

theorem OnlyCaches.refl (s : State) : OnlyCaches s s := ⟨_, _, _, rfl⟩

theorem OnlyCaches.trans (h : OnlyCaches s t) (g : OnlyCaches t u) : OnlyCaches s u := by
  obtain ⟨_, _, _, rfl⟩ := h
  obtain ⟨_, _, _, rfl⟩ := g
  exact ⟨_, _, _, rfl⟩

theorem onlyCaches_useLine (tenant : Nat) (alloc : Bool) (line : Nat) (s : State) : OnlyCaches s (useLine tenant alloc line s) := by
  unfold useLine
  dsimp only
  split_ifs
  · exact ⟨_, _, _, rfl⟩
  · split <;> exact ⟨_, _, _, rfl⟩
  · exact .refl s

theorem onlyCaches_useRow (tenant : Nat) (alloc : Bool) (key : Nat) (s : State) : OnlyCaches s (useRow tenant alloc key s) :=
  (((onlyCaches_useLine ..).trans (onlyCaches_useLine ..)).trans (onlyCaches_useLine ..)).trans (onlyCaches_useLine ..)

theorem onlyCaches_touchKey (key : Nat) (s : State) : OnlyCaches s (touchKey key s) := by
  unfold touchKey
  split_ifs
  · exact ⟨_, _, _, rfl⟩
  · exact .refl s

theorem onlyCaches_atomLine (c va : Nat) (s : State) : OnlyCaches s (atomLine c va s) := onlyCaches_useLine ..

theorem onlyCaches_engineLine (c : Nat) (a : W64) (s : State) : OnlyCaches s (engineLine c a s) := by
  unfold engineLine
  split_ifs
  · exact .refl s
  · exact (onlyCaches_useRow ..).trans (onlyCaches_touchKey ..)

theorem OnlyCaches.mem_eq (h : OnlyCaches s t) : t.mem = s.mem := by
  obtain ⟨_, _, _, rfl⟩ := h
  rfl

theorem OnlyCaches.cores_eq (h : OnlyCaches s t) : t.cores = s.cores := by
  obtain ⟨_, _, _, rfl⟩ := h
  rfl

theorem OnlyCaches.ctxs_eq (h : OnlyCaches s t) : t.ctxs = s.ctxs := by
  obtain ⟨_, _, _, rfl⟩ := h
  rfl

theorem OnlyCaches.engineRead_eq (h : OnlyCaches s t) (p c : Nat) (a : W64) (r : Reply) : engineRead t p c a r = engineRead s p c a r := by
  obtain ⟨_, _, _, rfl⟩ := h
  rfl

theorem OnlyCaches.enginePoison_eq (h : OnlyCaches s t) (c : Nat) (a : W64) (r : Reply) : enginePoison t c a r = enginePoison s c a r := by
  obtain ⟨_, _, _, rfl⟩ := h
  rfl

end

theorem postFault_mem (r : FaultRec) (s : State) : (postFault r s).mem = s.mem := by
  unfold postFault
  split_ifs <;> rfl

theorem memError_mem (kind c va : Nat) (s : State) : (memError kind c va s).mem = s.mem := postFault_mem ..

theorem memError_cores (kind c va : Nat) (s : State) : (memError kind c va s).cores = s.cores := postFault_cores ..

theorem askRow_mem (p u c cls : Nat) (a : W64) (r : Reply) (s : State) : (askRow p u c cls a r s).mem = s.mem := by
  have hline := (onlyCaches_engineLine c a s).mem_eq
  unfold askRow
  dsimp only
  split_ifs
  · exact memError_mem ..
  · exact (memError_mem ..).trans hline
  · rfl
  · exact hline

theorem askRow_cores (p u c cls : Nat) (a : W64) (r : Reply) (s : State) : (askRow p u c cls a r s).cores = s.cores := by
  have hline := (onlyCaches_engineLine c a s).cores_eq
  unfold askRow
  dsimp only
  split_ifs
  · exact memError_cores ..
  · exact (memError_cores ..).trans hline
  · rfl
  · exact hline

/-- A row read where it lies, of no memory error, is asked for from the memory side alone. -/
theorem onlyCaches_askRow {p u c cls : Nat} {a : W64} {r : Reply} {s : State} (ha : isRemote a = false)
    (hr : isSpad a = false → r.poisoned = false) : OnlyCaches s (askRow p u c cls a r s) := by
  have hok : ¬(r.poisoned && !isSpad a && !isRemote a) = true := by
    cases hs : isSpad a with
    | true => simp
    | false => simp [hr hs]
  rw [askRow, if_neg hok, ha]
  exact onlyCaches_engineLine ..

theorem markFault_mem (c lcore ch : Nat) (row : Bool) (cls st dev : Nat) (s : State) :
    (markFault c lcore ch row cls st dev s).mem = s.mem := by
  unfold markFault
  dsimp only
  split_ifs <;> rfl

theorem markFault_cores (c lcore ch : Nat) (row : Bool) (cls st dev : Nat) (s : State) :
    (markFault c lcore ch row cls st dev s).cores = s.cores := by
  unfold markFault
  dsimp only
  split_ifs <;> rfl

/-! ### What the events of an engine leave of a core (R200) -/

/-- The registers, the scratchpad rows and the PC of a core are those of another. -/
structure Core.SameRows (c d : Core) : Prop where
  s         : d.s = c.s
  v         : d.v = c.v
  p         : d.p = c.p
  acc       : d.acc = c.acc
  pc        : d.pc = c.pc
  spad      : d.spad = c.spad
  fullEmpty : d.fullEmpty = c.fullEmpty

theorem Core.SameRows.refl (c : Core) : Core.SameRows c c := ⟨rfl, rfl, rfl, rfl, rfl, rfl, rfl⟩

theorem Core.SameRows.trans {c d e : Core} (h : Core.SameRows c d) (g : Core.SameRows d e) : Core.SameRows c e :=
  ⟨g.s.trans h.s, g.v.trans h.v, g.p.trans h.p, g.acc.trans h.acc, g.pc.trans h.pc, g.spad.trans h.spad, g.fullEmpty.trans h.fullEmpty⟩

theorem onChan_sameRows (u : Nat) (f : List Copy → List Copy) (c : Core) : Core.SameRows c (onChan u f c) :=
  ⟨rfl, rfl, rfl, rfl, rfl, rfl, rfl⟩

/-- No byte of memory has changed since `s`, nor a register, a scratchpad row or the PC of a core. -/
structure Still (s t : State) : Prop where
  mem  : t.mem = s.mem
  core : ∀ q, Core.SameRows (s.core q) (t.core q)

section
variable {r s t v : State}

theorem Still.refl (s : State) : Still s s := ⟨rfl, fun _ => .refl _⟩

theorem Still.trans (h : Still s t) (g : Still t v) : Still s v := ⟨g.mem.trans h.mem, fun q => (h.core q).trans (g.core q)⟩

theorem Still.of_cores (hm : t.mem = s.mem) (hc : t.cores = s.cores) : Still s t :=
  ⟨hm, fun q => by rw [State.core, State.core, hc]; exact .refl _⟩

theorem Still.onCore (h : Still s t) (q : Nat) {f : Core → Core} (hf : Core.SameRows (t.core q) (f (t.core q))) :
    Still s (t.onCore q f) := by
  refine ⟨h.mem, fun n => (h.core n).trans ?_⟩
  rw [State.core_onCore]
  split_ifs with hn
  · rw [hn]
    exact hf
  · exact .refl _

theorem Still.drawn (h : Still s t) : Still s (drawn r t) := ⟨h.mem, h.core⟩

end

/-! ### A copy moves on (R200 to R203) -/

/-- Nothing has moved since `s` that `Still` names, and the copies of channel `u` of core `p` are `l`. -/
structure Moved (s t : State) (p u : Nat) (l : List Copy) : Prop where
  still : Still s t
  chan  : (t.core p).chan u = l

section
variable {r s t v : State} {p u : Nat} {l : List Copy}

theorem Moved.start (h : (s.core p).chan u = l) : Moved s s p u l := ⟨.refl s, h⟩

theorem Moved.drawn (h : Moved s t p u l) : Moved s (drawn r t) p u l := ⟨h.still.drawn, h.chan⟩

theorem Moved.of_cores (h : Moved s t p u l) (hm : v.mem = t.mem) (hc : v.cores = t.cores) : Moved s v p u l :=
  ⟨h.still.trans (.of_cores hm hc), by rw [State.core, hc]; exact h.chan⟩

/-- A change of one core that leaves its channels. -/
theorem Moved.onCore (h : Moved s t p u l) (q : Nat) {f : Core → Core} (hf : Core.SameRows (t.core q) (f (t.core q)))
    (hc : (f (t.core q)).chans = (t.core q).chans) : Moved s (t.onCore q f) p u l := by
  refine ⟨h.still.onCore q hf, ?_⟩
  rw [State.core_onCore]
  split_ifs with hp
  · rw [Core.chan, hc, ← hp]
    exact h.chan
  · exact h.chan

theorem Moved.onChan (h : Moved s t p u l) (f : List Copy → List Copy) : Moved s (t.onCore p (onChan u f)) p u (f l) := by
  refine ⟨h.still.onCore p (onChan_sameRows ..), ?_⟩
  rw [State.core_onCore_self, ← h.chan]
  exact Tab.get_set_self ..

theorem Moved.onlyCaches (h : Moved s t p u l) (hv : OnlyCaches t v) : Moved s v p u l := h.of_cores hv.mem_eq hv.cores_eq

theorem Moved.askRow (h : Moved s t p u l) (n c cls : Nat) (a : W64) (r : Reply) : Moved s (askRow p n c cls a r t) p u l :=
  h.of_cores (askRow_mem ..) (askRow_cores ..)

theorem Moved.countTag (h : Moved s t p u l) (c tag n : Nat) : Moved s (countTag c tag n t) p u l := h.of_cores rfl rfl

theorem Moved.sendPacket (h : Moved s t p u l) (c ch rc : Nat) (a : W64) (k : PacketKind) :
    Moved s (sendPacket p c ch rc a k t) p u l := h.of_cores rfl rfl

theorem Moved.releaseCore (h : Moved s t p u l) (q : Nat) : Moved s (releaseCore q t) p u l :=
  h.onCore q (f := fun _ => _) ⟨rfl, rfl, rfl, rfl, rfl, rfl, rfl⟩ rfl

theorem Moved.releaseCluster (h : Moved s t p u l) (q : Nat) : Moved s (releaseCluster q t) p u l :=
  (((h.releaseCore _).releaseCore _).releaseCore _).releaseCore _

end

section
variable {s t : State} {p u : Nat} {j : Copy} {l : List Copy}

/-- The oldest copy of a channel changes. -/
theorem Moved.onCopy (h : Moved s t p u (j :: l)) (f : Copy → Copy) : Moved s (onCopy p u 0 f t) p u (f j :: l) := h.onChan _

/-- The oldest copy with a row refused with a code (R203). -/
def Copy.rowRefused (row code : Nat) (j : Copy) : Copy :=
  { j with done := row :: j.done, refused := row :: j.refused, status := j.status ||| 2 ^ code, read := Tab.erase j.read row }

/-- The oldest copy with a row landed; `put` as `rowDone` takes it. -/
def Copy.rowLanded (row : Nat) (put : Option Vec) (j : Copy) : Copy :=
  { j with
    done := row :: j.done, landed := j.landed + 1, read := Tab.erase j.read row
    put := match put with
      | none => j.put
      | some x => Tab.set j.put row x }

theorem Moved.refuseRow (h : Moved s t p u (j :: l)) (row code cls c : Nat) (a : W64) :
    Moved s (refuseRow p u 0 row code cls c a t) p u (j.rowRefused row code :: l) :=
  (h.onCopy (Copy.rowRefused row code)).of_cores (markFault_mem ..) (markFault_cores ..)

theorem Moved.rowDone (h : Moved s t p u (j :: l)) (row : Nat) (k : Copy) (put : Option Vec) :
    Moved s (rowDone p u 0 row k put t) p u (j.rowLanded row put :: l) :=
  (h.onCopy (Copy.rowLanded row put)).countTag ..

end

end Sys2Proof.Machine
end

section
/-!
PROOF. A row of a copy moves on (R200 to R208): which event of a row an ENGINE_ROW_LAND is, where its row is read and where it lands, and
what each of these events leaves.
-/

namespace Sys2Proof.Machine

/-! ### When a row of the oldest copy moves (R200, R207, R209) -/

theorem startedAt_iff (c : Core) (n : Nat) :
    startedAt c n = true ↔ (∀ a ∈ c.board, n ≤ a.issue) ∧ (∀ d ∈ c.pubds, n ≤ d.issue) := by
  simp [startedAt]

theorem Core.chan_def (c : Core) (u : Nat) : Tab.get [] c.chans u = c.chan u := rfl

theorem exec_engineRowLand {s : State} {p u row st : Nat} {r : Reply} (hpow : s.powered = true) (hu : u < 4) :
    exec (.engineRowLand p u 0 row r st) s = .next (drawn s (copyRow p u 0 row r st s)) := by
  rw [exec_happens (e := fun _ => true) (f := if u = 4 then optuBlock p row r.poisoned st else copyRow p u 0 row r st) rfl hpow rfl,
    if_neg (Nat.ne_of_lt hu)]

/-- The oldest copy of a channel is `j`, it may start, and its row `row` is not done. -/
structure RowGoes (s : State) (p u row : Nat) (j : Copy) (l : List Copy) : Prop where
  chan    : (s.core p).chan u = j :: l
  started : startedAt (s.core p) j.issue = true
  alive   : alive s j.ctx = true
  inside  : row < j.rows
  fresh   : row ∉ j.done

/-- The row is one to be read and landed: its mask is known and selects it, its index has been taken. -/
structure Copy.Ready (j : Copy) (row : Nat) : Prop where
  known    : ¬(j.masked = true ∧ j.mask = none)
  selected : j.selected row = true
  indexed  : ¬(j.indexed = true ∧ j.idx.length ≤ row)

theorem Copy.indexed_iff (j : Copy) : j.indexed = true ↔ j.kind = .cgth ∨ j.kind = .csct := by simp [Copy.indexed]

theorem Copy.selected_of_some {j : Copy} {x row : Nat} (h : j.mask = some x) : j.selected row = x.testBit row := by
  rw [Copy.selected, h, Nat.testBit_eq_decide_div_mod_eq]
  rfl

theorem Copy.selected_of_none {j : Copy} {row : Nat} (h : j.mask = none) : j.selected row = true := by rw [Copy.selected, h]

theorem Copy.ready_of {j : Copy} {row : Nat} (hplain : j.mask = none → j.masked = false)
    (hmask : ∀ x, j.mask = some x → j.kind = .ccpy ∧ x.testBit row = true)
    (hidx : j.kind = .cgth ∨ j.kind = .csct → row < j.idx.length) : j.Ready row := by
  refine ⟨fun h => ?_, ?_, fun h => Nat.not_le.mpr (hidx (j.indexed_iff.mp h.1)) h.2⟩
  · rw [hplain h.2] at h
    exact Bool.false_ne_true h.1
  · cases hm : j.mask with
    | none => exact Copy.selected_of_none hm
    | some x => rw [Copy.selected_of_some hm, (hmask x hm).2]

section
variable {s : State} {p u row st : Nat} {r : Reply} {j : Copy} {l : List Copy}

/-- A row that is done, or beyond the copy, moves nothing. -/
theorem copyRow_done (hch : (s.core p).chan u = j :: l) (h : j.rows ≤ row ∨ row ∈ j.done) : copyRow p u 0 row r st s = s := by
  unfold copyRow
  simp only [hch, List.getElem?_cons_zero]
  rw [if_pos (h.imp_right fun h => .inl (List.contains_iff_mem.mpr h))]

section
variable (h : RowGoes s p u row j l)
include h

/-- The row of the oldest copy moves: by its mask, its index, its reading or its landing. -/
theorem RowGoes.copyRow_eq : copyRow p u 0 row r st s =
    if j.masked = true ∧ j.mask = none then readMaskRow p u 0 j r st s
    else if j.selected row = false then onCopy p u 0 (fun k => { k with done := row :: k.done }) s
    else if j.indexed = true ∧ j.idx.length ≤ row then
      match (s.core p).addrQ with
      | [] => s
      | x :: q =>
        if j.idx.length = row ∧ earlierTakes (s.core p) j = false then
          let t := onCopy p u 0 (fun k => { k with idx := k.idx ++ [x] }) (s.onCore p (fun c => { c with addrQ := q }))
          if j.extent ≤ x.toNat then refuseRow p u 0 row 5 j.rc j.ctx 0 t else t
        else s
    else
      match Tab.find j.read row with
      | none => readCopyRow p u 0 row j r st s
      | some v =>
        if j.kind = .cgth ∧ (List.range row).any (fun k => !j.done.contains k) then s else landCopyRow p u 0 row j v st s := by
  have hgo : ¬(j.rows ≤ row ∨ j.done.contains row = true ∨
      (([] : List Copy).any (fun (k : Copy) => !k.begun || (k.indexed && decide (k.idx.length < k.rows)))) = true ∨
      startedAt (s.core p) j.issue = false ∨ Machine.alive s j.ctx = false) := by
    simp [h.inside, h.fresh, h.started, h.alive]
  unfold copyRow
  simp only [h.chan, List.getElem?_cons_zero, List.take_zero]
  exact if_neg hgo

theorem RowGoes.copyRow_mask (hm : j.masked = true) (hn : j.mask = none) : copyRow p u 0 row r st s = readMaskRow p u 0 j r st s := by
  rw [h.copyRow_eq, if_pos ⟨hm, hn⟩]

theorem RowGoes.copyRow_unselected {x : Nat} (hm : j.mask = some x) (hx : x.testBit row = false) :
    copyRow p u 0 row r st s = onCopy p u 0 (fun k => { k with done := row :: k.done }) s := by
  rw [h.copyRow_eq, if_neg (by simp [hm]), if_pos ((Copy.selected_of_some hm).trans hx)]

/-- A row whose index has not been taken takes it, in its turn. -/
theorem RowGoes.copyRow_index (hi : j.kind = .cgth ∨ j.kind = .csct) (hm : j.masked = false) (hn : j.mask = none)
    (hl : j.idx.length ≤ row) : copyRow p u 0 row r st s =
      match (s.core p).addrQ with
      | [] => s
      | x :: q =>
        if j.idx.length = row ∧ earlierTakes (s.core p) j = false then
          let t := onCopy p u 0 (fun k => { k with idx := k.idx ++ [x] }) (s.onCore p (fun c => { c with addrQ := q }))
          if j.extent ≤ x.toNat then refuseRow p u 0 row 5 j.rc j.ctx 0 t else t
        else s := by
  rw [h.copyRow_eq, if_neg (by simp [hm]), if_neg (by simp [Copy.selected_of_none hn]), if_pos ⟨j.indexed_iff.mpr hi, hl⟩]

theorem RowGoes.copyRow_ready (hr : j.Ready row) : copyRow p u 0 row r st s =
    match Tab.find j.read row with
    | none => readCopyRow p u 0 row j r st s
    | some v =>
      if j.kind = .cgth ∧ (List.range row).any (fun k => !j.done.contains k) then s else landCopyRow p u 0 row j v st s := by
  rw [h.copyRow_eq, if_neg hr.known, if_neg (by simp [hr.selected]), if_neg hr.indexed]

theorem RowGoes.copyRow_reads (hr : j.Ready row) (hf : Tab.find j.read row = none) :
    copyRow p u 0 row r st s = readCopyRow p u 0 row j r st s := by
  rw [h.copyRow_ready hr, hf]

/-- A row of a CGTH does not land before the rows before it are done. -/
theorem RowGoes.copyRow_waits {v : Vec} (hr : j.Ready row) (hf : Tab.find j.read row = some v) (hk : j.kind = .cgth)
    (hq : ∃ q, q < row ∧ q ∉ j.done) : copyRow p u 0 row r st s = s := by
  obtain ⟨q, hq, hd⟩ := hq
  rw [h.copyRow_ready hr, hf]
  exact if_pos ⟨hk, List.any_eq_true.mpr ⟨q, List.mem_range.mpr hq, by simpa using hd⟩⟩

theorem RowGoes.copyRow_lands {v : Vec} (hr : j.Ready row) (hf : Tab.find j.read row = some v)
    (hturn : j.kind = .cgth → ∀ q, q < row → q ∈ j.done) : copyRow p u 0 row r st s = landCopyRow p u 0 row j v st s := by
  rw [h.copyRow_ready hr, hf]
  refine if_neg fun ⟨hk, hq⟩ => ?_
  obtain ⟨q, hq, hd⟩ := List.any_eq_true.mp hq
  rw [List.contains_iff_mem.mpr (hturn hk q (List.mem_range.mp hq))] at hd
  exact Bool.false_ne_true hd

end

end

/-! ### Where a row is read and where it lands (R205 to R208) -/

theorem popCount_eq_length (x n : Nat) : popCount x n = ((List.range n).filter (fun q => x.testBit q)).length := by
  induction n with
  | zero => rfl
  | succ n ih =>
    rw [popCount, ih, List.range_succ, List.filter_append, List.length_append, List.filter_singleton, Nat.testBit_eq_decide_div_mod_eq]
    obtain h | h := Nat.mod_two_eq_zero_or_one (x / 2 ^ n) <;> rw [h] <;> rfl

/-- The rows that a mask selects before a row (R205). -/
theorem Copy.rank_of_some {j : Copy} {x : Nat} (h : j.mask = some x) (row : Nat) :
    j.rank row = ((List.range row).filter (fun q => x.testBit q)).length := by
  rw [Copy.rank, h]
  dsimp only
  rw [popCount_eq_length]
  congr 1
  refine List.filter_congr fun q hq => ?_
  rw [Nat.testBit_mod_two_pow, decide_eq_true (List.mem_range.mp hq), Bool.true_and]

theorem Copy.srcAt_eq {j : Copy} (row : Nat) :
    j.srcAt row = if j.kind = .cgth then j.src.base + BitVec.ofNat 64 (j.idx.getD row 0).toNat * j.src.st1 else j.src.rowAt row := by
  unfold Copy.srcAt
  cases hk : j.kind <;> rfl

theorem Copy.dstAt_eq {j : Copy} {row place : Nat} (hmask : ∀ x, j.mask = some x → j.kind = .ccpy) (hplace : j.rank row = place) :
    j.dstAt row = if j.kind = .csct then j.dst.base + BitVec.ofNat 64 (j.idx.getD row 0).toNat * j.dst.st1
      else if j.kind = .ctopk then j.dst.base + BitVec.ofNat 64 row * j.dst.st1 else j.dst.rowAt place := by
  unfold Copy.dstAt
  cases hk : j.kind with
  | ccpy => rw [hplace]; rfl
  | csct => rfl
  | ctopk => rfl
  | cgth =>
    have hnone : j.mask = none := Option.eq_none_iff_forall_ne_some.mpr fun x hx => by simp [hmask x hx] at hk
    rw [← hplace, Copy.rank, hnone]
    rfl

/-- A later row of a CSCT names the same table row and has landed (R207). -/
theorem overtaken_iff (j : Copy) (row : Nat) : overtaken j row = true ↔
    j.kind = .csct ∧ ∃ q, q ∈ j.done ∧ row < q ∧ q ∉ j.refused ∧ j.idx.getD q 0 = j.idx.getD row 0 := by
  simp [overtaken, and_assoc]

/-! ### A row of the mask (R205) -/

theorem testBit_gather {z : Nat} (hz : 0 < z) (f : Nat → Nat × Flags) {n i : Nat} (h : i < z * n) :
    (gather z f n).1.testBit i = (f (i / z)).1.testBit (i % z) := by
  have hd := gather_digit z f (Nat.div_lt_of_lt_mul h)
  have hbit := congrArg (Nat.testBit · (i % z)) hd
  simpa [Nat.testBit_mod_two_pow, Nat.testBit_div_two_pow, Nat.mod_lt i hz, Nat.mod_add_div] using hbit

section
variable {s : State} {p u row st : Nat} {r : Reply} {j : Copy} {l : List Copy}

/-- The copy once a row of its mask has been read: the last makes the mask known. -/
def Copy.maskRead (v : Vec) (j : Copy) : Copy :=
  let got := j.maskGot ++ [v]
  { j with
    maskGot := got
    mask := if got.length < (j.rows + 4095) / 4096 then none else some (gather 4096 (fun n => ((got.getD n 0).toNat, 0)) got.length).1 }

theorem readMaskRow_moved {a : W64} (hch : (s.core p).chan u = j :: l) (hat : j.maskAt + BitVec.ofNat 64 (512 * j.maskGot.length) = a)
    (ha : isRemote a = false) (hspad : isSpad a = true → bankGone s p j.ctx a = false)
    (hmem : isSpad a = false → r.poisoned = false ∧ poisoned s j.ctx (rowVa a) = false) :
    Moved s (readMaskRow p u 0 j r st s) p u
      (j.maskRead (if isSpad a = true then spadGet s p a else loadRow s p j.ctx (rowVa a)) :: l) := by
  have hask : OnlyCaches s (askRow p u j.ctx j.rc a r s) := onlyCaches_askRow ha fun h => (hmem h).1
  have hclean : enginePoison s j.ctx a r = false := by
    rw [enginePoison, ha]
    cases hs : isSpad a with
    | true => rfl
    | false => exact (hmem hs).2
  have hread : engineRead s p j.ctx a r = if isSpad a = true then spadGet s p a else loadRow s p j.ctx (rowVa a) := by
    rw [engineRead, ha]
    cases hs : isSpad a with
    | true => rw [hspad hs]; rfl
    | false => rfl
  unfold readMaskRow
  simp only [hat, ha, Bool.false_and, Bool.false_or, hask.enginePoison_eq, hclean, hask.engineRead_eq, hread, Bool.false_eq_true, if_false]
  exact (((Moved.start hch).onlyCaches hask).countTag ..).onCopy _

end

/-! ### A row read (R200) -/

theorem convertRow_self (f : Nat) (v : Vec) : convertRow f f v = (v, 0) := if_pos rfl

section
variable {s : State} {p u row st : Nat} {r : Reply} {j : Copy} {l : List Copy}

/-- A row of the scratchpad is read at its bank. -/
theorem readCopyRow_spad (hch : (s.core p).chan u = j :: l) (hk : j.kind ≠ .ctopk) (hfmt : j.src.fmt = j.dst.fmt)
    (ha : isSpad (j.srcAt row) = true) (hbank : bankGone s p j.ctx (j.srcAt row) = false) :
    Moved s (readCopyRow p u 0 row j r st s) p u
      ({ j with read := Tab.set j.read row (spadGet s p (j.srcAt row)), flags := j.flags ||| 0 } :: l) := by
  have hlocal : isRemote (j.srcAt row) = false := by rw [isRemote, ha]; rfl
  have hask : OnlyCaches s (askRow p u j.ctx j.rc (j.srcAt row) r s) := onlyCaches_askRow hlocal fun h => by simp [ha] at h
  have hclean : enginePoison s j.ctx (j.srcAt row) r = false := if_pos ha
  have hread : engineRead s p j.ctx (j.srcAt row) r = spadGet s p (j.srcAt row) := by rw [engineRead, if_pos ha, hbank]; rfl
  unfold readCopyRow
  rw [if_neg hk]
  dsimp only
  rw [if_neg (by simp [hlocal]), hask.enginePoison_eq, hclean, if_neg Bool.false_ne_true, hask.engineRead_eq, hread, Shape.code, hfmt,
    Shape.code, convertRow_self]
  exact (((Moved.start hch).onlyCaches hask).onCopy _).countTag ..

/-- A row that its remote target refuses to read is done, not counted, and leaves its status bit (R203). -/
theorem readCopyRow_refused (hch : (s.core p).chan u = j :: l) (hk : j.kind ≠ .ctopk) (ha : isRemote (j.srcAt row) = true)
    (hst : st % 256 ≠ 0) : Moved s (readCopyRow p u 0 row j r st s) p u (j.rowRefused row (st % 256) :: l) := by
  unfold readCopyRow
  rw [if_neg hk]
  dsimp only
  rw [if_pos ⟨ha, hst⟩]
  exact ((Moved.start hch).askRow ..).refuseRow ..

/-- The records of a row of a CTOPK are made as its row is read (R208). -/
theorem readCopyRow_topk (hch : (s.core p).chan u = j :: l) (hk : j.kind = .ctopk) :
    Moved s (readCopyRow p u 0 row j r st s) p u ({ j with read := Tab.set j.read row (topkRow (s.core p) j row) } :: l) := by
  rw [readCopyRow, if_pos hk]
  exact (Moved.start hch).onCopy _

end

/-! ### A row lands (R201, R203) -/

theorem ofNat_gather_elem (v : Vec) {z n : Nat} (h : z * n = 4096) (f : Nat → Nat × Flags) (hf : ∀ t, t < n → (f t).1 = elem v z t) :
    BitVec.ofNat 4096 (gather z f n).1 = v := by
  have hz : 0 < z := Nat.pos_of_ne_zero fun h0 => by simp [h0] at h
  refine BitVec.eq_of_getLsbD_eq fun i hi => ?_
  rw [BitVec.getLsbD_ofNat, decide_eq_true hi, Bool.true_and, testBit_gather hz f (h ▸ hi),
    hf _ (Nat.div_lt_of_lt_mul (h ▸ hi)), elem, Nat.testBit_mod_two_pow, decide_eq_true (Nat.mod_lt i hz), Bool.true_and,
    Nat.testBit_div_two_pow, Nat.mod_add_div, BitVec.getLsbD]

theorem freeRecords_of_nil (n : Nat) {j : Copy} (h : j.free = []) (row : Nat) (v : Vec) : freeRecords n j row v = v :=
  ofNat_gather_elem v (z := 512) (n := 8) rfl _ fun t _ => by simp [h]

section
variable {s : State} {p u row st : Nat} {r : Reply} {j : Copy} {l : List Copy} {v : Vec}

/-- A row that a later one has overtaken counts as landed; nothing is written (R207). -/
theorem landCopyRow_overtaken (hch : (s.core p).chan u = j :: l) (ho : overtaken j row = true)
    (hd : isRemote (j.dstAt row) = true ∨ isSpad (j.dstAt row) = true) :
    Moved s (landCopyRow p u 0 row j v st s) p u (j.rowLanded row none :: l) := by
  have hk : j.kind ≠ .ctopk := by rw [((overtaken_iff j row).mp ho).1]; decide
  unfold landCopyRow
  dsimp only
  split_ifs with hr
  · exact (Moved.start hch).rowDone ..
  · have hnone : landRefused s j.ctx (j.dstAt row) (backTag (s.ctx j.ctx) j.tag (rowVa (j.dstAt row))) = none :=
      if_pos (hd.resolve_left hr)
    rw [hnone]
    exact ((Moved.start hch).rowDone ..).releaseCluster _

/-- A row that the map refuses to let land is done, not counted, and leaves its status bit (R203). -/
theorem landCopyRow_refused (hch : (s.core p).chan u = j :: l) (hd : isRemote (j.dstAt row) = false) {q : Nat}
    (hq : landRefused s j.ctx (j.dstAt row) (backTag (s.ctx j.ctx) j.tag (rowVa (j.dstAt row))) = some q) :
    Moved s (landCopyRow p u 0 row j v st s) p u (j.rowRefused row q :: l) := by
  unfold landCopyRow
  dsimp only
  rw [if_neg (by simp [hd]), hq]
  exact (Moved.start hch).refuseRow ..

/-- A row lands at its local place: what has moved since it was written there. -/
theorem landCopyRow_lands (hch : (s.core p).chan u = j :: l) (hd : isRemote (j.dstAt row) = false) (hfree : j.kind = .ctopk → j.free = [])
    (ho : overtaken j row = false) (hq : landRefused s j.ctx (j.dstAt row) (backTag (s.ctx j.ctx) j.tag (rowVa (j.dstAt row))) = none)
    (hkeep : ((landRow p j.ctx (j.dstAt row) (backTag (s.ctx j.ctx) j.tag (rowVa (j.dstAt row))) v s).core p).chan u = (s.core p).chan u) :
    ∃ put, Moved (landRow p j.ctx (j.dstAt row) (backTag (s.ctx j.ctx) j.tag (rowVa (j.dstAt row))) v s)
      (landCopyRow p u 0 row j v st s) p u (j.rowLanded row put :: l) := by
  have hv : (if j.kind = .ctopk then freeRecords s.freeCtr j row v else v) = v := by
    split_ifs with hk
    · exact freeRecords_of_nil _ (hfree hk) row v
    · rfl
  unfold landCopyRow
  dsimp only
  rw [if_neg (by simp [hd]), hq]
  dsimp only
  rw [hv, ho]
  exact ⟨_, ((Moved.start (hkeep.trans hch)).rowDone ..).releaseCluster _⟩

end

end Sys2Proof.Machine
end

section
/-!
PROOF. Where a row of an engine lands (R201), the indices of a CGTH or CSCT (R206, R207), and the completion of a copy (R202).
-/

namespace Sys2Proof.Machine

/-! ### What a step that moves a copy leaves (R200) -/

section
variable {s t : State} (h : Still s t)
include h

theorem Still.spad (q : Nat) : (t.core q).spad = (s.core q).spad := (h.core q).spad

theorem Still.registers (q : Nat) : (t.core q).s = (s.core q).s ∧ (t.core q).v = (s.core q).v ∧ (t.core q).p = (s.core q).p ∧
    (t.core q).acc = (s.core q).acc ∧ (t.core q).pc = (s.core q).pc :=
  ⟨(h.core q).s, (h.core q).v, (h.core q).p, (h.core q).acc, (h.core q).pc⟩

end

theorem exec_engineRowLand_moved {s : State} {p u row st : Nat} {r : Reply} {l : List Copy} (hpow : s.powered = true) (hu : u < 4)
    (hm : Moved s (copyRow p u 0 row r st s) p u l) :
    ∃ t, exec (.engineRowLand p u 0 row r st) s = .next t ∧ Moved s t p u l :=
  ⟨_, exec_engineRowLand hpow hu, hm.drawn⟩

/-! ### The place of a row (R201) -/

section
variable {p c back : Nat} {a : W64} {v : Vec} {s t : State}

/-- A row has landed at its bank since `s`, every granule full. -/
structure LandedSpad (s t : State) (p : Nat) (a : W64) (v : Vec) : Prop where
  mem       : t.mem = s.mem
  registers : ∀ q, (t.core q).s = (s.core q).s ∧ (t.core q).v = (s.core q).v ∧ (t.core q).p = (s.core q).p ∧
    (t.core q).acc = (s.core q).acc ∧ (t.core q).pc = (s.core q).pc
  spad      : ∀ q m, Tab.get 0 (t.core q).spad m = if q = spadPhys p a ∧ m = spadRow a then v else Tab.get 0 (s.core q).spad m
  fullEmpty : ∀ q m, Tab.get 0 (t.core q).fullEmpty m =
    if q = spadPhys p a ∧ m = spadRow a then BitVec.allOnes 32 else Tab.get 0 (s.core q).fullEmpty m

theorem landRow_spad (ha : isSpad a = true) :
    landRow p c a back v s = s.onCore (spadPhys p a) (putRow (spadRow a) v (some (BitVec.allOnes 32))) := by
  rw [landRow, if_pos ha, spadPut_eq]

theorem landedSpad_landRow (ha : isSpad a = true) : LandedSpad s (landRow p c a back v s) p a v := by
  rw [landRow_spad ha]
  refine ⟨rfl, fun q => ?_, fun q m => ?_, fun q m => ?_⟩
  all_goals rw [State.core_onCore]
  · split_ifs with hq
    · rw [hq]
      exact ⟨rfl, rfl, rfl, rfl, rfl⟩
    · exact ⟨rfl, rfl, rfl, rfl, rfl⟩
  all_goals
    by_cases hq : q = spadPhys p a
    · rw [if_pos hq, ← hq]
      simp only [putRow, Option.elim_some, Tab.get_put, true_and]
    · simp only [hq, false_and, if_false]

theorem LandedSpad.still (h : LandedSpad s t p a v) {w : State} (hw : Still t w) : LandedSpad s w p a v := by
  refine ⟨hw.mem.trans h.mem, fun q => ?_, fun q m => ?_, fun q m => ?_⟩
  · rw [(hw.core q).s, (hw.core q).v, (hw.core q).p, (hw.core q).acc, (hw.core q).pc]
    exact h.registers q
  · rw [(hw.core q).spad, h.spad]
  · rw [(hw.core q).fullEmpty, h.fullEmpty]

/-- A row lands in backing: the memory side writes it, and no core changes. -/
theorem landRow_mem (ha : isSpad a = false) : (landRow p c a back v s).mem = s.mem.write (backKey s c back) 512 v.toNat := by
  rw [landRow, if_neg (by simp [ha]), (onlyCaches_engineLine ..).mem_eq, writeBacking_mem]

theorem writeBacking_cores (c va : Nat) (v : Vec) (s : State) : (writeBacking c va v s).cores = s.cores :=
  (onlyCaches_touchKey (backKey s c va) { s with mem := s.mem.write (backKey s c va) 512 v.toNat }).cores_eq

theorem landRow_cores (ha : isSpad a = false) : (landRow p c a back v s).cores = s.cores := by
  rw [landRow, if_neg (by simp [ha]), (onlyCaches_engineLine ..).cores_eq, writeBacking_cores]

theorem landRow_chan (u : Nat) : ((landRow p c a back v s).core p).chan u = (s.core p).chan u := by
  cases ha : isSpad a with
  | true =>
    rw [landRow_spad ha, State.core_onCore]
    split_ifs with hp
    · rw [← hp]
      rfl
    · rfl
  | false => rw [State.core, landRow_cores ha, State.core]

/-- A row of 512 bytes reads back as it was written. -/
theorem Memory.read_write_row (m : Memory) (key : Nat) (v : Vec) : (m.write key 512 v.toNat).read key 512 = v.toNat := by
  have hfits {n : Nat} (h : 8 * n = 4096) : v.toNat < 256 ^ n := by
    rw [show 256 = 2 ^ 8 from rfl, ← Nat.pow_mul, h]
    exact v.isLt
  rw [Memory.read_write, Nat.mod_eq_of_lt (hfits rfl)]

end

/-! ### The landing of a row of a copy (R201) -/

section
variable {s : State} {p u row st : Nat} {r : Reply} {j : Copy} {l : List Copy} {v : Vec}

/-- A row of a copy lands in a scratchpad. -/
theorem landCopyRow_spad (hch : (s.core p).chan u = j :: l) (hfree : j.kind = .ctopk → j.free = []) (ho : overtaken j row = false)
    (ha : isSpad (j.dstAt row) = true) :
    ∃ put, ((landCopyRow p u 0 row j v st s).core p).chan u = j.rowLanded row put :: l ∧
      LandedSpad s (landCopyRow p u 0 row j v st s) p (j.dstAt row) v := by
  obtain ⟨put, hm⟩ := landCopyRow_lands (v := v) (st := st) hch (by rw [isRemote, ha]; rfl) hfree ho (if_pos ha) (landRow_chan u)
  exact ⟨put, hm.chan, (landedSpad_landRow ha).still hm.still⟩

/-- A row of a copy lands in global memory, in the side that the front does not name. -/
theorem landCopyRow_global (hch : (s.core p).chan u = j :: l) (hfree : j.kind = .ctopk → j.free = []) (ho : overtaken j row = false)
    (ha : isSpad (j.dstAt row) = false) (hd : isRemote (j.dstAt row) = false)
    (hq : landRefused s j.ctx (j.dstAt row) (backTag (s.ctx j.ctx) j.tag (rowVa (j.dstAt row))) = none) :
    ∃ put, ((landCopyRow p u 0 row j v st s).core p).chan u = j.rowLanded row put :: l ∧
      (landCopyRow p u 0 row j v st s).mem =
        s.mem.write (backKey s j.ctx (backTag (s.ctx j.ctx) j.tag (rowVa (j.dstAt row)))) 512 v.toNat ∧
      ∀ q, Core.SameRows (s.core q) ((landCopyRow p u 0 row j v st s).core q) := by
  obtain ⟨put, hm⟩ := landCopyRow_lands (v := v) (st := st) hch hd hfree ho hq (landRow_chan u)
  refine ⟨put, hm.chan, hm.still.mem.trans (landRow_mem ha), fun q => ?_⟩
  have hsame := hm.still.core q
  rwa [State.core, landRow_cores ha] at hsame

end

/-! ### Indices (R206, R207) -/

theorem earlierTakes_iff (c : Core) (j : Copy) : earlierTakes c j = true ↔
    ∃ e ∈ c.chans, ∃ k ∈ e.2, (k.kind = .cgth ∨ k.kind = .csct) ∧ k.order < j.order ∧ k.idx.length < k.rows := by
  simp only [earlierTakes, List.any_eq_true, Bool.and_eq_true, decide_eq_true_eq, Copy.indexed_iff, and_assoc]

section
variable {s : State} {p u row st : Nat} {r : Reply} {j : Copy} {l : List Copy} (h : RowGoes s p u row j l)
  (hi : j.kind = .cgth ∨ j.kind = .csct) (hm : j.masked = false) (hn : j.mask = none) (hl : j.idx.length ≤ row)
include h hi hm hn hl

/-- No index is taken from an empty queue, out of turn, or while an earlier copy takes some. -/
theorem RowGoes.copyRow_no_index (hwait : (s.core p).addrQ = [] ∨ j.idx.length < row ∨ earlierTakes (s.core p) j = true) :
    copyRow p u 0 row r st s = s := by
  rw [h.copyRow_index hi hm hn hl]
  cases hq : (s.core p).addrQ with
  | nil => rfl
  | cons x q =>
    refine if_neg fun ⟨hlen, he⟩ => ?_
    rw [hq, hlen, he] at hwait
    simp at hwait

/-- The copy once it has taken an index that lies in the extent of its table, or beyond it. -/
def Copy.indexTaken (row : Nat) (x : W32) (j : Copy) : Copy :=
  let k := { j with idx := j.idx ++ [x] }
  if j.extent ≤ x.toNat then k.rowRefused row 5 else k

/-- The index of a row is taken from the head of the queue. -/
theorem RowGoes.copyRow_takes_index {x : W32} {q : List W32} (hq : (s.core p).addrQ = x :: q) (hlen : j.idx.length = row)
    (he : earlierTakes (s.core p) j = false) :
    Moved s (copyRow p u 0 row r st s) p u (j.indexTaken row x :: l) ∧ ((copyRow p u 0 row r st s).core p).addrQ = q := by
  rw [h.copyRow_index hi hm hn hl, hq]
  dsimp only
  rw [if_pos ⟨hlen, he⟩]
  have hq' : Moved s (s.onCore p (fun c => { c with addrQ := q })) p u (j :: l) :=
    (Moved.start h.chan).onCore p ⟨rfl, rfl, rfl, rfl, rfl, rfl, rfl⟩ rfl
  have htaken := hq'.onCopy (fun k => { k with idx := k.idx ++ [x] })
  have haddr : ((onCopy p u 0 (fun k => { k with idx := k.idx ++ [x] })
      (s.onCore p (fun c => { c with addrQ := q }))).core p).addrQ = q := by
    rw [onCopy, State.core_onCore_self, State.core_onCore_self]
    rfl
  unfold Copy.indexTaken
  dsimp only
  split_ifs
  · refine ⟨htaken.refuseRow .., ?_⟩
    rw [refuseRow, State.core, markFault_cores, ← State.core, onCopy, State.core_onCore_self]
    exact haddr
  · exact ⟨htaken, haddr⟩

end

/-! ### The completion of a copy (R202) -/

section
variable {s : State} {p u st : Nat} {j : Copy} {l : List Copy}

theorem exec_engineComplete {s : State} {p u st : Nat} (hpow : s.powered = true) (hu : u < 4) :
    exec (.engineComplete p u 0 st) s = .next (drawn s (completeCopy p u 0 st s)) := by
  rw [exec_happens (e := fun _ => true) (f := if u = 4 then completeOptu p st else completeCopy p u 0 st) rfl hpow rfl,
    if_neg (Nat.ne_of_lt hu)]

/-- Every row of the copy is done without a status bit, no packet of its is unanswered, and it has no packed count to add. -/
structure Copy.Whole (j : Copy) (s : State) (p u : Nat) : Prop where
  alive  : alive s j.ctx = true
  told   : j.told = 0
  masked : j.masked = false
  done   : j.done.length = j.rows
  status : j.status = 0
  flow   : j.remote = true → flowOpen s j.ctx (lcoreAt s p j.ctx) u = false

/-- The flags of the copy land, its bytes are added, and it leaves its channel. -/
theorem completeCopy_whole (hch : (s.core p).chan u = j :: l) (h : j.Whole s p u) (hbar : isRemote j.bar = false)
    (hpages : addPages s j.ctx j.bar 0 = []) :
    completeCopy p u 0 st s = dropCopy p u 0 (copyLast p u j st (copyFlags p j s)) := by
  have hpacked : j.packed = none := if_neg (by simp [h.masked])
  have hadds : earlyAdds j.bar j.status j.packed = [] := by simp [earlyAdds, h.status, hpacked]
  have hflow : (j.remote && flowOpen s j.ctx (lcoreAt s p j.ctx) u) = false := by
    cases hr : j.remote with
    | true => exact h.flow hr
    | false => rfl
  have hdone : copyDone s p u j = true := by
    simp [copyDone, h.alive, h.status, hpages, h.done, h.masked, hflow]
  have hearly (t : State) : copyEarly p u j st t = t := by
    rw [copyEarly, hadds, hpacked, h.status]
    simp [markAdds, addRefused, completeEarly]
  unfold completeCopy
  rw [hch]
  dsimp only [List.getElem?_cons_zero]
  rw [if_pos hdone, hadds, h.told]
  simp only [addStep, hbar, hearly, Bool.false_and, Bool.false_eq_true, if_false, OfNat.zero_ne_ofNat, zero_ne_one]

theorem Moved.copyFlags (hch : (s.core p).chan u = l) (j : Copy) : Moved s (copyFlags p j s) p u l :=
  (Moved.start hch).onCore p ⟨rfl, rfl, rfl, rfl, rfl, rfl, rfl⟩ rfl

theorem Moved.dropCopy {t : State} (hm : Moved s t p u (j :: l)) : Moved s (dropCopy p u 0 t) p u l :=
  (hm.onChan (fun l => listDrop l 0)).releaseCluster _

/-- A copy without a barrier leaves its channel. -/
theorem completeCopy_no_barrier (hch : (s.core p).chan u = j :: l) (h : j.Whole s p u) (hbar : j.bar = 0) :
    Moved s (completeCopy p u 0 st s) p u l := by
  rw [completeCopy_whole hch h (by rw [hbar]; rfl) (by rw [addPages, hbar]; rfl), copyLast, if_pos hbar, completeLast, if_pos hbar]
  exact (Moved.copyFlags hch j).dropCopy

/-- A copy with a local barrier adds its bytes there, and leaves its channel. -/
theorem completeCopy_barrier (hch : (s.core p).chan u = j :: l) (h : j.Whole s p u) (hbar : j.bar ≠ 0) (hlocal : isRemote j.bar = false)
    (hlive : rowRefused s j.ctx j.bar = none) (hpage : hostPage s j.ctx (vaOf j.bar) = []) :
    ∃ t, Moved t (completeCopy p u 0 st s) p u l ∧ t.mem = s.mem.write (keyOf s j.ctx (vaOf j.bar / 8 * 8)) 8
        (barrierNew (memWord s j.ctx (vaOf j.bar)) (512 * j.landed % 2 ^ 40)).toNat ∧
      ∀ q, Core.SameRows (s.core q) (t.core q) := by
  have hpages : addPages s j.ctx j.bar 0 = [] := by rw [addPages, hpage]; simp
  have hmark : markAdds p u j st [(4, j.bar)] (copyFlags p j s) = copyFlags p j s := by
    have hcode : addCode (copyFlags p j s) j.ctx st (4, j.bar) = 0 := by
      rw [addCode, if_neg (by simp [hlocal])]
      exact congrArg (Option.getD · 0) hlive
    simp [markAdds, addRefused, hcode]
  rw [completeCopy_whole hch h hlocal hpages, copyLast, if_neg hbar, hmark, completeLast, if_neg hbar, engineAdd, if_neg (by simp [hlocal]),
    if_neg (by rw [show Machine.rowRefused (copyFlags p j s) j.ctx j.bar = none from hlive]; simp)]
  set t := atomLine j.ctx (vaOf j.bar) (atomAct j.ctx .bara (vaOf j.bar) (BitVec.ofNat 64 (512 * j.landed)) 0 false [] (copyFlags p j s))
    with ht
  have hcores : t.cores = (copyFlags p j s).cores := by
    rw [ht, (onlyCaches_atomLine ..).cores_eq, atomAct, if_neg (by decide)]
    rfl
  have hflags := Moved.copyFlags hch j
  refine ⟨t, (Moved.start (l := j :: l) ?_).dropCopy, ?_, fun q => ?_⟩
  · rw [State.core, hcores]
    exact hflags.chan
  · rw [ht, (onlyCaches_atomLine ..).mem_eq, atomAct_mem (by decide)]
    have hamount : fld (BitVec.ofNat 64 (512 * j.landed)) 0 40 = 512 * j.landed % 2 ^ 40 := by
      simp only [fld, BitVec.toNat_ofNat]
      omega
    rw [atomNew, hamount]
    rfl
  · rw [State.core, State.core, hcores]
    exact hflags.still.core q

end

end Sys2Proof.Machine
end

section
/-!
PROOF. The records of a CTOPK (R208): the order of the F32 ranks is a linear one, the columns of a row are placed by it, and the eight
pairs of a record are the best columns, then filler.
-/

namespace Sys2Proof.Machine

/-! ### The rank of a value (R208) -/

/-- The place of a value among the ranks: NaN, −∞, the finite values, +∞. -/
def Fp.rank : Fp → ℕ ×ₗ ℚ
  | .nan _ => toLex (0, 0)
  | .inf true => toLex (1, 0)
  | .fin a m e => toLex (2, signed a m * 2 ^ e)
  | .inf false => toLex (3, 0)

theorem signed_scaled (a : Bool) (m : Nat) {e lo : Int} (h : lo ≤ e) :
    ((signed a (m * 2 ^ (e - lo).toNat) : Int) : ℚ) * 2 ^ lo = signed a m * 2 ^ e := by
  have hpow : (2 : ℚ) ^ (e - lo).toNat * 2 ^ lo = 2 ^ e := by
    rw [← zpow_natCast, Int.toNat_of_nonneg (Int.sub_nonneg.mpr h), ← zpow_add₀ two_ne_zero, sub_add_cancel]
  have hsigned : ((signed a (m * 2 ^ (e - lo).toNat) : Int) : ℚ) = signed a m * 2 ^ (e - lo).toNat := by
    cases a <;> simp [signed]
  rw [hsigned, mul_assoc, hpow]

theorem fpCmp_pos_fin (a b : Bool) (m k : Nat) (e g : Int) :
    0 < fpCmp (.fin a m e) (.fin b k g) ↔ (signed b k * 2 ^ g : ℚ) < signed a m * 2 ^ e := by
  have hcmp : 0 < fpCmp (.fin a m e) (.fin b k g) ↔
      signed b (k * 2 ^ (g - min e g).toNat) < signed a (m * 2 ^ (e - min e g).toNat) := by
    simp only [fpCmp]
    split_ifs <;> omega
  rw [hcmp, ← signed_scaled a m (min_le_left e g), ← signed_scaled b k (min_le_right e g),
    mul_lt_mul_iff_left₀ (zpow_pos two_pos _), Int.cast_lt]

/-- A value ranks above another, every NaN below −∞, when its place is the greater. -/
theorem rank_lt_iff (x y : Fp) : y.rank < x.rank ↔ isNan x = false ∧ (isNan y = true ∨ 0 < fpCmp x y) := by
  rcases x with _ | (_ | _) | _ <;> rcases y with _ | (_ | _) | _
  case fin.fin => simp [Fp.rank, Prod.Lex.toLex_lt_toLex, isNan, fpCmp_pos_fin]
  all_goals simp [Fp.rank, Prod.Lex.toLex_lt_toLex, isNan, fpCmp]

theorem ranksAbove_iff (x y : Nat) : ranksAbove x y = true ↔ (fpOf 0 y).rank < (fpOf 0 x).rank := by
  rw [rank_lt_iff, ranksAbove]
  cases isNan (fpOf 0 x) <;> cases isNan (fpOf 0 y) <;> simp

/-! ### The columns of a row, best first -/

/-- Column `a` stands before column `b`: no value above its own comes behind it, and of equal ranks the lower column is first. -/
def Outranks (v : Nat → Nat) (a b : Nat) : Prop :=
  ¬ranksAbove (v b) (v a) = true ∧ (¬ranksAbove (v a) (v b) = true → a < b)

section
variable {v : Nat → Nat}

theorem outranks_of_above {a b : Nat} (h : ranksAbove (v a) (v b) = true) : Outranks v a b := by
  rw [ranksAbove_iff] at h
  refine ⟨?_, fun hn => absurd ((ranksAbove_iff ..).mpr h) hn⟩
  rw [ranksAbove_iff]
  exact h.asymm

theorem above_of_outranks {a b d : Nat} (h : ranksAbove (v a) (v b) = true) (g : Outranks v b d) : ranksAbove (v a) (v d) = true := by
  have hle := g.1
  rw [ranksAbove_iff, not_lt] at hle
  rw [ranksAbove_iff] at h ⊢
  exact hle.trans_lt h

theorem placeColumn_perm (n : Nat) (l : List Nat) : (placeColumn v n l).Perm (n :: l) := by
  induction l with
  | nil => rfl
  | cons m r ih =>
    rw [placeColumn]
    split_ifs
    · rfl
    · exact (ih.cons m).trans (.swap n m r)

/-- A column placed behind every column that ranks at least as high keeps the order, if it is a later one. -/
theorem placeColumn_pairwise {n : Nat} {l : List Nat} (hl : l.Pairwise (Outranks v)) (hn : ∀ m ∈ l, m < n) :
    (placeColumn v n l).Pairwise (Outranks v) := by
  induction l with
  | nil => exact List.pairwise_singleton ..
  | cons m r ih =>
    obtain ⟨hm, hr⟩ := List.pairwise_cons.mp hl
    rw [placeColumn]
    split_ifs with ha
    · refine List.pairwise_cons.mpr ⟨fun d hd => ?_, hl⟩
      rcases List.mem_cons.mp hd with rfl | hd
      · exact outranks_of_above ha
      · exact outranks_of_above (above_of_outranks ha (hm d hd))
    · refine List.pairwise_cons.mpr ⟨fun d hd => ?_, ih hr fun k hk => hn k (List.mem_cons_of_mem m hk)⟩
      rcases List.mem_cons.mp ((placeColumn_perm n r).mem_iff.mp hd) with rfl | hd
      · exact ⟨ha, fun _ => hn m List.mem_cons_self⟩
      · exact hm d hd

theorem rankColumns_succ (c : Nat) : rankColumns v (c + 1) = placeColumn v c (rankColumns v c) := by
  rw [rankColumns, List.range_succ, List.foldl_append]
  rfl

theorem rankColumns_perm (c : Nat) : (rankColumns v c).Perm (List.range c) := by
  induction c with
  | zero => rfl
  | succ c ih =>
    rw [rankColumns_succ, List.range_succ]
    exact (placeColumn_perm c _).trans ((ih.cons c).trans (List.perm_append_singleton c _).symm)

theorem mem_rankColumns {c n : Nat} : n ∈ rankColumns v c ↔ n < c := (rankColumns_perm c).mem_iff.trans List.mem_range

theorem rankColumns_pairwise (c : Nat) : (rankColumns v c).Pairwise (Outranks v) := by
  induction c with
  | zero => exact List.Pairwise.nil
  | succ c ih =>
    rw [rankColumns_succ]
    exact placeColumn_pairwise ih fun m hm => mem_rankColumns.mp hm

/-- The best columns of a row. -/
def bestColumns (v : Nat → Nat) (c k : Nat) : List Nat := (rankColumns v c).take k

theorem bestColumns_length (c k : Nat) : (bestColumns v c k).length = min k c := by
  rw [bestColumns, List.length_take, (rankColumns_perm c).length_eq, List.length_range]

theorem bestColumns_nodup (c k : Nat) : (bestColumns v c k).Nodup :=
  ((rankColumns_perm c).nodup_iff.mpr List.nodup_range).sublist (List.take_sublist ..)

theorem bestColumns_lt {c k n : Nat} (h : n ∈ bestColumns v c k) : n < c := mem_rankColumns.mp (List.mem_of_mem_take h)

/-- A best column stands before every column that is none of those up to it. -/
theorem bestColumns_outrank {c k i n : Nat} (hi : i < (bestColumns v c k).length) (hn : n < c)
    (hout : n ∉ (bestColumns v c k).take (i + 1)) : Outranks v ((bestColumns v c k).getD i 0) n := by
  have hk : i + 1 ≤ k := by rw [bestColumns_length] at hi; omega
  have hall : i < (rankColumns v c).length := hi.trans_le (List.length_take_le' ..)
  have hget : (bestColumns v c k).getD i 0 = (rankColumns v c)[i] := by
    rw [List.getD_eq_getElem _ _ hi]
    exact List.getElem_take
  rw [bestColumns, List.take_take, Nat.min_eq_left hk] at hout
  have hmem : n ∈ (rankColumns v c).take (i + 1) ++ (rankColumns v c).drop (i + 1) := by
    rw [List.take_append_drop]
    exact mem_rankColumns.mpr hn
  have hdrop := (List.mem_append.mp hmem).resolve_left hout
  have hpair := rankColumns_pairwise (v := v) c
  rw [← List.take_append_drop i (rankColumns v c), List.drop_eq_getElem_cons hall] at hpair
  rw [hget]
  exact (List.pairwise_cons.mp (List.pairwise_append.mp hpair).2.1).1 n hdrop

end

/-! ### The pairs of a record -/

theorem digit_of_digit (x b : Nat) {a z w : Nat} (h : a + z ≤ w) : x / 2 ^ (b + a) % 2 ^ z = x / 2 ^ b % 2 ^ w / 2 ^ a % 2 ^ z := by
  refine Nat.eq_of_testBit_eq fun i => ?_
  simp only [Nat.testBit_mod_two_pow, Nat.testBit_div_two_pow]
  by_cases hi : i < z
  · rw [decide_eq_true (show i + a < w by omega), Bool.true_and, Nat.add_assoc, Nat.add_comm a]
  · simp [hi]

/-- Pair `i` of record `m` of eight records of 64 bytes. -/
theorem elem_records (f : Nat → Nat → Nat × Flags) {m i : Nat} (hm : m < 8) (hi : i < 8) :
    elem (BitVec.ofNat 4096 (gather 512 (fun t => ((gather 64 (f t) 8).1, 0)) 8).1) 64 (8 * m + i) = (f m i).1 % 2 ^ 64 := by
  have hsize : (gather 512 (fun t => ((gather 64 (f t) 8).1, (0 : Flags))) 8).1 < 2 ^ 4096 :=
    (gather_lt 512 _ 8).trans_eq (congrArg (2 ^ ·) (by norm_num))
  rw [elem, toNat_ofNat_of_lt hsize, show 64 * (8 * m + i) = 512 * m + 64 * i by ring,
    digit_of_digit _ _ (show 64 * i + 64 ≤ 512 by omega), gather_digit 512 _ hm, Nat.mod_eq_of_lt (gather_lt 64 _ 8),
    gather_digit 64 _ hi]

/-- Pair `i` of the record of row `m` of a CTOPK. -/
def topkPair (c : Core) (j : Copy) (m i : Nat) : Nat :=
  let v := elem (c.accRow (j.off.toNat + m)) 32
  if m < j.dst.outer then
    match (bestColumns v j.dst.inner j.best)[i]? with
    | some n => v n + (j.base + BitVec.ofNat 32 n).toNat * 2 ^ 32
    | none => fillerPair
  else fillerPair

theorem topkPair_lt (c : Core) (j : Copy) (m i : Nat) : topkPair c j m i < 2 ^ 64 := by
  unfold topkPair
  dsimp only
  split_ifs
  · split
    · rename_i n _
      have hv := elem_lt (c.accRow (j.off.toNat + m)) 32 n
      have hn := (j.base + BitVec.ofNat 32 n).isLt
      omega
    · decide
  · decide

theorem topkRow_eq (c : Core) (j : Copy) (e : Nat) :
    topkRow c j e = BitVec.ofNat 4096 (gather 512 (fun t => ((gather 64 (fun i => (topkPair c j (8 * e + t) i, 0)) 8).1, 0)) 8).1 := by
  have hrecord (m : Nat) : (if m < j.dst.outer then topkRecord (c.accRow (j.off.toNat + m)) j.dst.inner j.best j.base
      else (gather 64 (fun _ => (fillerPair, 0)) 8).1) = (gather 64 (fun i => (topkPair c j m i, 0)) 8).1 := by
    unfold topkPair
    split_ifs <;> rfl
  rw [topkRow]
  simp only [hrecord]

theorem elem_topkRow (c : Core) (j : Copy) (e : Nat) {m i : Nat} (hm : m < 8) (hi : i < 8) :
    elem (topkRow c j e) 64 (8 * m + i) = topkPair c j (8 * e + m) i := by
  rw [topkRow_eq, elem_records (fun t i => (topkPair c j (8 * e + t) i, 0)) hm hi, Nat.mod_eq_of_lt (topkPair_lt ..)]

section
variable (c : Core) (j : Copy) {m i : Nat}

theorem topkPair_beyond (h : j.dst.outer ≤ m) : topkPair c j m i = fillerPair := if_neg (Nat.not_lt.mpr h)

theorem topkPair_best (h : m < j.dst.outer) (hi : i < (bestColumns (elem (c.accRow (j.off.toNat + m)) 32) j.dst.inner j.best).length) :
    let n := (bestColumns (elem (c.accRow (j.off.toNat + m)) 32) j.dst.inner j.best).getD i 0
    topkPair c j m i = elem (c.accRow (j.off.toNat + m)) 32 n + (j.base + BitVec.ofNat 32 n).toNat * 2 ^ 32 := by
  dsimp only
  rw [topkPair, if_pos h, List.getElem?_eq_getElem hi, List.getD_eq_getElem _ _ hi]

theorem topkPair_filler (h : m < j.dst.outer) (hi : (bestColumns (elem (c.accRow (j.off.toNat + m)) 32) j.dst.inner j.best).length ≤ i) :
    topkPair c j m i = fillerPair := by
  rw [topkPair, if_pos h, List.getElem?_eq_none hi]

end

end Sys2Proof.Machine
end

section
/-!
PROOF. The exact arithmetic of OPTU (R212): the sum of finite values, the quotient and the square root, which a last bit below the bits
kept makes comparable with every value of those bits.
-/

namespace Sys2Proof.Machine

/-! ### Magnitudes over a common unit -/

section
variable {m k : Nat} {e q lo : Int} (he : lo ≤ e) (hq : lo ≤ q)
include he hq

theorem scale_common (n : Nat) {x : Int} (hx : min e q ≤ x) :
    n * 2 ^ (x - lo).toNat = n * 2 ^ (x - min e q).toNat * 2 ^ (min e q - lo).toNat := by
  rw [Nat.mul_assoc, ← Nat.pow_add, show (x - lo).toNat = (x - min e q).toNat + (min e q - lo).toNat by omega]

theorem magLt_common : MagLt m e k q ↔ m * 2 ^ (e - lo).toNat < k * 2 ^ (q - lo).toNat := by
  rw [scale_common he hq m (min_le_left e q), scale_common he hq k (min_le_right e q), Nat.mul_lt_mul_right (Nat.two_pow_pos _)]

theorem magEq_common : MagEq m e k q ↔ m * 2 ^ (e - lo).toNat = k * 2 ^ (q - lo).toNat := by
  rw [scale_common he hq m (min_le_left e q), scale_common he hq k (min_le_right e q), Nat.mul_left_inj (Nat.two_pow_pos _).ne']

end

/-! ### A value with a bit that says the rest is not zero -/

/-- The magnitude of `stickyFin`. -/
def stickyMag (n : Nat) (rest : Bool) : Nat := 2 * n + if rest then 1 else 0

theorem stickyFin_eq (a : Bool) (n : Nat) (e : Int) (rest : Bool) : stickyFin a n e rest = .fin a (stickyMag n rest) (e - 1) := rfl

section
variable {n c : Nat} {rest : Bool} {e q : Int} (h : e ≤ q)
include h

theorem double_unit : c * 2 ^ (q - (e - 1)).toNat = 2 * (c * 2 ^ (q - e).toNat) := by
  rw [show (q - (e - 1)).toNat = (q - e).toNat + 1 by omega, Nat.pow_succ]
  ring

theorem magLt_stickyMag : MagLt (stickyMag n rest) (e - 1) c q ↔ n < c * 2 ^ (q - e).toNat := by
  rw [magLt_common (le_refl (e - 1)) (by omega), double_unit h, Int.sub_self, stickyMag]
  simp only [Int.toNat_zero, Nat.pow_zero, Nat.mul_one]
  split_ifs <;> omega

theorem magEq_stickyMag : MagEq (stickyMag n rest) (e - 1) c q ↔ n = c * 2 ^ (q - e).toNat ∧ rest = false := by
  rw [magEq_common (le_refl (e - 1)) (by omega), double_unit h, Int.sub_self, stickyMag]
  cases rest <;> simp
  omega

end

/-! ### The quotient -/

theorem fpDiv_fin {a b : Bool} {m k : Nat} {e g : Int} (hk : k ≠ 0) :
    fpDiv (.fin a m e) (.fin b k g) =
      (stickyFin (a != b) (m * 2 ^ (Nat.log2 k + 65) / k) (e - g - (Nat.log2 k + 65)) (m * 2 ^ (Nat.log2 k + 65) % k != 0), 0) := by
  simp only [fpDiv, bitLen, if_neg hk]
  push_cast
  rw [add_assoc, add_assoc]
  rfl

theorem fpDiv_exact (a b : Bool) (m : Nat) {k : Nat} (e g : Int) (hk : k ≠ 0) :
    ∃ n x, fpDiv (.fin a m e) (.fin b k g) = (.fin (a != b) n x, 0) ∧ ∀ c q, e - g - ((Nat.log2 k : Int) + 65) ≤ q →
      (MagLt n x c q ↔ MagLt m e (c * k) (q + g)) ∧ (MagEq n x c q ↔ MagEq m e (c * k) (q + g)) := by
  have hpos : 0 < k := Nat.pos_of_ne_zero hk
  refine ⟨_, _, by rw [fpDiv_fin hk, stickyFin_eq], fun c q hq => ?_⟩
  set w := Nat.log2 k + 65 with hw
  have hunit : (e - (e - w)).toNat = w := by omega
  have hrest : (q + g - (e - w)).toNat = (q - (e - g - (Nat.log2 k + 65))).toNat := by omega
  rw [magLt_stickyMag hq, magEq_stickyMag hq, magLt_common (lo := e - w) (by omega) (by omega),
    magEq_common (lo := e - w) (by omega) (by omega), hunit, hrest, Nat.div_lt_iff_lt_mul hpos, bne_eq_false_iff_eq]
  generalize 2 ^ (q - (e - g - (Nat.log2 k + 65))).toNat = y
  generalize m * 2 ^ w = z
  rw [show c * k * y = c * y * k by ring]
  refine ⟨.rfl, fun ⟨hd, hm⟩ => ?_, fun hz => ?_⟩
  · rw [← hd, Nat.div_mul_cancel (Nat.dvd_of_mod_eq_zero hm)]
  · rw [hz]
    exact ⟨Nat.mul_div_cancel _ hpos, Nat.mul_mod_left _ _⟩

/-! ### The square root -/

theorem isqrtFrom_spec (n x r : Nat) (hle : r * r ≤ x) (hlt : x < (r + 2 ^ n) * (r + 2 ^ n)) : isqrtFrom n x r = Nat.sqrt x := by
  induction n generalizing r with
  | zero => exact Nat.eq_sqrt.mpr ⟨hle, hlt⟩
  | succ n ih =>
    rw [isqrtFrom]
    split_ifs with h
    · refine ih _ h ?_
      rwa [Nat.add_assoc, ← Nat.two_mul, ← Nat.pow_succ']
    · exact ih _ hle (Nat.not_le.mp h)

theorem isqrt_eq (x : Nat) : isqrt x = Nat.sqrt x := by
  refine isqrtFrom_spec _ x 0 (Nat.zero_le x) ?_
  have hlen : x < 2 ^ bitLen x := by
    rw [bitLen]
    split_ifs with hx
    · rw [hx]
      exact Nat.one_pos
    · exact Nat.lt_log2_self
  rw [Nat.zero_add, ← Nat.pow_add]
  exact hlen.trans_le (Nat.pow_le_pow_right two_pos (by omega))

/-- The unit of a root: half the exponent of the value, made even, once 128 bits are put behind it. -/
def rootUnit (e : Int) : Int := (e - 128) / 2

/-- The value whose root is taken, in units of `2 ^ (2 * rootUnit e)`. -/
def radicand (m : Nat) (e : Int) : Nat := m * 2 ^ (e - 2 * rootUnit e).toNat

theorem fpSqrt_fin {m : Nat} (e : Int) (hm : m ≠ 0) : fpSqrt (.fin false m e) =
    (stickyFin false (Nat.sqrt (radicand m e)) (rootUnit e) (Nat.sqrt (radicand m e) * Nat.sqrt (radicand m e) != radicand m e), 0) := by
  have hrad : (if (e % 2 != 0) = true then 2 * m else m) * 2 ^ 128 = radicand m e := by
    rw [radicand, rootUnit]
    rcases Int.emod_two_eq_zero_or_one e with he | he
    · rw [he, show (e - 2 * ((e - 128) / 2)).toNat = 128 by omega]
      rfl
    · rw [he, show (e - 2 * ((e - 128) / 2)).toNat = 129 by omega]
      exact (Nat.mul_right_comm ..).trans (by ring)
  have hunit : ((if (e % 2 != 0) = true then e - 1 else e) - 128) / 2 = rootUnit e := by
    rw [rootUnit]
    rcases Int.emod_two_eq_zero_or_one e with he | he
    · simp [he]
    · simp [he]
      omega
  simp only [fpSqrt, if_neg hm, Bool.false_eq_true, if_false, hrad, hunit, isqrt_eq]

theorem fpSqrt_exact {m : Nat} (e : Int) (hm : m ≠ 0) :
    ∃ n x, fpSqrt (.fin false m e) = (.fin false n x, 0) ∧ ∀ c q, (e - 128) / 2 ≤ q →
      (MagLt n x c q ↔ MagLt m e (c * c) (2 * q)) ∧ (MagEq n x c q ↔ MagEq m e (c * c) (2 * q)) := by
  refine ⟨_, _, by rw [fpSqrt_fin e hm, stickyFin_eq], fun c q hq => ?_⟩
  change rootUnit e ≤ q at hq
  have he : 2 * rootUnit e ≤ e := by unfold rootUnit; omega
  have hsquare : c * c * 2 ^ (2 * q - 2 * rootUnit e).toNat = c * 2 ^ (q - rootUnit e).toNat * (c * 2 ^ (q - rootUnit e).toNat) := by
    rw [show (2 * q - 2 * rootUnit e).toNat = (q - rootUnit e).toNat + (q - rootUnit e).toNat by omega, Nat.pow_add]
    ring
  rw [magLt_stickyMag hq, magEq_stickyMag hq, magLt_common he (by omega), magEq_common he (by omega), hsquare, ← radicand, Nat.sqrt_lt,
    bne_eq_false_iff_eq]
  generalize c * 2 ^ (q - rootUnit e).toNat = y
  refine ⟨.rfl, fun ⟨hy, hz⟩ => ?_, fun hz => ?_⟩
  · rw [← hy, hz]
  · rw [hz, Nat.sqrt_eq]
    exact ⟨rfl, rfl⟩

/-! ### The exact sum -/

theorem signed_natAbs (t : Int) : signed (decide (t < 0)) t.natAbs = t := by
  unfold signed
  split_ifs with h <;> rw [decide_eq_true_eq] at h <;> omega

theorem fpAdd_exact (rm : Nat) (a b : Bool) (m k : Nat) (e g : Int) :
    ∃ n x, fpAdd rm (.fin a m e) (.fin b k g) = (.fin n x (min e g), 0) ∧
      signed n x = signed a (m * 2 ^ (e - min e g).toNat) + signed b (k * 2 ^ (g - min e g).toNat) := by
  simp only [fpAdd]
  split_ifs with h
  · exact ⟨_, _, rfl, by rw [h]; simp [signed]⟩
  · exact ⟨_, _, rfl, by rw [h]; simp [signed]⟩
  · exact ⟨_, _, rfl, signed_natAbs _⟩

end Sys2Proof.Machine
end

section
/-!
PROOF. The blocks of OPTU and the pairs of PSTW (R212, R213): what the rows that an engine writes leave of the maps and the buffers, a block
of OPTU row by row, its completion, and a pair of rows that lands in the sides that the fronts do not name.
-/

namespace Sys2Proof.Machine

/-! ### Maps and buffers stay while rows land (R201, R274) -/

/-- The contexts differ at most in the bytes counted under their tags and in the progress of a transition. -/
def Ctx.Counted (x y : Ctx) : Prop := ∃ b r, y = { x with bufBytes := b, tr := r }

theorem Ctx.Counted.refl (x : Ctx) : Ctx.Counted x x := ⟨_, _, rfl⟩

theorem Ctx.Counted.trans {x y z : Ctx} (h : Ctx.Counted x y) (g : Ctx.Counted y z) : Ctx.Counted x z := by
  obtain ⟨_, _, rfl⟩ := h
  obtain ⟨_, _, rfl⟩ := g
  exact ⟨_, _, rfl⟩

/-- The maps, the regions and the buffers of every context are those of another state. -/
structure SameMaps (s t : State) : Prop where
  ctx : ∀ c, Ctx.Counted (s.ctx c) (t.ctx c)

section
variable {s t u : State}

theorem SameMaps.refl (s : State) : SameMaps s s := ⟨fun _ => .refl _⟩

theorem SameMaps.trans (h : SameMaps s t) (g : SameMaps t u) : SameMaps s u := ⟨fun c => (h.ctx c).trans (g.ctx c)⟩

theorem SameMaps.of_ctxs (h : t.ctxs = s.ctxs) : SameMaps s t :=
  ⟨fun c => by rw [State.ctx, State.ctx, h]; exact .refl _⟩

theorem sameMaps_onCtx (c : Nat) {f : Ctx → Ctx} (hf : Ctx.Counted (s.ctx c) (f (s.ctx c))) : SameMaps s (s.onCtx c f) := by
  refine ⟨fun d => ?_⟩
  by_cases hd : d = c
  · rw [hd, State.ctx_onCtx_self]
    exact hf
  · rw [State.ctx_onCtx_ne _ _ _ hd]
    exact .refl _

theorem sameMaps_countTag (c tag n : Nat) (s : State) : SameMaps s (countTag c tag n s) := by
  unfold countTag
  exact sameMaps_onCtx c ⟨_, _, rfl⟩

theorem sameMaps_writeBacking (c va : Nat) (v : Vec) (s : State) : SameMaps s (writeBacking c va v s) := by
  have hbytes : SameMaps s { s with mem := s.mem.write (backKey s c va) 512 v.toNat } := .of_ctxs rfl
  have htouch := hbytes.trans (.of_ctxs (onlyCaches_touchKey (backKey s c va) _).ctxs_eq)
  unfold writeBacking
  refine htouch.trans (sameMaps_onCtx c ?_)
  unfold markChunk
  exact ⟨_, _, rfl⟩

theorem sameMaps_landRow (p c : Nat) (a : W64) (back : Nat) (v : Vec) (s : State) : SameMaps s (landRow p c a back v s) := by
  cases ha : isSpad a with
  | true =>
    rw [landRow_spad ha]
    exact .of_ctxs rfl
  | false =>
    rw [landRow, if_neg (by simp [ha])]
    exact (sameMaps_writeBacking ..).trans (.of_ctxs (onlyCaches_engineLine ..).ctxs_eq)

variable (h : SameMaps s t)
include h

theorem SameMaps.landRefused_eq (c : Nat) (a : W64) (back : Nat) : landRefused t c a back = landRefused s c a back := by
  obtain ⟨_, _, hc⟩ := h.ctx c
  rw [landRefused, landRefused, Machine.rowRefused, Machine.rowRefused, hc]
  rfl

theorem SameMaps.backTag_eq (c tag va : Nat) : backTag (t.ctx c) tag va = backTag (s.ctx c) tag va := by
  obtain ⟨_, _, hc⟩ := h.ctx c
  rw [hc]
  rfl

theorem SameMaps.backKey_eq (c va : Nat) : backKey t c va = backKey s c va := by
  obtain ⟨_, _, hc⟩ := h.ctx c
  rw [backKey, backKey, hc]
  rfl

end

/-! ### The OPTU of a core while a block lands (R212) -/

/-- The OPTU of core `p` is `k`; the maps and the buffers are those of `s`. -/
structure OptuIs (s t : State) (p : Nat) (k : OptuJob) : Prop where
  optu : (t.core p).optu = some k
  maps : SameMaps s t

section
variable {s t v : State} {p : Nat} {k : OptuJob}

theorem OptuIs.start (h : (s.core p).optu = some k) : OptuIs s s p k := ⟨h, .refl s⟩

theorem OptuIs.of_cores (h : OptuIs s t p k) (hc : v.cores = t.cores) (hm : SameMaps t v) : OptuIs s v p k :=
  ⟨by rw [State.core, hc]; exact h.optu, h.maps.trans hm⟩

theorem OptuIs.onOptu (h : OptuIs s t p k) (f : OptuJob → OptuJob) : OptuIs s (onOptu p f t) p (f k) :=
  ⟨by rw [Machine.onOptu, State.core_onCore_self]; exact congrArg (Option.map f) h.optu, h.maps.trans (.of_ctxs rfl)⟩

theorem OptuIs.countTag (h : OptuIs s t p k) (c tag n : Nat) : OptuIs s (countTag c tag n t) p k :=
  h.of_cores rfl (sameMaps_countTag ..)

theorem OptuIs.onlyCaches (h : OptuIs s t p k) (hv : OnlyCaches t v) : OptuIs s v p k := h.of_cores hv.cores_eq (.of_ctxs hv.ctxs_eq)

theorem OptuIs.landRow (h : OptuIs s t p k) (c : Nat) (a : W64) (back : Nat) (x : Vec) : OptuIs s (landRow p c a back x t) p k := by
  refine ⟨?_, h.maps.trans (sameMaps_landRow ..)⟩
  cases ha : isSpad a with
  | true =>
    rw [landRow_spad ha, State.core_onCore]
    split_ifs with hp
    · rw [← hp]
      exact h.optu
    · exact h.optu
  | false => rw [State.core, landRow_cores ha]; exact h.optu

theorem onlyCaches_foldl_engineLine (c : Nat) (l : List W64) (s : State) : OnlyCaches s (l.foldl (fun t a => engineLine c a t) s) := by
  induction l generalizing s with
  | nil => exact .refl s
  | cons a l ih => exact (onlyCaches_engineLine c a s).trans (ih _)

theorem OptuIs.countBlock (h : OptuIs s t p k) (c tag : Nat) (d : Shape) (blk : Nat) : OptuIs s (countBlock c tag d blk t) p k :=
  (h.onlyCaches (onlyCaches_foldl_engineLine ..)).countTag ..

theorem countBlock_mem (c tag : Nat) (d : Shape) (blk : Nat) (s : State) : (countBlock c tag d blk s).mem = s.mem :=
  (onlyCaches_foldl_engineLine ..).mem_eq

end

/-! ### The rows of a block land (R203, R212) -/

/-- What rows of a block have made of the OPTU `k`; of each row, whether it has a poisoned source, and whether the map refuses it. -/
structure RowsLand (k k' : OptuJob) (t t' : State) (rows : List (Bool × Bool)) : Prop where
  done   : k'.done = k.done
  landed : (∀ x ∈ rows, x.2 = false) → k'.status = (if rows.any (·.1) = true then k.status ||| 16 else k.status) ∧
    k'.landed = k.landed + 512 * rows.countP (fun x => !x.1)
  kept   : (∀ x ∈ rows, x.2 = true) → k'.landed = k.landed ∧ t'.mem = t.mem

theorem RowsLand.refl (k : OptuJob) (t : State) : RowsLand k k t t [] := ⟨rfl, fun _ => ⟨rfl, rfl⟩, fun _ => ⟨rfl, rfl⟩⟩

theorem RowsLand.trans {k k' k'' : OptuJob} {t t' t'' : State} {l m : List (Bool × Bool)} (h : RowsLand k k' t t' l)
    (g : RowsLand k' k'' t' t'' m) : RowsLand k k'' t t'' (l ++ m) := by
  refine ⟨g.done.trans h.done, fun ha => ?_, fun ha => ?_⟩
  all_goals rw [List.forall_mem_append] at ha
  · obtain ⟨hs, hl⟩ := h.landed ha.1
    obtain ⟨gs, gl⟩ := g.landed ha.2
    refine ⟨?_, by rw [gl, hl, List.countP_append]; ring⟩
    rw [gs, hs, List.any_append]
    cases l.any (·.1) <;> cases m.any (·.1) <;> simp
  · obtain ⟨hl, hm⟩ := h.kept ha.1
    obtain ⟨gl, gm⟩ := g.kept ha.2
    exact ⟨gl.trans hl, gm.trans hm⟩

/-- A row of stream `d` in block `blk` has a poisoned source row. -/
def rowFoul (s : State) (blk : Nat) (j : OptuJob) (d : Shape) (q : Nat) : Bool :=
  (blockMeets j.w d blk q ++ blockMeets j.g d blk q ++ blockMeets j.m d blk q ++ blockMeets j.v d blk q).any
    (fun a => enginePoison s j.ctx a { data := 0, poisoned := false })

/-- The map refuses to let a row of stream `d` be written. -/
def shutOut (s : State) (c : Nat) (d : Shape) (a : W64) : Bool := (landRefused s c a (backTag (s.ctx c) d.tagNo (rowVa a))).isSome

/-- Row `q` of a written stream lands, or does not. -/
def landBlockRow (s0 : State) (p blk : Nat) (j : OptuJob) (d : Shape) (f : Nat → Nat × Flags) (t : State) (q : Nat) : State :=
  let a := (blockRows d blk).getD q 0
  let per := 256 / (blockRows d blk).length
  let x := gather (fmtBits d.code) (fun n => f (per * q + n)) per
  let back := backTag (t.ctx j.ctx) d.tagNo (rowVa a)
  if rowFoul s0 blk j d q then onOptu p (fun o => { o with status := o.status ||| 2 ^ 4 }) t
  else
    match landRefused t j.ctx a back with
    | some r => onOptu p (fun o => { o with status := o.status ||| 2 ^ r, flags := o.flags ||| x.2 }) t
    | none =>
      countTag j.ctx d.tagNo 512 (onOptu p (fun o => { o with landed := o.landed + 512, flags := o.flags ||| x.2 })
        (landRow p j.ctx a back (BitVec.ofNat 4096 x.1) t))

theorem landBlock_eq (s0 : State) (p blk : Nat) (j : OptuJob) (d : Shape) (f : Nat → Nat × Flags) (s : State) :
    landBlock s0 p blk j d f s = (List.range (blockRows d blk).length).foldl (landBlockRow s0 p blk j d f) s := rfl

/-- What becomes of row `q` of a written stream: its sources are poisoned, the map refuses it. -/
def rowFate (s : State) (blk : Nat) (j : OptuJob) (d : Shape) (q : Nat) : Bool × Bool :=
  (rowFoul s blk j d q, shutOut s j.ctx d ((blockRows d blk).getD q 0))

section
variable {s t : State} {p blk : Nat} {j k : OptuJob} {d : Shape} {f : Nat → Nat × Flags}

theorem landBlockRow_lands (h : OptuIs s t p k) (q : Nat) : ∃ k', OptuIs s (landBlockRow s p blk j d f t q) p k' ∧
    RowsLand k k' t (landBlockRow s p blk j d f t q) [rowFate s blk j d q] := by
  unfold landBlockRow rowFate
  dsimp only
  cases hf : rowFoul s blk j d q with
  | true => exact ⟨_, h.onOptu _, rfl, fun _ => ⟨rfl, rfl⟩, fun _ => ⟨rfl, rfl⟩⟩
  | false =>
    rw [if_neg Bool.false_ne_true, h.maps.backTag_eq, h.maps.landRefused_eq, shutOut]
    cases landRefused s j.ctx ((blockRows d blk).getD q 0) (backTag (s.ctx j.ctx) d.tagNo (rowVa ((blockRows d blk).getD q 0))) with
    | some r => exact ⟨_, h.onOptu _, rfl, fun ha => absurd (ha _ List.mem_cons_self) (by simp), fun _ => ⟨rfl, rfl⟩⟩
    | none =>
      exact ⟨_, ((h.landRow ..).onOptu _).countTag .., rfl, fun _ => ⟨rfl, rfl⟩,
        fun ha => absurd (ha _ List.mem_cons_self) (by simp)⟩

theorem foldl_landBlockRow (l : List Nat) (h : OptuIs s t p k) : ∃ k', OptuIs s (l.foldl (landBlockRow s p blk j d f) t) p k' ∧
    RowsLand k k' t (l.foldl (landBlockRow s p blk j d f) t) (l.map (rowFate s blk j d)) := by
  induction l generalizing t k with
  | nil => exact ⟨k, h, .refl k t⟩
  | cons q l ih =>
    obtain ⟨k1, h1, g1⟩ := landBlockRow_lands (blk := blk) (j := j) (d := d) (f := f) h q
    obtain ⟨k2, h2, g2⟩ := ih h1
    exact ⟨k2, h2, g1.trans g2⟩

/-- The fates of the rows of a written stream in a block. -/
def streamFates (s : State) (blk : Nat) (j : OptuJob) (d : Shape) : List (Bool × Bool) :=
  (List.range (blockRows d blk).length).map (rowFate s blk j d)

theorem landBlock_lands (h : OptuIs s t p k) : ∃ k', OptuIs s (landBlock s p blk j d f t) p k' ∧
    RowsLand k k' t (landBlock s p blk j d f t) (streamFates s blk j d) := by
  rw [landBlock_eq]
  exact foldl_landBlockRow _ h

/-- A block that may be done lands the rows of the three written streams. -/
theorem optuBlock_lands (hj : (s.core p).optu = some j) (hlive : alive s j.ctx = true) (hstart : startedAt (s.core p) j.issue = true)
    (hblk : blk < j.n / 256) (hfresh : blk ∉ j.done) (nth : Nat) : ∃ k, OptuIs s (optuBlock p blk false nth s) p k ∧
      RowsLand { j with done := blk :: j.done } k s (optuBlock p blk false nth s)
        (streamFates s blk j j.w ++ streamFates s blk j j.m ++ streamFates s blk j j.v) := by
  have hgo : ¬(j.n / 256 ≤ blk ∨ j.done.contains blk = true ∨ startedAt (s.core p) j.issue = false ∨ alive s j.ctx = false) := by
    simp [hblk, hfresh, hlive, hstart]
  unfold optuBlock
  rw [hj]
  dsimp only
  rw [if_neg hgo]
  simp only [Bool.false_and, Bool.false_eq_true, if_false]
  have hread := ((((OptuIs.start hj).countBlock j.ctx j.v.tagNo j.v blk).countBlock j.ctx j.m.tagNo j.m blk).countBlock j.ctx j.w.tagNo
    j.g blk).countBlock j.ctx j.w.tagNo j.w blk
  have hmem : (countBlock j.ctx j.w.tagNo j.w blk (countBlock j.ctx j.w.tagNo j.g blk (countBlock j.ctx j.m.tagNo j.m blk
      (countBlock j.ctx j.v.tagNo j.v blk s)))).mem = s.mem := by simp only [countBlock_mem]
  have hdone := hread.onOptu (fun o => { o with done := blk :: o.done })
  obtain ⟨k1, h1, g1⟩ := landBlock_lands (blk := blk) (j := j) (d := j.w) (f := _) hdone
  obtain ⟨k2, h2, g2⟩ := landBlock_lands (blk := blk) (j := j) (d := j.m) (f := _) h1
  obtain ⟨k3, h3, g3⟩ := landBlock_lands (blk := blk) (j := j) (d := j.v) (f := _) h2
  obtain ⟨hd, hl, hk⟩ := (g1.trans g2).trans g3
  exact ⟨k3, h3, hd, hl, fun ha => ⟨(hk ha).1, (hk ha).2.trans hmem⟩⟩

end

end Sys2Proof.Machine
end

section
/-!
PROOF. A block of OPTU as a whole, its completion, and the pairs of PSTW (R212, R213).
-/

namespace Sys2Proof.Machine

/-! ### The rows of a block (R212) -/

section
variable {d : Shape} (blk : Nat)

theorem blockRows_length (d : Shape) : (blockRows d blk).length = fmtBytes d.code / 2 := by simp [blockRows]

theorem fmtBytes_of_lt_two {f : Nat} (h : f < 2) : fmtBytes f = 4 ∨ fmtBytes f = 2 := by
  unfold fmtBytes
  split_ifs <;> omega

theorem blockRows_pos (h : d.code < 2) : 0 < (blockRows d blk).length := by
  rw [blockRows_length]
  obtain hf | hf := fmtBytes_of_lt_two h <;> rw [hf] <;> decide

/-- Every row that a block reads of a stream is a source of some row of each written stream. -/
theorem exists_blockMeets {h : Shape} (hd : d.code < 2) {a : W64} (ha : a ∈ blockRows h blk) :
    ∃ q, q < (blockRows d blk).length ∧ a ∈ blockMeets h d blk q := by
  unfold blockMeets
  split_ifs with hf
  · obtain ⟨q, hq, rfl⟩ := List.mem_iff_getElem.mp ha
    refine ⟨q, by rwa [blockRows_length, hf.2, ← hf.1, ← blockRows_length blk h], ?_⟩
    rw [List.drop_eq_getElem_cons hq]
    exact List.mem_cons_self
  · exact ⟨0, blockRows_pos blk hd, ha⟩

theorem mem_of_blockMeets {h : Shape} {a : W64} {q : Nat} (ha : a ∈ blockMeets h d blk q) : a ∈ blockRows h blk := by
  unfold blockMeets at ha
  split_ifs at ha
  · exact List.mem_of_mem_drop (List.mem_of_mem_take ha)
  · exact ha

end

section
variable (s : State) (blk : Nat) (j : OptuJob) (d : Shape)

/-- The sources of a block: the rows of its four streams. -/
def blockSources : List W64 := blockRows j.w blk ++ blockRows j.g blk ++ blockRows j.m blk ++ blockRows j.v blk

/-- A source row of a block that is poisoned. -/
def foulRow (a : W64) : Bool := enginePoison s j.ctx a { data := 0, poisoned := false }

theorem rowFoul_iff (q : Nat) : rowFoul s blk j d q = true ↔
    ∃ h ∈ [j.w, j.g, j.m, j.v], ∃ a ∈ blockMeets h d blk q, foulRow s j a = true := by
  simp [rowFoul, foulRow]

theorem sources_foul_iff : (blockSources blk j).any (foulRow s j) = true ↔
    ∃ h ∈ [j.w, j.g, j.m, j.v], ∃ a ∈ blockRows h blk, foulRow s j a = true := by
  simp [blockSources]

theorem streamFates_any (h : (streamFates s blk j d).any (·.1) = true) : (blockSources blk j).any (foulRow s j) = true := by
  simp only [streamFates, rowFate, List.any_map, List.any_eq_true, Function.comp_apply] at h
  obtain ⟨q, -, hq⟩ := h
  obtain ⟨x, hx, a, ha, hfoul⟩ := (rowFoul_iff ..).mp hq
  exact (sources_foul_iff ..).mpr ⟨x, hx, a, mem_of_blockMeets blk ha, hfoul⟩

theorem streamFates_any_iff (hd : d.code < 2) :
    (streamFates s blk j d).any (·.1) = true ↔ (blockSources blk j).any (foulRow s j) = true := by
  refine ⟨streamFates_any s blk j d, fun h => ?_⟩
  obtain ⟨x, hx, a, ha, hfoul⟩ := (sources_foul_iff ..).mp h
  obtain ⟨q, hq, hmeets⟩ := exists_blockMeets blk hd ha
  simp only [streamFates, rowFate, List.any_map, List.any_eq_true, Function.comp_apply]
  exact ⟨q, List.mem_range.mpr hq, (rowFoul_iff ..).mpr ⟨x, hx, a, hmeets, hfoul⟩⟩

/-- The rows of a written stream whose sources are not poisoned. -/
def soundRows : Nat := ((List.range (blockRows d blk).length).filter (fun q => !rowFoul s blk j d q)).length

theorem streamFates_count : (streamFates s blk j d).countP (fun x => !x.1) = soundRows s blk j d := by
  rw [streamFates, List.countP_map, soundRows, List.countP_eq_length_filter]
  rfl

theorem soundRows_of_clean (h : (blockSources blk j).any (foulRow s j) = false) : soundRows s blk j d = fmtBytes d.code / 2 := by
  have hsound (q : Nat) (hq : q ∈ List.range (blockRows d blk).length) : (!rowFoul s blk j d q) = true := by
    rw [Bool.not_eq_true', Bool.eq_false_iff]
    intro hfoul
    have hany : (streamFates s blk j d).any (·.1) = true := by
      rw [streamFates, List.any_map, List.any_eq_true]
      exact ⟨q, hq, hfoul⟩
    rw [streamFates_any s blk j d hany] at h
    exact Bool.true_eq_false_eq_False h
  rw [soundRows, List.filter_eq_self.mpr hsound, List.length_range, blockRows_length]

theorem streamFates_shut {b : Bool} (h : ∀ a ∈ blockRows d blk, shutOut s j.ctx d a = b) :
    ∀ x ∈ streamFates s blk j d, x.2 = b := by
  intro x hx
  obtain ⟨q, hq, rfl⟩ := List.mem_map.mp hx
  rw [List.mem_range] at hq
  have hget : (blockRows d blk).getD q 0 = (blockRows d blk)[q] := List.getD_eq_getElem _ _ hq
  exact h _ (hget ▸ List.getElem_mem hq)

end

/-! ### A block of OPTU (R212) -/

section
variable {s : State} {p blk st : Nat} {j : OptuJob} {r : Reply}

theorem exec_optuBlock (hpow : s.powered = true) (hr : r.poisoned = false) :
    exec (.engineRowLand p 4 0 blk r st) s = .next (drawn s (optuBlock p blk false st s)) := by
  rw [exec_happens (e := fun _ => true) (f := if (4 : Nat) = 4 then optuBlock p blk r.poisoned st else copyRow p 4 0 blk r st) rfl hpow rfl,
    if_pos rfl, hr]

theorem exec_completeOptu (hpow : s.powered = true) :
    exec (.engineComplete p 4 0 st) s = .next (drawn s (completeOptu p st s)) :=
  exec_happens (e := fun _ => true) (f := if (4 : Nat) = 4 then completeOptu p st else completeCopy p 4 0 st) rfl hpow rfl

theorem optuBlock_none (h : (s.core p).optu = none) : optuBlock p blk false st s = s := by
  rw [optuBlock, h]

theorem optuBlock_done (hj : (s.core p).optu = some j) (h : j.n / 256 ≤ blk ∨ blk ∈ j.done) : optuBlock p blk false st s = s := by
  unfold optuBlock
  rw [hj]
  dsimp only
  rw [if_pos (h.imp_right fun h => .inl (List.contains_iff_mem.mpr h))]

theorem completeOptu_none (h : (s.core p).optu = none) : completeOptu p st s = s := by
  rw [completeOptu, h]

/-- What has become of the OPTU `j` when block `blk` of its is done in state `t`. -/
structure BlockDone (s t : State) (blk : Nat) (j k : OptuJob) : Prop where
  done   : k.done = blk :: j.done
  landed : (∀ d ∈ [j.w, j.m, j.v], ∀ a ∈ blockRows d blk, shutOut s j.ctx d a = false) →
    k.status = (if (blockSources blk j).any (foulRow s j) = true then j.status ||| 16 else j.status) ∧
    k.landed = j.landed + 512 * (soundRows s blk j j.w + soundRows s blk j j.m + soundRows s blk j j.v)
  kept   : (∀ d ∈ [j.w, j.m, j.v], ∀ a ∈ blockRows d blk, shutOut s j.ctx d a = true) → k.landed = j.landed ∧ t.mem = s.mem

theorem optuBlock_spec (hj : (s.core p).optu = some j) (hlive : alive s j.ctx = true) (hstart : startedAt (s.core p) j.issue = true)
    (hcode : ∀ d ∈ [j.w, j.g, j.m, j.v], d.code < 2) (hblk : blk < j.n / 256) (hfresh : blk ∉ j.done) (nth : Nat) :
    ∃ k, ((optuBlock p blk false nth s).core p).optu = some k ∧ BlockDone s (optuBlock p blk false nth s) blk j k := by
  obtain ⟨k, hk, hdone, hland, hkept⟩ := optuBlock_lands hj hlive hstart hblk hfresh nth
  simp only [List.forall_mem_cons, List.not_mem_nil, false_imp_iff, implies_true, and_true] at hcode
  obtain ⟨hw, -, hm, hv⟩ := hcode
  have hfates {b : Bool} (h : ∀ d ∈ [j.w, j.m, j.v], ∀ a ∈ blockRows d blk, shutOut s j.ctx d a = b) :
      ∀ x ∈ streamFates s blk j j.w ++ streamFates s blk j j.m ++ streamFates s blk j j.v, x.2 = b := by
    simp only [List.forall_mem_cons, List.not_mem_nil, false_imp_iff, implies_true, and_true] at h
    simp only [List.forall_mem_append]
    exact ⟨⟨streamFates_shut _ _ _ _ h.1, streamFates_shut _ _ _ _ h.2.1⟩, streamFates_shut _ _ _ _ h.2.2⟩
  refine ⟨k, hk.optu, hdone, fun h => ?_, fun h => hkept (hfates h)⟩
  obtain ⟨hs, hl⟩ := hland (hfates h)
  simp only [List.countP_append, streamFates_count] at hl
  refine ⟨?_, hl⟩
  rw [hs]
  simp only [List.any_append, Bool.or_eq_true, streamFates_any_iff _ _ _ _ hw, streamFates_any_iff _ _ _ _ hm,
    streamFates_any_iff _ _ _ _ hv, or_self]

/-- A block without a poisoned row, none of its rows refused, counts every byte written. -/
theorem BlockDone.landed_clean {t : State} {k : OptuJob} (h : BlockDone s t blk j k) (hcode : ∀ d ∈ [j.w, j.g, j.m, j.v], d.code < 2)
    (hclean : (blockSources blk j).any (foulRow s j) = false)
    (hopen : ∀ d ∈ [j.w, j.m, j.v], ∀ a ∈ blockRows d blk, shutOut s j.ctx d a = false) :
    k.landed = j.landed + 256 * (fmtBytes j.w.code + fmtBytes j.m.code + fmtBytes j.v.code) := by
  have heven (d : Shape) (hd : d ∈ [j.w, j.g, j.m, j.v]) : fmtBytes d.code = 2 * (fmtBytes d.code / 2) := by
    obtain hf | hf := fmtBytes_of_lt_two (hcode d hd) <;> rw [hf]
  have hw := heven j.w (by simp)
  have hm := heven j.m (by simp)
  have hv := heven j.v (by simp)
  rw [(h.landed hopen).2, soundRows_of_clean _ _ _ _ hclean, soundRows_of_clean _ _ _ _ hclean, soundRows_of_clean _ _ _ _ hclean]
  omega

/-- The OPTU whose blocks are all done, without a barrier, frees the engine. -/
theorem completeOptu_frees (hj : (s.core p).optu = some j) (hlive : alive s j.ctx = true) (hdone : j.done.length = j.n / 256)
    (hbar : j.w.barAt = 0) (htold : j.told = 0) : completeOptu p st s = dropOptu p (optuFlags p j s) := by
  have hgo : optuDone s p j = true := by simp [optuDone, hlive, hdone, hbar, addPages, isRemote]
  unfold completeOptu
  rw [hj]
  dsimp only
  rw [if_pos hgo, hbar, htold]
  simp [addStep, optuLast, optuEarly, completeLast, completeEarly, hbar, isRemote]

end

end Sys2Proof.Machine
end

section
/-!
PROOF. The pairs of PSTW (R213): the transposed row, and what the landing of the oldest pair leaves.
-/

namespace Sys2Proof.Machine

/-! ### The transposed block -/

theorem elem_transposeRow (x : Vec) {k m : Nat} (hk : k < 16) (hm : m < 16) :
    elem (transposeRow x) 16 (16 * k + m) = elem x 16 (16 * m + k) := by
  have hindex : 16 * k + m < 256 := by omega
  have hfits : (gather 16 (fun k => (elem x 16 (16 * (k % 16) + k / 16), (0 : Flags))) 256).1 < 2 ^ 4096 :=
    (gather_lt 16 _ 256).trans_eq (congrArg (2 ^ ·) (by norm_num))
  rw [elem, transposeRow, toNat_ofNat_of_lt hfits, gather_digit 16 _ hindex, Nat.mod_eq_of_lt (elem_lt ..)]
  congr 1
  omega

theorem extractLsb'_eq_elem (x : Vec) (j : Nat) : (x.extractLsb' (16 * j) 16).toNat = elem x 16 j := by
  rw [BitVec.extractLsb'_toNat, Nat.shiftRight_eq_div_pow, elem]

theorem extractLsb'_transposeRow (x : Vec) {k m : Nat} (hk : k < 16) (hm : m < 16) :
    (transposeRow x).extractLsb' (16 * (16 * k + m)) 16 = x.extractLsb' (16 * (16 * m + k)) 16 :=
  BitVec.eq_of_toNat_eq (by rw [extractLsb'_eq_elem, extractLsb'_eq_elem, elem_transposeRow x hk hm])

/-! ### Two rows written -/

/-- Two rows of apart places read back as they were written; no other byte changes. -/
theorem Memory.write_two_rows (m : Memory) {a b : Nat} (x y : Vec) (h : a + 512 ≤ b ∨ b + 512 ≤ a) :
    let w := (m.write a 512 x.toNat).write b 512 y.toNat
    w.read a 512 = x.toNat ∧ w.read b 512 = y.toNat ∧
      ∀ n, n < a ∨ a + 512 ≤ n → n < b ∨ b + 512 ≤ n → w.byte n = m.byte n := by
  refine ⟨?_, Memory.read_write_row .., fun n ha hb => ?_⟩
  · rw [Memory.read_congr (m' := m.write a 512 x.toNat) fun n h1 h2 => Memory.byte_write_out _ _ (by omega), Memory.read_write_row]
  · rw [Memory.byte_write_out _ _ hb, Memory.byte_write_out _ _ ha]

/-! ### The oldest pair lands (R213, R274) -/

section
variable {s : State} {p : Nat} {j : PstwJob} {l : List PstwJob}

theorem exec_pstwLand (hpow : s.powered = true) : exec (.pstwLand p 0) s = .next (drawn s (pstwLand p 0 s)) :=
  exec_happens (e := fun _ => true) (f := pstwLand p 0) rfl hpow rfl

theorem pstwLand_none (h : (s.core p).pstw = []) : pstwLand p 0 s = s := by
  rw [pstwLand, h]
  rfl

/-- The map refuses to let a row of a pair be written: the row named, or the back row it stands for. -/
def pairShut (s : State) (c : Nat) (a : W64) : Prop := landRefused s c a (backOf (s.ctx c) (rowVa a)) ≠ none

variable (hj : (s.core p).pstw = j :: l) (hlive : alive s j.ctx = true) (hstart : startedAt (s.core p) j.issue = true)
include hj hlive hstart

theorem pstwLand_eq : pstwLand p 0 s =
    (if (landRefused s j.ctx j.pa (backOf (s.ctx j.ctx) (rowVa j.pa))).isSome ||
        (landRefused s j.ctx j.ta (backOf (s.ctx j.ctx) (rowVa j.ta))).isSome then s
      else landRow p j.ctx j.ta (backOf (s.ctx j.ctx) (rowVa j.ta)) (transposeRow j.x)
        (landRow p j.ctx j.pa (backOf (s.ctx j.ctx) (rowVa j.pa)) j.x s)).onCore p (fun c => { c with pstw := listDrop c.pstw 0 }) := by
  unfold pstwLand
  rw [hj]
  dsimp only [List.getElem?_cons_zero]
  rw [hstart, hlive]
  rfl

/-- A pair with a refused row is dropped; neither row is written. -/
theorem pstwLand_refused (h : pairShut s j.ctx j.pa ∨ pairShut s j.ctx j.ta) :
    pstwLand p 0 s = s.onCore p (fun c => { c with pstw := l }) := by
  have hshut : ((landRefused s j.ctx j.pa (backOf (s.ctx j.ctx) (rowVa j.pa))).isSome ||
      (landRefused s j.ctx j.ta (backOf (s.ctx j.ctx) (rowVa j.ta))).isSome) = true := by
    rw [Bool.or_eq_true, Option.isSome_iff_ne_none, Option.isSome_iff_ne_none]
    exact h
  rw [pstwLand_eq hj hlive hstart, if_pos hshut, State.onCore, State.onCore, hj]
  rfl

/-- A pair that the map lets land is written in the sides that the fronts do not name. -/
theorem pstwLand_lands (hp : ¬pairShut s j.ctx j.pa) (ht : ¬pairShut s j.ctx j.ta) (hpa : isSpad j.pa = false)
    (hta : isSpad j.ta = false) :
    (pstwLand p 0 s).mem = (s.mem.write (backKey s j.ctx (backOf (s.ctx j.ctx) (rowVa j.pa))) 512 j.x.toNat).write
        (backKey s j.ctx (backOf (s.ctx j.ctx) (rowVa j.ta))) 512 (transposeRow j.x).toNat ∧
      (pstwLand p 0 s).core p = { s.core p with pstw := l } := by
  rw [pairShut, not_not] at hp ht
  rw [pstwLand_eq hj hlive hstart, hp, ht]
  refine ⟨?_, ?_⟩
  · change (landRow ..).mem = _
    rw [landRow_mem hta, landRow_mem hpa, (sameMaps_landRow ..).backKey_eq]
  · change (State.onCore (landRow ..) ..).core p = _
    rw [State.core_onCore_self, State.core, landRow_cores hta, landRow_cores hpa, ← State.core, hj]
    rfl

end

end Sys2Proof.Machine
end

section
/-!
PROOF. The events of the engines (O39; R200 to R208, R212, R213), clause by clause: the rows of copies, their completion, the blocks and
elements of OPTU, the pairs of PSTW.
-/

namespace Sys2Proof.Machine

/-! ### The mask of a copy (R205) -/

section
variable (v : Vec) (j : Copy)

theorem Copy.maskRead_waits (h : (j.maskGot ++ [v]).length < (j.rows + 4095) / 4096) : (j.maskRead v).mask = none := if_pos h

theorem Copy.maskRead_knows (h : (j.rows + 4095) / 4096 ≤ (j.maskGot ++ [v]).length) :
    ∃ x, (j.maskRead v).mask = some x ∧ ∀ n, n < 4096 * (j.maskGot ++ [v]).length →
      x.testBit n = ((j.maskGot ++ [v]).getD (n / 4096) 0).getLsbD (n % 4096) :=
  ⟨_, if_neg (Nat.not_lt.mpr h), fun _ hn => testBit_gather (by decide) _ hn⟩

end

/-! ### Records of a CTOPK (R208) -/

/-- The ranks as the statement writes them. -/
theorem ranksAbove_iff_cmp (x y : Nat) : ranksAbove x y = true ↔
    isNan (fpOf 0 x) = false ∧ (isNan (fpOf 0 y) = true ∨ 0 < fpCmp (fpOf 0 x) (fpOf 0 y)) :=
  (ranksAbove_iff x y).trans (rank_lt_iff _ _)

theorem Copy.rank_of_none {j : Copy} (h : j.mask = none) (row : Nat) : j.rank row = row := by rw [Copy.rank, h]

/-- The eight records of a row of a CTOPK as the statement writes them: the best columns in order, then filler. -/
theorem topkRow_records (c : Core) (j : Copy) (row : Nat) (hbest : j.best ≤ 8) {m : Nat} (hm : m < 8) :
    let value := elem (c.accRow (j.off.toNat + (8 * row + m))) 32
    let pair := fun (i : Nat) => elem (topkRow c j row) 64 (8 * m + i)
    let above := fun (x y : Nat) => isNan (fpOf 0 x) = false ∧ (isNan (fpOf 0 y) = true ∨ 0 < fpCmp (fpOf 0 x) (fpOf 0 y))
    (j.dst.outer ≤ 8 * row + m → ∀ i, i < 8 → pair i = fillerPair) ∧
      (8 * row + m < j.dst.outer → ∃ cols : List Nat, cols.length = min j.best j.dst.inner ∧ cols.Nodup ∧
        (∀ n, n ∈ cols → n < j.dst.inner) ∧
        (∀ i n, i < cols.length → n < j.dst.inner → n ∉ cols.take (i + 1) →
          ¬above (value n) (value (cols.getD i 0)) ∧ (¬above (value (cols.getD i 0)) (value n) → cols.getD i 0 < n)) ∧
        (∀ i, i < cols.length → pair i = value (cols.getD i 0) + (j.base + BitVec.ofNat 32 (cols.getD i 0)).toNat * 2 ^ 32) ∧
        (∀ i, cols.length ≤ i → i < 8 → pair i = fillerPair)) := by
  intro value pair above
  have hpair {i : Nat} (hi : i < 8) : pair i = topkPair c j (8 * row + m) i := elem_topkRow c j row hm hi
  refine ⟨fun hout i hi => (hpair hi).trans (topkPair_beyond c j hout), fun hin => ?_⟩
  have hlen := bestColumns_length (v := value) j.dst.inner j.best
  refine ⟨bestColumns value j.dst.inner j.best, hlen, bestColumns_nodup .., fun n hn => bestColumns_lt hn, fun i n hi hn hout => ?_,
    fun i hi => ?_, fun i hi h8 => (hpair h8).trans (topkPair_filler c j hin hi)⟩
  · have h := bestColumns_outrank hi hn hout
    simp only [Outranks, ranksAbove_iff_cmp] at h
    exact h
  · exact (hpair (by omega)).trans (topkPair_best c j hin hi)

/-! ### An index taken (R207) -/

theorem Copy.indexTaken_spec (row : Nat) (x : W32) (j : Copy) :
    (j.indexTaken row x).idx = j.idx ++ [x] ∧ (j.indexTaken row x).landed = j.landed ∧
      (j.indexTaken row x).done = (if j.extent ≤ x.toNat then row :: j.done else j.done) ∧
      (j.indexTaken row x).status = (if j.extent ≤ x.toNat then j.status ||| 32 else j.status) := by
  unfold Copy.indexTaken
  split_ifs <;> exact ⟨rfl, rfl, rfl, rfl⟩

/-! ### The clauses of the statement -/

theorem RowGoes.of {s : State} {p u row : Nat} {j : Copy} {l : List Copy} (hch : (s.core p).chan u = j :: l)
    (hgo : Machine.alive s j.ctx = true ∧ (∀ a ∈ (s.core p).board, j.issue ≤ a.issue) ∧
      ∀ d ∈ (s.core p).pubds, j.issue ≤ d.issue)
    (hin : row < j.rows) (hfresh : row ∉ j.done) : RowGoes s p u row j l :=
  ⟨hch, (startedAt_iff ..).mpr hgo.2, hgo.1, hin, hfresh⟩

/-- Settles O39: each event of an engine by what it leaves of the copy, of memory and of the scratchpads (`Moved`, `LandedSpad`), the ranks
of R208 as a linear order, the exact operations of OPTU over a common unit. -/
theorem engineEvents : Obligations.EngineEvents := by
  unfold Obligations.EngineEvents
  refine ⟨?_, ?_⟩
  · intro s p u row st r j l hpow hu hch ch goes index indexed place plainCopy sa da inTurn later maskRow b away back rest
    rw [Core.chan_def] at hch
    have hplace : j.rank row = place := by
      cases hm : j.mask with
      | none => simp only [place, hm, Copy.rank_of_none hm]
      | some x => simp only [place, hm, Copy.rank_of_some hm]
    have hready (hp : plainCopy) : j.Ready row := Copy.ready_of hp.2.1 hp.2.2.1 hp.2.2.2
    have hsa : j.srcAt row = sa := Copy.srcAt_eq row
    have hda (hp : plainCopy) : j.dstAt row = da := Copy.dstAt_eq (fun x hx => (hp.2.2.1 x hx).1) hplace
    have hstep {k : List Copy} (hm : Moved s (copyRow p u 0 row r st s) p u k) :=
      exec_engineRowLand_moved hpow hu hm
    have hnothing (hsame : copyRow p u 0 row r st s = s) : exec (.engineRowLand p u 0 row r st) s = .next (drawn s s) := by
      rw [exec_engineRowLand hpow hu, hsame]
    refine ⟨?_, ?_, ?_, ?_, ?_, ?_, ?_, ?_, ?_, ?_, ?_, ?_⟩
    · -- a row of the mask is read (R205)
      intro hgo hk hmasked hmask hin hfresh hlocal hbank hclean got
      have hgoes := RowGoes.of hch hgo hin hfresh
      have hmoved := readMaskRow_moved (st := st) hch rfl hlocal hbank hclean
      rw [← hgoes.copyRow_mask hmasked hmask] at hmoved
      obtain ⟨t, ht, hm⟩ := hstep hmoved
      exact ⟨t, _, ht, hm.chan, rfl, rfl, rfl, Copy.maskRead_waits _ j, Copy.maskRead_knows _ j, hm.still.mem, hm.still.spad,
        hm.still.registers⟩
    · -- a row that the mask leaves out
      intro x hgo hmask hx hin hfresh
      have hmoved := (Moved.start hch).onCopy (fun k => { k with done := row :: k.done })
      rw [← (RowGoes.of hch hgo hin hfresh).copyRow_unselected (r := r) (st := st) hmask hx] at hmoved
      obtain ⟨t, ht, hm⟩ := hstep hmoved
      exact ⟨t, _, ht, hm.chan, rfl, rfl, rfl, hm.still.mem, hm.still.spad, hm.still.registers⟩
    · -- the index of a row (R206, R207)
      intro hgo hidx hmasked hmask hin hfresh hlen earlier
      have hgoes := RowGoes.of hch hgo hin hfresh
      refine ⟨fun hwait => hnothing (hgoes.copyRow_no_index hidx hmasked hmask hlen ?_), fun x q hq hturn hfirst => ?_⟩
      · rwa [earlierTakes_iff]
      · intro beyond
        obtain ⟨hmoved, haddr⟩ := hgoes.copyRow_takes_index (st := st) (r := r) hidx hmasked hmask hlen hq hturn
          (Bool.eq_false_iff.mpr fun h => hfirst ((earlierTakes_iff ..).mp h))
        obtain ⟨hi, hl, hd, hs⟩ := Copy.indexTaken_spec row x j
        have hm := hmoved.drawn (r := s)
        exact ⟨_, _, exec_engineRowLand hpow hu, hm.chan, haddr, hi, hl, hd, hs, hm.still.mem, hm.still.spad, hm.still.registers⟩
    · -- the records of a CTOPK (R208)
      intro hgo hk hmask hmasked hin hfresh hf hbest value above
      have hmoved := readCopyRow_topk (r := r) (st := st) (row := row) hch hk
      have hr : j.Ready row := Copy.ready_of (fun _ => hmasked) (fun x hx => by simp [hmask] at hx) (fun h => by simp [hk] at h)
      rw [← (RowGoes.of hch hgo hin hfresh).copyRow_reads hr hf] at hmoved
      obtain ⟨t, ht, hm⟩ := hstep hmoved
      refine ⟨t, _, _, ht, hm.chan, Tab.find_set_self .., rfl, hm.still.mem, hm.still.spad, hm.still.registers, fun m hlt => ?_⟩
      exact topkRow_records (s.core p) j row hbest hlt
    · -- a row read at its bank (R200)
      intro hgo hp hk hin hfresh hf hspad hbank
      have hmoved := readCopyRow_spad (st := st) (r := r) hch hk (hp.1.resolve_left hk) (row := row) (hsa ▸ hspad) (hsa ▸ hbank)
      rw [← (RowGoes.of hch hgo hin hfresh).copyRow_reads (hready hp) hf, hsa] at hmoved
      obtain ⟨t, ht, hm⟩ := hstep hmoved
      exact ⟨t, _, ht, hm.chan, Tab.find_set_self .., rfl, hm.still.mem, hm.still.spad, hm.still.registers⟩
    · -- a row that its target refuses (R203)
      intro hgo hp hk hin hfresh hf hremote hst
      have hmoved := readCopyRow_refused (r := r) hch hk (row := row) (hsa ▸ hremote) hst
      rw [← (RowGoes.of hch hgo hin hfresh).copyRow_reads (hready hp) hf] at hmoved
      obtain ⟨t, ht, hm⟩ := hstep hmoved
      exact ⟨t, _, ht, hm.chan, rfl, rfl, rfl, Tab.find_erase_self .., hm.still.mem, hm.still.spad, hm.still.registers⟩
    · -- a row of a CGTH out of turn (R207)
      intro v hgo hp hin hfresh hf hwait hk
      exact hnothing ((RowGoes.of hch hgo hin hfresh).copyRow_waits (hready hp) hf hk (hwait hk))
    · -- a row of a CSCT overtaken by a later one of its index (R207)
      intro v hgo hp hin hfresh hf hlater hd
      have hcsct : j.kind = .csct := hlater.1
      have hturn : j.kind = .cgth → ∀ q, q < row → q ∈ j.done := fun h => by simp [hcsct] at h
      have hmoved := landCopyRow_overtaken (st := st) (v := v) hch ((overtaken_iff j row).mpr hlater) (hda hp ▸ hd)
      rw [← (RowGoes.of hch hgo hin hfresh).copyRow_lands (r := r) (hready hp) hf hturn] at hmoved
      obtain ⟨t, ht, hm⟩ := hstep hmoved
      exact ⟨t, _, ht, hm.chan, rfl, rfl, hm.still.mem, hm.still.spad, hm.still.registers⟩
    · -- a row lands in a scratchpad (R201)
      intro v hgo hp hturn hlater hin hfresh hf hspad
      have ho : overtaken j row = false := Bool.eq_false_iff.mpr fun h => hlater ((overtaken_iff j row).mp h)
      obtain ⟨put, hchan, hland⟩ := landCopyRow_spad (st := st) (v := v) hch hturn.2 ho (hda hp ▸ hspad)
      rw [← (RowGoes.of hch hgo hin hfresh).copyRow_lands (r := r) (hready hp) hf hturn.1, hda hp] at hland
      rw [← (RowGoes.of hch hgo hin hfresh).copyRow_lands (r := r) (hready hp) hf hturn.1] at hchan
      exact ⟨_, _, exec_engineRowLand hpow hu, hchan, rfl, rfl, hland.mem, hland.registers, hland.spad, hland.fullEmpty⟩
    · -- a row lands in global memory, or is refused (R201, R203)
      intro v hgo hp hturn hlater hin hfresh hf hspad hlocal
      have ho : overtaken j row = false := Bool.eq_false_iff.mpr fun h => hlater ((overtaken_iff j row).mp h)
      have hlands := (RowGoes.of hch hgo hin hfresh).copyRow_lands (r := r) (st := st) (hready hp) hf hturn.1
      refine ⟨fun q hq => ?_, fun hnone => ?_⟩
      · have hshut : landRefused s j.ctx (j.dstAt row) (backTag (s.ctx j.ctx) j.tag (rowVa (j.dstAt row))) = some q := by
          rw [hda hp]
          exact hq
        have hmoved := landCopyRow_refused (st := st) (v := v) hch (hda hp ▸ hlocal) hshut
        rw [← hlands] at hmoved
        obtain ⟨t, ht, hm⟩ := hstep hmoved
        exact ⟨t, _, ht, hm.chan, rfl, rfl, rfl, hm.still.mem, hm.still.spad, hm.still.registers⟩
      · have hopen : landRefused s j.ctx (j.dstAt row) (backTag (s.ctx j.ctx) j.tag (rowVa (j.dstAt row))) = none := by
          rw [hda hp]
          exact hnone
        obtain ⟨put, hchan, hmem, hcores⟩ := landCopyRow_global (st := st) (v := v) hch hturn.2 ho (hda hp ▸ hspad)
          (hda hp ▸ hlocal) hopen
        rw [hda hp] at hmem
        rw [← hlands] at hchan hmem hcores
        refine ⟨_, _, exec_engineRowLand hpow hu, hchan, rfl, rfl, ?_, fun m hm => ?_, fun q => ?_, fun q => ?_⟩
        · exact (congrArg (Memory.read · back 512) hmem).trans (Memory.read_write_row ..)
        · exact (congrArg (Memory.byte · m) hmem).trans (Memory.byte_write_out _ _ hm)
        · exact (hcores q).spad
        · exact ⟨(hcores q).s, (hcores q).v, (hcores q).p, (hcores q).acc, (hcores q).pc⟩
    · exact fun h => hnothing (copyRow_done hch h)
    · -- the copy completes (R202)
      intro hlive htold hmasked hdone hstatus hflow
      have hwhole : j.Whole s p u := ⟨hlive, htold, hmasked, hdone, hstatus, hflow⟩
      refine ⟨fun hbar => ?_, fun hbar hlocal hopen hpage => ?_⟩
      · have hm := (completeCopy_no_barrier (st := st) hch hwhole hbar).drawn (r := s)
        exact ⟨_, exec_engineComplete hpow hu, hm.chan, hm.still.mem, hm.still.registers⟩
      · intro key
        obtain ⟨t, hm, hmem, hcores⟩ := completeCopy_barrier (st := st) hch hwhole hbar hlocal hopen hpage
        have hwritten := hm.still.mem.trans hmem
        refine ⟨_, exec_engineComplete hpow hu, hm.chan, fun q => ?_, ?_, fun m hk => ?_⟩
        · have hsame := (hcores q).trans (hm.still.core q)
          exact ⟨hsame.s, hsame.v, hsame.p, hsame.acc, hsame.pc⟩
        · exact (congrArg (Memory.read · key 8) hwritten).trans (Memory.read_write_word ..)
        · exact (congrArg (Memory.byte · m) hwritten).trans (Memory.byte_write_out _ _ hk)
  · intro s p blk st r hpow hr nothing
    refine ⟨?_, fun _ _ _ _ _ => rfl, fun c => ⟨rfl, ?_⟩, ?_, ?_, ?_, ?_⟩
    · -- a block of OPTU, and its completion (R212)
      intro j hj hlive hboard hpubds hcode rows foul lands refused
      have hstart : startedAt (s.core p) j.issue = true := (startedAt_iff ..).mpr ⟨hboard, hpubds⟩
      refine ⟨fun hblk hfresh => ?_, fun hdone => ?_, fun hdone hbar htold => ?_⟩
      · obtain ⟨k, hk, hspec⟩ := optuBlock_spec hj hlive hstart hcode hblk hfresh st
        exact ⟨_, k, exec_optuBlock hpow hr, hk, hspec.done, hspec.landed, hspec.landed_clean hcode, hspec.kept⟩
      · change exec _ s = _
        rw [exec_optuBlock hpow hr, optuBlock_done hj hdone]
      · refine ⟨_, exec_completeOptu hpow, ?_⟩
        rw [completeOptu_frees hj hlive hdone hbar htold]
        simp [dropOptu, optuFlags, landFlags]
    · exact Prod.ext rfl BitVec.zero_or.symm
    · -- the exact operations
      intro a b m k e g
      exact ⟨rfl, fpAdd_exact 0 a b m k e g, fun _ hk => fpDiv_exact a b m e g hk, fun hm hk => by rw [hm, hk]; rfl,
        fun hm hk => by simp [fpDiv, hm, hk], fun hm => fpSqrt_exact e hm, fun hm => by simp [fpSqrt, hm], rfl⟩
    · refine fun hnone => ⟨?_, ?_⟩
      · change exec _ s = _
        rw [exec_optuBlock hpow hr, optuBlock_none hnone]
      · change exec _ s = _
        rw [exec_completeOptu hpow, completeOptu_none hnone]
    · intro hnone
      change exec _ s = _
      rw [exec_pstwLand hpow, pstwLand_none hnone]
    · -- the oldest pair of PSTW (R213)
      intro j l hj hlive hboard hpubds hpa hta away side
      have hstart : startedAt (s.core p) j.issue = true := (startedAt_iff ..).mpr ⟨hboard, hpubds⟩
      refine ⟨fun hshut => ?_, fun hp ht hapart => ?_⟩
      · rw [exec_pstwLand hpow, pstwLand_refused hj hlive hstart hshut]
      · obtain ⟨hmem, hcore⟩ := pstwLand_lands hj hlive hstart (not_not.mpr hp) (not_not.mpr ht) hpa hta
        obtain ⟨hx, hy, hrest⟩ := Memory.write_two_rows s.mem j.x (transposeRow j.x) hapart
        rw [← hmem] at hx hy hrest
        refine ⟨_, transposeRow j.x, exec_pstwLand hpow, ?_, hx, hy, fun k m hk hm => extractLsb'_transposeRow j.x hk hm, hrest, ?_, ?_⟩
        all_goals rw [drawn_core, hcore]

end Sys2Proof.Machine
end

section
/-!
PROOF. The obligation on packets of other devices (O52; R86, R202, R312, R320): what it says of an add of an engine operation that leaves
its word as it is, and a word that the front of a published buffer cuts in two, of which that is false.
-/

namespace Sys2Proof.Machine

/-! ### A packet that is performed (R221, R320) -/

/-- A request of another device that nothing keeps from taking its effect as it arrives. -/
structure ActsAtOnce (s : State) (k : Packet) : Prop where
  request  : k.kind ≠ .resync ∧ k.kind ≠ .ended ∧ isAnswer k.kind = false
  first    : s.waiting.any (fun j => sameStream j k) = false
  accepted : notAccepted s k = none
  allowed  : requestRefused (s.ctx k.dst) k = none
  open_    : flowRefuses s k = false
  home     : packetWaits s k = false

theorem ActsAtOnce.exec_eq {s : State} {k : Packet} (h : ActsAtOnce s k) (hpow : s.powered = true) :
    exec (.remotePacketReceive k) s = .next (drawn s (performPacket k s)) := by
  obtain ⟨⟨hresync, hended, hanswer⟩, hfirst, haccepted, hallowed, hopen, hhome⟩ := h
  rw [exec_happens (e := fun _ => true) (f := receivePacket k) rfl hpow rfl]
  simp [receivePacket, hresync, hended, hanswer, meetPacket, hfirst, haccepted, hallowed, hopen, acceptPacket, hhome]

/-- An add of the kind that leaves its word as it is writes nothing. -/
theorem performPacket_engineAdd_ld {s : State} {k : Packet} {u : W64} (h : k.kind = .engineAdd .ld u) :
    (performPacket k s).mem = s.mem := by
  rw [performPacket, h]
  dsimp only
  rw [reply, answerAs, h, atomAct, if_pos rfl]
  exact (onlyCaches_atomLine ..).mem_eq.trans (touchKey_mem ..)

/-- The obligation says that the eight bytes from the key of the address of such an add on are the word that the context names there. -/
theorem ActsAtOnce.word_of_claim {s : State} {k : Packet} {u : W64} (hclaim : Obligations.RemotePackets) (hpow : s.powered = true)
    (h : ActsAtOnce s k) (hk : k.kind = .engineAdd .ld u) (hdst : k.dst < 64) (hstate : (s.ctx k.dst).state = 1)
    (hbound : let b := Tab.get (0 : BitVec 16) (s.ctx k.dst).binding k.dev
      b.getLsbD 15 = true ∧ (b.setWidth 6).toNat = k.ctx)
    (hlive : mapRefuses (s.ctx k.dst) k.va .live = none) :
    s.mem.read (keyOf s k.dst (k.va / 8 * 8)) 8 = (memWord s k.dst k.va).toNat := by
  unfold Obligations.RemotePackets at hclaim
  obtain ⟨-, -, -, -, -, -, -, -, -, hadd, -⟩ := hclaim s k hpow
  obtain ⟨t, ht, -, hword, -⟩ := hadd .ld u ⟨⟨h.request, h.first⟩, hdst, by rw [hstate]; decide, by rw [hstate]; decide,
    by rw [hstate]; decide, hbound⟩ hk hlive h.home
  rw [h.exec_eq hpow] at ht
  cases ht
  rw [drawn_mem, performPacket_engineAdd_ld hk] at hword
  exact hword

/-! ### A buffer that begins inside the word of an add (R86, R311) -/

/-- The state of `cutState`, its context bound to context 2 of device 3. -/
def cutBound : State := cutState.onCtx 0 (fun x => { x with binding := [(3, 0x8002)] })

/-- An add from there to the word at 1_0000h, of the kind that leaves the word as it is. -/
def idleAdd : Packet :=
  { dev := 3, ctx := 2, dst := 0, core := 1, chan := 0, rc := 0, ver := 0, va := 0x10000, kind := .engineAdd .ld 0 }

theorem idleAdd_actsAtOnce : ActsAtOnce cutBound idleAdd := by
  constructor <;> decide +kernel

/-- The upper half of the word is in the front of the buffer, which is at 1_1000h; the eight bytes from the key of its address on are
another word. -/
theorem cutBound_word :
    mapRefuses (cutBound.ctx 0) 0x10000 .live = none ∧ memWord cutBound 0 0x10000 = 0 ∧
      cutBound.mem.read (keyOf cutBound 0 0x10000) 8 = 2 ^ 32 := by
  decide +kernel

/-- Refutes O52, in its clause on the adds of engine operations: it is said of every kind of atomic, also of the one that leaves its word
as it is, and takes the eight bytes from the key of the word's address on for the word that the context names there. R86 lets a published
buffer begin at any byte, and where it begins inside the word, the halves lie apart: `idleAdd` writes nothing and leaves those eight bytes
at 2^32, where the word is 0. -/
theorem not_remotePackets : ¬ Obligations.RemotePackets := by
  intro hclaim
  obtain ⟨hlive, hword, hbytes⟩ := cutBound_word
  have hread := idleAdd_actsAtOnce.word_of_claim hclaim rfl rfl (by decide) (by decide +kernel) (by decide +kernel) hlive
  rw [show idleAdd.va = 0x10000 from rfl, show idleAdd.dst = 0 from rfl, hword, hbytes] at hread
  exact absurd hread (by decide)

end Sys2Proof.Machine
end
